-- ==== Sys2Proof/Word.lean ====
section
/-! DEFINITION. The word types of the GN1024 and their plainest arithmetic: what the manual treats as bits. -/

namespace Sys2Proof

/-- A control register (R5): 32 bits. -/
abbrev Word := BitVec 32

/-- One byte of a memory or of a stream of bytes. -/
abbrev Byte := BitVec 8

/-- A 64-bit register pair, granule or argument pointer. -/
abbrev DWord := BitVec 64

/-- An engine data word, a network inline word (R98, R199). -/
abbrev Quad := BitVec 128

/-- An accumulator (R98): 256 bits. -/
abbrev Acc256 := BitVec 256

/-- A requester ID (R15). -/
abbrev Req := BitVec 16

/-- A physical address (R12). -/
abbrev Addr := BitVec 48

/-- A byte offset within the control region (R13): 32 MiB. -/
abbrev COff := BitVec 25

/-- The unsigned number held in bits `[hi:lo]`. -/
def bitsOf {w : Nat} (x : BitVec w) (hi lo : Nat) : Nat := x.toNat / 2 ^ lo % 2 ^ (hi + 1 - lo)

/-- The word with bits `[hi:lo]` replaced by the low bits of `n`. -/
def withBits {w : Nat} (x : BitVec w) (hi lo n : Nat) : BitVec w :=
  BitVec.ofNat w (x.toNat / 2 ^ (hi + 1) * 2 ^ (hi + 1) + n % 2 ^ (hi + 1 - lo) * 2 ^ lo + x.toNat % 2 ^ lo)

/-- The integer that the low `w` bits of `n` hold in two's complement. -/
def toSigned (w n : Nat) : Int :=
  if n % 2 ^ w < 2 ^ (w - 1) then (n % 2 ^ w : Nat) else (n % 2 ^ w : Nat) - (2 ^ w : Nat)

/-- A count that stops at its top. -/
def satAdd (top a b : Nat) : Nat := if a + b ≤ top then a + b else top

/-- The bytes of a number, least significant first. -/
def bytesLE : Nat → Nat → List Byte
  | 0, _ => []
  | n + 1, x => BitVec.ofNat 8 x :: bytesLE n (x / 256)

/-- The number a list of bytes holds, least significant first. -/
def ofBytesLE : List Byte → Nat
  | [] => 0
  | b :: l => b.toNat + 256 * ofBytesLE l

/-- The number a list of bytes holds, most significant first. -/
def ofBytesBE (l : List Byte) : Nat := l.foldl (fun a b => a * 256 + b.toNat) 0

end Sys2Proof
end

