-- ==== Sys2Proof/Syntax.lean ====
section
/-! DEFINITION. The commands of the GN1024: one constructor per row of the opcode table, with the operands the rule of its row
gives it. A command that is a register write carries the requester and the whole word written. -/

namespace Sys2Proof

/-! ## Names of units -/

/-- Tile T0 to T3. -/
abbrev Tile := Fin 4
/-- Converter die X0 to X3. -/
abbrev Conv := Fin 4
/-- DRAM channel M0 to M7. -/
abbrev Chan := Fin 8
/-- Serial lane SL00 to SL47. -/
abbrev Lane := Fin 48
/-- A lane in training: SL00 to SL47, then the upstream (48 to 51) and the downstream (52 to 55) lanes of the chain port (R292). -/
abbrev SLane := Fin 56
/-- Cluster, instance 16t + c. -/
abbrev Clu := Fin 64
/-- Polder, instance 8t + p. -/
abbrev Pld := Fin 32
/-- Physical engine P0000 to P1087. -/
abbrev Eng := Fin 1088
/-- Logical engine L0000 to L1023. -/
abbrev LEng := Fin 1024
/-- Task context. -/
abbrev Ctx := Fin 16384
/-- Die-link module (R293). -/
abbrev LMod := Fin 28
/-- Stream channel 64t + j. -/
abbrev Strm := Fin 256
/-- Reduction group. -/
abbrev Grp := Fin 512
/-- Mailbox MB00 to MB63. -/
abbrev Mbx := Fin 64
/-- Router: 20t + n on tile t, 80 + k on the hub (R195, R197). -/
abbrev Router := Fin 88
/-- Scheduler enqueue input (R168). -/
abbrev EnqIn := Fin 17
/-- Completion queue. -/
abbrev CQ := Fin 16
/-- Protected range (R349). -/
abbrev Rng := Fin 8

/-- A power-switched unit (R34). -/
inductive PUnit where
  | tile (t : Tile)
  | conv (n : Conv)
  | dram (k : Chan)
  | lane (l : Lane)
  | clu (c : Clu)
  | pld (p : Pld)
  | eng (e : Eng)
  deriving DecidableEq, Repr

/-- A brown-out monitor (R43). -/
inductive BorMon where
  | g1
  | g2core
  | flashIo
  | tile (t : Tile)
  deriving DecidableEq, Repr

/-- A wake source of deep-night mode (R42) other than a write. -/
inductive WakeSrc where
  | alarm
  | pin
  | mailbox (n : Fin 8)
  deriving DecidableEq, Repr

/-- A rail group with monitors (R28). -/
inductive RailGroup where
  | g1
  | g2
  | g3
  | g4
  deriving DecidableEq, Repr

/-- A leaky bucket (R340). -/
inductive Bucket where
  | eng (e : Eng)
  | sched
  | dram (k : Chan)
  | tileSram (t : Tile)
  | blockRam (t : Tile)
  | hub
  deriving DecidableEq, Repr

/-- A destination port that checks the epoch (R147). -/
inductive EpochPort where
  | sched
  | engMem
  | reduction
  | dram (k : Chan)
  | fabric
  | stream
  | control
  deriving DecidableEq, Repr

/-- A die that keeps a replica of the time (R232). -/
inductive TimeDie where
  | tile (t : Tile)
  | conv (n : Conv)
  deriving DecidableEq, Repr

/-- A die with a power controller and a thermal limit (R382): T0 to T3, hub, X0 to X3. -/
abbrev PDie := Fin 9

/-- A debug target (R406). -/
inductive DbgTarget where
  | eng (e : Eng)
  | mgmt
  deriving DecidableEq, Repr

/-- A direction of a die-link module. -/
inductive Dir where
  | aToB
  | bToA
  deriving DecidableEq, Repr

/-- A side of a mailbox (R363). -/
inductive Side where
  | a
  | b
  deriving DecidableEq, Repr

/-- What a CRC error or a sequence gap was (R302). -/
inductive ReplayCause where
  | crc
  | gap
  deriving DecidableEq, Repr

/-- Why a lane leaves TRAINING for BACKOFF (R277). -/
inductive TrainFail where
  | timeout
  | signalLost
  deriving DecidableEq, Repr

/-- How a PMBus or I²C transaction ends on its own (R395). -/
inductive PmbEnd where
  | done
  | addrNack
  | dataNack
  | pecError
  | arbLost
  deriving DecidableEq, Repr

/-- Which scheduler control copy fails its own parity check (R192). -/
inductive CopyFault where
  | activeFails
  | shadowFails
  | bothPass
  deriving DecidableEq, Repr

/-! ## Operand records -/

/-- The predicate fields of a slot (R111). -/
structure Pred where
  pneg : Bool
  pred : BitVec 3
  deriving DecidableEq, Repr

/-- The operand fields of a control slot (R111); RB is IMM18[17:13]. -/
structure CArgs where
  rd : BitVec 5
  ra : BitVec 5
  imm : BitVec 18
  deriving DecidableEq, Repr

/-- The operand fields of a vector slot (R111). -/
structure VArgs where
  d : BitVec 5
  a : BitVec 5
  b : BitVec 5
  c : BitVec 5
  fmt : BitVec 4
  imm : BitVec 8
  deriving DecidableEq, Repr

/-- The operand fields of a load-store slot (R111); `lo` is the field that must be 0. -/
structure LArgs where
  dr : BitVec 5
  sb : BitVec 5
  am : BitVec 2
  off : BitVec 14
  pd : BitVec 3
  lo : BitVec 7
  deriving DecidableEq, Repr

/-- A request packet: RD, WR or RCON (R199, R200). `typ` is the TYPE its head flit carries, and `zeroBit` header bit [57], which must be 0.
`body` is empty when LEN = 0. DEST is what the network interface forms from the address (R203). -/
structure Pkt where
  typ : BitVec 4
  src : Req
  tag : BitVec 8
  epoch : BitVec 8
  lid : BitVec 10
  addr : BitVec 44
  be : BitVec 16
  len : BitVec 4
  poison : Bool
  zeroBit : Bool
  inl : Quad
  body : List Byte
  deriving DecidableEq, Repr

/-- A response packet RDRSP or WRACK (R199, R200, R202), with the TYPE, the LEN and the bit [57] of its head flit. -/
structure Rsp where
  typ : BitVec 4
  len : BitVec 4
  zeroBit : Bool
  dst : Req
  tag : BitVec 8
  status : BitVec 16
  poison : Bool
  data : List Byte
  deriving DecidableEq, Repr

/-- A host transaction-layer packet through a BAR window (R17). Each element of `data` is one dword with its byte enables. -/
inductive Bar where
  | config
  | control
  | memory
  deriving DecidableEq, Repr

structure Tlp where
  /-- 0 = the physical function, k + 1 = VF k. -/
  fn : Fin 17
  bar : Bar
  off : BitVec 36
  write : Bool
  tag : BitVec 8
  /-- dwords asked for by a read -/
  dwords : Nat
  data : List (BitVec 4 × Word)
  ep : Bool
  deriving DecidableEq, Repr

/-- A chain-port packet of section bytes (R65). -/
structure ChainPkt where
  seq : BitVec 16
  sos : Bool
  eos : Bool
  data : List Byte
  crc : Word
  deriving DecidableEq, Repr

/-- The outcome of one training state of a die-link module (R296 to R299). -/
structure LinkReport where
  /-- lanes of 68 that pass, as received by side A (direction B to A) -/
  passA : BitVec 68
  /-- lanes of 68 that pass, as received by side B (direction A to B) -/
  passB : BitVec 68
  /-- side B's capabilities, as LNK_PARTNER lays them out -/
  partner : Word
  deriving DecidableEq, Repr

/-- A received frame with what the lane hardware observed of it (R283, R284). -/
structure RxFrame where
  /-- bytes from the destination address to the FCS, included -/
  bytes : List Byte
  pcsError : Bool
  /-- uncompensated crossing time of the first bit after the start-of-frame delimiter: seconds, ns, fraction -/
  sec : BitVec 48
  ns : Word
  frac : BitVec 16
  deriving DecidableEq, Repr

/-- The fields of a management ROM check that a boot attempt meets are computed from flash; nothing is observed. -/
inductive DbgAck where
  | ok
  | wait
  | err
  deriving DecidableEq, Repr

/-- A GNSS time-of-day sentence (R236): the characters received, whether a framing error occurred. -/
structure TodSentence where
  chars : List Byte
  framingError : Bool
  deriving DecidableEq, Repr

/-! ## The commands -/

inductive Instr where
  -- chapters 00 to 02
  | registerWrite (req : Req) (off : COff) (val : Word)
  | pairLowRead (req : Req) (off : COff)
  | pairHighRead (req : Req) (off : COff)
  | pairLowWrite (req : Req) (off : COff) (val : Word)
  | pairHighWrite (req : Req) (off : COff) (val : Word)
  | unitPwrWrite (req : Req) (u : PUnit) (val : Word)
  | unitStopDone (u : PUnit)
  | unitOffMinExpiry (u : PUnit)
  | unitStartDone (u : PUnit)
  | hostTlp (t : Tlp)
  | rspTmo (tag : BitVec 8)
  | pcieConfigRequest (tag : BitVec 8)
  | l1Entry
  | l1Exit
  | porNAssert
  | porNRelease
  | porInternalRelease
  | strapSample (mode : BitVec 3) (dbgEn : Bool)
  | hubOn
  | perstNFall
  | perstNRelease
  | functionLevelReset (fn : Fin 17)
  | warmReset (req : Req) (val : Word)
  | softReset (req : Req) (val : Word)
  | tileReset (req : Req) (val : Word)
  | engineReset (req : Req) (val : Word)
  | polderReset (req : Req) (val : Word)
  | linkModuleReset (req : Req) (val : Word)
  | unitResetDone
  | nightEnter (req : Req) (val : Word)
  | nightDrainExpiry
  | nightEntryDone
  | nightExit (req : Req) (val : Word)
  | wakeSource (w : WakeSrc)
  | nightExitDone
  | borWarning (m : BorMon)
  | borTrip (m : BorMon)
  | borWarnClear (m : BorMon)
  -- chapter 03
  | intakeData (data : List (BitVec 4 × Word))
  | sectionHeader
  | imageBlock
  | cmdNop
  | far
  | wfr
  | sfr
  | zfr
  | mfw
  | pdecl
  | imgEnd
  | frameWritten (t : Tile)
  | intakeTmo
  | cfgRelease
  | wipeDone
  | clear (req : Req) (val : Word)
  | abort (req : Req) (val : Word)
  | chainPacket (p : ChainPkt)
  | chainAck (seq : BitVec 16)
  | chainAckTmo
  | chainAbortPacket
  | chainStatusPacket (code : BitVec 12) (pos : Nat)
  | chainPortTmo
  -- chapter 04
  | completionCheckDone (p : Pld)
  | polderRunStart (p : Pld)
  | polderWipeDone (p : Pld)
  | run (req : Req) (p : Pld) (val : Word)
  | hold (req : Req) (p : Pld) (val : Word)
  | scrubFrameCheck (t : Tile)
  -- chapter 05: engine clock and instructions
  | engclkWrite (req : Req) (t : Tile) (val : Word)
  | engclkLock (t : Tile)
  | nop (e : Eng) (q : Pred) (x : CArgs)
  | add (e : Eng) (q : Pred) (x : CArgs)
  | sub (e : Eng) (q : Pred) (x : CArgs)
  | and (e : Eng) (q : Pred) (x : CArgs)
  | or (e : Eng) (q : Pred) (x : CArgs)
  | xor (e : Eng) (q : Pred) (x : CArgs)
  | shl (e : Eng) (q : Pred) (x : CArgs)
  | shr (e : Eng) (q : Pred) (x : CArgs)
  | sra (e : Eng) (q : Pred) (x : CArgs)
  | mul (e : Eng) (q : Pred) (x : CArgs)
  | min (e : Eng) (q : Pred) (x : CArgs)
  | max (e : Eng) (q : Pred) (x : CArgs)
  | addi (e : Eng) (q : Pred) (x : CArgs)
  | andi (e : Eng) (q : Pred) (x : CArgs)
  | ori (e : Eng) (q : Pred) (x : CArgs)
  | xori (e : Eng) (q : Pred) (x : CArgs)
  | shli (e : Eng) (q : Pred) (x : CArgs)
  | shri (e : Eng) (q : Pred) (x : CArgs)
  | srai (e : Eng) (q : Pred) (x : CArgs)
  | lui (e : Eng) (q : Pred) (x : CArgs)
  | cmpeq (e : Eng) (q : Pred) (x : CArgs)
  | cmpne (e : Eng) (q : Pred) (x : CArgs)
  | cmplt (e : Eng) (q : Pred) (x : CArgs)
  | cmpltu (e : Eng) (q : Pred) (x : CArgs)
  | cmpge (e : Eng) (q : Pred) (x : CArgs)
  | cmpgeu (e : Eng) (q : Pred) (x : CArgs)
  | cmpeqi (e : Eng) (q : Pred) (x : CArgs)
  | cmplti (e : Eng) (q : Pred) (x : CArgs)
  | pand (e : Eng) (q : Pred) (x : CArgs)
  | por (e : Eng) (q : Pred) (x : CArgs)
  | pxor (e : Eng) (q : Pred) (x : CArgs)
  | pnot (e : Eng) (q : Pred) (x : CArgs)
  | pset (e : Eng) (q : Pred) (x : CArgs)
  | pget (e : Eng) (q : Pred) (x : CArgs)
  | br (e : Eng) (q : Pred) (x : CArgs)
  | jmp (e : Eng) (q : Pred) (x : CArgs)
  | call (e : Eng) (q : Pred) (x : CArgs)
  | ret (e : Eng) (q : Pred) (x : CArgs)
  | loop (e : Eng) (q : Pred) (x : CArgs)
  | done (e : Eng) (q : Pred) (x : CArgs)
  | doneComplete (e : Eng)
  | enq (e : Eng) (q : Pred) (x : CArgs)
  | evpost (e : Eng) (q : Pred) (x : CArgs)
  | trap (e : Eng) (q : Pred) (x : CArgs)
  | fence (e : Eng) (q : Pred) (x : CArgs)
  | brk (e : Eng) (q : Pred) (x : CArgs)
  | mfsr (e : Eng) (q : Pred) (x : CArgs)
  | mtsr (e : Eng) (q : Pred) (x : CArgs)
  | vnop (e : Eng) (q : Pred) (x : VArgs)
  | vadd (e : Eng) (q : Pred) (x : VArgs)
  | vsub (e : Eng) (q : Pred) (x : VArgs)
  | vneg (e : Eng) (q : Pred) (x : VArgs)
  | vconj (e : Eng) (q : Pred) (x : VArgs)
  | vmov (e : Eng) (q : Pred) (x : VArgs)
  | vsel (e : Eng) (q : Pred) (x : VArgs)
  | vand (e : Eng) (q : Pred) (x : VArgs)
  | vor (e : Eng) (q : Pred) (x : VArgs)
  | vxor (e : Eng) (q : Pred) (x : VArgs)
  | vsplat (e : Eng) (q : Pred) (x : VArgs)
  | vbcast (e : Eng) (q : Pred) (x : VArgs)
  | vperm (e : Eng) (q : Pred) (x : VArgs)
  | vins (e : Eng) (q : Pred) (x : VArgs)
  | vext (e : Eng) (q : Pred) (x : VArgs)
  | vcmpeq (e : Eng) (q : Pred) (x : VArgs)
  | vcmpgt (e : Eng) (q : Pred) (x : VArgs)
  | vshr (e : Eng) (q : Pred) (x : VArgs)
  | vshl (e : Eng) (q : Pred) (x : VArgs)
  | vcmul (e : Eng) (q : Pred) (x : VArgs)
  | vcmac (e : Eng) (q : Pred) (x : VArgs)
  | vcmulb (e : Eng) (q : Pred) (x : VArgs)
  | vcmacb (e : Eng) (q : Pred) (x : VArgs)
  | vcmacj (e : Eng) (q : Pred) (x : VArgs)
  | vmac (e : Eng) (q : Pred) (x : VArgs)
  | vmul (e : Eng) (q : Pred) (x : VArgs)
  | vpwr (e : Eng) (q : Pred) (x : VArgs)
  | vcmulv (e : Eng) (q : Pred) (x : VArgs)
  | vcmacv (e : Eng) (q : Pred) (x : VArgs)
  | vbfly (e : Eng) (q : Pred) (x : VArgs)
  | azero (e : Eng) (q : Pred) (x : VArgs)
  | arnd (e : Eng) (q : Pred) (x : VArgs)
  | aget (e : Eng) (q : Pred) (x : VArgs)
  | aput (e : Eng) (q : Pred) (x : VArgs)
  | aadd (e : Eng) (q : Pred) (x : VArgs)
  | vcvt (e : Eng) (q : Pred) (x : VArgs)
  | vunpk (e : Eng) (q : Pred) (x : VArgs)
  | vpack (e : Eng) (q : Pred) (x : VArgs)
  | vsete (e : Eng) (q : Pred) (x : VArgs)
  | vtag (e : Eng) (q : Pred) (x : VArgs)
  | vgete (e : Eng) (q : Pred) (x : VArgs)
  | lsNop (e : Eng) (q : Pred) (x : LArgs)
  | ldv (e : Eng) (q : Pred) (x : LArgs)
  | stv (e : Eng) (q : Pred) (x : LArgs)
  | lds (e : Eng) (q : Pred) (x : LArgs)
  | sts (e : Eng) (q : Pred) (x : LArgs)
  | ldr (e : Eng) (q : Pred) (x : LArgs)
  | stc (e : Eng) (q : Pred) (x : LArgs)
  | getw (e : Eng) (q : Pred) (x : LArgs)
  | putw (e : Eng) (q : Pred) (x : LArgs)
  | getb (e : Eng) (q : Pred) (x : LArgs)
  | putb (e : Eng) (q : Pred) (x : LArgs)
  | rsend (e : Eng) (q : Pred) (x : LArgs)
  | remoteAccessTmo (e : Eng) (tag : BitVec 8)
  -- chapter 06
  | bucketLeak (b : Bucket)
  | bankSwap (e : Eng)
  | regfileParityError (e : Eng)
  | wdogReportTmo (e : Eng)
  | islandNoAnswer (e : Eng)
  | migrationCopyDone (l : LEng)
  | copySourceTmo (l : LEng)
  | oldEpochReport (l : LEng)
  | engineAdmission (l : LEng)
  | isolate (req : Req) (e : Eng) (val : Word)
  | release (req : Req) (e : Eng) (val : Word)
  | stestStart (req : Req) (e : Eng) (val : Word)
  | stestDone (e : Eng) (failUnit : Fin 5)
  | engineWdogExpiry (e : Eng)
  -- chapter 07
  | schInitDone
  | descriptor (i : EnqIn) (req : Req) (epoch : BitVec 8) (lid : BitVec 10) (words : List Word)
  | templateRequest (i : EnqIn) (req : Req) (words : List Word)
  | heldDescriptorAccept
  | enqTmo (i : EnqIn)
  | portalGo (req : Req) (p : Fin 4) (val : Word)
  | portalAbort (req : Req) (p : Fin 4) (val : Word)
  | eventPost (x : Ctx) (f : Fin 32)
  | schEvpost (req : Req) (val : Word)
  | delayRelease
  | dispatch (t : Tile)
  | schCancel (req : Req) (val : Word)
  | qclr (req : Req) (val : Word)
  | taskEnd (x : Ctx)
  | completionRecordWrite (q : CQ)
  | schCqctlWrite (req : Req) (q : CQ) (val : Word)
  | deadlineSweep
  | pairTimeout (x : Ctx)
  | controlMismatch (f : CopyFault)
  | shadowRejoin
  -- chapter 08
  | rd (p : Pkt)
  | wr (p : Pkt)
  | rdrsp (r : Rsp)
  | wrack (r : Rsp)
  | rcon (p : Pkt)
  | rwide (i : Nat)
  | epoch (p : EpochPort) (l : LEng)
  | moduleLeavesService (m : LMod)
  | pairReroute (src dst : Req)
  /-- the time of the first baseband sample; the converter samples that make it, and those of each sample after it -/
  | streamSamples (c : Strm) (sec : BitVec 48) (ns : Word) (frac : BitVec 16) (first : List Int) (rest : List (List Int))
  | rxBlockLand (c : Strm)
  | strtxpost (req : Req) (epoch : BitVec 8) (lid : BitVec 10) (c : Strm) (whole : Bool) (data : Quad)
  | txBlockFetch (c : Strm)
  | txFetchLate (c : Strm)
  /-- `clips`: saturations of the DAC sum of the channel that no record has counted -/
  | txBlockEmit (c : Strm) (sums : List Int)
  | strcfgEnable (req : Req) (c : Strm) (val : Word)
  | strcfgDisable (req : Req) (c : Strm) (val : Word)
  | streamResume (c : Strm)
  | redcfgEnable (req : Req) (g : Grp) (val : Word)
  | groupReady (g : Grp)
  | redcfgDisable (req : Req) (g : Grp) (val : Word)
  | redEntryHoldExpiry (r : Router) (i : Nat)
  | redSlotTimeout (g : Grp) (word : Fin 2048) (parity : Fin 2)
  -- chapter 09
  | timePulse (d : TimeDie)
  | timNownsRead (req : Req)
  | ppsInEdge (ns : Word) (frac : BitVec 16)
  | todSentence (x : TodSentence)
  | ptpMeasurement (req : Req) (i : Fin 2) (val : Word)
  | esmcPdu (i : Fin 2) (ql : BitVec 4)
  | sourceTimeout (i : Fin 6) (reason : Fin 8)
  | sourceQualified (i : Fin 6)
  | ocxoFail
  | ocxoRecover
  | lockAchieved
  | lockLost
  | holdoverExpiry
  | holdoverUpdate (freq : Int)
  /-- the lattice second of the sample: its low word and its high bits, as TIM_HOORG holds them -/
  | learnSample (secl : Word) (sech : BitVec 16)
  | timeStep
  | timSetgo (req : Req) (val : Word)
  | rearm (req : Req) (val : Word)
  | forceho (req : Req) (val : Word)
  | symcfgEnable (req : Req) (val : Word)
  | slotTick
  | symTick
  | usecTick
  | userTick
  | ppsOutPulse
  | ppsOutEnd
  | rtcSet (req : Req) (val : Word)
  | rtcAlign
  | rtcTrimMeasure (counts : Int)
  | rtcSubRead (req : Req)
  | alarmMatch
  | rtcOscStop
  | commit (req : Req) (val : Word)
  | zero (req : Req) (val : Word)
  | keyWordExpiry (i : Fin 8)
  | modelBackup
  -- chapter 10
  | identityRecord (n : Conv) (record : Word)
  | discoveryAttemptTmo (n : Conv)
  | converterLost (n : Conv)
  | calibrationDone (n : Conv) (pass : Word)
  | cnvCalctlRun (req : Req) (n : Conv) (val : Word)
  | backgroundCal (n : Conv) (tx : Bool) (c : Fin 16) (pass : Bool)
  | channelFault (n : Conv) (tx : Bool) (c : Fin 16)
  -- chapter 11
  | cdrLock (l : SLane)
  | blockLock (l : SLane) (fom : BitVec 8)
  | trainingTmo (l : SLane) (cause : TrainFail)
  | backoffExpiry (l : SLane)
  | signalLost (l : SLane)
  | blockLockLost (l : SLane)
  | fomLow (l : SLane) (fom : BitVec 8)
  | portEnable (req : Req) (l : Lane) (val : Word)
  | portDisable (req : Req) (l : Lane) (val : Word)
  | rxFrame (l : Lane) (f : RxFrame)
  | clsSlotLanded (t : Tile)
  | pauseFrame (l : Lane) (paused : BitVec 8)
  | serTxpost (req : Req) (l : Lane) (whole : Bool) (data : Quad)
  /-- the time at which the first bit after the start-of-frame delimiter crosses the ball -/
  | txFrameSend (l : Lane) (sec : BitVec 48) (ns : Word) (frac : BitVec 16)
  | serTxtsRead (req : Req) (l : Lane)
  | chainSideDown (downstream : Bool)
  | chctlWrite (req : Req) (val : Word)
  -- chapter 12
  | trainingStateDone (m : LMod) (r : LinkReport)
  | trainingStateTmo (m : LMod)
  | widthCheckReport (m : LMod) (passA passB : Bool)
  | widthCheckTmo (m : LMod)
  | replayRequest (m : LMod) (d : Dir) (c : ReplayCause)
  | flitAck (m : LMod) (d : Dir) (n : Nat)
  | laneFlagged (m : LMod) (d : Dir) (lane : Fin 68)
  | narrowDone (m : LMod)
  | partnerSilent (m : LMod)
  | lnkOos (req : Req) (m : LMod) (val : Word)
  | lnkRetrain (req : Req) (m : LMod) (val : Word)
  | delayMeasured (m : LMod) (ps : BitVec 24)
  -- chapter 13
  | trainingStepDone (k : Chan) (pass : Bool)
  | trainingStepTmo (k : Chan)
  | mr4Poll (k : Chan) (code : BitVec 5) (elevated : Bool)
  | dqsOscCheck (k : Chan) (drift : Int)
  | dramCommandIssue (k : Chan)
  | dramReadData (k : Chan) (flips : List (BitVec 64 × BitVec 16))
  | refreshDue (k : Chan) (rank : Fin 2)
  | hammerWindowEnd (k : Chan)
  | regulatorRelease (k : Chan) (j : Fin 16)
  | selfRefreshIdle (k : Chan)
  | selfRefreshExit (k : Chan)
  | revalidationDone (k : Chan) (drifted : Bool) (pass : Bool)
  | alertN (k : Chan)
  | patrolScrubRead (k : Chan) (flips : List (BitVec 64 × BitVec 16))
  -- chapter 14
  | rngReady
  | rngHealthFail
  | iceRngRead (req : Req)
  | prEnable (req : Req) (r : Rng) (val : Word)
  | prInitDone (r : Rng)
  | prDisable (req : Req) (r : Rng) (val : Word)
  | rotate (req : Req) (r : Rng) (val : Word)
  | rotationDone (r : Rng)
  | reencryptDone (r : Rng) (page : Nat)
  | counterBlockFetch (r : Rng) (level : Fin 6) (n : Nat)
  -- chapter 15
  | mbxTxd (req : Req) (n : Mbx) (s : Side) (val : Word)
  | mbxRxd (req : Req) (n : Mbx) (s : Side)
  | mbxDbset (req : Req) (n : Mbx) (s : Side) (val : Word)
  | mbxDbmask (req : Req) (n : Mbx) (s : Side) (val : Word)
  | crossing (n : Mbx)
  -- chapter 16
  | lockstepMismatch
  | mgmWdkick (req : Req) (val : Word)
  | mgmWdogExpiry
  | sensorConversion (i : Fin 44) (t : Int)
  | sensorFail (i : Fin 44)
  | railMonitorRead (current : Bool) (i : Fin 24) (v : BitVec 16)
  | powerReport (d : PDie) (avg peak : BitVec 12)
  | powerReportTmo (d : PDie)
  | budgetReallot
  | budgetMessage (d : PDie)
  | budgetMessageTmo (d : PDie)
  | lpcAverage (d : PDie) (p : BitVec 12)
  | errorRecord (src : Req)
  | logRecordProgram
  | logScan
  | flashRead (req : Req) (val : Word)
  | pageProgram (req : Req) (val : Word)
  | erase4KiB (req : Req) (val : Word)
  | erase64KiB (req : Req) (val : Word)
  | readSfdp (req : Req) (val : Word)
  | readStatus (req : Req) (val : Word)
  | flashOpDone (data : List Byte) (deviceError : Bool)
  | flashTmo
  | romBoot
  | runrec (req : Req) (val : Word)
  | fuseBlow (req : Req) (val : Word)
  | pmbWrite (req : Req) (val : Word)
  | pmbRead (req : Req) (val : Word)
  | blockRead (req : Req) (val : Word)
  | sendByte (req : Req) (val : Word)
  | pmbDone (how : PmbEnd) (data : List Byte)
  | pmbTmo
  | pmbAlertN
  -- chapter 17
  | debugTransaction (header : BitVec 8) (data : Word) (parity : Bool)
  | lineReset
  | dbgCkTmo
  | attach (req : Req) (val : Word)
  | dbgRead (req : Req) (ch : Fin 2) (val : Word)
  | dbgWrite (req : Req) (ch : Fin 2) (val : Word)
  | engineRegisterRead (req : Req) (ch : Fin 2) (val : Word)
  | engineRegisterWrite (req : Req) (ch : Fin 2) (val : Word)
  | managementRegisterRead (req : Req) (ch : Fin 2) (val : Word)
  | managementRegisterWrite (req : Req) (ch : Fin 2) (val : Word)
  | accessTmo (ch : Fin 2)
  | haltreq (req : Req) (g : DbgTarget) (val : Word)
  | engineHalt (g : DbgTarget)
  | resume (req : Req) (g : DbgTarget) (val : Word)
  | step (req : Req) (g : DbgTarget) (val : Word)
  | dbgTrigset (req : Req) (val : Word)
  | fabricTriggerIn (t : Tile) (i : Fin 8)
  | dbgGresume (req : Req) (val : Word)
  -- events of the surroundings
  | railGood (g : RailGroup)
  | powerLoss
  | crystalStart
  | pcieLinkDown
  | pcieLinkUp
  | alertNRelease (k : Chan)
  | synceOffsetOutOfRange (i : Fin 2)
  | mgmBreakpoint
  | flRstNRelease
  deriving DecidableEq, Repr

end Sys2Proof
end

