-- ==== Sys2Proof/Decode.lean ====
section
/-! DEFINITION. The command a word spells by the bits of the opcode table, and the head flit of a packet (R199, R200). The table gives no
row bits: the commands of this block are accesses and events, not words (the bundles of the engines are decoded in
Machine/Operands.lean). -/

namespace Sys2Proof

/-- No row of the table has bits, so no word spells a command. -/
def decodeTableWord (_nbits _w : Nat) : Option Instr := none

/-! ## Flits (R199, R200) -/

/-- The head flit of a packet: the header in bits 127 to 0, most significant field first, under the inline data. -/
def headFlit (inl : Quad) (addr : BitVec 44) (lid : BitVec 10) (epoch tag : BitVec 8) (bit57 poison : Bool) (len typ : BitVec 4)
    (be src dest : BitVec 16) : BitVec 256 :=
  inl ++ addr ++ lid ++ epoch ++ tag ++ BitVec.ofBool bit57 ++ BitVec.ofBool poison ++ len ++ typ ++ be ++ src ++ dest

/-- Bytes 32 to a flit, byte 0 in the low bits. -/
def bodyFlits : Nat → List Byte → List (BitVec 256)
  | 0, _ => []
  | n + 1, l => ((l.take 32).foldr (fun b x => x <<< 8 ||| b.setWidth 256) 0) :: bodyFlits n (l.drop 32)

def flitBytes (f : BitVec 256) : List Byte := (List.range 32).map (fun i => f.extractLsb' (8 * i) 8)

/-- A request packet to `dest` as flits. -/
def Pkt.flits (p : Pkt) (dest : BitVec 16) : List (BitVec 256) :=
  headFlit p.inl p.addr p.lid p.epoch p.tag p.zeroBit p.poison p.len p.typ p.be p.src dest :: bodyFlits (p.body.length / 32) p.body

/-- A response of the unit `src` as flits; an inline word stands in its head, and STATUS in the place of BE. -/
def Rsp.flits (r : Rsp) (src : BitVec 16) : List (BitVec 256) :=
  let inl : Quad := if r.len = 0 then r.data.foldr (fun b x => x <<< 8 ||| b.setWidth 128) 0 else 0
  headFlit inl 0 0 0 r.tag r.zeroBit r.poison r.len r.typ r.status src r.dst :: if r.len = 0 then [] else bodyFlits (r.data.length / 32) r.data

/-- The request that flits carry. -/
def pktOfFlits (h : BitVec 256) (body : List (BitVec 256)) : Pkt :=
  { typ := h.extractLsb' 48 4, src := h.extractLsb' 16 16, tag := h.extractLsb' 58 8, epoch := h.extractLsb' 66 8,
    lid := h.extractLsb' 74 10, addr := h.extractLsb' 84 44, be := h.extractLsb' 32 16, len := h.extractLsb' 52 4,
    poison := h.getLsbD 56, zeroBit := h.getLsbD 57, inl := h.extractLsb' 128 128, body := body.flatMap flitBytes }

/-- The response that flits carry; an inline word counts as its data unless it acknowledges a write or reports an error. -/
def rspOfFlits (h : BitVec 256) (body : List (BitVec 256)) : Rsp :=
  let typ := h.extractLsb' 48 4
  let status := h.extractLsb' 32 16
  let len := h.extractLsb' 52 4
  { typ := typ, len := len, zeroBit := h.getLsbD 57, dst := h.extractLsb' 0 16, tag := h.extractLsb' 58 8, status := status,
    poison := h.getLsbD 56,
    data := if len = 0 then (if typ = 3 ∨ status = 1 then [] else (List.range 16).map (fun i => h.extractLsb' (128 + 8 * i) 8))
            else body.flatMap flitBytes }

/-- R200: the command of a packet, by the TYPE of its head flit. A packet of a reserved TYPE is handed over as a request, which R201
discards; RWIDE and EPOCH packets are made inside the block and named by their own commands. -/
def instrOfFlits : List (BitVec 256) → Option Instr
  | [] => none
  | h :: body =>
    match (h.extractLsb' 48 4).toNat with
    | 1 => some (.wr (pktOfFlits h body))
    | 2 => some (.rdrsp (rspOfFlits h body))
    | 3 => some (.wrack (rspOfFlits h body))
    | 4 => some (.rcon (pktOfFlits h body))
    | 5 => none
    | 6 => none
    | _ => some (.rd (pktOfFlits h body))

end Sys2Proof
end

