-- ==== Sys2Proof/Machine/Crypto.lean ====
section
/-! DEFINITION. The cryptography of the image checks: SHA-384 (FIPS 180-4), ECDSA P-384 verification (FIPS 186-5) and AES-256-GCM
(FIPS 197, SP 800-38D), as R45 to R57 and R391 name them. All byte strings are taken in address order, the first byte the most
significant. -/

namespace Sys2Proof.Machine

/-! ## SHA-384 -/

def shaK0 : List Nat :=
  [0x428A2F98D728AE22, 0x7137449123EF65CD, 0xB5C0FBCFEC4D3B2F, 0xE9B5DBA58189DBBC, 0x3956C25BF348B538,
   0x59F111F1B605D019, 0x923F82A4AF194F9B, 0xAB1C5ED5DA6D8118, 0xD807AA98A3030242, 0x12835B0145706FBE]

def shaK1 : List Nat :=
  [0x243185BE4EE4B28C, 0x550C7DC3D5FFB4E2, 0x72BE5D74F27B896F, 0x80DEB1FE3B1696B1, 0x9BDC06A725C71235,
   0xC19BF174CF692694, 0xE49B69C19EF14AD2, 0xEFBE4786384F25E3, 0x0FC19DC68B8CD5B5, 0x240CA1CC77AC9C65]

def shaK2 : List Nat :=
  [0x2DE92C6F592B0275, 0x4A7484AA6EA6E483, 0x5CB0A9DCBD41FBD4, 0x76F988DA831153B5, 0x983E5152EE66DFAB,
   0xA831C66D2DB43210, 0xB00327C898FB213F, 0xBF597FC7BEEF0EE4, 0xC6E00BF33DA88FC2, 0xD5A79147930AA725]

def shaK3 : List Nat :=
  [0x06CA6351E003826F, 0x142929670A0E6E70, 0x27B70A8546D22FFC, 0x2E1B21385C26C926, 0x4D2C6DFC5AC42AED,
   0x53380D139D95B3DF, 0x650A73548BAF63DE, 0x766A0ABB3C77B2A8, 0x81C2C92E47EDAEE6, 0x92722C851482353B]

def shaK4 : List Nat :=
  [0xA2BFE8A14CF10364, 0xA81A664BBC423001, 0xC24B8B70D0F89791, 0xC76C51A30654BE30, 0xD192E819D6EF5218,
   0xD69906245565A910, 0xF40E35855771202A, 0x106AA07032BBD1B8, 0x19A4C116B8D2D0C8, 0x1E376C085141AB53]

def shaK5 : List Nat :=
  [0x2748774CDF8EEB99, 0x34B0BCB5E19B48A8, 0x391C0CB3C5C95A63, 0x4ED8AA4AE3418ACB, 0x5B9CCA4F7763E373,
   0x682E6FF3D6B2B8A3, 0x748F82EE5DEFB2FC, 0x78A5636F43172F60, 0x84C87814A1F0AB72, 0x8CC702081A6439EC]

def shaK6 : List Nat :=
  [0x90BEFFFA23631E28, 0xA4506CEBDE82BDE9, 0xBEF9A3F7B2C67915, 0xC67178F2E372532B, 0xCA273ECEEA26619C,
   0xD186B8C721C0C207, 0xEADA7DD6CDE0EB1E, 0xF57D4F7FEE6ED178, 0x06F067AA72176FBA, 0x0A637DC5A2C898A6]

def shaK7 : List Nat :=
  [0x113F9804BEF90DAE, 0x1B710B35131C471B, 0x28DB77F523047D84, 0x32CAAB7B40C72493, 0x3C9EBE0A15C9BEBC,
   0x431D67C49C100D4C, 0x4CC5D4BECB3E42B6, 0x597F299CFC657E2A, 0x5FCB6FAB3AD6FAEC, 0x6C44198C4A475817]

/-- The 80 round constants. -/
def shaK : List Nat := shaK0 ++ shaK1 ++ shaK2 ++ shaK3 ++ shaK4 ++ shaK5 ++ shaK6 ++ shaK7

/-- The initial hash value. -/
def shaH : List Nat :=
  [0xCBBB9D5DC1059ED8, 0x629A292A367CD507, 0x9159015A3070DD17, 0x152FECD8F70E5939,
   0x67332667FFC00B31, 0x8EB44A8768581511, 0xDB0C2E0D64F98FA7, 0x47B5481DBEFA4FA4]

def w64 (n : Nat) : Nat := n % 2 ^ 64
def rotr64 (x n : Nat) : Nat := (x / 2 ^ n) ||| w64 (x * 2 ^ (64 - n))

def shaBig0 (x : Nat) : Nat := rotr64 x 28 ^^^ rotr64 x 34 ^^^ rotr64 x 39
def shaBig1 (x : Nat) : Nat := rotr64 x 14 ^^^ rotr64 x 18 ^^^ rotr64 x 41
def shaSml0 (x : Nat) : Nat := rotr64 x 1 ^^^ rotr64 x 8 ^^^ (x / 2 ^ 7)
def shaSml1 (x : Nat) : Nat := rotr64 x 19 ^^^ rotr64 x 61 ^^^ (x / 2 ^ 6)

/-- The eight working variables. -/
structure ShaSt where
  a : Nat
  b : Nat
  c : Nat
  d : Nat
  e : Nat
  f : Nat
  g : Nat
  h : Nat

def shaRound (v : ShaSt) (k w : Nat) : ShaSt :=
  let ch := (v.e &&& v.f) ^^^ ((2 ^ 64 - 1 - v.e) &&& v.g)
  let maj := (v.a &&& v.b) ^^^ (v.a &&& v.c) ^^^ (v.b &&& v.c)
  let t1 := v.h + shaBig1 v.e + ch + k + w
  ⟨w64 (t1 + shaBig0 v.a + maj), v.a, v.b, v.c, w64 (v.d + t1), v.e, v.f, v.g⟩

/-- The rounds, with the last sixteen schedule words, the next one first. -/
def shaRounds : List Nat → List Nat → ShaSt → ShaSt
  | [], _, v => v
  | k :: ks, ws, v =>
    let w := ws.headD 0
    let n := w64 (shaSml1 (ws.getD 14 0) + ws.getD 9 0 + shaSml0 (ws.getD 1 0) + w)
    shaRounds ks (ws.tail ++ [n]) (shaRound v k w)

/-- One block of 128 bytes. -/
def shaBlock (hs : List Nat) (blk : List Byte) : List Nat :=
  let ws := (List.range 16).map (fun i => ofBytesBE ((blk.drop (8 * i)).take 8))
  let g (i : Nat) : Nat := hs.getD i 0
  let v := shaRounds shaK ws ⟨g 0, g 1, g 2, g 3, g 4, g 5, g 6, g 7⟩
  [w64 (g 0 + v.a), w64 (g 1 + v.b), w64 (g 2 + v.c), w64 (g 3 + v.d), w64 (g 4 + v.e), w64 (g 5 + v.f), w64 (g 6 + v.g), w64 (g 7 + v.h)]

def shaBlocks : Nat → List Nat → List Byte → List Nat
  | 0, hs, _ => hs
  | n + 1, hs, l => shaBlocks n (shaBlock hs (l.take 128)) (l.drop 128)

/-- The bytes of a number, most significant first. -/
def bytesBE (n x : Nat) : List Byte := (bytesLE n x).reverse

/-- The digest of a byte string, as a number of 384 bits. -/
def sha384 (l : List Byte) : Nat :=
  let n := l.length
  let pad := (112 + 128 - (n + 1) % 128) % 128
  let m := l ++ [0x80] ++ List.replicate pad 0 ++ bytesBE 16 (8 * n)
  (shaBlocks (m.length / 128) shaH m).take 6 |>.foldl (fun a x => a * 2 ^ 64 + x) 0

/-! ## ECDSA P-384 -/

def p384P : Nat := 2 ^ 384 - 2 ^ 128 - 2 ^ 96 + 2 ^ 32 - 1
def p384N : Nat := 0xFFFFFFFFFFFFFFFFFFFFFFFFFFFFFFFFFFFFFFFFFFFFFFFFC7634D81F4372DDF581A0DB248B0A77AECEC196ACCC52973
def p384B : Nat := 0xB3312FA7E23EE7E4988E056BE3F82D19181D9C6EFE8141120314088F5013875AC656398D8A2ED19D2A85C8EDD3EC2AEF
def p384G : Nat × Nat :=
  (0xAA87CA22BE8B05378EB1C71EF320AD746E1D3B628BA79B9859F741E082542A385502F25DBF55296C3A545E3872760AB7,
   0x3617DE4A96262C6F5D9E98BF9292DC29F8F41DBD289A147CE9DA3113B5F0B8C00A60B1CE1D7E819D7A431D7C90EA0E5F)

/-- `b ^ e` modulo `m`, over the low bits of `e` that the fuel covers. -/
def powMod : Nat → Nat → Nat → Nat → Nat
  | 0, _, _, m => 1 % m
  | n + 1, b, e, m =>
    let r := powMod n (b * b % m) (e / 2) m
    if e % 2 = 1 then r * b % m else r

/-- The inverse modulo a prime of at most 384 bits. -/
def invMod (x m : Nat) : Nat := powMod 384 (x % m) (m - 2) m

/-- A point; none is the point at infinity. -/
abbrev EcPoint := Option (Nat × Nat)

def ecAdd (p q : EcPoint) : EcPoint :=
  match p, q with
  | none, r | r, none => r
  | some (x1, y1), some (x2, y2) =>
    let m := p384P
    if x1 = x2 ∧ (y1 + y2) % m = 0 then none
    else
      let l := if x1 = x2 then (3 * x1 * x1 + (m - 3)) * invMod (2 * y1) m % m
               else (y2 + m - y1) * invMod (x2 + m - x1) m % m
      let x3 := (l * l + 2 * m - x1 - x2) % m
      some (x3, (l * (x1 + m - x3) + m - y1) % m)

/-- The multiple of a point by the low bits of `k` that the fuel covers. -/
def ecMul : Nat → Nat → EcPoint → EcPoint
  | 0, _, _ => none
  | n + 1, k, p =>
    let r := ecMul n (k / 2) (ecAdd p p)
    if k % 2 = 1 then ecAdd r p else r

def onCurve (x y : Nat) : Bool :=
  decide (x < p384P) && decide (y < p384P) && decide (y * y % p384P = (x * x * x + (p384P - 3) * x + p384B) % p384P)

/-- A signature (r then s) over a digest, under a public key (X then Y). -/
def ecdsaVerify (pub sig : List Byte) (e : Nat) : Bool :=
  let qx := ofBytesBE (pub.take 48)
  let qy := ofBytesBE (pub.drop 48)
  let r := ofBytesBE (sig.take 48)
  let t := ofBytesBE (sig.drop 48)
  if onCurve qx qy = true ∧ 1 ≤ r ∧ r < p384N ∧ 1 ≤ t ∧ t < p384N then
    let w := invMod t p384N
    match ecAdd (ecMul 384 (e * w % p384N) (some p384G)) (ecMul 384 (r * w % p384N) (some (qx, qy))) with
    | some (x, _) => decide (x % p384N = r)
    | none => false
  else false

/-! ## AES-256 -/

/-- Thirty-two entries of the S-box, the first in the low byte. -/
def sboxRow : Nat → Nat
  | 0 => 0xC072A49CAFA2D4ADF04759FA7DC982CA76ABD7FE2B670130C56F6BF27B777C63
  | 1 => 0x75B227EBE28012079A059618C323C7041531D871F1E5A534CCF73F362693FDB7
  | 2 => 0xCF584C4A39BECB6A5BB1FC20ED00D153842FE329B3D63B52A05A6E1B1A2C8309
  | 3 => 0xD2F3FF1021DAB6BCF5389D928F40A351A89F3C507F02F94585334D43FBAAEFD0
  | 4 => 0xDB0B5EDE14B8EE4688902A22DC4F816073195D643D7EA7C41744975FEC130CCD
  | 5 => 0x08AE7A65EAF4566CA94ED58D6D37C8E779E4959162ACD3C25C2406490A3A32E0
  | 6 => 0x9E1DC186B95735610EF6034866B53E708A8BBD4B1F74DDE8C6B4A61C2E2578BA
  | 7 => 0x16BB54B00F2D99416842E6BF0D89A18CDF2855CEE9871E9B948ED9691198F8E1
  | _ => 0

def sbox (x : Nat) : Nat := sboxRow (x / 32) / 2 ^ (8 * (x % 32)) % 256

def xtime (x : Nat) : Nat := if x < 128 then 2 * x else (2 * x - 256) ^^^ 0x1B

def subWord (w : List Nat) : List Nat := w.map sbox

/-- The next eight words of the key schedule, from the last eight and the round constant. -/
def keyStep (ws : List (List Nat)) (rc : Nat) : List (List Nat) :=
  let g (i : Nat) : List Nat := ws.getD i []
  let x (a b : List Nat) : List Nat := List.zipWith (· ^^^ ·) a b
  let r := g 7
  let t := match subWord (r.tail ++ r.take 1) with | a :: l => (a ^^^ rc) :: l | [] => []
  let w0 := x (g 0) t
  let w1 := x (g 1) w0
  let w2 := x (g 2) w1
  let w3 := x (g 3) w2
  let w4 := x (g 4) (subWord w3)
  let w5 := x (g 5) w4
  let w6 := x (g 6) w5
  [w0, w1, w2, w3, w4, w5, w6, x (g 7) w6]

def keyWords : Nat → List (List Nat) → Nat → List (List Nat)
  | 0, ws, _ => ws
  | n + 1, ws, rc => ws ++ keyWords n (keyStep ws rc) (xtime rc)

/-- Words of four bytes. -/
def chunk4 : Nat → List Nat → List (List Nat)
  | 0, _ => []
  | n + 1, l => l.take 4 :: chunk4 n (l.drop 4)

/-- The fifteen round keys of a 256-bit key, sixteen bytes each. -/
def aesKeys (key : List Byte) : List (List Nat) :=
  let ws := keyWords 7 (chunk4 8 (key.map BitVec.toNat)) 1
  (List.range 15).map (fun i => ((ws.drop (4 * i)).take 4).flatten)

/-- ShiftRows on sixteen bytes in column order. -/
def shiftRows (l : List Nat) : List Nat := (List.range 16).map (fun i => l.getD ((i + 4 * (i % 4)) % 16) 0)

def mixCol (c : List Nat) : List Nat :=
  let g (i : Nat) : Nat := c.getD (i % 4) 0
  (List.range 4).map (fun i => xtime (g i) ^^^ (xtime (g (i + 1)) ^^^ g (i + 1)) ^^^ g (i + 2) ^^^ g (i + 3))

def aesRounds : List (List Nat) → List Nat → List Nat
  | [], s => s
  | [k], s => List.zipWith (· ^^^ ·) (shiftRows (s.map sbox)) k
  | k :: ks, s => aesRounds ks (List.zipWith (· ^^^ ·) ((chunk4 4 (shiftRows (s.map sbox))).flatMap mixCol) k)

/-- AES of one block of sixteen bytes. -/
def aesBlock (keys : List (List Nat)) (b : List Nat) : List Nat :=
  match keys with
  | [] => b
  | k :: ks => aesRounds ks (List.zipWith (· ^^^ ·) b k)

/-! ## GCM -/

/-- Multiplication in GF(2^128), the first bit of the string the most significant. -/
def ghashMul : Nat → Nat → Nat → Nat → Nat
  | 0, _, _, z => z
  | n + 1, x, v, z =>
    let z1 := if x / 2 ^ n % 2 = 1 then z ^^^ v else z
    ghashMul n x (if v % 2 = 1 then (v / 2) ^^^ (0xE1 * 2 ^ 120) else v / 2) z1

def gfMul128 (x y : Nat) : Nat := ghashMul 128 x y 0

def beNat (l : List Nat) : Nat := l.foldl (fun a b => a * 256 + b) 0
def natBytes (n x : Nat) : List Nat := (bytesBE n x).map BitVec.toNat

/-- GHASH over `n` blocks of sixteen bytes. -/
def ghash (h : Nat) : Nat → Nat → List Byte → Nat
  | 0, y, _ => y
  | n + 1, y, l => ghash h n (gfMul128 (y ^^^ ofBytesBE (l.take 16)) h) (l.drop 16)

/-- Counter mode over `n` blocks of sixteen bytes; `iv` is twelve bytes. -/
def gcmCtr (keys : List (List Nat)) (iv : List Nat) : Nat → Nat → List Byte → List Byte
  | 0, _, _ => []
  | n + 1, c, l =>
    let ks := aesBlock keys (iv ++ natBytes 4 c)
    List.zipWith (fun b k => BitVec.ofNat 8 (b.toNat ^^^ k)) (l.take 16) ks ++ gcmCtr keys iv n (c + 1) (l.drop 16)

/-- AES-256-GCM decryption of whole blocks without additional data: the plain text, and whether the tag matches. -/
def gcmDecrypt (key iv text : List Byte) (tag : Nat) : List Byte × Bool :=
  let keys := aesKeys key
  let n := text.length / 16
  let ivn := iv.map BitVec.toNat
  let h := beNat (aesBlock keys (List.replicate 16 0))
  let y := gfMul128 (ghash h n 0 text ^^^ (8 * text.length)) h
  let t := y ^^^ beNat (aesBlock keys (ivn ++ natBytes 4 1))
  (gcmCtr keys ivn n 2 text, decide (t = tag))

/-- The GCM tag of whole blocks of additional data and of cipher text. -/
def gcmTag (key iv aad text : List Byte) : Nat :=
  let keys := aesKeys key
  let h := beNat (aesBlock keys (List.replicate 16 0))
  let y := ghash h (text.length / 16) (ghash h (aad.length / 16) 0 aad) text
  gfMul128 (y ^^^ (8 * aad.length * 2 ^ 64 + 8 * text.length)) h ^^^ beNat (aesBlock keys (iv.map BitVec.toNat ++ natBytes 4 1))

/-- AES-256-GCM encryption of whole blocks, which decrypts them too. -/
def gcmText (key iv text : List Byte) : List Byte := gcmCtr (aesKeys key) (iv.map BitVec.toNat) (text.length / 16) 2 text

end Sys2Proof.Machine
end

