-- ==== Sys2Proof/Machine/Crc.lean ====
section
/-! DEFINITION. The cyclic redundancy codes of the manual, bit by bit: most significant bit first, and least significant bit first. -/

namespace Sys2Proof.Machine

/-- One bit into a code of `w` bits, most significant bit first. -/
def crcBit (w poly c : Nat) (b : Nat) : Nat :=
  let top := c / 2 ^ (w - 1) % 2
  let c1 := c * 2 % 2 ^ w
  if top = b % 2 then c1 else c1 ^^^ poly

/-- One byte, most significant bit first. -/
def crcByte (w poly c : Nat) (x : Byte) : Nat :=
  (List.range 8).foldl (fun a i => crcBit w poly a (x.toNat / 2 ^ (7 - i))) c

/-- A run of bytes. -/
def crcBytes (w poly c : Nat) (l : List Byte) : Nat := l.foldl (crcByte w poly) c

/-- One byte, least significant bit first, with the reflected polynomial. -/
def crcReflByte (poly c : Nat) (x : Byte) : Nat :=
  (List.range 8).foldl (fun a _ => if a % 2 = 1 then a / 2 ^^^ poly else a / 2) (c ^^^ x.toNat)

def crcReflBytes (poly c : Nat) (l : List Byte) : Nat := l.foldl (crcReflByte poly) c

/-- CRC-32 of IEEE 802.3: reflected, initial value and final inversion all ones. -/
def crc32 (l : List Byte) : Nat := crcReflBytes 0xEDB88320 0xFFFFFFFF l ^^^ 0xFFFFFFFF

/-- CRC-32C (R386): reflected 0x1EDC6F41, initial value and final inversion all ones. -/
def crc32c (l : List Byte) : Nat := crcReflBytes 0x82F63B78 0xFFFFFFFF l ^^^ 0xFFFFFFFF

end Sys2Proof.Machine
end

