-- ==== Sys2Proof/Config.lean ====
section
/-! DEFINITION. The free values: what the manual leaves open. None has a body, so no proof can see what it is. -/

namespace Sys2Proof

/-- What granule `k` of a memory holds while nothing has written it since its contents were last lost (R38, R343). The first
argument numbers the losses of contents. -/
opaque Config.uninit : Nat → Nat → DWord

/-- The check bits such a granule is found with: it may read clean, correctable or uncorrectable (R343). -/
opaque Config.uninitCheck : Nat → Nat → BitVec 16

/-- A fresh value the manual does not state, numbered by the state's counter. -/
opaque Config.free : Nat → DWord

/-- Whether an infinity times a zero, added to a quiet NaN, is an invalid operation: IEEE 754-2019 leaves it to the
implementation, and R109 does not say. -/
opaque Config.invalidBesideNaN : Bool

/-- Whether the devices of a DRAM channel require refresh management, and the threshold their MR58 gives (R326): what the devices
report. -/
opaque Config.rfmRequired : Nat → Bool
opaque Config.rfmThreshold : Nat → Nat

/-- What the registers of the management cores hold at a halt (R404): their instruction set and their program lie outside the manual. -/
opaque Config.coreReg : Nat → Nat → Word

/-- The sluice through which logic inside a polder drives a fabric user I/O ball of a tile: its frame address and field (R419). It is the
image's, and the layout of the frames that say so is not given. -/
opaque Config.ballSluice : Nat → Nat → Option (Nat × Nat)

/-- The baseband sample, in units of 2^-16, that a receive path makes of the converter samples it has taken, each with the phase of the
path's NCO at that sample (R261, R266, R268, R270). The coefficients of the decimating and resampling filters are not given. The arguments
before the list: FTW, whether the spectrum of the second Nyquist zone is turned round, D, RNUM and RDEN. -/
opaque Config.rxBaseband : Nat → Bool → Nat → Nat → Nat → List (BitVec 32 × Int) → Int × Int

/-- The proportional and the integral gain of the steering loop at a LOOPBW (R243), in units of 2^-76 of FFO for 2^-16 ns of phase error. -/
opaque Config.loopGains : Nat → Int × Int

/-- A term of the model after the recursive least-squares fit of the samples (T, mean correction, age), given HALF, T0 and τ; and the RMS
residual in ppt of the samples against a model's registers (R246). The arithmetic of the fit is not stated. -/
opaque Config.fit : List (Int × Int × Nat) → Nat → Nat → Nat → Nat → Word
opaque Config.fitResidual : List (Int × Int × Nat) → Nat → List Word → Nat

/-- The code with which QL reads QL-FAILED (R238). -/
opaque Config.qlFailed : BitVec 4

/-- The size of the MSI-X table of a virtual function (R369, R17), which the manual does not give. -/
opaque Config.vfVectors : Nat → Nat

end Sys2Proof
end

