-- ==== Sys2Proof/Machine/SMap.lean ====
section
/-! DEFINITION. Sparse data by number in one canonical form: keys strictly rising and no entry equal to what an unlisted key
reads as. Register words, the memories, the frames and every table of units are held so. -/

namespace Sys2Proof.Machine

/-- Sparse data: (key, value) pairs. -/
abbrev SMap (α : Type) := List (Nat × α)

/-- The listed value of a key. -/
def SMap.find {α : Type} : SMap α → Nat → Option α
  | [], _ => none
  | (j, v) :: m, k => if j = k then some v else SMap.find m k

/-- What a key reads as: the listed value, else the value the default gives it. -/
def SMap.get {α : Type} (d : Nat → α) (m : SMap α) (k : Nat) : α := (SMap.find m k).getD (d k)

/-- The map without an entry for `k`. -/
def SMap.drop {α : Type} : SMap α → Nat → SMap α
  | [], _ => []
  | (j, v) :: m, k => if j = k then m else if j < k then (j, v) :: SMap.drop m k else (j, v) :: m

/-- The map with the entry `k ↦ v`, kept in rising order. -/
def SMap.insert {α : Type} : SMap α → Nat → α → SMap α
  | [], k, v => [(k, v)]
  | (j, u) :: m, k, v =>
    if j = k then (k, v) :: m
    else if j < k then (j, u) :: SMap.insert m k v
    else (k, v) :: (j, u) :: m

/-- A write: a value equal to the default removes the entry. -/
def SMap.set {α : Type} [DecidableEq α] (d : Nat → α) (m : SMap α) (k : Nat) (v : α) : SMap α :=
  if v = d k then SMap.drop m k else SMap.insert m k v

/-- Every key is above `lo`, and the keys rise strictly. -/
def SMap.rising {α : Type} : Nat → SMap α → Bool
  | _, [] => true
  | lo, (k, _) :: m => decide (lo ≤ k) && SMap.rising (k + 1) m

/-- The canonical form. -/
def SMap.wf {α : Type} [DecidableEq α] (d : Nat → α) (m : SMap α) : Bool :=
  SMap.rising 0 m && m.all (fun e => decide (e.2 ≠ d e.1))

/-- The map without the entries whose keys lie in `[lo, lo + n)`. -/
def SMap.dropRange {α : Type} (m : SMap α) (lo n : Nat) : SMap α :=
  m.filter (fun e => decide (e.1 < lo) || decide (lo + n ≤ e.1))

end Sys2Proof.Machine
end

