-- ==== Sys2Proof/Machine/Time.lean ====
section
/-! DEFINITION. Lattice time as one exact number, in units of 2^-16 ns, and the words the manual shows of it (R229). -/

namespace Sys2Proof.Machine

/-- Units of 2^-16 ns in a second. -/
def unitsPerSec : Nat := 65536000000000

/-- Lattice time from its three fields. -/
def timeOf (sec ns frac : Nat) : Nat := sec * unitsPerSec + ns * 65536 + frac

/-- 48-bit seconds. -/
def timeSec (t : Nat) : Nat := t / unitsPerSec

/-- Nanoseconds, 0 to 999,999,999. -/
def timeNs (t : Nat) : Nat := t % unitsPerSec / 65536

/-- The 16-bit fraction of a nanosecond. -/
def timeFrac (t : Nat) : Nat := t % 65536

end Sys2Proof.Machine
end

