-- ==== Sys2Proof/Machine/Types.lean ====
section
/-! DEFINITION. The pieces of state that no register holds: tasks, engine banks, packets in flight, mailbox queues, records and
the rest, chapter by chapter. All of it is plain data. -/

namespace Sys2Proof.Machine

/-! ## Records and outputs -/

/-- An error record before acceptance (R385): words 3, 4 and 7 are formed at acceptance. -/
structure Rec where
  src : Nat
  code : Nat
  addr : Nat
  count : Nat
  req : Nat
  deriving DecidableEq, Repr

/-- A record class that is logged at most once per ms, with what has been counted since (`open` while the ms runs). -/
structure Lim where
  key : Nat
  acc : Nat
  last : Rec
  deriving DecidableEq, Repr

/-- The record collector and the log writer (R385, R386, R389). -/
structure Collector where
  pend : List Rec := []
  lims : List Lim := []
  /-- records waiting for the flash log -/
  logQ : List (List Word) := []
  deriving DecidableEq, Repr

/-- What leaves the block, oldest first. -/
inductive Out where
  | msix (fn vector : Nat)
  | mgmtIrq (line : Nat)
  | fabricIrq (mailbox : Nat)
  | hostCpl (tag : Nat) (status : Nat) (ep : Bool) (data : List Word)
  | hostCfgCpl (tag : Nat) (retry : Bool)
  | regRead (req off : Nat) (val : Word)
  | regErr (req off : Nat)
  | fabricReq (write : Bool) (p : Pkt)
  | response (r : Rsp) (write : Bool)
  | frameOut (lane : Nat) (bytes : List Byte)
  /-- a pause frame sent: priorities, and whether it is XOFF -/
  | pauseOut (lane : Nat) (prios : Nat) (xoff : Bool)
  | chainPkt (p : ChainPkt)
  | chainAck (seq : Nat)
  | chainAbort
  | chainStatus (code pos : Nat)
  /-- CFG_ERR_N pulses low for 1 µs -/
  | cfgErrPulse
  /-- a transmit block begins on a path: its start instant, FTW and phase there, and its components in units of 2^-shift DAC units -/
  | samplesOut (conv chan path : Nat) (start ftw : Nat) (phase : BitVec 32) (shift : Nat) (comps : List Int)
  /-- the path contributes 0 from a grid instant on, before its block would have ended -/
  | samplesCut (conv chan path k : Nat)
  /-- the codes a DAC converts -/
  | dacOut (conv chan : Nat) (codes : List Int)
  | pps (high : Bool)
  | debugReply (ack : Nat) (data : Word)
  | pmbus (word : Word) (data : List Byte)
  | flash (word : Word) (addr : Word) (data : List Byte)
  | budget (die value : Nat)
  deriving DecidableEq, Repr

/-! ## Pair accesses (R6, R21) -/

/-- A snapshot of a high half, for one requester (R6). -/
structure Snap where
  req : Nat
  off : Nat
  val : Word
  deriving DecidableEq, Repr

/-- The pair state of one block instance; each list holds entries of at most four requesters, the least recently used first. -/
structure Pairs where
  snaps : List Snap := []
  held : List Snap := []
  deriving DecidableEq, Repr

/-! ## Memory granules (R337) -/

/-- A stored SRAM granule with its check bits. -/
structure Gran where
  data : DWord
  chk : BitVec 8
  deriving DecidableEq, Repr

/-! ## Engines -/

/-- A hardware loop level (R121). -/
structure LoopLvl where
  first : Nat
  last : Nat
  left : Nat
  deriving DecidableEq, Repr

/-- What the task of a bank waits for between bundles. -/
inductive EWait where
  | none
  | done
  | flagDone
  | enqOffered
  | enqTaken
  deriving DecidableEq, Repr

/-- One register bank of an engine (R98, R142). -/
structure EBank where
  s : SMap Word := []
  v : SMap Quad := []
  a : SMap Acc256 := []
  p : SMap Byte := []
  pc : Nat := 0
  flags : Word := 0
  loops : List LoopLvl := []
  arg : BitVec 48 := 0
  tid : Nat := 0
  flow : Nat := 0
  /-- which copy of a paired task: 0 none, 1 primary, 2 secondary, 3 referee -/
  copy : Nat := 0
  /-- a task sits in the bank -/
  busy : Bool := false
  /-- numbers the tasks of the bank, so that an access of an earlier task is told apart -/
  gen : Nat := 0
  /-- island cycles since the first bundle, saturating; the cycle the next bundle may issue -/
  cyc : Nat := 0
  stallDep : Nat := 0
  stallMem : Nat := 0
  vbusy : Nat := 0
  wd : Nat := 0
  /-- register key to the cycle a dependent bundle may issue, and to the cycle a chained accumulate may issue (R119) -/
  ready : SMap Nat := []
  chain : SMap Nat := []
  /-- the cycle the vector slot is free again -/
  vfree : Nat := 0
  /-- the data bank the previous bundle's partial write still occupies (R136) -/
  rmw : Option Nat := none
  /-- an imprecise cause held while the bank is not active or the engine is halted: cause, TMO, address -/
  cause : Option (Nat × Bool × Nat) := none
  /-- a remote access has been issued since the last FENCE -/
  owe : Bool := false
  /-- a response ended a stall at the limit of 16 outstanding accesses -/
  late : Bool := false
  wait : EWait := .none
  /-- the TNS snapshot (R100) -/
  tsec : Word := 0
  tfrac : Word := 0
  /-- V registers that GETW data has reached and no bundle has waited on since -/
  got : List Nat := []
  deriving DecidableEq, Repr

/-- A physical engine (ch. 05, 06). Its registers of the ENG block stand in the register bank. -/
structure EngSt where
  b0 : EBank := {}
  b1 : EBank := {}
  active : Bool := false
  shocc : Bool := false
  resv : Option Nat := none
  dmem : SMap Gran := []
  imem : SMap Gran := []
  /-- numbers the losses of memory contents (R38) -/
  lost : Nat := 0
  /-- a pre-empting task waits for the bundle boundary (R143) -/
  swapDue : Bool := false
  /-- a self-test has passed since the last isolation (R157); the TYPE of the test in progress -/
  stestPassed : Bool := false
  stestType : Nat := 0
  refused : Nat := 0
  corrected : Nat := 0
  /-- a halt waits for the bundle boundary: its CAUSE (ch. 17) -/
  haltDue : Nat := 0
  /-- one bundle issues, then the engine halts again (R410) -/
  stepping : Bool := false
  /-- a watchdog expiry has been raised and no trap report has followed -/
  wdogRaised : Bool := false
  deriving DecidableEq, Repr

/-- Where a logical engine's takeover stands (R150). -/
structure Takeover where
  old : Nat
  new : Nat
  copied : Bool
  deriving DecidableEq, Repr

/-- A logical engine (R146 to R150). -/
structure LEngSt where
  phys : Nat
  /-- 0 PLACED, 1 STALE, 2 TESTING, 3 UNPLACED (SCH_LEMAP.PSTATE) -/
  pstate : Nat
  epoch : Nat
  /-- ports that have not yet acknowledged the epoch -/
  waiting : List Nat
  discards : Nat
  reportDue : Bool
  takeover : Option Takeover
  /-- requests held during a takeover, in arrival order -/
  held : List (Bool × Pkt)
  deriving DecidableEq, Repr

/-! ## Fuses -/

/-- The fuse array (ch. 03, 14, 16). -/
structure Fuses where
  /-- GN1024-3E (else GN1024-2E) -/
  grade3 : Bool := true
  /-- SHA-384 of the key of each slot; 0 = blank (R55) -/
  keyHash : List Nat := [0, 0, 0, 0]
  /-- bit n = slot n revoked -/
  revoked : Nat := 0
  /-- blown fuses of the image and the firmware version fields -/
  imgCount : Nat := 0
  fwCount : Nat := 0
  /-- plain images are refused (R57) -/
  encReq : Bool := false
  /-- FK0 and FK1; all zeros = blank -/
  fk0 : List Byte := List.replicate 32 0
  fk1 : List Byte := List.replicate 32 0
  /-- the debug port is locked (ch. 17) -/
  dbgLock : Bool := false
  /-- the repair map of each module: direction 0 A to B, 1 B to A; module × 8 + direction × 4 + repair lane ↦ data lane (R297) -/
  repair : SMap Nat := []
  /-- the quarter of the safe width, and the asymmetry of the delay in ps, by module -/
  safeq : SMap Nat := []
  asym : SMap Int := []
  deriving DecidableEq, Repr

/-! ## Scheduler -/

/-- The state of a context (R176). -/
inductive TState where
  | free | delayed | waiting | ready | running | preempted | comparing | completing
  deriving DecidableEq, Repr

/-- A write that a paired copy's release buffer holds (R189). -/
inductive CapItem where
  | packet (p : Pkt)
  | contribution (p : Pkt)
  | descriptor (words : List Word)
  | event (ctx flag : Nat)
  deriving DecidableEq, Repr

/-- One copy of a paired task (R189). -/
structure PairCopy where
  lid : Nat
  eng : Nat
  digest : DWord := 0xFFFFFFFFFFFFFFFF
  /-- captured writes, oldest first -/
  buf : List CapItem := []
  bytes : Nat := 0
  /-- the end, when the copy has ended: 0 = DONE, else the trap cause -/
  ended : Option Nat := none
  cyc : Nat := 0
  deriving DecidableEq, Repr

structure Pair where
  copies : List PairCopy
  referee : Option PairCopy
  /-- a referee is to be dispatched -/
  needRef : Bool := false
  /-- the captured writes have been issued and are being acknowledged -/
  releasing : Bool := false
  /-- a captured ENQ has been offered and waits for its acceptance; what follows it waits -/
  enqWait : Bool := false
  deriving DecidableEq, Repr

/-- How a task ended, as reported to the scheduler. -/
structure EndReport where
  /-- completion-record STATUS -/
  status : Nat
  cause : Nat
  cyc : Nat
  /-- a restart may be made (trap or revocation, R186) -/
  mayRestart : Bool
  deriving DecidableEq, Repr

/-- A task context (R163 to R178). -/
structure TaskCtx where
  st : TState := .free
  desc : List Word := []
  flags : Word := 0
  dev : Word := 0
  quar : Bool := false
  miss : Bool := false
  rcnt : Nat := 0
  lid : Nat := 0
  epoch : Nat := 0
  restarted : Bool := false
  ready : Nat := 0
  deadline : Option Nat := none
  expiry : Nat := 0
  pair : Option Pair := none
  /-- an end waiting to be processed (TASK_END) -/
  report : Option EndReport := none
  /-- an end being completed: the record waits for its queue -/
  ending : Option (EndReport × Nat) := none
  deriving DecidableEq, Repr

/-- The source of a descriptor. -/
inductive EnqSrc where
  | portal (p : Nat)
  | engine (e : Nat)
  /-- a write on the network: requester, tag -/
  | noc (req tag : Nat)
  | stream (c : Nat)
  | classifier (t : Nat)
  /-- a captured ENQ of the paired task in a context, as the release buffer issues it (R190) -/
  | released (x : Nat)
  deriving DecidableEq, Repr

/-- A descriptor or a template request at an enqueue input (R168, R169). -/
structure EnqItem where
  src : EnqSrc
  req : Nat
  epoch : Nat
  lid : Nat
  template : Bool
  words : List Word
  /-- held for a pool context, or for the end of initialisation, since its first check -/
  held : Bool
  /-- numbers the holds, oldest lowest -/
  heldNo : Nat
  /-- a template copied at the head: the descriptor and its timestamp -/
  formed : Option (List Word × Option (Nat × Nat))
  deriving DecidableEq, Repr

/-- The lock and the count of a flow (R179). -/
structure FlowSt where
  holder : Option Nat := none
  pending : Nat := 0
  deriving DecidableEq, Repr

structure SchSt where
  ctx : SMap TaskCtx := []
  flow : SMap FlowSt := []
  inputs : SMap (List EnqItem) := []
  /-- the input after the last one granted (R168) -/
  enqPtr : Nat := 0
  /-- delay lists: (expiry, context), in release order -/
  delay : SMap (List (Nat × Nat)) := []
  /-- the list after the last one that released (R175) -/
  dlPtr : Nat := 0
  readyNo : Nat := 0
  restartNo : Nat := 0
  heldNo : Nat := 0
  pipePtr : SMap Nat := []
  evq : List (Nat × Nat) := []
  cqWait : SMap (List Nat) := []
  deriving DecidableEq, Repr

/-! ## Debug -/

/-- One access channel (R401). -/
structure DbgChan where
  /-- the access in progress: its OP, SIZE, EFFRD and address -/
  busy : Bool := false
  op : Nat := 0
  size16 : Bool := false
  effrd : Bool := false
  addr : Nat := 0
  deriving DecidableEq, Repr

structure DbgSt where
  mHaltDue : Nat := 0
  mStepping : Bool := false
  ch0 : DbgChan := {}
  ch1 : DbgChan := {}
  /-- the next acknowledgement to PREG 0 or 1 is ERR (R399) -/
  errAck : Bool := false
  /-- engines that a catch of R400 makes come ON halted -/
  caught : List Nat := []
  deriving DecidableEq, Repr

/-! ## Mailboxes -/

/-- One side of a mailbox: the queue towards it, with the incarnation each word carries, and its own incarnation (R363 to R375). -/
structure MbxSide where
  q : List (Word × Nat) := []
  inc : Nat := 0
  deriving DecidableEq, Repr

structure MbxSt where
  a : MbxSide := {}
  b : MbxSide := {}
  deriving DecidableEq, Repr

/-! ## Network -/

/-- Why a request was issued: what its response means to its source. -/
inductive ReqKind where
  | getw (e : Nat) (bank : Bool) (gen dr : Nat)
  | putw (e : Nat) (bank : Bool) (gen : Nat)
  /-- a block move: the local byte address, the remote address and the bytes still to move, those of this packet included -/
  | getb (e : Nat) (bank : Bool) (gen loc rem left : Nat)
  | putb (e : Nat) (bank : Bool) (gen loc rem left : Nat)
  | rsend (e : Nat) (bank : Bool) (gen : Nat)
  | pairWrite (x : Nat)
  | cqRecord (q : Nat)
  | strSample (c blk : Nat)
  | strRecord (c blk : Nat)
  | strFetch (c : Nat) (seq : Nat)
  | redResult (g : Nat) (round word : Nat) (record : Bool)
  | clsSlot (t : Nat) (post : Nat)
  | laneFetch (l : Nat) (post part : Nat)
  /-- a request of the host: its tag, and the dwords of the response that it asked for -/
  | host (tag : Nat) (write : Bool) (skip n : Nat)
  | debug (ch : Nat)
  | other
  deriving DecidableEq, Repr

/-- A request issued and not answered. -/
structure OutReq where
  src : Nat
  tag : Nat
  addr : Nat
  write : Bool
  kind : ReqKind
  /-- the routers it went along (R206); empty until it has left its source -/
  way : List Nat := []
  deriving DecidableEq, Repr

/-- A wide reduction packet on its way (R222, R223). -/
structure Wide where
  group : Nat
  round : Nat
  word : Nat
  mask : BitVec 64
  /-- the slots of the wide form, as exact numbers (F32: the binary32 bits) -/
  val : List Int
  /-- per lane: +∞ 1, −∞ 2, NaN 4 (F16) -/
  special : List Nat
  poison : Bool
  at_ : Nat
  deriving DecidableEq, Repr

/-- A packet in flight. -/
inductive NetMsg where
  | rd (p : Pkt)
  | wr (p : Pkt)
  | rdrsp (r : Rsp)
  | wrack (r : Rsp)
  | rcon (p : Pkt)
  | rwide (w : Wide)
  deriving DecidableEq, Repr

/-- A slot of the root store (R224). -/
structure RedSlot where
  isOpen : Bool := false
  /-- closed, its result write not yet acknowledged -/
  closing : Bool := false
  round : Nat := 0
  /-- false until the slot has closed once -/
  used : Bool := false
  mask : BitVec 64 := 0
  val : List Int := []
  special : List Nat := []
  poison : Bool := false
  deriving DecidableEq, Repr

/-- The progress of one round of a group (R226). -/
structure RedRound where
  round : Nat
  closed : Nat
  acks : Nat
  poisonLogged : Bool
  deriving DecidableEq, Repr

structure RedGroup where
  /-- the members as loaded: mask bit, logical engine -/
  members : List (Nat × Nat) := []
  /-- the modules out of service when the expected masks were computed (R220) -/
  oos : Nat := 0
  slots : SMap RedSlot := []
  rounds : List RedRound := []
  deriving DecidableEq, Repr

/-- A receive block that has not landed (R211 to R214). -/
structure RxBlk where
  id : Nat
  words : List Quad
  time : Nat
  frameTime : Nat
  bidx : Nat
  fidx : Nat
  gap : Bool
  short : Bool := false
  closes : Bool := false
  /-- bytes of the sample writes acknowledged -/
  acked : Nat := 0
  /-- 0 filling, 1 complete, 2 its samples are being written, 3 all acknowledged, 4 its record is being written -/
  stage : Nat := 0
  deriving DecidableEq, Repr

/-- A queued transmit post (R215). -/
structure TxPost where
  seq : Nat
  due : Nat
  /-- words fetched so far -/
  words : List Quad := []
  fetching : Bool := false
  fetched : Bool := false
  deriving DecidableEq, Repr

/-- A stream channel beyond its registers. -/
structure StrmSt where
  /-- the sequence number of the next block to land (R211) -/
  seq : Nat := 0
  blocks : List RxBlk := []
  nextId : Nat := 0
  /-- components of the samples that wait for a full word -/
  elems : List Int := []
  /-- samples still to discard up to the next block boundary -/
  skip : Nat := 0
  gap : Bool := false
  bidx : Nat := 0
  frameTime : Nat := 0
  /-- a frame is running (ALIGN ≠ 0) -/
  inFrame : Bool := false
  /-- ticks whose frames have not begun, oldest first: the time and the frame index -/
  ticks : List (Nat × Nat) := []
  posts : List TxPost := []
  /-- SEQ the next post must carry, once one has been made -/
  nextSeq : Option Nat := none
  lastDue : Option Nat := none
  /-- the grid instant, counted from lattice time 0, at which the block in emission ends -/
  emitEnd : Option Nat := none
  /-- the template request of the block before has not been accepted -/
  tmplWait : Bool := false
  /-- stopped because the TC module is too narrow, until EN has been 0 (R306) -/
  shed : Bool := false
  deriving DecidableEq, Repr

structure NetSt where
  msgs : List NetMsg := []
  /-- converter channels that have failed and that no calibration has restored since, as CNV_CHAVAIL lays them out (R274): key = die -/
  cnvBad : SMap Nat := []
  outst : List OutReq := []
  /-- router entries: key = router × 32 + index -/
  entries : SMap (Option Wide) := []
  groups : SMap RedGroup := []
  strm : SMap StrmSt := []
  /-- tiles whose loss of every path to the hub has been logged -/
  noPath : List Nat := []
  /-- the copies of the epochs at the checking ports: port × 1024 + logical engine -/
  ports : SMap Nat := []
  /-- pairs that wait for their new route (R206): source, destination, the tags outstanding on the old route -/
  waits : List (Nat × Nat × List Nat) := []
  deriving DecidableEq, Repr

/-! ## Lanes, ports, classifiers (ch. 11) -/

/-- A lane: SL00 to SL47, then the four upstream and the four downstream lanes of the chain port. -/
structure LaneSt where
  /-- 0 OFF, 1 SEEKING, 2 TRAINING, 3 UP, 4 BACKOFF -/
  st : Nat := 0
  fom : Nat := 0
  /-- B in ms (R277) -/
  b : Nat := 0
  /-- failures since the last UP -/
  fails : Nat := 0
  deriving DecidableEq, Repr

/-- A queued transmit post (R290). -/
structure TxFrame where
  id : Nat
  addr : Nat
  len : Nat
  prio : Nat
  tsmode : Nat
  pack : Bool
  tsoff : Nat
  tsid : Nat
  /-- bytes read so far from the 16-byte word that holds the first byte -/
  raw : List Byte := []
  /-- the whole frame, once it is in the transmit buffer, and the saturations of its packing -/
  frame : Option (List Byte × Nat) := none
  reading : Bool := false
  deriving DecidableEq, Repr

structure PortSt where
  /-- the eight queues by priority -/
  queues : SMap (List TxFrame) := []
  nextId : Nat := 0
  /-- the two-step stamps, oldest first: TSID, time -/
  stamps : List (Nat × Nat) := []
  /-- priorities towards which XOFF has been sent; 256 = global pause -/
  xoff : Nat := 0
  deriving DecidableEq, Repr

/-- A received frame that waits for the classifier: lane of the port, stamp, bytes without the FCS. -/
structure RxWait where
  lane : Nat
  time : Nat
  bytes : List Byte
  deriving DecidableEq, Repr

/-- The frame that is being written to its slot (R287). -/
structure ClsCur where
  ring : Nat
  addr : Nat
  data : List Byte
  acked : Nat
  tmpl : Option Nat
  time : Nat
  mgmt : Bool
  landed : Bool
  /-- its lane buffer held an uncorrectable granule (R342) -/
  poison : Bool
  deriving DecidableEq, Repr

structure ClsSt where
  q : List RxWait := []
  cur : Option ClsCur := none
  /-- the template request of the frame before has not been accepted -/
  tmplWait : Bool := false
  /-- the next sequence number of each ring -/
  seqs : SMap Nat := []
  deriving DecidableEq, Repr

structure SerSt where
  lanes : SMap LaneSt := []
  ports : SMap PortSt := []
  cls : SMap ClsSt := []
  /-- the chain port's upstream and downstream sides have come up -/
  upUp : Bool := false
  downUp : Bool := false
  deriving DecidableEq, Repr

/-! ## Configuration (ch. 03, 04) -/

/-- A frame of configuration cells: 3,072 data bits and the frame check (R49). -/
structure CFrame where
  data : BitVec 3072
  chk : BitVec 16
  deriving DecidableEq, Repr

/-- The sending side of the chain port (R64 to R67). -/
structure ChainSt where
  /-- bytes of the forwarded section still to come, and the position of the device it goes to -/
  fwdLeft : Nat := 0
  fwdDev : Nat := 0
  /-- the next packet opens the section -/
  sos : Bool := false
  txSeq : Nat := 0
  /-- packets sent and not acknowledged, with their timeouts -/
  unacked : List (ChainPkt × Nat) := []
  /-- the forwarding of the chain has stopped -/
  stopped : Bool := false
  /-- a section waits for the port to come up -/
  waitPort : Bool := false
  rxSeq : Nat := 0
  deriving DecidableEq, Repr

structure CfgSt where
  /-- intake bytes not yet taken, and their source: 0 the window, 1 the chain port -/
  buf : List Byte := []
  src : Nat := 0
  /-- the header of the section in progress -/
  hdr : Option (List Byte) := none
  /-- the block awaited and the digest it must have -/
  blk : Nat := 0
  digest : Nat := 0
  /-- verified words not yet executed, and the number of the first in the command stream -/
  words : List Word := []
  pos : Nat := 0
  far : Option Nat := none
  ended : Bool := false
  /-- a partial load has failed, and the rest of its section is being discarded (R82) -/
  ending : Bool := false
  anyFrame : Bool := false
  /-- the dike was closed by this load (R80) -/
  dike : Bool := false
  /-- frame addresses written in this load (R53, R81) -/
  written : List Nat := []
  decls : List (Nat × List Word) := []
  /-- the working key; none when there is none -/
  key : Option (List Byte) := none
  /-- bytes of the section still to discard -/
  drop : Nat := 0
  /-- µs since the intake of the section began, and those it stood starved -/
  us : Nat := 0
  starved : Nat := 0
  /-- CFG_DONE is high; CFG_ERR_N is held low -/
  done : Bool := false
  err : Bool := false
  /-- the configuration cells of the four tiles -/
  frames : SMap CFrame := []
  /-- how often a tile has lost the contents of its block RAM since they were last cleared (R38) -/
  bramLost : SMap Nat := []
  /-- window data that the intake buffer has no room for: the endpoint withholds the credits of it (R60) -/
  wait : List Byte := []
  /-- frames accepted by the writers of the tiles and not yet written -/
  writers : SMap (List (Nat × CFrame)) := []
  chain : ChainSt := {}
  deriving DecidableEq, Repr

/-- A tile's scrubber (R92). -/
structure ScrubSt where
  /-- the next frame, as an index in ascending address order; none outside a lap -/
  at_ : Option Nat := none
  skip : Nat := 0
  us : Nat := 0
  deriving DecidableEq, Repr

/-- The border of a polder (R80, R84, R87). -/
structure Border where
  /-- outward sluices pass their signals; else they apply their settings -/
  out : Bool := false
  /-- inward sluices follow their sources; else they are frozen -/
  inward : Bool := false
  /-- the user clocks run; the user reset is released -/
  clocks : Bool := false
  released : Bool := false
  /-- how often the user flip-flops and block RAM outputs have taken their image values -/
  image : Nat := 0
  deriving DecidableEq, Repr

/-- The fabric of a tile outside its polders (R69 to R71, R419). -/
structure FabTile where
  /-- step 4 of R70 has run: engine shells enabled, sluices open, fabric-driven pins enabled -/
  released : Bool := false
  /-- how often the user flip-flops and block RAM outputs have taken their image values -/
  image : Nat := 0
  deriving DecidableEq, Repr

/-- What a sluice puts out (R86, R87). -/
inductive SluiceOut where
  /-- it carries no signal -/
  | none
  /-- the signal of the other side -/
  | passes
  /-- the value it had when it closed: MODE 0 or 3, or a frozen inward sluice -/
  | held
  | zero
  | one
  deriving DecidableEq, Repr

/-- What a fabric user I/O ball is (R419). -/
inductive BallOut where
  | highZ
  /-- the direction, pull and drive of the image -/
  | image
  /-- driven from inside a polder, through a sluice -/
  | sluice (x : SluiceOut)
  deriving DecidableEq, Repr

structure PldSt where
  border : SMap Border := []
  fab : SMap FabTile := []
  /-- word 3 of the declaration of each polder: RSTREL and MASTER -/
  flags : SMap Word := []
  /-- polders whose user reset has been released and whose sluices are about to open: the polder, and whether a load ends with it -/
  starting : List (Nat × Bool) := []
  /-- polders that run the check of R90 over retained frames -/
  retained : List Nat := []
  scrub : SMap ScrubSt := []
  /-- polders whose closed period has logged code 0x034 -/
  isoLogged : List Nat := []
  deriving DecidableEq, Repr

/-! ## Time (ch. 09) -/

/-- A replica of lattice time (R232): the time it last loaded, the rate it was given (units of 2^-44), and how far it now is ahead of the
master, in units of 2^-60 ns. -/
structure Replica where
  loaded : Nat
  rate : Int
  off : Int
  deriving DecidableEq, Repr

structure TimSt where
  /-- FFO in units of 2^-44, and its values at the last 300 whole seconds, newest first -/
  ffo : Int := 0
  hist : List Int := []
  /-- a step for the next whole µs: a set time (true), or an amount to add, in units of 2^-16 ns -/
  pend : Option (Bool × Int) := none
  /-- numbers of the next USEC, SLOT and SYM ticks, counted from lattice time 0; the symbol of the next SYM tick -/
  usecNext : Nat := 1
  slotJ : Nat := 0
  symJ : Nat := 0
  symN : Nat := 0
  /-- ADV in force, and the one that holds from a slot start on (R252) -/
  adv : Nat := 0
  advNew : Option (Nat × Nat) := none
  /-- the time of the next USER tick -/
  user : Nat := 0
  /-- past the last SYM or SLOT tick, and past the last USER tick, so that none repeats (R244) -/
  symPast : Nat := 0
  userPast : Nat := 0
  /-- PPS_OUT settings in force, its last rising edge, its level and the TIM cycles left of the pulse -/
  ppsCfg : Word := 0x40000000
  ppsOff : Nat := 0
  ppsLast : Option Nat := none
  ppsHigh : Bool := false
  ppsLeft : Nat := 0
  /-- µs of the running ms, TIM cycles of the running µs, and the remainder the master counter carries, in units of 2^-60 ns (R230) -/
  us : Nat := 0
  cyc : Nat := 0
  acc : Nat := 0
  /-- the replicas that have loaded: tile t, and 8 + n for Xn -/
  reps : SMap (Option Replica) := []
  /-- the integral part of the loop, in units of 2^-76 (R243) -/
  integ : Int := 0
  /-- per source: the error its loop predicts, and consecutive outliers -/
  preds : SMap (Option Int) := []
  outl : SMap Nat := []
  /-- GNSS: the last edge, the last sentence's second, and ToD seconds less lattice seconds -/
  edge : Option Nat := none
  todPrev : Option Nat := none
  todOff : Int := 0
  /-- T, and the state of its filter in units of 2^-24 °C (R245) -/
  temp : Int := 0
  tacc : Option Int := none
  /-- seconds that STATE has been LOCKED, and since the last sample; the samples of the model: T, the mean correction, the age (R246) -/
  lockedSec : Nat := 0
  sampleSec : Nat := 0
  samples : List (Int × Int × Nat) := []
  /-- F_e and y_e (2^-68), seconds of learning -/
  fe : Int := 0
  ye : Int := 0
  learn : Nat := 0
  /-- snapshots of R231: requester, time -/
  snaps : List (Nat × Nat) := []
  deriving DecidableEq, Repr

structure RtcSt where
  /-- the battery-backed key, in the byte order of AES -/
  key : List Byte := List.replicate 32 0
  /-- key words written and not committed -/
  stage : SMap Word := []
  secs : Nat := 0
  /-- the subsecond count -/
  sub : Nat := 0
  /-- the crystal: millionths of a count, and counts modulo 2^20 (R255) -/
  ph : Nat := 0
  cnt : Nat := 0
  snaps : List (Nat × Nat) := []
  deriving DecidableEq, Repr

/-! ## Die links (ch. 12) -/

/-- A die-link module beyond its registers. -/
structure LnkMod where
  /-- the delay has been measured since the last change of width, so time pulses pass (R310) -/
  pulses : Bool := false
  /-- the training in progress is a retrain (R303) -/
  retraining : Bool := false
  /-- a narrowing step in progress: width, group, direction B to A, lane (R305) -/
  narrow : Option (Nat × Nat × Bool × Nat) := none
  /-- OOS = 1 takes effect at the next state boundary (R307) -/
  oosDue : Bool := false
  /-- lanes flagged while an action runs: direction B to A, lane (R308) -/
  held : List (Bool × Nat) := []
  /-- replays of the first unacknowledged flit, by direction -/
  repAB : Nat := 0
  repBA : Nat := 0
  /-- NoC flits in the retry buffers -/
  bufAB : Nat := 0
  bufBA : Nat := 0
  /-- replays in the running window, its µs, and whether a lane was flagged in it -/
  win : Nat := 0
  winUs : Nat := 0
  flagged : Bool := false
  deriving DecidableEq, Repr

/-! ## DRAM channels (ch. 13) -/

/-- A stored DRAM granule: 64 data bits and 16 check bits (R333). -/
structure DGran where
  data : DWord
  chk : BitVec 16
  deriving DecidableEq, Repr

/-- A request that a DRAM controller has accepted and not answered. -/
structure MemReq where
  id : Nat
  pkt : Pkt
  write : Bool
  /-- lines still to come -/
  left : Nat
  /-- read data by line address -/
  parts : SMap (List Byte) := []
  poison : Bool := false
  err : Bool := false
  deriving DecidableEq, Repr

/-- An entry of a read queue. -/
structure RdEnt where
  seq : Nat
  req : Nat
  /-- physical address of the line -/
  line : Nat
  /-- bytes of older queued writes, that overlay what DRAM returns (R321) -/
  laid : List (Option Byte)
  issued : Bool := false
  at_ : Nat
  /-- the line is being read once more (R341) -/
  retry : Bool := false
  deriving DecidableEq, Repr

/-- An entry of a write queue. -/
structure WrEnt where
  seq : Nat
  /-- the number of the last write merged into it -/
  last : Nat
  line : Nat
  /-- the writes merged, oldest first: the request that waits for the merge, and the bytes -/
  ws : List (Option Nat × List (Option Byte))
  /-- the marker is to be stored -/
  poison : Bool := false
  /-- a corrected line that is written back (R339) -/
  raw : Option (List DGran) := none
  /-- its read is on the way (R319) -/
  reading : Bool := false
  retry : Bool := false
  /-- requester of the last write -/
  src : Nat
  scrub : Bool := false
  deriving DecidableEq, Repr

/-- A throttle (R325): bank, requester (none: every requester), row where every requester is meant, time of the last activate. -/
structure Throttle where
  bank : Nat
  req : Option Nat
  row : Nat
  last : Nat
  deriving DecidableEq, Repr

/-- A DRAM channel. -/
structure ChanSt where
  /-- granules by device place: ((bank, row), column) × 16 + granule -/
  cells : SMap DGran := []
  /-- granules written under the other code, and not written since the code changed (R333) -/
  other : SMap DGran := []
  lost : Nat := 0
  reqs : List MemReq := []
  rq : List RdEnt := []
  wq : List WrEnt := []
  seq : Nat := 0
  /-- reads issued, oldest first: the sequence number of a read entry, or of a write entry (true) -/
  flight : List (Bool × Nat) := []
  drain : Bool := false
  /-- requests held by each regulator (writes marked), and its tokens in halves -/
  held : SMap (List (Bool × Pkt)) := []
  tok : SMap Int := []
  /-- refreshes owed by rank -/
  owed : SMap Nat := []
  /-- open rows by bank: row, consecutive accesses -/
  open_ : SMap (Nat × Nat) := []
  /-- rotating pointers by bank (R323) -/
  ptr : SMap Nat := []
  /-- activates of the window by bank × 2^18 + row; throttles; banks that owe a neighbour refresh; rolling counts by bank -/
  acts : SMap Nat := []
  thr : List Throttle := []
  nr : List Nat := []
  rolling : SMap Nat := []
  /-- ALERT_N is low; a reissue follows its release; consecutive failed reissues -/
  alert : Bool := false
  reissue : Bool := false
  reissues : Nat := 0
  /-- a short retrain runs (R329, R332) -/
  retrain : Bool := false
  /-- the time of SRE; the channel went OFF in self-refresh from a trained, working state; it has trained since power-on -/
  srAt : Nat := 0
  kept : Bool := false
  /-- a warm reset has taken it there (R330) -/
  warm : Bool := false
  trained : Bool := false
  /-- the first training sequence has failed -/
  second : Bool := false
  /-- the delays in force, and a drift to apply at the next refresh -/
  osc : Int := 0
  drift : Option Int := none
  /-- the scrubber: next line, windows of the lap, µs of the lap -/
  pos : Option Nat := none
  wins : List (Nat × Nat) := []
  lapUs : Nat := 0
  deriving DecidableEq, Repr

/-! ## Protected ranges (ch. 14) -/

/-- A counter block: MAJOR, the MINORs listed by child (R354). -/
structure CtrBlk where
  major : Nat := 0
  minors : SMap Nat := []
  dirty : Bool := false
  /-- wrong bits of its copy in the cache, by granule (R337, R355) -/
  err : SMap Gran := []
  deriving DecidableEq, Repr

structure RangeSt where
  key : List Byte := []
  root : CtrBlk := {}
  /-- rotation began from READONLY -/
  fromRo : Bool := false
  /-- pages whose re-encryption is in progress -/
  busy : List Nat := []
  /-- blocks that failed: level, number -/
  bad : List (Nat × Nat) := []
  deriving DecidableEq, Repr

structure IceSt where
  ranges : SMap RangeSt := []
  /-- the cached counter blocks of all tiles: (range × 8 + level) × 2^32 + number -/
  cache : SMap CtrBlk := []
  /-- corrections since the last record of each bucket: of the DRAM channels by number, of the SRAMs by bucket register -/
  since : SMap Nat := []
  /-- wrong bits of SRAM words (R337): unit × 2^32 + word index ↦ the bits that differ from what was written -/
  errs : SMap Gran := []
  deriving DecidableEq, Repr

/-! ## Management (ch. 16) -/

/-- A flash operation of the command interface in progress: OP, address, length. -/
structure FlashOp where
  op : Nat
  addr : Nat
  len : Nat
  deriving DecidableEq, Repr

/-- The local power controller of a die (R382, R383). -/
structure LpcSt where
  /-- the budget applied, none until a first message or its timeout; and a budget message on its way -/
  budget : Option Nat := none
  msg : Option Nat := none
  /-- consecutive 1 µs averages below 15/16 of the budget -/
  low : Nat := 0
  /-- throttle demanded by the budget and by temperature -/
  lvl : Nat := 0
  therm : Nat := 0
  /-- ms below THROT − 3 °C -/
  cool : Nat := 0
  /-- no report has come for 1 ms: the demand is taken as CAP -/
  silent : Bool := false
  deriving DecidableEq, Repr

structure MgmSt where
  /-- the watchdog's count in ms -/
  wd : Nat := 1000
  /-- the watchdog expired and the ROM has not logged it -/
  wdogBoot : Bool := false
  /-- the body the ROM loaded into management SRAM, and the SVN and key slot it was verified with -/
  sram : List Byte := []
  runSvn : Nat := 0
  runSlot : Nat := 0
  /-- what runs came through the recovery aperture, and no bank is booted (R393) -/
  fromRecov : Bool := false
  recov : SMap Word := []
  /-- the SPI NOR flash -/
  flash : SMap Byte := []
  flOp : Option FlashOp := none
  /-- the log: scanned, and its sector's sequence number -/
  scanned : Bool := false
  logSeq : Nat := 0
  /-- records lost while the queue was full -/
  flLost : Nat := 0
  /-- the PMBus transaction in progress -/
  pmb : Option Word := none
  /-- voltage monitors whose last reading lay outside its limits -/
  vOut : List Nat := []
  /-- sensors that have failed -/
  sFail : List Nat := []
  /-- dies at a thermal limit, with the hysteresis of R380: (die, 0 WARN, 1 THROT, 2 TRIP) -/
  atLim : List (Nat × Nat) := []
  lpc : SMap LpcSt := []
  /-- registers of the management cores written while they are halted, by the numbers of ch. 17; and the halts so far -/
  core : SMap Word := []
  halts : Nat := 0
  deriving DecidableEq, Repr

end Sys2Proof.Machine
end

