-- ==== Sys2Proof/Machine/Ecc.lean ====
section
/-! DEFINITION. The check codes of the memories: the two DRAM codes over GF(16) (R334 to R336), the (72,64) code of the SRAMs
(R337), and the poison markers (R338). -/

namespace Sys2Proof.Machine

/-- What a granule is found to be. -/
inductive EccState where
  | clean
  | corrected
  | poison
  | uncorrectable
  deriving DecidableEq, Repr

/-! ## The (72,64) code -/

/-- The columns of the data bits (table "(72,64) check matrix"). -/
def secdedCols : List Nat :=
  [0x07, 0x0B, 0x0D, 0x0E, 0x13, 0x15, 0x16, 0x19, 0x1A, 0x1C, 0x23, 0x25, 0x26, 0x29, 0x2A, 0x2C] ++
  [0x31, 0x32, 0x34, 0x38, 0x43, 0x45, 0x46, 0x49, 0x4A, 0x4C, 0x51, 0x52, 0x54, 0x58, 0x61, 0x62] ++
  [0x64, 0x68, 0x70, 0x83, 0x85, 0x86, 0x89, 0x8A, 0x8C, 0x91, 0x92, 0x94, 0x98, 0xA1, 0xA2, 0xA4] ++
  [0xA8, 0xB0, 0xC1, 0xC2, 0xC4, 0xC8, 0xD0, 0xE0, 0x1F, 0x2F, 0x37, 0x3B, 0x3D, 0x3E, 0x4F, 0x57]

/-- The XOR of the columns of the 1 bits of `x`, from the least significant bit on. -/
def xorCols : List Nat → Nat → Nat
  | [], _ => 0
  | c :: l, x => (if x % 2 = 1 then c else 0) ^^^ xorCols l (x / 2)

/-- R337: the check bits of a granule. -/
def secdedEncode (d : DWord) : BitVec 8 := BitVec.ofNat 8 (xorCols secdedCols d.toNat)

/-- The place of a column, when it is one. -/
def indexOfCol : List Nat → Nat → Nat → Option Nat
  | [], _, _ => none
  | c :: l, s, i => if c = s then some i else indexOfCol l s (i + 1)

/-- R337: the data delivered, and what was found. -/
def secdedRead (g : Gran) : DWord × EccState :=
  let syn := (secdedEncode g.data ^^^ g.chk).toNat
  if syn = 0 then (g.data, .clean)
  else if syn = 0x7F then (g.data, .poison)
  else if (List.range 8).any (fun i => decide (syn = 2 ^ i)) then (g.data, .corrected)
  else
    match indexOfCol secdedCols syn 0 with
    | some i => (g.data ^^^ BitVec.ofNat 64 (2 ^ i), .corrected)
    | none => (g.data, .uncorrectable)

/-- A stored granule with valid check bits. -/
def mkGran (d : DWord) : Gran := ⟨d, secdedEncode d⟩

/-- R338: the SRAM poison marker. -/
def poisonGran : Gran := ⟨0, 0x7F⟩

/-! ## The DRAM codes -/

/-- The product in GF(16), with x^4 + x + 1 (R333). -/
def gfMul (a b : Nat) : Nat :=
  let red (x : Nat) := if x ≥ 16 then x ^^^ 19 else x
  let a1 := red (a * 2)
  let a2 := red (a1 * 2)
  let a3 := red (a2 * 2)
  (if b % 2 = 1 then a else 0) ^^^ (if b / 2 % 2 = 1 then a1 else 0) ^^^ (if b / 4 % 2 = 1 then a2 else 0)
    ^^^ (if b / 8 % 2 = 1 then a3 else 0)

/-- The untagged columns of D0 to D15 (R334). -/
def untaggedCols : List (List Nat) :=
  [[0x1, 0x1, 0x1, 0x1], [0x1, 0x2, 0x4, 0x8], [0x1, 0x4, 0x3, 0xC], [0x1, 0x8, 0xC, 0xA], [0x1, 0x3, 0x5, 0xF],
   [0x1, 0x6, 0x7, 0x1], [0x1, 0xC, 0xF, 0x8], [0x1, 0xB, 0x9, 0xC]] ++
  [[0x1, 0x5, 0x2, 0xA], [0x1, 0xA, 0x8, 0xF], [0x1, 0x7, 0x6, 0x1], [0x1, 0xE, 0xB, 0x8], [0x1, 0xF, 0xA, 0xC],
   [0x1, 0xD, 0xE, 0xA], [0x1, 0x9, 0xD, 0xF], [0x1, 0x1, 0x2, 0x8]]

/-- α^k. -/
def gfPow : Nat → Nat
  | 0 => 1
  | k + 1 => gfMul (gfPow k) 2

/-- The tagged columns of D0 to D15 and T (R335). -/
def taggedCols : List (List Nat) :=
  (List.range 15).map (fun j => [1, gfPow j, gfPow (2 * j % 15)]) ++ [[1, 1, 4], [1, 2, 3]]

/-- Nibble `j` of a number. -/
def nib (x j : Nat) : Nat := x / 2 ^ (4 * j) % 16

/-- The check nibbles of a list of information nibbles. -/
def gfChecks (k : Nat) : List (List Nat) → List Nat → List Nat
  | h :: hs, d :: ds => List.zipWith (· ^^^ ·) (h.map (fun c => gfMul c d)) (gfChecks k hs ds)
  | _, _ => List.replicate k 0

/-- The number that a list of nibbles holds, least significant first. -/
def ofNibs : List Nat → Nat
  | [] => 0
  | n :: l => n + 16 * ofNibs l

/-- R334, R335: the check bits of a granule; `tag` is the tag nibble in tagged mode. -/
def dramEncode (tagged : Bool) (d : DWord) (tag : Nat) : BitVec 16 :=
  let ds := (List.range 16).map (nib d.toNat)
  if tagged then BitVec.ofNat 16 (ofNibs (gfChecks 3 taggedCols (ds ++ [tag])) + tag * 4096)
  else BitVec.ofNat 16 (ofNibs (gfChecks 4 untaggedCols ds))

/-- Exactly one bit of a nibble is set. -/
def oneBit (u : Nat) : Bool := u = 1 || u = 2 || u = 4 || u = 8

/-- The first information nibble whose column matches the syndrome (R336). -/
def matchCol (syn : List Nat) : List (List Nat) → Nat → Option Nat
  | [], _ => none
  | h :: hs, j => if h.map (fun c => gfMul c (syn.headD 0)) = syn then some j else matchCol syn hs (j + 1)

/-- R336: the granule delivered (data and tag nibble), and what was found. -/
def dramRead (tagged : Bool) (g : DGran) : DGran × EccState :=
  let n := if tagged then 3 else 4
  let tag := if tagged then nib g.chk.toNat 3 else 0
  let want := dramEncode tagged g.data tag
  let syn := (List.range n).map (fun k => nib g.chk.toNat k ^^^ nib want.toNat k)
  let s0 := syn.headD 0
  let flip (j u : Nat) : DGran :=
    if j < 16 then ⟨g.data ^^^ BitVec.ofNat 64 (u * 2 ^ (4 * j)), g.chk⟩ else ⟨g.data, g.chk ^^^ BitVec.ofNat 16 (u * 4096)⟩
  if syn.all (fun x => x == 0) then (g, .clean)
  else
    let m := if s0 ≠ 0 ∧ (!tagged || oneBit s0) then matchCol syn (if tagged then taggedCols else untaggedCols) 0 else none
    match m with
    | some j => (flip j s0, .corrected)
    | none =>
      let nz := (List.range n).filter (fun k => decide (syn.getD k 0 ≠ 0))
      match nz with
      | [k] =>
        if tagged && !oneBit (syn.getD k 0) then (g, .uncorrectable)
        else (⟨g.data, g.chk ^^^ BitVec.ofNat 16 (syn.getD k 0 * 2 ^ (4 * k))⟩, .corrected)
      | _ =>
        if syn = (if tagged then [0, 0xF, 0xF] else [0, 0xF, 0xF, 0]) then (g, .poison) else (g, .uncorrectable)

/-- R338: the DRAM marker of a granule. -/
def poisonDGran : DGran := ⟨0, 0x0FF0⟩

end Sys2Proof.Machine
end

