-- ==== Sys2Proof/Machine/RegDef.lean ====
section
/-! DEFINITION. What a control register is: its fields, their access codes (R7), their ranges and encodings (R9, R20), and what
a write or a read makes of its word. -/

namespace Sys2Proof.Machine

/-- The access code of a field (R7), with the range or the encodings that R20 checks. -/
inductive FldKind where
  | rw
  | rwRange (lo hi : Nat)
  | rwEnc (l : List Nat)
  | ro
  | wo
  | woRange (lo hi : Nat)
  | woEnc (l : List Nat)
  | w1c
  | w1s
  | rc
  deriving DecidableEq, Repr

/-- Bits `[hi:lo]` of a register. Bits of no field are reserved (RSV). -/
structure Fld where
  hi : Nat
  lo : Nat
  kind : FldKind
  deriving DecidableEq, Repr

/-- One row of a register table: `count` registers at `off + stride × j`. `rst i j` is the reset value of register `j` of block
instance `i`. -/
structure RegDef where
  off : Nat
  stride : Nat := 4
  count : Nat := 1
  rst : Nat → Nat → Word := fun _ _ => 0
  flds : List Fld
  /-- the low half of a 64-bit register; the high half lies 4 bytes on (R6) -/
  pair : Bool := false

def fRw (hi lo : Nat) : Fld := ⟨hi, lo, .rw⟩
def fRng (hi lo mn mx : Nat) : Fld := ⟨hi, lo, .rwRange mn mx⟩
def fEnc (hi lo : Nat) (l : List Nat) : Fld := ⟨hi, lo, .rwEnc l⟩
def fRo (hi lo : Nat) : Fld := ⟨hi, lo, .ro⟩
def fWo (hi lo : Nat) : Fld := ⟨hi, lo, .wo⟩
def fWoRng (hi lo mn mx : Nat) : Fld := ⟨hi, lo, .woRange mn mx⟩
def fWoEnc (hi lo : Nat) (l : List Nat) : Fld := ⟨hi, lo, .woEnc l⟩
def fW1c (hi lo : Nat) : Fld := ⟨hi, lo, .w1c⟩
def fW1s (hi lo : Nat) : Fld := ⟨hi, lo, .w1s⟩
def fRc (hi lo : Nat) : Fld := ⟨hi, lo, .rc⟩

/-- A constant reset value. -/
def rst (v : Nat) : Nat → Nat → Word := fun _ _ => BitVec.ofNat 32 v

/-- A register of one word that is not repeated. -/
def reg1 (off v : Nat) (flds : List Fld) : RegDef := { off := off, rst := rst v, flds := flds }

/-- A register repeated `count` times at `stride`. -/
def regN (off stride count v : Nat) (flds : List Fld) : RegDef :=
  { off := off, stride := stride, count := count, rst := rst v, flds := flds }

/-- The row of a low half of a 64-bit register. -/
def lowHalf (r : RegDef) : RegDef := { r with pair := true }

/-- The check R20 makes of one field: the rejection code, or none. -/
def Fld.check (f : Fld) (v : Word) : Option Nat :=
  let x := bitsOf v f.hi f.lo
  match f.kind with
  | .rwRange a b | .woRange a b => if a ≤ x ∧ x ≤ b then none else some 0x01
  | .rwEnc l | .woEnc l => if l.contains x then none else some 0x02
  | _ => none

/-- R20: every field is checked before any field changes; the first one out of range gives the code. -/
def RegDef.check (r : RegDef) (v : Word) : Option Nat := r.flds.findSome? (fun f => Fld.check f v)

/-- What a write makes of one field of the stored word (R7). A WO field stores nothing. -/
def Fld.write (f : Fld) (v old : Word) : Word :=
  let x := bitsOf v f.hi f.lo
  let y := bitsOf old f.hi f.lo
  match f.kind with
  | .rw | .rwRange _ _ | .rwEnc _ => withBits old f.hi f.lo x
  | .w1c => withBits old f.hi f.lo (y - (y &&& x))
  | .w1s => withBits old f.hi f.lo (y ||| x)
  | _ => old

/-- The word after a write (R7): reserved and read-only bits keep their value. -/
def RegDef.merge (r : RegDef) (v old : Word) : Word := r.flds.foldl (fun w f => Fld.write f v w) old

/-- The word after a read: RC fields clear (R7). -/
def RegDef.afterRead (r : RegDef) (old : Word) : Word :=
  r.flds.foldl (fun w f => match f.kind with | .rc => withBits w f.hi f.lo 0 | _ => w) old

/-- The row of a table that holds offset `o`, with the index of the register in it. -/
def findReg : List RegDef → Nat → Option (RegDef × Nat)
  | [], _ => none
  | r :: l, o =>
    if r.off ≤ o ∧ (o - r.off) % r.stride = 0 ∧ (o - r.off) / r.stride < r.count then some (r, (o - r.off) / r.stride)
    else findReg l o

end Sys2Proof.Machine
end

