-- ==== Sys2Proof/Machine/RegTable.lean ====
section
/-! DEFINITION. The register tables of the manual: every control register with its offset, its reset value and its fields (R13 and
the register tables of the chapters). -/

namespace Sys2Proof.Machine

/-! ## The blocks of the control region (R13) -/

inductive Blk where
  | sys | cfg | pld | sch | tim | mbx | dbg | mem | ice | lnk | ser | cnv | mgm | rtc | eng
  deriving DecidableEq, Repr

/-- A span of the control region: base, block, span, stride of its instances (the span where there is one). -/
def blkSpans : List (Nat × Blk × Nat × Nat) :=
  [(0x0000000, .sys, 0x100000, 0x100000), (0x0100000, .cfg, 0x100000, 0x100000), (0x0200000, .pld, 0x100000, 0x100000),
   (0x0300000, .sch, 0x200000, 0x200000), (0x0500000, .tim, 0x100000, 0x100000), (0x0600000, .mbx, 0x4000, 0x100),
   (0x0700000, .dbg, 0x100000, 0x100000), (0x0800000, .mem, 0x80000, 0x10000), (0x0900000, .ice, 0x100000, 0x100000),
   (0x0A00000, .lnk, 0x1C000, 0x1000), (0x0B00000, .ser, 0x30000, 0x1000), (0x0C00000, .cnv, 0x100000, 0x40000),
   (0x0D00000, .mgm, 0x100000, 0x100000), (0x0E00000, .rtc, 0x100000, 0x100000), (0x1000000, .eng, 0x440000, 0x1000)]

/-- Where an offset of the control region lies. -/
structure RegLoc where
  blk : Blk
  inst : Nat
  /-- offset of the block instance in the control region -/
  base : Nat
  off : Nat
  deriving DecidableEq, Repr

/-- R13: the block instance and the offset in it; none outside every span. -/
def locate (o : Nat) : Option RegLoc :=
  blkSpans.findSome? (fun (b, k, n, st) =>
    if b ≤ o ∧ o < b + n then
      some ⟨k, (o - b) / st, b + (o - b) / st * st, (o - b) % st⟩
    else none)

/-! ## SYS: identity, windows, power and resets (ch. 01, 02) -/

/-- The write-status register of every block (R20): REJ and OVF are W1C. -/
def regWrstat : RegDef := reg1 0x004 0 [fW1c 31 31, fW1c 30 30, fRo 27 20, fRo 19 0]

/-- R34: a unit power register. -/
def pwrFlds : List Fld := [fRw 31 31, fRw 30 30, fRo 29 29, fRo 26 24, fRo 23 20]

/-- R418: the reset widths of the pin filters. -/
def pinFilterReset (j : Nat) : Word :=
  match j with
  | 0 => 0x19FA1919
  | 1 => 0x05191919
  | 2 => 0x00001902
  | _ => 0

/-- The upper half of SYS_MWIN targets (table "SYS_MWIN fields"). -/
def mwinBases (x : Nat) : Bool := x ≤ 0x01FF || x = 0x1000 || (0x2000 ≤ x && x ≤ 0x200F)

def regsSysPower : List RegDef :=
  [{ off := 0x000, rst := rst 0x102430B0, flds := [fRo 31 16, fRo 15 12, fRo 7 4, fRo 3 0] }, regWrstat,
   { off := 0x040, count := 32, rst := fun _ j => pinFilterReset j, flds := [fRw 31 24, fRw 23 16, fRw 15 8, fRw 7 0] },
   regN 0x0C0 4 16 0 [fRw 31 31, fRw 15 0],
   regN 0x100 4 4 0x80000000 pwrFlds, regN 0x110 4 4 0x80000000 pwrFlds, regN 0x120 4 8 0 pwrFlds,
   regN 0x140 4 48 0 pwrFlds, regN 0x200 4 64 0 pwrFlds, regN 0x300 4 32 0 pwrFlds,
   reg1 0x380 0 [fWo 31 24, fWo 1 1, fWo 0 0], reg1 0x384 0 [fWo 31 24, fWo 18 16, fWo 10 0],
   reg1 0x388 0 [fRo 31 31, fRo 18 16, fRo 10 0], reg1 0x38C 1 [fW1c 5 0], reg1 0x390 0 [fRo 31 31, fRo 3 3, fRo 2 0],
   reg1 0x394 0 [fRo 15 12, fRo 9 8, fRw 0 0], reg1 0x398 0x7000000A [fRw 31 31, fRw 30 28, fRng 15 0 1 1000],
   reg1 0x39C 0 [fRo 31 31, fW1c 11 8, fW1c 7 4],
   -- SYS_ENGCLK (ch. 05)
   regN 0x3A0 4 4 0x800004E2 [fRo 31 31, fRw 11 0]]

/-! ## SYS: the network (ch. 08) -/

def regsSysNet : List RegDef :=
  [reg1 0x10000 0 [fRw 0 0], reg1 0x10004 0 [fRo 31 0], reg1 0x10008 0 [fRc 31 0],
   regN 0x10100 4 1024 0 [fRo 31 31, fRo 5 4, fRo 3 0],
   regN 0x20000 0x40 256 0 [fRw 31 31, fRw 30 30, fEnc 29 28 [0, 1, 2], fRw 27 27, fRw 26 26, fRw 23 16,
     fEnc 15 12 [0, 4, 5], fRw 9 8, fRw 3 0],
   regN 0x20004 0x40 256 0x00010001 [fRng 28 16 1 4096, fRng 8 0 1 256],
   lowHalf (regN 0x20008 0x40 256 0 [fRw 31 0]), regN 0x2000C 0x40 256 0 [fRw 31 0],
   lowHalf (regN 0x20010 0x40 256 0 [fRw 31 0]), regN 0x20014 0x40 256 0 [fRw 31 0],
   regN 0x20018 0x40 256 0 [fRw 31 31, fRw 9 0], regN 0x2001C 0x40 256 0 [fRw 31 31, fRw 13 0],
   regN 0x20020 0x40 256 0 [fRw 31 0], regN 0x20024 0x40 256 0x2710 [fRng 31 0 1000 1000000],
   regN 0x20028 0x40 256 0 [fRw 31 16, fRo 15 0], regN 0x2002C 0x40 256 0 [fRo 31 29, fRo 28 24, fRo 7 0],
   regN 0x20030 0x40 256 0 [fRc 31 16, fRc 15 0], regN 0x30000 0x10 256 0 [fWo 31 0],
   regN 0x40000 0x40 512 0 [fRw 31 31, fRo 30 30, fEnc 29 28 [0, 1], fRw 27 27, fRw 25 24, fRw 23 16, fRw 15 12, fRw 11 8,
     fEnc 3 0 [0, 1, 2, 3, 4, 5]],
   regN 0x40004 0x40 512 1 [fRw 27 16, fRng 11 0 1 2048], lowHalf (regN 0x40008 0x40 512 0 [fRw 31 0]), regN 0x4000C 0x40 512 0 [fRw 31 0],
   lowHalf (regN 0x40010 0x40 512 0 [fRw 31 0]), regN 0x40014 0x40 512 0 [fRw 31 0], regN 0x40018 0x40 512 0 [fRw 23 0],
   regN 0x4001C 0x40 512 0x1F4 [fRng 15 0 1 65535], regN 0x40020 0x40 512 0 [fRw 31 31, fRw 20 16, fRw 13 0],
   regN 0x40024 0x40 512 0 [fRo 31 24, fRo 23 12, fRo 6 0], regN 0x40028 0x40 512 0 [fRc 31 16, fRc 15 0],
   regN 0x4002C 0x40 512 0 [fRc 31 16, fRc 15 0], regN 0x40030 0x40 512 0 [fRc 31 0],
   { off := 0x80000, stride := 4, count := 32768, flds := [fRw 31 31, fRw 9 0] }]

/-! ## SCH (ch. 07) -/

/-- Leaky-bucket settings, fields as ENG_ECC (R138). -/
def bucketFlds : List Fld := [fRo 31 24, fRng 23 16 1 255, fRng 11 0 1 4000]

def regsSch : List RegDef :=
  [reg1 0x000 0xC10003E8 [fRw 31 31, fRw 30 30, fRw 26 24, fRng 15 0 10 60000], regWrstat,
   reg1 0x008 0x80000000 [fRo 31 31, fRo 15 15, fRo 14 0], reg1 0x00C 0x400 [fRng 14 0 0 16384],
   reg1 0x014 0 [fRo 31 31, fRo 16 0], regN 0x020 4 4 0 [fRw 31 31, fRw 1 0], regN 0x030 4 4 0 [fRw 31 0],
   regN 0x040 4 4 0 [fRo 31 0], reg1 0x050 0x00400064 [fRng 22 16 1 64, fRng 13 0 1 10000],
   reg1 0x054 0 [fRc 31 16, fRc 15 0], reg1 0x058 0 [fWo 20 16, fWo 13 0], reg1 0x05C 0 [fWo 31 31, fWo 13 0],
   reg1 0x060 0x00080064 bucketFlds, reg1 0x064 0 [fRc 31 0], reg1 0x068 0 [fRo 31 31, fRo 30 30, fRo 15 0],
   regN 0x080 4 8 0 [fRc 31 0], lowHalf (reg1 0x0A0 0 [fRo 31 0]), reg1 0x0A4 0 [fRo 31 0], reg1 0x0A8 0 [fRo 31 0],
   reg1 0x0AC 0 [fRc 31 0], lowHalf (regN 0x100 0x10 16 0 [fRw 31 0]), regN 0x104 0x10 16 0 [fRw 31 0],
   regN 0x108 0x10 16 0x00040000 [fRw 31 31, fRo 30 30, fRw 29 29, fRw 28 28, fRng 20 16 4 16, fRw 10 0],
   regN 0x10C 0x10 16 0 [fRw 31 16, fRo 15 0],
   regN 0x200 4 16 0 [fRw 31 0], regN 0x280 4 16 0 [fRw 31 0], regN 0x300 4 16 0 [fRw 31 0], regN 0x380 4 16 0 [fRw 31 0],
   regN 0x240 0x80 4 0 [fWo 1 1, fWo 0 0], regN 0x244 0x80 4 0 [fRo 31 31, fRo 30 30, fRo 29 29, fRo 27 24, fRo 13 0],
   reg1 0x800 0 [fWo 31 0], reg1 0x840 0 [fWo 31 0], reg1 0x880 0 [fWo 20 16, fWo 13 0],
   { off := 0x1000, stride := 4, count := 1024, rst := fun _ j => BitVec.ofNat 32 (0x20000000 + 272 * (j / 256) + 17 * (j % 256 / 16) + j % 16),
     flds := [fRo 31 29, fRo 28 28, fRo 27 27, fRo 26 26, fRo 25 25, fRo 23 16, fRo 10 0] },
   regN 0x40000 0x10 16384 0 [fRo 31 29, fRo 28 26, fRo 25 25, fRo 24 24, fRo 23 22, fRo 9 0],
   regN 0x40004 0x10 16384 0 [fRo 31 0], regN 0x40008 0x10 16384 0 [fRo 31 0],
   regN 0x80000 8 16384 0 [fRw 31 31, fRw 30 30], regN 0x80004 8 16384 0 [fRo 31 31, fRo 29 16, fRo 14 0],
   regN 0xA0000 4 16384 0 [fRw 31 0], regN 0x100000 4 262144 0 [fRo 31 0]]

/-! ## MBX (ch. 15) -/

/-- MBX_CFG: CROSSWIN 100 µs; the cluster of MB56 to MB63. -/
def mbxCfgReset (n : Nat) : Word :=
  BitVec.ofNat 32 (0x64 + if 56 ≤ n then (16 * ((n - 56) % 4) + (n - 56) / 4) * 65536 else 0)

def regsMbx : List RegDef :=
  [{ off := 0x000, rst := fun i _ => mbxCfgReset i, flds := [fRw 21 16, fRng 13 0 10 10000] }, regWrstat,
   reg1 0x008 0 [fRo 31 31, fRo 15 0], regN 0x040 0x40 2 0 [fWo 31 0],
   regN 0x044 0x40 2 0 [fRo 31 31, fW1c 30 30, fW1c 29 29, fRo 28 24, fRo 20 16, fRo 12 8, fRo 7 4, fRo 3 0],
   lowHalf (regN 0x048 0x40 2 0 [fRo 31 0]), regN 0x04C 0x40 2 0 [fRo 31 31, fRo 27 24, fRo 20 16],
   regN 0x050 0x40 2 0 [fW1s 31 0], regN 0x054 0x40 2 0 [fW1c 31 0], regN 0x060 0x40 2 0 [fRw 31 0],
   regN 0x064 0x40 2 0 [fRw 31 31, fRw 28 28, fRw 20 16, fRw 13 0]]

/-! ## ENG (ch. 05, 06) -/

/-- ENG_PLACE at reset (R146): positions 0 to 15 STALE with their logical engine, position 16 SPARE. -/
def placeReset (p : Nat) : Word :=
  let i := p % 17
  BitVec.ofNat 32 (if i = 16 then 0x00000100 else 0x40000100 + (256 * (p / 272) + 16 * (p % 272 / 17) + i) * 65536)

def regsEng : List RegDef :=
  [reg1 0x000 0x100 [fWo 31 24, fRw 8 8, fWo 1 1, fWo 0 0], regWrstat, reg1 0x008 0 pwrFlds,
   { off := 0x00C, rst := fun i _ => placeReset i, flds := [fRo 31 29, fRo 25 16, fRo 8 8, fRo 7 0] },
   reg1 0x010 0 [fRo 2 2, fRo 1 1, fW1c 0 0], reg1 0x014 0 [fRo 31 31, fRo 30 30, fRo 15 0],
   reg1 0x018 0x800003E8 [fRw 31 31, fRng 19 0 1 1000000], reg1 0x01C 0 [fRo 31 0],
   reg1 0x020 0x100 [fRo 31 31, fRo 30 30, fRo 29 29, fRo 15 12, fEnc 9 8 [1, 2, 3], fWo 0 0],
   reg1 0x024 0x00080064 bucketFlds, reg1 0x028 0 [fRc 31 0], reg1 0x02C 0 [fRo 31 31, fRo 17 3], reg1 0x030 0 [fRc 31 0],
   reg1 0x100 0 [fW1c 31 31, fW1c 30 30, fRo 29 29, fRo 28 28, fRo 23 16, fRo 7 0], reg1 0x104 0 [fRo 17 16, fRo 11 0],
   lowHalf (reg1 0x108 0 [fRo 31 0]), reg1 0x10C 0 [fRo 15 0], reg1 0x110 0 [fRc 31 0], reg1 0x114 0 [fRo 31 0], reg1 0x118 0 [fRo 31 0],
   reg1 0x11C 0 [fRo 31 0], reg1 0x120 0 [fRo 31 0]]

/-! ## DBG (ch. 17) -/

/-- DBG_ECFG and DBG_MCFG. -/
def haltCfgFlds : List Fld := [fRo 31 31, fRo 30 28, fRw 27 27, fRw 26 26, fRw 23 16, fRw 15 8, fWo 2 2, fWo 1 1, fWo 0 0]

def regsDbg : List RegDef :=
  [reg1 0x000 0x80000000 [fRw 31 31, fRw 30 30, fRw 29 29, fRw 28 28], regWrstat,
   reg1 0x008 0 [fRo 31 31, fRo 30 30, fRo 29 29, fRo 10 0], reg1 0x00C 0xA [fRng 9 0 1 1000],
   reg1 0x010 0 [fRo 31 31, fW1c 30 30, fRw 1 0], reg1 0x020 0 [fW1c 7 0], reg1 0x024 0 [fWo 7 0], reg1 0x028 0 [fWo 7 0],
   reg1 0x040 0 [fRo 31 31, fRo 30 28, fRw 27 27, fRw 23 16, fRw 15 8, fWo 2 2, fWo 1 1, fWo 0 0],
   regN 0x080 4 4 0 [fRw 15 8, fRw 7 0], regN 0x100 0x40 2 0 [fWo 31 31, fRw 30 30, fEnc 26 24 [0, 1, 2, 3, 4, 5], fRw 4 4],
   regN 0x104 0x40 2 0 [fRo 31 31, fRo 30 28], regN 0x108 0x40 2 0 [fRw 31 0], regN 0x10C 0x40 2 0 [fRw 15 0],
   regN 0x110 0x40 2 0 [fRw 31 0], regN 0x114 0x40 2 0 [fRw 31 0], regN 0x118 0x40 2 0 [fRw 31 0], regN 0x11C 0x40 2 0 [fRw 31 0],
   regN 0x10000 4 1088 0 haltCfgFlds]

/-! ## CNV (ch. 10) -/

/-- The four registers of a path: configuration, NCO (range), rate, status. -/
def cnvPathRegs (o lo hi : Nat) (tag : List Fld) : List RegDef :=
  [regN o 0x10 64 0 ([fRw 31 16, fEnc 11 8 [0, 1, 2, 3, 4, 5, 6, 7, 8, 9, 10, 11, 12]] ++ tag ++ [fRw 1 0]),
   regN (o + 4) 0x10 64 0x40000000 [fRng 31 0 lo hi], regN (o + 8) 0x10 64 0x00010001 [fRng 31 16 1 65535, fRng 15 0 1 65535],
   regN (o + 12) 0x10 64 0 [fRc 31 16, fRc 15 0]]

def regsCnv : List RegDef :=
  [reg1 0x000 0 [fRo 31 24, fRo 23 16, fRo 15 8, fRo 7 4, fRo 3 0], regWrstat, reg1 0x008 0 [fRo 31 29, fRo 27 26, fRo 25 24],
   reg1 0x00C 0 [fWo 0 0], reg1 0x010 0 [fRo 31 16, fRo 15 0]]
    ++ cnvPathRegs 0x100 0x0A3D70A4 0xB851EB85 [fRw 7 4] ++ cnvPathRegs 0x500 0x06666667 0x73333333 []
    ++ [regN 0x940 4 16 0 [fRc 31 0]]

/-! ## SER, the classifiers and the chain port (ch. 11) -/

def regsSer : List RegDef :=
  [reg1 0x000 0x002756CD [fRw 28 28, fEnc 25 24 [0, 1], fRw 23 0], regWrstat, reg1 0x008 0 [fRo 31 29, fRo 23 16, fRo 9 0],
   reg1 0x00C 0x004001F4 [fRw 31 31, fRng 23 16 1 255, fRng 15 0 10 5000], reg1 0x010 0 [fRw 1 0], reg1 0x014 0 [fRc 31 16, fRc 15 0],
   reg1 0x100 0x2580 [fRw 31 31, fEnc 30 28 [0, 1, 2, 3], fEnc 27 24 [0, 1, 2, 3, 4, 5, 6], fRw 23 22, fRng 15 0 64 9600],
   reg1 0x104 0 [fRo 31 31, fRo 29 29, fRo 28 28, fRo 7 0], reg1 0x108 0 [fRw 31 16, fRw 15 0],
   reg1 0x10C 0x3020 [fRw 31 24, fRw 23 23, fRng 15 8 1 255, fRng 7 0 1 255], regN 0x110 4 4 0 [fWo 31 0],
   reg1 0x120 0 [fRo 31 31, fRo 15 0], reg1 0x124 0 [fRo 31 0], reg1 0x128 0 [fRo 31 0], reg1 0x12C 0 [fRo 31 16, fRo 15 0],
   regN 0x130 4 6 0 [fRc 31 0], reg1 0x148 0 [fRc 31 16, fRc 15 0], regN 0x14C 4 2 0 [fRc 31 0]]

/-- The classifier of the tile at `b`. -/
def regsCls (b : Nat) : List RegDef :=
  [reg1 b 0 [fRw 31 31, fRw 30 30, fRw 27 24, fRw 15 0], reg1 (b + 4) 0 [fRc 31 16],
   lowHalf (regN (b + 0x100) 0x10 16 0 [fRw 31 0]), regN (b + 0x104) 0x10 16 0 [fRw 31 0],
   regN (b + 0x108) 0x10 16 0x00010001 [fRw 31 31, fRng 21 16 1 64, fRng 12 0 1 4096],
   regN (b + 0x10C) 0x10 16 0 [fRw 31 16, fRo 15 0], regN (b + 0x200) 4 16 0 [fRc 31 0],
   regN (b + 0x1000) 0x10 256 0 [fRw 31 31, fEnc 30 28 [0, 1, 2, 3], fRng 27 20 0 7, fRw 19 19, fRw 15 0],
   regN (b + 0x1004) 0x10 256 0 [fRw 31 16, fRw 15 0],
   regN (b + 0x1008) 0x10 256 0 [fRng 31 28 0 14, fEnc 25 24 [0, 1, 2], fRw 23 20, fRw 19 19, fRw 15 12, fRw 9 0],
   regN (b + 0x100C) 0x10 256 0 [fRw 31 31, fRng 15 0 0 9000]]

def regsChain : List RegDef :=
  [reg1 0xB0000 0 [fRw 1 1, fRw 0 0], reg1 0xB0004 0 [fRo 31 29, fRo 28 26, fRo 23 16, fRo 15 8], reg1 0xB0008 0 [fRc 31 16, fRc 15 0]]

/-! ## CFG and PLD (ch. 03, 04) -/

def regsCfg : List RegDef :=
  [reg1 0x000 0 [fRw 8 8, fWo 1 1, fWo 0 0], regWrstat, reg1 0x008 0 [fRo 31 29, fRo 28 28, fRo 27 27, fRo 25 24, fRo 23 12, fRo 11 4],
   reg1 0x00C 0x3E8 [fRng 15 0 1 60000], regN 0x010 4 5 0 [fRo 31 0],
   reg1 0x024 0 [fRo 31 24, fRo 23 18, fRo 17 16, fRo 14 12, fRo 4 1, fRo 0 0], reg1 0x028 0 [fRc 31 0],
   regN 0x040 4 15 0 [fRo 31 29, fRo 23 12]]

def regsPld : List RegDef :=
  [reg1 0x000 0x000F00A0 [fRw 19 16, fRng 8 0 26 270], regWrstat, regN 0x100 0x20 4 0 [fRo 31 0], regN 0x104 0x20 4 0 [fRo 31 0],
   regN 0x108 0x20 4 0 [fRc 31 0], regN 0x10C 0x20 4 0 [fRc 31 0], regN 0x110 0x20 4 0 [fRo 31 0], regN 0x114 0x20 4 0 [fRo 31 0],
   regN 0x400 0x40 32 0 [fRo 31 31, fRo 19 16, fRo 15 12, fRo 11 8, fRo 6 4, fRo 2 0], regN 0x404 0x40 32 0 [fRo 31 0],
   regN 0x408 0x40 32 0 [fRo 25 16, fRo 9 0], regN 0x40C 0x40 32 0 [fWo 1 1, fWo 0 0],
   regN 0x410 0x40 32 0 [fRo 27 16, fRo 15 8, fRo 7 7, fRo 6 6, fRo 2 0], regN 0x414 0x40 32 0 [fRo 31 0],
   regN 0x418 0x40 32 0 [fRo 31 0], regN 0x41C 0x40 32 0 [fRc 31 0]]

/-! ## MGM (ch. 16) -/

/-- Nominal ± 3 % of the rails in mV, HI and LO, rounded inwards (R421). -/
def vlimRails : List Nat :=
  [0x03380308, 0x073E06D2, 0x030402D8, 0x036B0339, 0x073E06D2, 0x030402D8, 0x030402D8, 0x030402D8,
   0x030402D8, 0x030402D8, 0x030402D8, 0x036B0339, 0x046D042B, 0x046D042B, 0x073E048C, 0x030402D8,
   0x04D4048C, 0x036B0339, 0x039F0369, 0x039F0369, 0x073E06D2, 0x040603CA, 0x039F0369, 0x073E06D2]

/-- The limits of the voltage monitors at reset (R381; the rail table of ch. 18). -/
def vlimReset (i : Nat) : Word := BitVec.ofNat 32 (vlimRails.getD i 0)

def budgetReset (d : Nat) : Nat := if d < 4 then 0x190 else if d = 4 then 0xD0 else 0x60
def capReset (d : Nat) : Nat := if d < 4 then 0x019000A0 else if d = 4 then 0x00D000A0 else 0x00600040

def regsMgm : List RegDef :=
  [reg1 0x000 0 [fRo 31 30, fRo 29 29, fRo 28 28, fRo 27 27, fRo 19 16, fRo 15 12, fRo 7 0], regWrstat,
   reg1 0x008 0 [fWo 31 24, fWo 0 0], reg1 0x00C 0x800003E8 [fRw 31 31, fRng 15 0 10 60000], reg1 0x010 0 [fWoRng 31 0 0xA55A 0xA55A],
   reg1 0x020 0 [fW1c 31 31, fW1c 7 7, fW1c 6 6, fRo 5 0], reg1 0x040 0 [fRo 9 0], reg1 0x044 0 [fRw 9 0],
   reg1 0x048 0 [fRc 31 22, fRc 21 11, fRc 10 0], reg1 0x04C 0x80000006 [fRw 31 31, fRw 3 0], reg1 0x050 0 [fRo 31 24, fRo 22 16, fRo 15 0],
   reg1 0x080 0 [fRw 31 31, fEnc 30 28 [0, 1, 2, 3, 4, 5], fRw 8 0], reg1 0x084 0 [fRw 25 0],
   reg1 0x088 0 [fRo 31 31, fRo 30 28, fRo 27 27], reg1 0x08C 0x07D01388 [fRng 31 16 100 10000, fRng 15 0 100 50000],
   reg1 0x0C0 0 [fWo 31 24, fWoEnc 9 8 [0, 1, 2], fWo 1 0], reg1 0x0C4 0 [fRo 29 24, fRo 21 16, fRo 3 0],
   reg1 0x100 0 [fRw 31 31, fRw 30 30, fRw 29 28, fRw 27 27, fRw 22 16, fRw 15 8, fRng 5 0 0 32],
   reg1 0x108 0 [fRo 31 31, fRo 30 28, fRo 5 0], reg1 0x10C 0x2311 [fRng 15 8 25 255, fEnc 5 4 [0, 1, 2], fEnc 1 0 [0, 1, 2]],
   regN 0x110 4 8 0 [fRw 31 0], regN 0x200 4 44 0 [fRo 31 31, fRo 15 0], reg1 0x300 0x00736964 [fRw 23 16, fRw 15 8, fRw 7 0],
   regN 0x380 4 24 0 [fRo 31 31, fRo 15 0], { off := 0x400, count := 24, rst := fun _ j => vlimReset j, flds := [fRw 31 16, fRw 15 0] },
   regN 0x480 4 12 0 [fRo 15 0], reg1 0x500 0x960 [fRng 11 0 320 2400], reg1 0x504 0x80000000 [fRw 31 31],
   { off := 0x540, stride := 0x10, count := 9, rst := fun _ j => BitVec.ofNat 32 (budgetReset j), flds := [fRw 11 0] },
   { off := 0x544, stride := 0x10, count := 9, rst := fun _ j => BitVec.ofNat 32 (capReset j), flds := [fRw 27 16, fRw 11 0] },
   regN 0x548 0x10 9 0 [fRo 27 16, fRo 11 0], regN 0x54C 0x10 9 0 [fRo 31 29, fRo 28 16, fRo 15 0], regN 0x1000 4 64 0 [fRw 31 0],
   regN 0x10000 4 8192 0 [fRo 31 0], regN 0x80000 4 131072 0 [fWo 31 0]]

/-! ## TIM and RTC (ch. 09) -/

def regsTim : List RegDef :=
  [reg1 0x000 0xC0000003 [fRw 31 31, fRw 30 30, fRw 29 29, fWo 28 28, fRw 26 26, fRw 25 24, fRw 2 0], regWrstat,
   reg1 0x008 0xF0F0 [fRo 31 0], regN 0x010 4 4 0 [fRo 31 0], reg1 0x020 0 [fRng 31 0 0 999999999], reg1 0x024 0 [fRw 31 0],
   reg1 0x028 0 [fRw 15 0], reg1 0x02C 0 [fWo 0 0], reg1 0x030 0x25 [fEnc 17 16 [0, 1, 2], fRng 15 0 0 255],
   reg1 0x034 0x000A0064 [fRng 31 16 1 3600, fRng 15 0 1 10000], reg1 0x038 0x003203E8 [fRng 31 16 1 10000, fRng 15 0 100 65535],
   regN 0x040 4 2 0 [fRo 31 0], regN 0x080 4 8 0 [fRw 31 31, fRw 30 28, fRng 27 16 0 3600, fRw 15 0], regN 0x0A0 4 8 0 [fRw 31 0],
   regN 0x0C0 4 8 0 [fRo 31 29, fRo 27 24, fRo 23 20, fRo 15 0], regN 0x0E0 0x10 2 0 [fRw 31 0],
   lowHalf (regN 0x0E8 0x10 2 0 [fRw 31 0]), regN 0x0EC 0x10 2 0 [fRw 31 0],
   reg1 0x100 0x80483C1E [fRng 31 26 0 43, fRng 25 16 1 720, fRng 15 8 10 255, fRng 7 0 1 255],
   reg1 0x104 0x140001E0 [fRng 31 24 1 255, fRng 19 0 1 43200], reg1 0x108 0 [fRo 31 28, fRo 15 0], reg1 0x10C 0 [fRo 31 0],
   regN 0x110 4 5 0 [fRw 31 0], reg1 0x124 0 [fRw 15 0], reg1 0x128 0x18 [fRng 15 0 1 8760], reg1 0x12C 0 [fRo 31 0],
   lowHalf (reg1 0x130 0 [fRw 31 0]), reg1 0x134 0 [fRw 31 0]] ++
  [reg1 0x140 0x00010001 [fRng 31 16 1 65535, fRng 15 0 1 65535], reg1 0x144 0xE [fRw 31 31, fRng 29 16 0 10000, fRng 5 0 1 32],
   reg1 0x148 0 [fRng 31 0 0 999999999], reg1 0x150 0 [fRw 31 31], reg1 0x154 0xF4240 [fRng 31 0 1000 1000000000],
   reg1 0x158 0 [fRng 31 0 0 999999999], reg1 0x15C 0x40000000 [fRw 31 31, fRw 30 30, fRng 28 16 0 5000],
   reg1 0x160 0 [fRng 31 0 0 999999999], regN 0x180 4 32 1 [fRng 23 0 1 16777215], reg1 0x200 0 [fRo 11 0],
   regN 0x210 4 12 0 [fRo 23 0]]

def regsRtc : List RegDef :=
  [reg1 0x000 0x60000000 [fRw 31 31, fRw 30 30, fRw 29 29], regWrstat,
   reg1 0x008 0x40000000 [fRo 31 31, fW1c 30 30, fRo 29 29, fW1c 28 28, fRo 27 27], reg1 0x010 0 [fRo 14 0], regN 0x014 4 2 0 [fRo 31 0],
   lowHalf (reg1 0x020 0 [fRw 31 0]), reg1 0x024 0 [fRw 31 0], reg1 0x028 0 [fRw 7 0], lowHalf (reg1 0x030 0 [fRw 31 0]),
   reg1 0x034 0 [fRw 31 0], regN 0x040 4 8 0 [fWo 31 0], reg1 0x060 0 [fWo 31 24, fWo 1 1, fWo 0 0], regN 0x080 4 16 0 [fRo 31 0]]

/-! ## SYS_DRAMIL and MEM (ch. 13) -/

def regsDramil : List RegDef := [reg1 0x50000 0x000C00FF [fEnc 31 30 [0, 1, 2], fRng 20 16 8 30, fRw 7 0]]

def regsMem : List RegDef :=
  [reg1 0x000 0x90000000 [fEnc 31 29 [0, 1, 2, 3, 4], fRw 28 28, fEnc 27 26 [0, 1, 2], fEnc 25 24 [0, 2], fRng 23 16 22 66,
     fRng 15 8 20 80, fRng 7 0 20 80], regWrstat,
   reg1 0x008 0 [fRo 31 29, fRo 28 28, fRo 27 27, fRo 22 16, fRo 14 8],
   reg1 0x00C 0 [fRng 28 24 16 18, fRng 19 16 6 7, fRng 13 12 2 3, fRng 9 8 1 2, fRng 5 4 0 2, fRng 1 0 0 1],
   reg1 0x010 0 [fRw 1 0], reg1 0x014 0x006403E8 [fRw 31 16, fRng 15 0 1 65535],
   reg1 0x018 0x40301014 [fRw 31 28, fRng 22 16 8 64, fRw 14 8, fRng 7 0 1 255],
   reg1 0x01C 0x1000A064 [fRng 31 16 64 65535, fRw 15 12, fRw 8 8, fRng 7 0 1 255],
   reg1 0x020 0 [fRo 31 16, fRo 5 0], reg1 0x024 0 [fRc 31 16, fRc 15 0], reg1 0x028 0 [fRc 31 0],
   reg1 0x02C 0 [fRc 31 16, fRc 15 0], reg1 0x030 0 [fRc 31 0], reg1 0x034 0 [fRo 31 29, fRo 27 24, fRo 15 0],
   reg1 0x038 0 [fRo 31 31, fRo 4 0], reg1 0x03C 0 [fRc 31 0],
   regN 0x100 0x10 16 0 [fRw 31 31, fRng 15 12 0 4, fRng 11 7 0 19], regN 0x104 0x10 16 0x00010001 [fRng 31 22 0 800, fRng 11 0 1 4095],
   regN 0x108 0x10 16 0 [fRo 31 31, fRo 11 0]]

/-! ## ICE (ch. 14) -/

def regsIce : List RegDef :=
  [reg1 0x000 0 [fRw 7 0], regWrstat, reg1 0x008 0 [fRo 31 31, fRo 30 30, fRo 15 0], reg1 0x00C 0 [fRo 31 0],
   regN 0x100 0x20 8 0x00080064 bucketFlds, regN 0x104 0x20 8 0 [fRc 31 0], regN 0x108 0x20 8 0 [fRc 31 0], regN 0x10C 0x20 8 0 [fRc 31 0],
   lowHalf (regN 0x110 0x20 8 0 [fRo 31 0]), regN 0x114 0x20 8 0 [fRo 31 0], regN 0x118 0x20 8 0 [fRo 31 31, fRo 30 30, fRo 19 16, fRo 15 0],
   regN 0x200 0x10 4 0x00080064 bucketFlds, regN 0x204 0x10 4 0 [fRc 31 0], regN 0x208 0x10 4 0x00080064 bucketFlds,
   regN 0x20C 0x10 4 0 [fRc 31 0], reg1 0x240 0x00080064 bucketFlds, reg1 0x244 0 [fRc 31 0],
   reg1 0x300 0x000A0E10 [fRw 31 31, fRng 30 16 1 32767, fRng 15 0 1 65535], regN 0x320 4 8 0 [fRo 31 0],
   lowHalf (regN 0x340 8 8 0 [fRo 31 0]), regN 0x344 8 8 0 [fRo 31 0], regN 0x380 4 8 0 [fRc 31 16, fRc 15 0],
   regN 0x400 0x10 16 0 [fRw 20 0], regN 0x404 0x10 16 0 [fRw 31 31, fRng 21 0 1 2097152],
   regN 0x800 0x40 8 0 [fRw 31 31], lowHalf (regN 0x808 0x40 8 0 [fRw 31 20, fRng 19 0 0 0]), regN 0x80C 0x40 8 0 [fRw 8 0],
   regN 0x810 0x40 8 1 [fRng 16 0 1 65536], lowHalf (regN 0x818 0x40 8 0 [fRw 31 20, fRng 19 0 0 0]), regN 0x81C 0x40 8 0 [fRw 8 0],
   regN 0x820 0x40 8 0 [fWo 31 24, fWo 0 0], regN 0x824 0x40 8 0 [fRo 31 29, fRo 28 28, fRo 27 27, fRo 2 0],
   regN 0x828 0x40 8 0 [fRo 23 0], regN 0x82C 0x40 8 0 [fRc 31 0], regN 0x830 0x40 8 0 [fRc 31 0], regN 0x834 0x40 8 0 [fRc 31 0],
   lowHalf (regN 0x838 0x40 8 0 [fRo 31 0]), regN 0x83C 0x40 8 0 [fRo 31 0]]

/-! ## LNK (ch. 12) -/

def regsLnk : List RegDef :=
  [reg1 0x000 0 [fWo 31 24, fWo 1 1, fRw 0 0], regWrstat,
   reg1 0x008 0 [fRo 31 28, fRo 27 26, fRo 25 24, fRo 23 23, fRo 22 22, fW1c 21 21, fRo 17 16, fRo 15 14, fRo 11 8],
   reg1 0x00C 0x08040064 [fRng 31 24 1 255, fRng 23 12 1 4095, fRng 11 0 1 4095],
   lowHalf (reg1 0x010 0 [fRo 31 0]), reg1 0x014 0 [fRo 31 0], lowHalf (reg1 0x018 0 [fRo 31 0]), reg1 0x01C 0 [fRo 31 0],
   reg1 0x020 0 [fRo 31 24, fRo 23 16, fRo 15 8, fRo 7 0], reg1 0x024 0 [fRo 31 24, fRo 23 16, fRo 15 8, fRo 7 0],
   reg1 0x028 0 [fRo 1 0], reg1 0x02C 0 [fRo 31 28, fRo 8 8, fRo 7 7, fRo 6 6, fRo 5 5], reg1 0x030 0 [fRo 23 0],
   reg1 0x034 0 [fRc 31 0], reg1 0x038 0 [fRc 31 0], reg1 0x03C 0 [fRc 31 16, fRc 15 0], reg1 0x040 0 [fRo 31 31, fRo 30 30, fRo 6 0]]

/-! ## Lookup -/

/-- The register table of a block. -/
def Blk.regs : Blk → List RegDef
  | .sys => regsSysPower ++ regsSysNet ++ regsDramil ++ regsChain ++ regsCls 0xC0000 ++ regsCls 0xC4000 ++ regsCls 0xC8000 ++ regsCls 0xCC000
  | .ser => regsSer
  | .cfg => regsCfg
  | .pld => regsPld
  | .mgm => regsMgm
  | .tim => regsTim
  | .rtc => regsRtc
  | .sch => regsSch
  | .mbx => regsMbx
  | .eng => regsEng
  | .dbg => regsDbg
  | .cnv => regsCnv
  | .mem => regsMem
  | .ice => regsIce
  | .lnk => regsLnk

/-- The register at an offset of the control region: its place, its row and its index in the row. -/
def regAt (o : Nat) : Option (RegLoc × RegDef × Nat) :=
  match locate o with
  | none => none
  | some l =>
    match findReg l.blk.regs l.off with
    | none => none
    | some (r, j) => some (l, r, j)

/-- The offset is the low half of a 64-bit register. -/
def isLowHalf (o : Nat) : Bool :=
  match regAt o with
  | none => false
  | some (_, r, _) => r.pair

/-- The offset is the high half of a 64-bit register. -/
def isHighHalf (o : Nat) : Bool := decide (4 ≤ o) && isLowHalf (o - 4)

/-- What every control register holds at reset; 0 where no register is. -/
def regReset (o : Nat) : Word :=
  match regAt o with
  | none => 0
  | some (l, r, j) => r.rst l.inst j

end Sys2Proof.Machine
end

