-- ==== Sys2Proof/Machine/State.lean ====
section
/-! DEFINITION. The state of the GN1024, the reasons a command can stop, and the state right after the power-on reset. -/

namespace Sys2Proof.Machine

/-- What the machine does not go on from. No command of this part ends so by a rule of the manual. -/
inductive Fault where
  /-- Reserved for a stop of the machine itself; no meaning raises it, since every event the manual names has an outcome. -/
  | halted
  deriving DecidableEq, Repr

/-- Why a command has no meaning here. -/
inductive Refusal where
  /-- A command whose meaning is not written; safe. -/
  | notModelled (mnemonic : String)
  deriving DecidableEq, Repr

/-- Pins, resets, host link, deep night and brown-out (ch. 02, 18). -/
structure SysSt where
  /-- POR_N as filtered; low at power-on -/
  porN : Bool := false
  g1 : Bool := false
  g2 : Bool := false
  g3 : Bool := false
  g4 : Bool := false
  /-- the internal power-on reset is asserted (R29) -/
  porActive : Bool := true
  /-- the straps have been sampled since the release (R30) -/
  strapped : Bool := false
  hubOn : Bool := false
  perstN : Bool := false
  linkUp : Bool := false
  /-- the endpoint answers configuration requests with Successful Completion (R31) -/
  epReady : Bool := false
  l1 : Bool := false
  /-- AER: Poisoned TLP Received has been recorded (R348) -/
  aerPoisoned : Bool := false
  flRstN : Bool := false
  /-- power registers (by offset) of units in OFF whose t_off_min runs (R36) -/
  offMin : List Nat := []
  /-- units recorded at the entry to deep night, by power-register offset (R41) -/
  nightUnits : List Nat := []
  /-- a reversal of NIGHT or a wake source latched during ENTERING or EXITING (R42): the WAKE code, 0 for a new entry -/
  nightLatch : Option Nat := none
  /-- steps 2 to 5 of R41 have begun -/
  nightStops : Bool := false
  /-- units forced off that stay OFF until software writes EN = 0 (R43 and ch. 16), by power-register offset -/
  forced : List Nat := []
  /-- units that stop as soon as they have started (R34): power-register offset ↦ CAUSE -/
  due : SMap Nat := []
  /-- tiles in OFF, by power-register offset, that have kept their cells and block RAM so far (R35, R38) -/
  kept : List Nat := []
  /-- active brown-out warnings (R43) -/
  warn : List BorMon := []
  /-- monitors whose rail has crossed a threshold and is not known to be within tolerance again (R29) -/
  low : List BorMon := []
  /-- the endpoint's BARs, virtual functions and MSI-X tables, by function × 1024 + dword of its configuration space or table (R39) -/
  epRegs : SMap Word := []
  deriving DecidableEq, Repr

/-- The whole machine. -/
structure State where
  /-- commands that wait, first in, first out -/
  pending : List Instr
  /-- every control register, by its offset from 0x3000_0000_0000 -/
  regs : SMap Word
  /-- pair snapshots and held halves, by the offset of the block instance -/
  pairs : SMap Pairs
  sys : SysSt
  fuses : Fuses
  rec_ : Collector
  /-- the lattice time, in units of 2^-16 ns -/
  now : Nat
  eng : SMap EngSt
  leng : SMap LEngSt
  sch : SchSt
  mbx : SMap MbxSt
  net : NetSt
  dbg : DbgSt
  ser : SerSt
  cfg : CfgSt
  pld : PldSt
  rtc : RtcSt
  tim : TimSt
  mgm : MgmSt
  mem : SMap ChanSt
  ice : IceSt
  lnk : SMap LnkMod
  out : List Out
  /-- numbers the free values taken (the model's own field) -/
  freeCtr : Nat
  deriving DecidableEq, Repr

/-- The placement of logical engine `l` at power-on (R146). -/
def lengReset (l : Nat) : LEngSt :=
  { phys := 272 * (l / 256) + 17 * (l % 256 / 16) + l % 16, pstate := 1, epoch := 0, waiting := [], discards := 0,
    reportDue := false, takeover := none, held := [] }

def engReset (_ : Nat) : EngSt := {}

/-- The machine right after the power-on reset is asserted: nothing powered, every register at its reset value. -/
def State.reset : State :=
  { pending := [], regs := [], pairs := [], sys := {}, fuses := {}, rec_ := {}, now := 0, eng := [], leng := [], sch := {}, mbx := [],
    net := {}, dbg := {}, ser := {}, cfg := {}, pld := {}, rtc := {}, tim := {}, mgm := {}, mem := [], ice := {}, lnk := [], out := [], freeCtr := 0 }

end Sys2Proof.Machine
end

