-- ==== Sys2Proof/Machine/Ops.lean ====
section
/-! DEFINITION. The named operations every chapter shares: registers and their fields, the write-status register, outputs, free
values, error records, leaky buckets, and the units' power registers. -/

namespace Sys2Proof.Machine

/-! ## Registers -/

/-- The word of the register at an offset of the control region. -/
def State.reg (s : State) (o : Nat) : Word := SMap.get regReset s.regs o

def State.setReg (s : State) (o : Nat) (v : Word) : State := { s with regs := SMap.set regReset s.regs o v }

/-- Field `[hi:lo]` of a register. -/
def State.fld (s : State) (o hi lo : Nat) : Nat := bitsOf (s.reg o) hi lo

def State.setFld (s : State) (o hi lo n : Nat) : State := s.setReg o (withBits (s.reg o) hi lo n)

/-- Bit `k` of a register. -/
def State.bit (s : State) (o k : Nat) : Bool := s.fld o k k = 1

def State.setBit (s : State) (o k : Nat) (b : Bool) : State := s.setFld o k k (if b then 1 else 0)

/-- A counter field that stops at its top. -/
def State.count (s : State) (o hi lo n : Nat) : State := s.setFld o hi lo (satAdd (2 ^ (hi + 1 - lo) - 1) (s.fld o hi lo) n)

/-- Bits set in a register. -/
def State.orReg (s : State) (o : Nat) (v : Word) : State := s.setReg o (s.reg o ||| v)

/-! ## Outputs and free values -/

def State.emit (s : State) (x : Out) : State := { s with out := s.out ++ [x] }

/-- R232: a replica; one that has not loaded yet goes with the master. -/
def State.replica (s : State) (k : Nat) : Replica := (SMap.get (fun _ => none) s.tim.reps k).getD ⟨s.now, s.tim.ffo, 0⟩
def State.setReplica (s : State) (k : Nat) (r : Option Replica) : State :=
  { s with tim := { s.tim with reps := SMap.set (fun _ => none) s.tim.reps k r } }

/-- The lattice time that a die's replica shows. -/
def State.dieNow (s : State) (k : Nat) : Nat := (((s.now : Int) * 2 ^ 44 + (s.replica k).off) / 2 ^ 44).toNat

def State.draw (s : State) : DWord × State := (Config.free s.freeCtr, { s with freeCtr := s.freeCtr + 1 })

/-! ## The write-status register (R20) -/

/-- A rejected write at offset `o` of the block instance at `base`. -/
def State.reject (s : State) (base o code : Nat) : State :=
  let w := base + 4
  if s.bit w 31 then s.setBit w 30 true
  else s.setReg w (withBits (withBits (withBits (s.reg w) 31 31 1) 27 20 code) 19 0 (o / 4))

/-! ## Error records (R385) -/

/-- The record class of a code: 0 CE, 1 UCC, 2 UCF, 3 INF (the error tables of the chapters). -/
def codeClass (code : Nat) : Nat :=
  if [0x038, 0x047, 0x054, 0x058, 0x0A1, 0x0B4, 0x0C0, 0x0C4].contains code then 0
  else if [0x011, 0x03A, 0x0E3, 0x0E6].contains code then 2
  else if ([0x010, 0x012, 0x013, 0x02E, 0x03B, 0x042, 0x046, 0x051, 0x05A, 0x061, 0x067, 0x068, 0x070, 0x071, 0x077, 0x078,
      0x084, 0x085, 0x090] ++
    [0x091, 0x092, 0x095, 0x097, 0x098, 0x0A0, 0x0B1, 0x0B3, 0x0C3, 0x0D2, 0x0D3, 0x0E2, 0x0E4, 0x0E7, 0x0E9, 0x0EB, 0x0EE,
      0x0F1, 0x0F3]).contains code then 3
  else 1

/-- MGM_RECCNT, and its SRCLOST field. -/
def oRecCnt : Nat := 0xD00048

/-- R385: a source offers a record. It waits as the source's pending record; one of the same code adds its count to it; any other
is dropped and counted. -/
def State.log (s : State) (r : Rec) : State :=
  match s.rec_.pend.find? (fun x => x.src == r.src) with
  | none => { s with rec_ := { s.rec_ with pend := s.rec_.pend ++ [r] } }
  | some p =>
    if p.code = r.code then
      { s with rec_ := { s.rec_ with
          pend := s.rec_.pend.map (fun x => if x.src = r.src then { x with count := satAdd 0xFFFFFFFF x.count r.count } else x) } }
    else s.count oRecCnt 10 0 1

def mkRec (src code addr count req : Nat) : Rec := ⟨src, code, addr, count, req⟩

/-! ## Reserved die codes (R15) -/

/-- R15: a reserved die code. -/
def reservedDie (q : Nat) : Bool :=
  let d := q / 0x1000
  (decide (5 ≤ d) && decide (d < 8)) || (decide (12 ≤ d) && decide (d < 15))

/-- R15: a request with a reserved die code is discarded at the router it arrives at. DESIGN CHOICE: the command names no router, and
the record names hub router 0. -/
def State.discardReserved (s : State) (a req : Nat) : State := s.log (mkRec 0x4010 0x002 a 1 req)

/-! ## Limited records -/

/-- Keys of the limited records: code and index. -/
def limKey (code i : Nat) : Nat := code * 2 ^ 20 + i

/-- A record limited to one per ms and key: further events of the ms are counted, and the count is logged when the ms ends. -/
def State.logLim (s : State) (key : Nat) (r : Rec) : State :=
  if s.rec_.lims.any (fun l => l.key == key) then
    { s with rec_ := { s.rec_ with
        lims := s.rec_.lims.map (fun l => if l.key = key then { l with acc := satAdd 0xFFFFFFFF l.acc r.count, last := r } else l) } }
  else
    ({ s with rec_ := { s.rec_ with lims := s.rec_.lims ++ [Lim.mk key 0 r] } }).log r

/-- A record logged at most once per ms and key: further events of the ms are not counted. -/
def State.logOnce (s : State) (key : Nat) (r : Rec) : State :=
  if s.rec_.lims.any (fun l => l.key == key) then s
  else ({ s with rec_ := { s.rec_ with lims := s.rec_.lims ++ [Lim.mk key 0 r] } }).log r

/-- The limits whose ms ends: those that counted events log them and stay for another ms. -/
def State.endMs (s : State) : State :=
  let due := s.rec_.lims.filter (fun l => decide (0 < l.acc))
  let s1 := { s with rec_ := { s.rec_ with lims := due.map (fun l => { l with acc := 0 }) } }
  due.foldl (fun t l => t.log { l.last with count := l.acc }) s1

/-! ## Leaky buckets (R138, R340) -/

/-- A correction: the level rises, and past THRESH it returns to 0 and logs a CE record with the corrections since the last one. `o`
is the register with LEVEL and THRESH; `since` is the number of corrections before this one. The answer says whether it
overflowed. -/
def State.bucket (s : State) (o : Nat) : State × Bool :=
  if s.fld o 31 24 + 1 > s.fld o 23 16 then (s.setFld o 31 24 0, true)
  else (s.setFld o 31 24 (s.fld o 31 24 + 1), false)

/-- SYS_PSTATE.STATE: 0 ACTIVE, 1 ENTERING, 2 NIGHT, 3 EXITING. -/
def State.nightState (s : State) : Nat := s.fld 0x394 9 8

/-! ## Units and their power registers (R34) -/

def oPwrTile (t : Nat) : Nat := 0x100 + 4 * t
def oPwrCnv (n : Nat) : Nat := 0x110 + 4 * n
def oPwrMem (k : Nat) : Nat := 0x120 + 4 * k
def oPwrLane (l : Nat) : Nat := 0x140 + 4 * l
def oPwrClu (c : Nat) : Nat := 0x200 + 4 * c
def oPwrPld (p : Nat) : Nat := 0x300 + 4 * p

/-- Tile of a physical engine, and its cluster. -/
def engTile (e : Nat) : Nat := e / 272
def engClu (e : Nat) : Nat := 16 * (e / 272) + e % 272 / 17

/-- The requester ID of a physical engine (R15). -/
def engReq (e : Nat) : Nat := engTile e * 0x1000 + e % 272

/-- The ENG block of a physical engine. -/
def oEng (e : Nat) : Nat := 0x1000000 + 0x1000 * e
def oPwrEng (e : Nat) : Nat := oEng e + 8

/-- The power register of a unit. -/
def pwrOff : Sys2Proof.PUnit → Nat
  | .tile t => oPwrTile t.val
  | .conv n => oPwrCnv n.val
  | .dram k => oPwrMem k.val
  | .lane l => oPwrLane l.val
  | .clu c => oPwrClu c.val
  | .pld p => oPwrPld p.val
  | .eng e => oPwrEng e.val

/-- STATE of a power register: 0 OFF, 1 STARTING, 2 ON, 3 STOPPING, 4 ABSENT. -/
def State.pwr (s : State) (o : Nat) : Nat := s.fld o 26 24

def State.isOn (s : State) (o : Nat) : Bool := s.pwr o = 2

def State.setPwr (s : State) (o st : Nat) : State := s.setFld o 26 24 st

/-- The parent of a unit (R37). -/
def parentUnit : Sys2Proof.PUnit → Option Sys2Proof.PUnit
  | .tile _ => none
  | .conv n => some (.tile n)
  | .dram k => some (.tile (Fin.ofNat 4 (k.val / 2)))
  | .lane l => some (.tile (Fin.ofNat 4 (l.val / 12)))
  | .clu c => some (.tile (Fin.ofNat 4 (c.val / 16)))
  | .pld p => some (.tile (Fin.ofNat 4 (p.val / 8)))
  | .eng e => some (.clu (Fin.ofNat 64 (engClu e.val)))

/-- R37: the parent of a unit is ON; a tile hangs on the hub. -/
def State.parentOn (s : State) (u : Sys2Proof.PUnit) : Bool :=
  match parentUnit u with
  | none => s.sys.hubOn
  | some p => s.isOn (pwrOff p)

/-- R36: t_off_min runs for a unit. -/
def State.offMinRuns (s : State) (o : Nat) : Bool := s.sys.offMin.contains o

/-- A unit in OFF may enter STARTING: its t_off_min is over, its parent is ON, nothing has holds it OFF (R36,
R37). -/
def State.mayStart (s : State) (u : Sys2Proof.PUnit) : Bool :=
  decide (s.pwr (pwrOff u) = 0) && !s.offMinRuns (pwrOff u) && s.parentOn u && !s.sys.forced.contains (pwrOff u)

/-- EN = 1 is requested of a unit (R36). A unit in OFF starts when it may; in deep-night mode it waits for the exit (R42). -/
def State.enableUnit (s : State) (u : Sys2Proof.PUnit) : State :=
  let o := pwrOff u
  let s1 := s.setBit o 31 true
  match s.pwr o with
  | 0 => if s.mayStart u = true ∧ s.nightState = 0 then (s1.setPwr o 1).setBit o 29 false else s1
  | 1 => s1.setBit o 29 false
  | 3 => s1.setBit o 29 true
  | _ => s1

/-- R34: a unit is to enter STOPPING with a CAUSE. One that is STARTING completes that first, and one that is STOPPING goes on. -/
def State.forceStop (s : State) (o cause : Nat) : State :=
  match s.pwr o with
  | 1 => { s with sys := { s.sys with due := SMap.insert s.sys.due o cause } }
  | 2 => ((s.setPwr o 3).setFld o 23 20 cause).setBit o 29 false
  | _ => s

/-! ## Slots of requesters (R6, R21) -/

/-- R6: the entries of requester `q` become the ones used last; the least recently used requester stands first. -/
def useLast {α : Type} (f : α → Nat) (q : Nat) (l : List α) : List α :=
  l.filter (fun x => f x != q) ++ l.filter (fun x => f x == q)

/-- R6: a fifth requester takes the slot of the one that was used least recently. -/
def slotFor {α : Type} (f : α → Nat) (q : Nat) (l : List α) : List α :=
  if l.any (fun x => f x == q) = true ∨ (l.map f).eraseDups.length < 4 then l
  else match l with
    | [] => []
    | x :: _ => l.filter (fun y => f y != f x)

/-! ## The outcome of a register write -/

/-- Accepted; rejected with a code (R20); or completed with an error response (R27). -/
inductive WRes where
  | ok (s : State)
  | rej (code : Nat)
  | err (s : State)

/-- What the write does to the machine, and whether it completes with an error response. -/
def WRes.settle (w : WRes) (s : State) (base off : Nat) : State × Bool :=
  match w with
  | .ok t => (t, false)
  | .rej c => (s.reject base off c, false)
  | .err t => (t, true)

/-- R20: the check of every field comes before what the register itself asks. -/
def RegDef.gate (r : RegDef) (v : Word) (w : WRes) : WRes :=
  match r.check v with
  | some c => .rej c
  | none => w

/-- The plain effect of a write on a register's fields (R7). -/
def State.plainWrite (s : State) (o : Nat) (v : Word) : State :=
  match regAt o with
  | none => s
  | some (_, r, _) => s.setReg o (r.merge v (s.reg o))

/-! ## Other registers that many chapters read -/

/-- SCH_STAT.INIT. -/
def State.schInit (s : State) : Bool := s.bit 0x300008 31

/-- SYS_BORSTAT.NVINH. -/
def State.nvInh (s : State) : Bool := s.bit 0x39C 31

/-- The interrupt of the record collector, of the scheduler queues and of the mailboxes on the management cores. -/
def mgmtLineRecord : Nat := 64
def mgmtLineCq : Nat := 65
def mgmtLineFault : Nat := 66
/-- The management ring of a classifier (R286); the configuration controller (R70, R72). -/
def mgmtLineRing : Nat := 67
def mgmtLineCfg : Nat := 68

end Sys2Proof.Machine
end

