-- ==== Sys2Proof/Machine/SchOps.lean ====
section
/-! DEFINITION. The scheduler's tables as every chapter sees them: contexts, flows, ready numbers, event posts, the enqueue inputs,
and the report of an end (ch. 07). -/

namespace Sys2Proof.Machine

/-- Requester ID of the scheduler. -/
def reqSch : Nat := 0x4002

def State.ctx (s : State) (x : Nat) : TaskCtx := SMap.get (fun _ => {}) s.sch.ctx x
def State.setCtx (s : State) (x : Nat) (c : TaskCtx) : State :=
  { s with sch := { s.sch with ctx := SMap.set (fun _ => {}) s.sch.ctx x c } }

def State.flow (s : State) (f : Nat) : FlowSt := SMap.get (fun _ => {}) s.sch.flow f
def State.setFlow (s : State) (f : Nat) (x : FlowSt) : State :=
  { s with sch := { s.sch with flow := SMap.set (fun _ => {}) s.sch.flow f x } }

def State.input (s : State) (i : Nat) : List EnqItem := SMap.get (fun _ => []) s.sch.inputs i
def State.setInput (s : State) (i : Nat) (l : List EnqItem) : State :=
  { s with sch := { s.sch with inputs := SMap.set (fun _ => []) s.sch.inputs i l } }

/-- The entries of a delay list, (expiry, context) in release order. -/
def State.delayList (s : State) (i : Nat) : List (Nat × Nat) := SMap.get (fun _ => []) s.sch.delay i
def State.setDelayList (s : State) (i : Nat) (l : List (Nat × Nat)) : State :=
  { s with sch := { s.sch with delay := SMap.set (fun _ => []) s.sch.delay i l } }

/-- A context leaves every delay list. -/
def State.leaveDelay (s : State) (x : Nat) : State :=
  (List.range 4).foldl (fun t i => t.setDelayList i ((t.delayList i).filter (fun d => d.2 ≠ x))) s

/-! ## Descriptor fields (R166) -/

def dWord (d : List Word) (i : Nat) : Word := d.getD i 0
def dFld (d : List Word) (i hi lo : Nat) : Nat := bitsOf (dWord d i) hi lo
def dBit (d : List Word) (i k : Nat) : Bool := dFld d i k k = 1

def dFlow (d : List Word) : Nat := dFld d 0 13 0
def dPrio (d : List Word) : Nat := dFld d 0 18 16
def dPaired (d : List Word) : Bool := dBit d 0 22
def dRestart (d : List Word) : Bool := dBit d 0 23

/-- Words 6, 7. -/
def dArg (d : List Word) : Nat := (dWord d 6).toNat + 2 ^ 32 * (dWord d 7).toNat

/-- R176: the wait condition on a set of flags. -/
def dWaitHolds (d : List Word) (flags : Word) : Bool :=
  let m := dWord d 1
  if m = 0 then true
  else if dBit d 0 19 then flags &&& m = m else !(flags &&& m = 0)

/-! ## Becoming ready (R177) -/

/-- The task enters READY with the next ready number. -/
def State.makeReady (s : State) (x : Nat) : State :=
  let n := s.sch.readyNo + 1
  let s1 := { s with sch := { s.sch with readyNo := n } }
  s1.setCtx x { s1.ctx x with st := .ready, ready := n, restarted := false }

/-- R151, R177: the task returns to READY at the head of its level, behind earlier restarts. -/
def State.makeRestart (s : State) (x : Nat) : State :=
  let n := s.sch.restartNo + 1
  let s1 := { s with sch := { s.sch with restartNo := n } }
  s1.setCtx x { s1.ctx x with st := .ready, ready := n, restarted := true, pair := none }

/-- A task whose delay is over waits or is ready (R176). -/
def State.release (s : State) (x : Nat) : State :=
  let c := s.ctx x
  if dWaitHolds c.desc c.flags then s.makeReady x else s.setCtx x { c with st := .waiting }

/-! ## Event posts (R173) -/

/-- Flag `f` of context `x` sets; a waiting task whose condition now holds becomes ready. -/
def State.setFlag (s : State) (x f : Nat) : State :=
  let c := s.ctx x
  let c1 := { c with flags := c.flags ||| BitVec.ofNat 32 (2 ^ f) }
  let s1 := s.setCtx x c1
  if c.st = .waiting ∧ dWaitHolds c.desc c1.flags = true then s1.makeReady x else s1

/-- A post at the event input; while INIT = 1 it is held (R165). -/
def State.postEvent (s : State) (x f : Nat) : State :=
  if s.schInit then { s with sch := { s.sch with evq := s.sch.evq ++ [(x, f)] } } else s.setFlag x f

/-! ## Enqueue inputs (R168) -/

/-- The input buffer of `i` has room for another descriptor: its first four. Those behind wait at their sources for a credit, in order
(R171). -/
def State.inputRoom (s : State) (i : Nat) : Bool := (s.input i).length < 4

def State.pushInput (s : State) (i : Nat) (x : EnqItem) : State := s.setInput i (s.input i ++ [x])

/-- An item as it arrives at an input. -/
def enqItem (src : EnqSrc) (req epoch lid : Nat) (template : Bool) (words : List Word) : EnqItem :=
  ⟨src, req, epoch, lid, template, words, false, 0, none⟩

/-- A descriptor an engine offered is withdrawn: its bundle has not issued (R130, R143). -/
def State.withdrawEng (s : State) (e : Nat) : State :=
  let i := 2 + 4 * engTile e
  s.setInput i ((s.input i).filter (fun x => !(x.src == .engine e)))

/-! ## Ends -/

/-- The flow lock that a context holds is released (R179). -/
def State.unlockFlow (s : State) (x : Nat) : State :=
  let f := dFlow (s.ctx x).desc
  let w := s.flow f
  if w.holder = some x then s.setFlow f { w with holder := none } else s

/-- R176: the task enters COMPLETING with its end; its lock is released. -/
def State.toCompleting (s : State) (x : Nat) (r : EndReport) : State :=
  let s1 := s.unlockFlow x
  s1.setCtx x { s1.ctx x with st := .completing, report := some r }

/-- R186: a restart is counted. -/
def State.countRestart (s : State) (x : Nat) : State :=
  let s1 := s.count 0x3000AC 31 0 1
  s1.setCtx x { s1.ctx x with rcnt := (s1.ctx x).rcnt + 1 }

/-- R186: the task may restart once more. -/
def TaskCtx.canRestart (c : TaskCtx) : Bool := dRestart c.desc && decide (c.rcnt < dFld c.desc 0 25 24 + 1)

/-- R186: the end of a task is reported; it is processed by TASK_END. -/
def State.report (s : State) (x : Nat) (r : EndReport) : State :=
  let c := s.ctx x
  if c.st = .free then s else s.setCtx x { c with report := some r }

/-- The end of one copy of a paired task: its digest closes over the final status (R189). Until the other copy ends, the task is
COMPARING (R176). -/
def State.copyEnd (s : State) (x copy status cyc : Nat) (close : DWord → Nat → DWord) : State :=
  let c := s.ctx x
  match c.pair with
  | none => s
  | some p =>
    let upd (k : PairCopy) : PairCopy := { k with ended := some status, digest := close k.digest status, cyc := cyc }
    let p1 : Pair :=
      if copy = 3 then { p with referee := p.referee.map upd }
      else { p with copies := p.copies.mapIdx (fun i k => if i + 1 = copy then upd k else k) }
    s.setCtx x { c with pair := some p1, st := .comparing }

end Sys2Proof.Machine
end

