-- ==== Sys2Proof/Machine/NetOps.lean ====
section
/-! DEFINITION. Issuing packets and answering them: tags, the list of requests that wait for a response, the address regions (R12),
and the responses (R199 to R203). -/

namespace Sys2Proof.Machine

/-! ## Addresses (R12) -/

def dramTop : Nat := 0x020000000000
def engBase : Nat := 0x100000000000
def fabBase : Nat := 0x200000000000
def ctlBase : Nat := 0x300000000000

/-- A region of the physical address map. -/
inductive Region where
  | dram
  | engine
  | fabric
  | control
  deriving DecidableEq, Repr

def regionOf (a : Nat) : Option Region :=
  if a < dramTop then some .dram
  else if engBase ≤ a ∧ a < engBase + 0x10000000 then some .engine
  else if fabBase ≤ a ∧ a < fabBase + 0x1000000000 then some .fabric
  else if ctlBase ≤ a ∧ a < ctlBase + 0x2000000 then some .control
  else none

/-- `n` bytes from `a` lie wholly inside one region of R12. -/
def insideOne (a n : Nat) : Bool := regionOf a ≠ none && n ≠ 0 && regionOf a = regionOf (a + n - 1)

/-! ## Requests -/

/-- The least tag that no outstanding request of a source carries. -/
def State.freeTag (s : State) (src : Nat) : Nat :=
  ((List.range 256).find? (fun t => !(s.net.outst.any (fun q => q.src == src && q.tag == t)))).getD 0

/-- A request that has been issued and not answered. -/
def outReq (src tag addr : Nat) (write : Bool) (k : ReqKind) : OutReq := { src := src, tag := tag, addr := addr, write := write, kind := k }

def State.send (s : State) (m : NetMsg) : State := { s with net := { s.net with msgs := s.net.msgs ++ [m] } }

/-- A packet without a body: one 16-byte word under byte enables. -/
def inlinePkt (typ src tag epoch lid addr : Nat) (be : BitVec 16) (poison : Bool) (v : Quad) : Pkt :=
  ⟨BitVec.ofNat 4 typ, BitVec.ofNat 16 src, BitVec.ofNat 8 tag, BitVec.ofNat 8 epoch, BitVec.ofNat 10 lid, BitVec.ofNat 44 (addr / 16), be, 0, poison,
   false, v, []⟩

/-- A packet with a body of `32 × len` bytes (empty for a read). -/
def bodyPkt (typ src tag epoch lid addr len : Nat) (poison : Bool) (body : List Byte) : Pkt :=
  ⟨BitVec.ofNat 4 typ, BitVec.ofNat 16 src, BitVec.ofNat 8 tag, BitVec.ofNat 8 epoch, BitVec.ofNat 10 lid, BitVec.ofNat 44 (addr / 16), 0xFFFF,
   BitVec.ofNat 4 len, poison, false, 0, body⟩

/-- R201: the body flits of the next packet of a transfer of `n` bytes (a multiple of 16) at `a`: the largest aligned piece; 0 = one
inline word. -/
def pieceLen (a n : Nat) : Nat :=
  if a % 256 = 0 ∧ 256 ≤ n then 8
  else if a % 128 = 0 ∧ 128 ≤ n then 4
  else if a % 64 = 0 ∧ 64 ≤ n then 2
  else if a % 32 = 0 ∧ 32 ≤ n then 1
  else 0

def pieceBytes (len : Nat) : Nat := if len = 0 then 16 else 32 * len

/-- A read of `pieceBytes len` bytes is issued. -/
def State.issueRd (s : State) (src epoch lid addr len : Nat) (k : ReqKind) : State :=
  let t := s.freeTag src
  let p := if len = 0 then inlinePkt 0 src t epoch lid addr 0xFFFF false 0 else bodyPkt 0 src t epoch lid addr len false []
  let s1 := s.send (.rd p)
  { s1 with net := { s1.net with outst := s1.net.outst ++ [outReq src t addr false k] } }

/-- A write of the bytes of `data` (16, or 32 × len) is issued. -/
def State.issueWr (s : State) (src epoch lid addr len : Nat) (be : BitVec 16) (poison : Bool) (data : List Byte) (k : ReqKind) :
    State :=
  let t := s.freeTag src
  let p := if len = 0 then inlinePkt 1 src t epoch lid addr be poison (BitVec.ofNat 128 (ofBytesLE data))
           else bodyPkt 1 src t epoch lid addr len poison data
  let s1 := s.send (.wr p)
  { s1 with net := { s1.net with outst := s1.net.outst ++ [outReq src t addr true k] } }

/-- The acknowledgement of a write. -/
def ackRsp (req tag : Nat) (status : BitVec 16) : Rsp := ⟨3, 0, false, BitVec.ofNat 16 req, BitVec.ofNat 8 tag, status, false, []⟩

/-- R202: a response is sent to the source of a request. -/
def State.answer (s : State) (p : Pkt) (write : Bool) (status : Nat) (poison : Bool) (data : List Byte) : State :=
  let d := if status = 1 then [] else data
  let r : Rsp := ⟨if write then 3 else 2, BitVec.ofNat 4 (if d.length ≤ 16 then 0 else d.length / 32), false, p.src, p.tag, BitVec.ofNat 16 status,
    poison, d⟩
  s.send (if write then .wrack r else .rdrsp r)

/-- The byte address of a packet. -/
def pktAddr (p : Pkt) : Nat := p.addr.toNat * 16

/-- The bytes a packet moves. -/
def pktBytes (p : Pkt) : Nat := pieceBytes p.len.toNat

/-- The data of a write packet, and its byte enables, one a byte. -/
def pktData (p : Pkt) : List Byte := if p.len = 0 then bytesLE 16 p.inl.toNat else p.body

def pktEnables (p : Pkt) : List Bool :=
  if p.len = 0 then (List.range 16).map (fun i => p.be.toNat / 2 ^ i % 2 = 1) else List.replicate (pktBytes p) true

end Sys2Proof.Machine
end

