-- ==== Sys2Proof/Machine/Route.lean ====
section
/-! DEFINITION. The way of a packet through routers and die-link modules (R195 to R206): which module joins which routers, which
modules are in service, and the next router towards another. -/

namespace Sys2Proof.Machine

/-! ## Routers: 20t + n on tile t, 80 + k on the hub -/

def routerTile (r : Nat) : Option Nat := if r < 80 then some (r / 20) else none

/-- The requester ID of a router (R195, R197). -/
def routerReq (r : Nat) : Nat := if r < 80 then r / 20 * 0x1000 + 0x700 + r % 20 else 0x4010 + (r - 80)

/-! ## Modules (R293) -/

/-- The first module of the TT link of two tiles that share one. -/
def ttBase (a b : Nat) : Option Nat :=
  match min a b, max a b with
  | 0, 1 => some 0
  | 0, 2 => some 4
  | 1, 3 => some 8
  | 2, 3 => some 12
  | _, _ => none

def thModule (n m : Nat) : Nat := 16 + 2 * n + m
def tcModule (n : Nat) : Nat := 24 + n

/-- R198: the horizontal and the vertical neighbour. -/
def horizontal (t : Nat) : Nat := if t % 2 = 0 then t + 1 else t - 1
def vertical (t : Nat) : Nat := if t < 2 then t + 2 else t - 2

def oNocstat : Nat := 0x10004

/-- A module is in service, by the mask of those that are not. -/
def inService (oos m : Nat) : Bool := !oos.testBit m

/-- What routing depends on: the modules out of service, DIAGHUB, and the tiles that are ON. -/
structure RouteEnv where
  oos : Nat
  diag : Bool
  tileOn : Nat → Bool

def State.routeEnv (s : State) : RouteEnv :=
  ⟨s.fld oNocstat 27 0, s.bit 0x10000 0, fun t => s.isOn (oPwrTile t)⟩

/-- A TH module of tile `n` in service, the one of number `m` where it can be (R206). -/
def RouteEnv.th (v : RouteEnv) (n m : Nat) : Option Nat :=
  if inService v.oos (thModule n m) then some m
  else if inService v.oos (thModule n (1 - m)) then some (1 - m)
  else none

/-- Module `k` of the TT link of two neighbours is in service. -/
def RouteEnv.tt (v : RouteEnv) (a b k : Nat) : Bool :=
  match ttBase a b with
  | some base => inService v.oos (base + k)
  | none => false

/-- Some module of the TT link of two neighbours is in service. -/
def RouteEnv.ttAny (v : RouteEnv) (a b : Nat) : Option Nat := (List.range 4).find? (fun k => v.tt a b k)

/-- Tile `b` can be reached from tile `a` over their TT link, and itself reaches the hub. -/
def RouteEnv.viaTile (v : RouteEnv) (a b m : Nat) : Bool := v.tileOn b && (v.ttAny a b).isSome && (v.th b m).isSome

/-- The tile through which tile `n` reaches the hub (R206): itself, a neighbour, or the diagonal tile. -/
def RouteEnv.hubTile (v : RouteEnv) (n m : Nat) : Option Nat :=
  let h := horizontal n
  let w := vertical n
  let d := horizontal w
  if (v.th n m).isSome then some n
  else if v.viaTile n h m then some h
  else if v.viaTile n w m then some w
  else if v.tileOn d && (v.th d m).isSome && ((v.tileOn h && (v.ttAny n h).isSome && (v.ttAny h d).isSome)
      || (v.tileOn w && (v.ttAny n w).isSome && (v.ttAny w d).isSome)) then some d
  else none

/-- A step between tiles that share a TT link, by module `k` where it is in service. -/
def RouteEnv.ttStep (v : RouteEnv) (a b k : Nat) : Option Nat :=
  if v.tt a b k then some k else v.ttAny a b

/-- The tile on the way from `a` to the tile through which `a` reaches the hub. -/
def RouteEnv.towards (v : RouteEnv) (a b : Nat) : Nat :=
  if (ttBase a b).isSome then b
  else if v.tileOn (horizontal a) ∧ (v.ttAny a (horizontal a)).isSome = true ∧ (v.ttAny (horizontal a) b).isSome = true then horizontal a
  else vertical a

/-! ## The next router -/

/-- R204.1: along the row, then along the column. -/
def meshStep (a b : Nat) : Nat :=
  if a % 4 < b % 4 then a + 1 else if b % 4 < a % 4 then a - 1 else if a < b then a + 4 else a - 4

/-- R204.2. -/
def hubStep (a b : Nat) : Nat :=
  let d := (b + 8 - a) % 8
  if d = 1 ∨ d = 2 then (a + 1) % 8 else if d = 6 ∨ d = 7 then (a + 7) % 8 else (a + 4) % 8

/-- The exit of tile `a` towards tile `b` over module `k`. -/
def ttExit (a b k : Nat) : Nat := if b = horizontal a then 3 + 4 * k else k

/-- A crossing between two dies: the router it leaves and the router it reaches. -/
abbrev Crossing := Nat × Nat

def ttCross (a b k : Nat) : Crossing := (20 * a + ttExit a b k, 20 * b + ttExit a b k)
def thCross (n i : Nat) : Crossing := (20 * n + 8 + 8 * i, 80 + 2 * n + i)

/-- R206: the crossings from tile `n` to the hub: its own TH link, or by way of another tile. -/
def RouteEnv.toHub (v : RouteEnv) (n m k : Nat) : Option (List Crossing) :=
  match v.th n m with
  | some i => some [thCross n i]
  | none => (v.hubTile n m).bind (fun h =>
      let t := v.towards n h
      match v.ttStep n t k, (if t = h then some [] else (v.ttStep t h k).map (fun j => [ttCross t h j])), v.th h m with
      | some j, some mid, some i => some (ttCross n t j :: mid ++ [thCross h i])
      | _, _, _ => none)

/-- The same way in the other direction. -/
def RouteEnv.fromHub (v : RouteEnv) (n m k : Nat) : Option (List Crossing) :=
  (v.toHub n m k).map (fun l => l.reverse.map (fun c => (c.2, c.1)))

/-- The crossings up to the first that reaches a die. -/
def untilDie (d : Option Nat) : List Crossing → List Crossing
  | [] => []
  | c :: l => if routerTile c.2 = d then [c] else c :: untilDie d l

/-- The crossings from the last that leaves a die, so that no way leads back to where it began. -/
def fromDie (d : Option Nat) : List Crossing → List Crossing
  | [] => []
  | c :: l => if l.any (fun x => routerTile x.1 = d) then fromDie d l else c :: l

/-- R204, R206: the crossings between two dies. None where no way is left. -/
def RouteEnv.crossings (v : RouteEnv) (a b : Option Nat) (sel : Nat) : Option (List Crossing) :=
  let k := sel % 4
  let m := sel % 2
  if a = b then some []
  else match a, b with
    | some x, some y =>
      let h := horizontal x
      if (ttBase x y).isSome ∧ v.tt x y k = true then some [ttCross x y k]
      else if (ttBase x y).isNone ∧ v.diag = false ∧ v.tileOn h = true ∧ v.tt x h k = true ∧ v.tt h y k = true then
        some [ttCross x h k, ttCross h y k]
      else match v.toHub x m k, v.fromHub y m k with
        | some l, some r => some (fromDie a (untilDie b (l ++ r)))
        | _, _ => none
    | some x, none => v.toHub x m k
    | none, some y => v.fromHub y m k
    | none, none => some []

/-- R204.1, R204.2: the routers of one die from `r` to `dst`, both ends included. -/
def walk : Nat → Nat → Nat → List Nat
  | 0, r, _ => [r]
  | n + 1, r, dst =>
    if r = dst then [r]
    else if r < 80 then r :: walk n (r / 20 * 20 + meshStep (r % 20) (dst % 20)) dst
    else r :: walk n (80 + hubStep (r - 80) (dst - 80)) dst

/-- From router `r` over the crossings to `dst`. -/
def alongCrossings : List Crossing → Nat → Nat → List Nat
  | [], r, dst => walk 8 r dst
  | c :: l, r, dst => walk 8 r c.1 ++ alongCrossings l c.2 dst

/-- The routers from `r` to `dst`, both ends included; `sel` picks the module of a link (R204.5). `[r]` where no way is left. -/
def RouteEnv.path (v : RouteEnv) (dst sel r : Nat) : List Nat :=
  match v.crossings (routerTile r) (routerTile dst) sel with
  | some l => alongCrossings l r dst
  | none => [r]

/-- The next router from router `r` towards `dst`. -/
def RouteEnv.next (v : RouteEnv) (r dst sel : Nat) : Option Nat := (v.path dst sel r)[1]?

/-- The modules of tile `t`. -/
def tileModules (t : Nat) : List Nat :=
  [horizontal t, vertical t].flatMap (fun u => match ttBase t u with | some b => [b, b + 1, b + 2, b + 3] | none => [])
    ++ [thModule t 0, thModule t 1]

/-- R205: the way towards a tile that is not ON is the one its packets would take, so its own modules count as in service. -/
def RouteEnv.towardsOff (v : RouteEnv) (t : Nat) : RouteEnv :=
  { v with oos := (tileModules t).foldl (fun o m => if o.testBit m then o - 2 ^ m else o) v.oos }

/-- A way joins two routers. -/
def RouteEnv.joined (v : RouteEnv) (r dst sel : Nat) : Bool := (v.path dst sel r).getLast? == some dst

/-! ## Retry buffers (R302) -/

/-- Modules that join two routers of different dies, and whether the step goes from side B to side A (R198). -/
def stepModule (a b : Nat) : Option (Nat × Bool) :=
  match routerTile a, routerTile b with
  | some x, some y =>
    if x = y then none
    else (ttBase x y).map (fun m => (m + (if horizontal x = y then (a % 20 - 3) / 4 else a % 20), decide (y < x)))
  | some x, none => some (thModule x ((a % 20 - 8) / 8), false)
  | none, some y => some (thModule y ((b % 20 - 8) / 8), true)
  | none, none => none

/-- NoC flits in the retry buffer of one direction of a module. -/
def State.retryFlits (s : State) (m : Nat) (ba : Bool) : Nat :=
  let x := SMap.get (fun _ => ({} : LnkMod)) s.lnk m
  if ba then x.bufBA else x.bufAB

/-- Flits that cross from a router to the next stay in the retry buffer until they are acknowledged. -/
def State.crossFlits (s : State) (a b n : Nat) : State :=
  match stepModule a b with
  | none => s
  | some (m, ba) =>
    let x := SMap.get (fun _ => ({} : LnkMod)) s.lnk m
    let y : LnkMod := if ba then { x with bufBA := x.bufBA + n } else { x with bufAB := x.bufAB + n }
    { s with lnk := SMap.set (fun _ => {}) s.lnk m y }

/-- The steps of a list of routers. -/
def stepsOf (l : List Nat) : List (Nat × Nat) := l.zip (l.drop 1)

/-- Every retry buffer on the way has room for `n` flits more, and no module on it pauses its flits to narrow (R305). -/
def State.pathRoom (s : State) (l : List Nat) (n : Nat) : Bool :=
  (stepsOf l).all (fun (a, b) => match stepModule a b with
    | none => true
    | some (m, ba) => decide (s.retryFlits m ba + n ≤ 256) && (SMap.get (fun _ => ({} : LnkMod)) s.lnk m).narrow.isNone)

/-- `n` flits go along a path. -/
def State.pathFlits (s : State) (l : List Nat) (n : Nat) : State := (stepsOf l).foldl (fun t (a, b) => t.crossFlits a b n) s

end Sys2Proof.Machine
end

