-- ==== Sys2Proof/Machine/Flags.lean ====
section
/-! DEFINITION. The arithmetic rules R105 to R110: rounding to nearest even, saturation, the choice of a block exponent, IEEE
binary16 and binary32, and the FLAGS bits each of them sets (R101). -/

namespace Sys2Proof.Machine

/-- The FLAGS bits a computation sets: SAT 1, FINV 2, FOVF 4, FUNF 8. -/
abbrev FlagSet := Nat

def flagSat : FlagSet := 1
def flagInv : FlagSet := 2
def flagOvf : FlagSet := 4
def flagUnf : FlagSet := 8

/-! ## Fixed point -/

/-- R105: `n / 2^k` rounded to nearest, ties to even. -/
def rne (n : Int) (k : Nat) : Int :=
  let q := n / (2 ^ k : Nat)
  let r := n % (2 ^ k : Nat)
  if 2 * r < (2 ^ k : Nat) then q
  else if (2 ^ k : Nat) < 2 * r then q + 1
  else if k = 0 then q
  else if q % 2 = 0 then q else q + 1

/-- R106: symmetric saturation at `±b`, with the SAT flag. -/
def sat (b : Nat) (x : Int) : Int × FlagSet :=
  if x > (b : Int) then ((b : Int), flagSat) else if x < -(b : Int) then (-(b : Int), flagSat) else (x, 0)

def bound16 : Nat := 32767
def bound32 : Nat := 2147483647

/-- The mantissa bound of B10 (FMT 4) or B8 (R106). -/
def boundB (fmt : Nat) : Nat := if fmt = 4 then 511 else 127

/-- Two's complement in `w` bits. -/
def ofSigned (w : Nat) (x : Int) : Nat := (x % (2 ^ w : Nat)).toNat

/-- R107: the least exponent from `e` on for which every component rounds within the bound; 15 when none does. The components are
`x / 2^d`. -/
def normExp (b : Nat) (xs : List Int) (d : Nat) : Nat → Nat → Nat
  | 0, e => e
  | n + 1, e => if xs.all (fun x => decide ((rne x (d + e)).natAbs ≤ b)) then e else normExp b xs d n (e + 1)

/-- R107: the block exponent and the mantissas of the components `x / 2^d`. -/
def norm (b : Nat) (xs : List Int) (d : Nat) : Nat × List Int × FlagSet :=
  let e := normExp b xs d 15 0
  let ms := xs.map (fun x => sat b (rne x (d + e)))
  (e, ms.map (·.1), if ms.any (fun m => m.2 != 0) then flagSat else 0)

/-! ## IEEE 754 -/

/-- An IEEE operand: a NaN (signalling or not), an infinity, or the finite `±m × 2^e`. -/
inductive Fp where
  | nan (signalling : Bool)
  | inf (neg : Bool)
  | fin (neg : Bool) (m : Nat) (e : Int)
  deriving DecidableEq, Repr

/-- A binary format: exponent width, fraction width, and the exponent of the least subnormal. -/
structure FpFmt where
  ew : Nat
  fw : Nat
  emin : Int
  deriving DecidableEq, Repr

def binary16 : FpFmt := ⟨5, 10, -24⟩
def binary32 : FpFmt := ⟨8, 23, -149⟩

/-- The operand that the bits `x` hold. -/
def Fp.ofBits (f : FpFmt) (x : Nat) : Fp :=
  let frac := x % 2 ^ f.fw
  let ex := x / 2 ^ f.fw % 2 ^ f.ew
  let neg := x / 2 ^ (f.fw + f.ew) % 2 = 1
  if ex = 2 ^ f.ew - 1 then
    if frac = 0 then .inf neg else .nan (decide (frac < 2 ^ (f.fw - 1)))
  else if ex = 0 then .fin neg frac f.emin
  else .fin neg (2 ^ f.fw + frac) (f.emin + ex - 1)

/-- The quiet NaN of R109. -/
def FpFmt.qnan (f : FpFmt) : Nat := (2 ^ f.ew - 1) * 2 ^ f.fw + 2 ^ (f.fw - 1)

/-- The bits of an infinity. -/
def FpFmt.infBits (f : FpFmt) (neg : Bool) : Nat :=
  (if neg then 2 ^ (f.ew + f.fw) else 0) + (2 ^ f.ew - 1) * 2 ^ f.fw

/-- R105, R109: the finite `±m × 2^e` rounded once to the format, with FOVF and FUNF. Tininess is detected after rounding. -/
def FpFmt.round (f : FpFmt) (neg : Bool) (m : Nat) (e : Int) : Nat × FlagSet :=
  let sgn := if neg then 2 ^ (f.ew + f.fw) else 0
  if m = 0 then (sgn, 0)
  else
    let p := f.fw + 1
    let len := Nat.log2 m + 1
    let q0 : Int := e + len - p
    let q := max q0 f.emin
    let mant : Nat := if q ≤ e then m * 2 ^ (e - q).toNat else (rne m (q - e).toNat).toNat
    let exact : Bool := decide (q ≤ e) || decide (mant * 2 ^ (q - e).toNat = m)
    let mantU : Nat := if q0 ≤ e then m * 2 ^ (e - q0).toNat else (rne m (q0 - e).toNat).toNat
    let tiny : Bool := decide (q0 < f.emin) && !(decide (mantU = 2 ^ p) && decide (q0 + 1 = f.emin))
    let unf := if tiny && !exact then flagUnf else 0
    let mant' := if mant = 2 ^ p then 2 ^ f.fw else mant
    let q' := if mant = 2 ^ p then q + 1 else q
    let exf : Nat := if mant' < 2 ^ f.fw then 0 else (q' - f.emin).toNat + 1
    if exf ≥ 2 ^ f.ew - 1 then (f.infBits neg, flagOvf)
    else (sgn + exf * 2 ^ f.fw + mant' % 2 ^ f.fw, unf)

/-- A term of an exact sum: an operand, and whether forming it was already invalid (an infinity times a zero). -/
abbrev FpTerm := Fp × Bool

/-- The exact product of two operands. -/
def Fp.mul : Fp → Fp → FpTerm
  | .nan s, .nan t => (.nan (s || t), false)
  | .nan s, _ => (.nan s, false)
  | _, .nan s => (.nan s, false)
  | .inf a, .inf b => (.inf (a != b), false)
  | .inf a, .fin b m _ => if m = 0 then (.nan false, true) else (.inf (a != b), false)
  | .fin a m _, .inf b => if m = 0 then (.nan false, true) else (.inf (a != b), false)
  | .fin a m e, .fin b n g => (.fin (a != b) (m * n) (e + g), false)

/-- The negated operand. -/
def Fp.neg : Fp → Fp
  | .nan s => .nan s
  | .inf a => .inf (!a)
  | .fin a m e => .fin (!a) m e

def Fp.isNan : Fp → Bool
  | .nan _ => true
  | _ => false

def Fp.isSignalling : Fp → Bool
  | .nan s => s
  | _ => false

def Fp.isInf (neg : Bool) : Fp → Bool
  | .inf a => a == neg
  | _ => false

def Fp.isNeg : Fp → Bool
  | .nan _ => false
  | .inf a => a
  | .fin a _ _ => a

/-- The finite value in units of `2^g`, for `g` at most the operand's exponent. -/
def Fp.scaled (g : Int) : Fp → Int
  | .fin a m e => (if a then -1 else 1) * ((m * 2 ^ (e - g).toNat : Nat) : Int)
  | _ => 0

def Fp.exponent : Fp → Int
  | .fin _ m e => if m = 0 then 0 else e
  | _ => 0

/-- R105, R109: the exact sum of the terms, rounded once to the format. -/
def FpFmt.sum (f : FpFmt) (ts : List FpTerm) : Nat × FlagSet :=
  let vs := ts.map (·.1)
  let nanIn := ts.any (fun t => t.1.isNan && !t.2)
  let badProduct := ts.any (·.2)
  let posInf := vs.any (Fp.isInf false)
  let negInf := vs.any (Fp.isInf true)
  let inv := vs.any Fp.isSignalling
    || (badProduct && (!nanIn || Config.invalidBesideNaN))
    || (posInf && negInf && !nanIn && !badProduct)
  let flg := if inv then flagInv else 0
  if vs.any Fp.isNan || (posInf && negInf) then (f.qnan, flg)
  else if posInf then (f.infBits false, 0)
  else if negInf then (f.infBits true, 0)
  else
    let g := (vs.map Fp.exponent).foldl min 0
    let x := (vs.map (Fp.scaled g)).foldl (· + ·) 0
    if x = 0 then (if vs.all Fp.isNeg then 2 ^ (f.ew + f.fw) else 0, 0)
    else f.round (decide (x < 0)) x.natAbs g

/-- The operand as a term of a sum. -/
def Fp.term (x : Fp) : FpTerm := (x, false)

/-- The order of two operands that are no NaN: `a > b`. -/
def Fp.gt : Fp → Fp → Bool
  | .nan _, _ => false
  | _, .nan _ => false
  | .inf a, b => !a && !(b == .inf false)
  | .fin .., .inf b => b
  | x, y =>
    let g := min x.exponent y.exponent
    decide (x.scaled g > y.scaled g)

/-- Equality of two operands as numbers. -/
def Fp.eq : Fp → Fp → Bool
  | .nan _, _ => false
  | _, .nan _ => false
  | .inf a, .inf b => a == b
  | .inf _, _ => false
  | _, .inf _ => false
  | x, y =>
    let g := min x.exponent y.exponent
    decide (x.scaled g = y.scaled g)

/-- R117: conversion between formats; a NaN gives the quiet NaN, with FINV when it signals. -/
def FpFmt.convert (f : FpFmt) (x : Fp) : Nat × FlagSet :=
  match x with
  | .nan s => (f.qnan, if s then flagInv else 0)
  | .inf a => (f.infBits a, 0)
  | .fin a m e => f.round a m e

/-- R117: rounding to an integer with saturation; a NaN gives 0 with FINV. -/
def Fp.toInt (b : Nat) : Fp → Int × FlagSet
  | .nan _ => (0, flagInv)
  | .inf a => (if a then -(b : Int) else (b : Int), flagSat)
  | .fin a m e =>
    let sgn : Int := if a then -1 else 1
    sat b (sgn * (if 0 ≤ e then ((m * 2 ^ e.toNat : Nat) : Int) else rne m (-e).toNat))

/-- R117: an integer rounded to the format. -/
def FpFmt.ofInt (f : FpFmt) (x : Int) : Nat × FlagSet := f.round (decide (x < 0)) x.natAbs 0

end Sys2Proof.Machine
end

