-- ==== Sys2Proof/Machine/Operands.lean ====
section
/-! DEFINITION. The operand forms of the engine: register reads and writes of a bank (R98, R99), the slots of a bundle (R111),
lanes and elements of the word formats (R102 to R104), and predication (R114). -/

namespace Sys2Proof.Machine

/-! ## Registers of a bank -/

def EBank.getS (b : EBank) (i : Nat) : Word := SMap.get (fun _ => 0) b.s i
def EBank.getV (b : EBank) (i : Nat) : Quad := SMap.get (fun _ => 0) b.v i
def EBank.getA (b : EBank) (i : Nat) : Acc256 := SMap.get (fun _ => 0) b.a i

/-- P0 always reads 0xFF (R99). -/
def EBank.getP (b : EBank) (i : Nat) : Byte := if i = 0 then 0xFF else SMap.get (fun _ => 0) b.p i

def EBank.setS (b : EBank) (i : Nat) (x : Word) : EBank := { b with s := SMap.set (fun _ => 0) b.s i x }
def EBank.setV (b : EBank) (i : Nat) (x : Quad) : EBank := { b with v := SMap.set (fun _ => 0) b.v i x }
def EBank.setA (b : EBank) (i : Nat) (x : Acc256) : EBank := { b with a := SMap.set (fun _ => 0) b.a i x }

/-- A write of P0 keeps its value (R99; an instruction that names it is ILLEGAL). -/
def EBank.setP (b : EBank) (i : Nat) (x : Byte) : EBank :=
  if i = 0 then b else { b with p := SMap.set (fun _ => 0) b.p i x }

/-! ## Register keys, for hazards and for R112 -/

def keyS (i : Nat) : Nat := i
def keyV (i : Nat) : Nat := 32 + i
def keyA (i : Nat) : Nat := 64 + i
def keyP (i : Nat) : Nat := 72 + i
def keyFlags : Nat := 80

/-! ## Slots (R111) -/

structure CtlSlot where
  q : Pred
  opc : Nat
  x : CArgs
  deriving DecidableEq, Repr

structure VecSlot where
  q : Pred
  opc : Nat
  x : VArgs
  deriving DecidableEq, Repr

structure LsSlot where
  q : Pred
  opc : Nat
  x : LArgs
  deriving DecidableEq, Repr

structure Bundle where
  c : CtlSlot
  v : VecSlot
  l : LsSlot
  deriving DecidableEq, Repr

def predAt (w hi : Nat) : Pred := ⟨w / 2 ^ hi % 2 = 1, BitVec.ofNat 3 (w / 2 ^ (hi - 3))⟩

def ctlSlotOf (w : Nat) : CtlSlot :=
  ⟨predAt w 39, w / 2 ^ 28 % 256, ⟨BitVec.ofNat 5 (w / 2 ^ 23), BitVec.ofNat 5 (w / 2 ^ 18), BitVec.ofNat 18 w⟩⟩

def vecSlotOf (w : Nat) : VecSlot :=
  ⟨predAt w 43, w / 2 ^ 32 % 256,
    ⟨BitVec.ofNat 5 (w / 2 ^ 27), BitVec.ofNat 5 (w / 2 ^ 22), BitVec.ofNat 5 (w / 2 ^ 17), BitVec.ofNat 5 (w / 2 ^ 12),
     BitVec.ofNat 4 (w / 2 ^ 8), BitVec.ofNat 8 w⟩⟩

def lsSlotOf (w : Nat) : LsSlot :=
  ⟨predAt w 43, w / 2 ^ 36 % 16,
    ⟨BitVec.ofNat 5 (w / 2 ^ 31), BitVec.ofNat 5 (w / 2 ^ 26), BitVec.ofNat 2 (w / 2 ^ 24), BitVec.ofNat 14 (w / 2 ^ 10),
     BitVec.ofNat 3 (w / 2 ^ 7), BitVec.ofNat 7 w⟩⟩

/-- R111: the three slots of a bundle. -/
def bundleOf (w : Quad) : Bundle :=
  ⟨ctlSlotOf (bitsOf w 127 88), vecSlotOf (bitsOf w 87 44), lsSlotOf (bitsOf w 43 0)⟩

/-- RB of a control slot. -/
def ctlRb (x : CArgs) : Nat := bitsOf x.imm 17 13

/-- The sign-extended immediate. -/
def ctlSimm (x : CArgs) : Int := x.imm.toInt

/-- The zero-extended immediate. -/
def ctlUimm (x : CArgs) : Nat := x.imm.toNat

/-- The predicate of a slot, PNEG applied. -/
def predMask (q : Pred) (b : EBank) : Byte :=
  let p := b.getP q.pred.toNat
  if q.pneg then ~~~p else p

/-- A control or load-store slot executes (R114). -/
def predOn (q : Pred) (b : EBank) : Bool := (predMask q b).toNat % 2 = 1

/-! ## Lanes and elements -/

/-- The `n` lanes of `w` bits, least significant first. -/
def lanes (w n x : Nat) : List Nat := (List.range n).map (fun i => x / 2 ^ (w * i) % 2 ^ w)

/-- The lanes as signed numbers. -/
def slanes (w n x : Nat) : List Int := (lanes w n x).map (toSigned w)

/-- The number that lanes of `w` bits make. -/
def joinLanes (w : Nat) : List Nat → Nat
  | [] => 0
  | x :: l => x % 2 ^ w + 2 ^ w * joinLanes w l

/-- R114: lanes that are not enabled keep their values and set no flags. Bit `step × i` of the predicate governs lane `i`. -/
def mergeLanes (w step : Nat) (pm old : Nat) : Nat → List (Nat × FlagSet) → List Nat × FlagSet
  | _, [] => ([], 0)
  | i, (x, g) :: l =>
    let r := mergeLanes w step pm old (i + 1) l
    if pm / 2 ^ (step * i) % 2 = 1 then (x :: r.1, g ||| r.2) else (old / 2 ^ (w * i) % 2 ^ w :: r.1, r.2)

/-! ## Block floating point words (R103, R104) -/

/-- Mantissa width of a B format. -/
def bWidth (fmt : Nat) : Nat := if fmt = 4 then 10 else 8

/-- Components of a B word: 12 or 14. -/
def bCount (fmt : Nat) : Nat := if fmt = 4 then 12 else 14

def bExp (x : Quad) : Nat := bitsOf x 127 124
def bTag (x : Quad) : Nat := bitsOf x 123 120

/-- The signed mantissas, real and imaginary of each element in turn. -/
def bMants (fmt : Nat) (x : Quad) : List Int := slanes (bWidth fmt) (bCount fmt) x.toNat

/-- The exact values of the components. -/
def bVals (fmt : Nat) (x : Quad) : List Int := (bMants fmt x).map (· * (2 ^ bExp x : Nat))

/-- A B word from exponent, tag and mantissas; bits [119:112] of a B8 word are 0. -/
def bWord (fmt e tag : Nat) (ms : List Int) : Quad :=
  BitVec.ofNat 128 (e * 2 ^ 124 + tag % 16 * 2 ^ 120 + joinLanes (bWidth fmt) (ms.map (ofSigned (bWidth fmt))))

/-- R107: a B result from exact components `x / 2^d`. -/
def bResult (fmt tag : Nat) (xs : List Int) (d : Nat) : Quad × FlagSet :=
  let (e, ms, g) := norm (boundB fmt) xs d
  (bWord fmt e tag ms, g)

/-! ## Complex products -/

/-- Pairs of neighbours: (real, imaginary). -/
def pairs {α : Type} : List α → List (α × α)
  | a :: b :: l => (a, b) :: pairs l
  | _ => []

/-- Component list of the element-wise complex product of two component lists. -/
def cmulInts (a b : List Int) : List Int :=
  ((pairs a).zip (pairs b)).flatMap (fun (p, q) => [p.1 * q.1 - p.2 * q.2, p.1 * q.2 + p.2 * q.1])

/-- The negated term. -/
def negTerm (t : FpTerm) : FpTerm := (t.1.neg, t.2)

/-- The terms of each component of a complex product of IEEE elements. -/
def cmulFps (a b : List Fp) : List (List FpTerm) :=
  ((pairs a).zip (pairs b)).flatMap (fun (p, q) =>
    [[p.1.mul q.1, negTerm (p.2.mul q.2)], [p.1.mul q.2, p.2.mul q.1]])

/-- Element `k` of a component list, repeated for `n` elements. -/
def repElem {α : Type} (n k : Nat) (l : List α) : List α :=
  match (pairs l)[k]? with
  | some (x, y) => (List.replicate n [x, y]).flatten
  | none => l

def fps (f : FpFmt) (w n x : Nat) : List Fp := (lanes w n x).map (Fp.ofBits f)

end Sys2Proof.Machine
end

