-- ==== Sys2Proof/Machine/Sram.lean ====
section
/-! DEFINITION. Bit errors in the on-die SRAMs (R337, R339, R340, R342): what a read of a word finds, the write-back, the buckets and the
record of an uncorrectable granule. No command puts an error there: State holds those there are. -/

namespace Sys2Proof.Machine

/-- Where an SRAM word lies: its unit's requester ID and its word index (R340). -/
def sramLoc (unit idx : Nat) : Nat := unit * 2 ^ 32 + idx

/-- A granule without a wrong bit. -/
def noErr : Gran := ⟨0, 0⟩

/-- The wrong bits of the words `lo` to `lo + n - 1` of a unit: (location, bits). -/
def State.sramErrs (s : State) (unit lo n : Nat) : List (Nat × Gran) :=
  s.ice.errs.filter (fun e => decide (sramLoc unit lo ≤ e.1) && decide (e.1 < sramLoc unit (lo + n)))

/-- The word holds the right bits again. -/
def State.sramMend (s : State) (loc : Nat) : State := { s with ice := { s.ice with errs := SMap.drop s.ice.errs loc } }

/-- R340: the bucket of a unit's SRAM, its counter, and the code at overflow. -/
def sramBucket (unit : Nat) : Nat × Nat × Nat :=
  let die := unit / 0x1000
  if unit = reqSch then (0x300060, 0x300064, 0x058)
  -- the stream buffers of converter die n are in tile n
  else if die < 4 ∨ 8 ≤ die then (0x900200 + 0x10 * (die % 4), 0x900204 + 0x10 * (die % 4), 0x0C4)
  else (0x900240, 0x900244, 0x0C4)

/-- R340: a corrected word counts; its bucket rises, and logs when it overflows. -/
def State.sramCount (s : State) (unit loc : Nat) : State :=
  let (o, cnt, code) := sramBucket unit
  let s1 := s.count cnt 31 0 1
  let n := SMap.get (fun _ => 0) s1.ice.since o + 1
  let (s2, full) := s1.bucket o
  let keep (m : Nat) (t : State) : State := { t with ice := { t.ice with since := SMap.set (fun _ => 0) t.ice.since o m } }
  let src := if unit = reqSch then reqSch else 0x4006
  if full then (keep 0 s2).log (mkRec src code loc n src) else keep n s2

/-- R339: a word is corrected and written back. -/
def State.sramCorrect (s : State) (unit loc : Nat) : State := (s.sramMend loc).sramCount unit loc

/-- A read of the words `lo` to `lo + n - 1` of a unit: correctable errors are corrected; the answer lists the uncorrectable words. -/
def State.sramRead (s : State) (unit lo n : Nat) : State × List Nat :=
  (s.sramErrs unit lo n).foldl (fun (p : State × List Nat) e =>
    match (secdedRead e.2).2 with
    | .clean => p
    | .corrected => (p.1.sramCorrect unit e.1, p.2)
    | _ => (p.1, p.2 ++ [e.1])) (s, [])

/-- R342: the same of an SRAM that no other rule covers: whether the reader gets poison. Each uncorrectable word is recorded. -/
def State.sramPoison (s : State) (unit lo n : Nat) : State × Bool :=
  let (s1, bad) := s.sramRead unit lo n
  (bad.foldl (fun (t : State) a => t.log (mkRec 0x4006 0x0C5 a 1 unit)) s1, !bad.isEmpty)

/-- The words are written anew, with right check bits. -/
def State.sramFresh (s : State) (unit lo n : Nat) : State := (s.sramErrs unit lo n).foldl (fun (t : State) e => t.sramMend e.1) s

/-- A buffer's words are read for the last time before the next data is written over them. -/
def State.sramTake (s : State) (unit lo n : Nat) : State × Bool :=
  let (s1, bad) := s.sramPoison unit lo n
  (s1.sramFresh unit lo n, bad)

end Sys2Proof.Machine
end

