-- ==== Sys2Proof/Machine/Cls.lean ====
section
/-! DEFINITION. The message classifier of a tile (R286 to R289): recognition of a frame, its rule, the slot it is written to, the
unpacking of block floating point, and the order of the frames. -/

namespace Sys2Proof.Machine

def oCls (t : Nat) : Nat := 0xC0000 + 0x4000 * t
def oRing (t k : Nat) : Nat := oCls t + 0x100 + 0x10 * k
def oRule (t r : Nat) : Nat := oCls t + 0x1000 + 0x10 * r

def State.cls (s : State) (t : Nat) : ClsSt := SMap.get (fun _ => {}) s.ser.cls t
def State.setCls (s : State) (t : Nat) (x : ClsSt) : State :=
  { s with ser := { s.ser with cls := SMap.set (fun _ => {}) s.ser.cls t x } }

def laneReq (l : Nat) : Nat := l / 12 * 0x1000 + 0x600 + l % 12
def clsReq (t : Nat) : Nat := t * 0x1000 + 0x600

/-! ## Reading a frame -/

def byteAt (l : List Byte) (i : Nat) : Nat := (l.getD i 0).toNat
def be16 (l : List Byte) (i : Nat) : Nat := byteAt l i * 256 + byteAt l (i + 1)

/-- An IEEE 802.1Q tag stands at byte `i`. -/
def tagAt (l : List Byte) (i : Nat) : Bool := be16 l i = 0x8100 || be16 l i = 0x88A8

/-- Where the EtherType stands, after up to two tags. -/
def etherAt (l : List Byte) : Nat := if tagAt l 12 then (if tagAt l 16 then 20 else 16) else 12

/-- R283: the priority of a frame. -/
def framePrio (l : List Byte) : Nat := if tagAt l 12 then byteAt l 14 / 32 else 0

/-- Where the UDP header stands: IPv4 with options, or IPv6 without extension headers. -/
def udpAt (l : List Byte) : Option Nat :=
  let e := etherAt l
  let p := e + 2
  if be16 l e = 0x0800 ∧ byteAt l p / 16 = 4 ∧ byteAt l (p + 9) = 17 then some (p + 4 * (byteAt l p % 16))
  else if be16 l e = 0x86DD ∧ byteAt l p / 16 = 6 ∧ byteAt l (p + 6) = 17 then some (p + 40)
  else none

/-- What R286 recognises in a frame. -/
inductive MsgKind where
  /-- eCPRI, with the offset of its common header; KIND 0 or 1 -/
  | ecpri (kind at_ : Nat)
  /-- an eCPRI frame of another revision or an unknown type -/
  | unmatched
  /-- PTP or ESMC: the management ring -/
  | mgmt
  | other
  deriving DecidableEq, Repr

/-- `udp` is SYS_CLSCTL.ECPRIUDP. -/
def msgKind (l : List Byte) (udp : Nat) : MsgKind :=
  let e := etherAt l
  let t := be16 l e
  let ec (k a : Nat) : MsgKind := if byteAt l a / 16 = 1 ∧ byteAt l (a + 1) < 8 then .ecpri k a else .unmatched
  let port := (udpAt l).map (fun u => be16 l (u + 2))
  if t = 0x88F7 ∨ port = some 319 ∨ port = some 320 ∨ (t = 0x8809 ∧ byteAt l (e + 2) = 0x0A) then .mgmt
  else if t = 0xAEFE then ec 0 (e + 2)
  else match udpAt l with
    | some u => if udp ≠ 0 ∧ be16 l (u + 2) = udp then ec 1 (u + 8) else .other
    | none => .other

/-- The eCPRI message type. -/
def ecpriType (l : List Byte) (a : Nat) : Nat := byteAt l (a + 1)

/-- The key of an eCPRI frame. -/
def ecpriKey (l : List Byte) (a : Nat) : Nat :=
  let t := ecpriType l a
  if t ≤ 2 then be16 l (a + 4) else if t = 3 then be16 l (a + 6) else 0

/-- The 16 bits at an offset, where the frame holds them. -/
def keyAt (l : List Byte) (i : Nat) : Option Nat := if i + 2 ≤ l.length then some (be16 l i) else none

/-- R286: rule `r` matches; the answer is the key. -/
def State.ruleKey (s : State) (t r : Nat) (l : List Byte) (m : MsgKind) : Option Nat :=
  let w0 := s.reg (oRule t r)
  let w1 := s.reg (oRule t r + 4)
  let koff := s.fld (oRule t r + 12) 15 0
  let kind := bitsOf w0 30 28
  let many := bitsOf w0 19 19 = 1
  let key : Option Nat :=
    match m with
    | .ecpri k a => if kind = k ∧ (many ∨ bitsOf w0 27 20 = ecpriType l a) then some (ecpriKey l a) else none
    | .other =>
      if kind = 2 ∧ many ∧ bitsOf w1 15 0 = be16 l (etherAt l) then keyAt l (etherAt l + 2 + koff)
      else if kind = 3 ∧ many then
        match udpAt l with
        | some u => if bitsOf w1 15 0 = be16 l (u + 2) then keyAt l (u + 8 + koff) else none
        | none => none
      else none
    | _ => none
  match key with
  | some k => if bitsOf w0 31 31 = 1 ∧ k &&& bitsOf w1 31 16 = bitsOf w0 15 0 &&& bitsOf w1 31 16 then some k else none
  | none => none

/-- The lowest-numbered rule that matches, with the key. -/
def State.matchRule (s : State) (t : Nat) (l : List Byte) (m : MsgKind) : Option (Nat × Nat) :=
  (List.range 256).findSome? (fun r => if s.bit (oRule t r) 31 then (s.ruleKey t r l m).map (fun k => (r, k)) else none)

/-! ## Unpacking (R289) -/

/-- Bytes padded with zeros to a multiple of 16. -/
def pad16 (l : List Byte) : List Byte := l ++ List.replicate ((16 - l.length % 16) % 16) 0

/-- The 24 mantissas of a PRB, most significant bit first, sign-extended. -/
def prbMants (iqw : Nat) (l : List Byte) : List Int :=
  let n := ofBytesBE l
  let total := 8 * l.length
  (List.range 24).map (fun i => toSigned iqw (n / 2 ^ (total - iqw * (i + 1)) % 2 ^ iqw))

/-- The two words of a PRB. -/
def prbWords (fmt iqw tag : Nat) (l : List Byte) : List Byte :=
  let e := byteAt l 0 % 16
  let m := prbMants iqw ((l.drop 1).take (3 * iqw))
  let k := if fmt = 4 then 12 else 14
  let w1 := m.drop k
  bytesLE 16 (bWord fmt e tag (m.take k)).toNat ++ bytesLE 16 (bWord fmt e tag (w1 ++ List.replicate (k - w1.length) 0)).toNat

/-- `n` PRBs; none where the bytes do not hold them. -/
def unpackPrbs (fmt iqw tag : Nat) : Nat → List Byte → Option (List Byte × List Byte)
  | 0, l => some ([], l)
  | n + 1, l =>
    if l.length < 1 + 3 * iqw then none
    else (unpackPrbs fmt iqw tag n (l.drop (1 + 3 * iqw))).map (fun r => (prbWords fmt iqw tag l ++ r.1, r.2))

/-- The sections of a user-plane message. -/
def unpackSections (fmt iqw tag : Nat) (chdr : Bool) : Nat → List Byte → Option (List Byte)
  | 0, l => if l = [] then some [] else none
  | fuel + 1, l =>
    let h := if chdr then 6 else 4
    if l = [] then some []
    else if l.length < h ∨ byteAt l 3 = 0 ∨ (chdr = true ∧ byteAt l 4 / 16 ≠ iqw) then none
    else
      match unpackPrbs fmt iqw tag (byteAt l 3) (l.drop h) with
      | none => none
      | some (d, rest) => (unpackSections fmt iqw tag chdr fuel rest).map (fun r => pad16 (l.take h) ++ d ++ r)

/-- R289: the frame unpacked; none where it cannot be, or where it is delivered whole with several messages (R286). -/
def unpackFrame (w2 : Word) (l : List Byte) (m : MsgKind) : Option (List Byte) :=
  match m with
  | .ecpri _ a =>
    let stop := a + 4 + be16 l (a + 2)
    if ecpriType l a ≠ 0 ∨ byteAt l a % 2 = 1 ∨ l.length < stop ∨ stop ≤ a + 12 then none
    else
      (unpackSections (if bitsOf w2 25 24 = 1 then 4 else 5) (bitsOf w2 23 20) (bitsOf w2 15 12) (bitsOf w2 19 19 = 1) 4096
        ((l.take stop).drop (a + 12))).map (fun d => pad16 (l.take (a + 12)) ++ d)
  | _ => none

/-! ## Slots (R287) -/

/-- The slot header. -/
def slotHeader (time len lane mtype key rule seq : Nat) (flags : Nat) : List Byte :=
  bytesLE 4 (timeNs time) ++ bytesLE 6 (timeSec time) ++ bytesLE 2 (timeFrac time) ++ bytesLE 2 len ++ bytesLE 1 lane
    ++ bytesLE 1 mtype ++ bytesLE 2 key ++ bytesLE 2 rule ++ bytesLE 4 seq ++ bytesLE 1 flags ++ bytesLE 7 0

def State.ringBase (s : State) (t k : Nat) : Nat := s.fld (oRing t k) 31 0 + 2 ^ 32 * s.fld (oRing t k + 4) 31 0

/-- A frame is dropped at its ring, or before any (R287). -/
def State.clsDrop (s : State) (t : Nat) (ring : Option Nat) : State :=
  let s1 := match ring with | some k => s.count (oCls t + 0x200 + 4 * k) 31 0 1 | none => s
  s1.logLim (limKey 0x095 t) (mkRec (clsReq t) 0x095 0 1 (clsReq t))

/-- The next packet of the slot being written. -/
def State.clsWrite (s : State) (t : Nat) : State :=
  match (s.cls t).cur with
  | none => s
  | some c =>
    let a := c.addr + c.acked
    let left := c.data.length - c.acked
    let d := c.data.drop c.acked
    if 16 ≤ left then
      let len := pieceLen a (left / 16 * 16)
      s.issueWr (clsReq t) 0 0 a len 0xFFFF c.poison (d.take (pieceBytes len)) (.clsSlot t c.acked)
    else s.issueWr (clsReq t) 0 0 a 0 (BitVec.ofNat 16 (2 ^ left - 1)) c.poison (d ++ List.replicate (16 - left) 0) (.clsSlot t c.acked)

/-- A frame goes to a ring, with the rule and the key it matched. -/
def State.clsDeliver (s : State) (t ring : Nat) (x : RxWait) (m : MsgKind) (rule : Option (Nat × Nat)) (mgmt poison : Bool) : State :=
  let o := oRing t ring
  let nslot := s.fld (o + 8) 12 0
  let slotsz := 256 * s.fld (o + 8) 21 16
  let y := s.cls t
  let seq := SMap.get (fun _ => 0) y.seqs ring
  let full := decide (nslot ≤ (s.fld (o + 12) 15 0 + 65536 - s.fld (o + 12) 31 16) % 65536)
  let w2 := match rule with | some (r, _) => s.reg (oRule t r + 8) | none => 0
  let un := bitsOf w2 25 24
  let unpacked := if un = 0 then none else unpackFrame w2 x.bytes m
  let body := unpacked.getD x.bytes
  let mtype := match m with | .ecpri _ a => ecpriType x.bytes a | _ => 0xFF
  let key := match rule, m with | some (_, k), _ => k | none, .ecpri _ a => ecpriKey x.bytes a | none, _ => 0
  let tagged := tagAt x.bytes 12
  let flags := (if tagged then 1 + 2 * framePrio x.bytes else 0) + (if un ≠ 0 ∧ unpacked.isNone = true then 16 else 0)
  if s.bit (o + 8) 31 = false ∨ full = true ∨ slotsz < 32 + body.length then s.clsDrop t (some ring)
  else
    let addr := s.ringBase t ring + seq % nslot * slotsz
    let hdr := slotHeader x.time body.length x.lane mtype key (match rule with | some (r, _) => r | none => 0xFFFF) seq flags
    let tmpl := match rule with
      | some (r, _) => if s.bit (oRule t r + 12) 31 then some (bitsOf w2 9 0) else none
      | none => none
    (s.setCls t { y with cur := some ⟨ring, addr, hdr ++ body, 0, tmpl, x.time, mgmt, false, poison⟩ }).clsWrite t

/-- R286: one frame is classified. -/
def State.classify (s : State) (t : Nat) (x : RxWait) (poison : Bool) : State :=
  let o := oCls t
  let m := msgKind x.bytes (s.fld o 15 0)
  if m = .mgmt then s.clsDeliver t 15 x m none true poison
  else
    match s.matchRule t x.bytes m with
    | some (r, k) => s.clsDeliver t (s.fld (oRule t r + 8) 31 28) x m (some (r, k)) false poison
    | none =>
      let s1 := s.count (o + 4) 31 16 1
      if s1.bit o 30 then s1.clsDeliver t (s1.fld o 27 24) x m none false poison else s1.clsDrop t none

/-- R288: the next frames are taken while none is being delivered and no template request is outstanding. -/
def State.clsPump (s : State) (t : Nat) : Nat → State
  | 0 => s
  | fuel + 1 =>
    let y := s.cls t
    match y.q with
    | [] => s
    | x :: rest =>
      if y.cur.isSome = true ∨ y.tmplWait = true ∨ s.bit (oCls t) 31 = false then s
      else
        let (s1, bad) := (s.setCls t { y with q := rest }).sramTake (laneReq x.lane) 0 ((x.bytes.length + 7) / 8)
        State.clsPump (s1.classify t x bad) t fuel

def State.clsRun (s : State) (t : Nat) : State := s.clsPump t (s.cls t).q.length

/-- A write of the slot is answered. -/
def State.clsAck (s : State) (t part : Nat) (ok : Bool) : State :=
  let y := s.cls t
  match y.cur with
  | none => s
  | some c =>
    if c.acked ≠ part ∨ c.landed = true then s
    else if ok = false then
      ((s.setCls t { y with cur := none }).log (mkRec (clsReq t) 0x096 (c.addr + c.acked) 1 (clsReq t))).clsRun t
    else
      let left := c.data.length - c.acked
      let n := if 16 ≤ left then pieceBytes (pieceLen (c.addr + c.acked) (left / 16 * 16)) else left
      let c1 := { c with acked := c.acked + n, landed := decide (c.data.length ≤ c.acked + n) }
      let s1 := s.setCls t { y with cur := some c1 }
      if c1.landed then s1 else s1.clsWrite t

/-- R287: the slot has landed: PI, and the template request. -/
def State.clsLanded (s : State) (t : Nat) : State :=
  let y := s.cls t
  match y.cur with
  | none => s
  | some c =>
    if c.landed = false then s
    else
      let seq := SMap.get (fun _ => 0) y.seqs c.ring
      let y1 := { y with cur := none, seqs := SMap.set (fun _ => 0) y.seqs c.ring ((seq + 1) % 2 ^ 32), tmplWait := c.tmpl.isSome }
      let s1 := (s.setCls t y1).setFld (oRing t c.ring + 12) 15 0 (seq + 1)
      let s2 := if c.mgmt then s1.emit (.mgmtIrq mgmtLineRing) else s1
      match c.tmpl with
      | some n =>
        let w (x : Nat) : Word := BitVec.ofNat 32 x
        s2.pushInput (3 + 4 * t) (enqItem (.classifier t) (clsReq t) 0 0 true
          [w n, 3, w c.addr, w (c.addr / 2 ^ 32), w (timeNs c.time), w (timeSec c.time), 0, 0])
      | none => s2.clsRun t

/-- R288: the template request was accepted or has ended. -/
def State.clsTmplDone (s : State) (t : Nat) : State :=
  (s.setCls t { s.cls t with tmplWait := false }).clsRun t

end Sys2Proof.Machine
end

