-- ==== Sys2Proof/Machine/EngMem.lean ====
section
/-! DEFINITION. The local memories of an engine (R133 to R138): granules, reads with correction, whole and partial writes, the
reservation, and the leaky bucket. -/

namespace Sys2Proof.Machine

def State.engSt (s : State) (e : Nat) : EngSt := SMap.get engReset s.eng e
def State.setEng (s : State) (e : Nat) (x : EngSt) : State := { s with eng := SMap.set engReset s.eng e x }

/-! ## Banks -/

def EngSt.bank (x : EngSt) (w : Bool) : EBank := if w then x.b1 else x.b0
def EngSt.setBank (x : EngSt) (w : Bool) (b : EBank) : EngSt := if w then { x with b1 := b } else { x with b0 := b }
def EngSt.cur (x : EngSt) : EBank := x.bank x.active
def EngSt.setCur (x : EngSt) (b : EBank) : EngSt := x.setBank x.active b

/-! ## Granules -/

/-- The granule map of a memory of the engine. -/
def EngSt.mem (x : EngSt) (im : Bool) : SMap Gran := if im then x.imem else x.dmem

/-- Granule `k` as stored; a granule nothing has written is free in data and check bits (R38, R343). -/
def EngSt.gran (x : EngSt) (e : Nat) (im : Bool) (k : Nat) : Gran :=
  match SMap.find (x.mem im) k with
  | some g => g
  | none =>
    let seed := (x.lost * 2048 + e) * 2 + if im then 1 else 0
    ⟨Config.uninit seed k, (Config.uninitCheck seed k).setWidth 8⟩

def EngSt.setGran (x : EngSt) (im : Bool) (k : Nat) (g : Gran) : EngSt :=
  if im then { x with imem := SMap.insert x.imem k g }
  else { x with dmem := SMap.insert x.dmem k g, resv := if x.resv = some (k / 2) then none else x.resv }

/-- A read of granule `k`: data and what was found. -/
def EngSt.readGran (x : EngSt) (e : Nat) (im : Bool) (k : Nat) : DWord × EccState := secdedRead (x.gran e im k)

/-- Worst of what several granules were found to be: an engine cannot use poison or an uncorrectable granule. -/
def eccBad : EccState → Bool
  | .poison | .uncorrectable => true
  | _ => false

/-- The 16-byte word at index `w` (data word or bundle), whether it is unusable, and the granules corrected. -/
def EngSt.readWord (x : EngSt) (e : Nat) (im : Bool) (w : Nat) : Quad × Bool × List Nat :=
  let (d0, c0) := x.readGran e im (2 * w)
  let (d1, c1) := x.readGran e im (2 * w + 1)
  (d0.setWidth 128 ||| (d1.setWidth 128 <<< 64), eccBad c0 || eccBad c1,
    (if c0 = .corrected then [2 * w] else []) ++ (if c1 = .corrected then [2 * w + 1] else []))

def EngSt.writeWord (x : EngSt) (im : Bool) (w : Nat) (v : Quad) : EngSt :=
  (x.setGran im (2 * w) (mkGran (v.setWidth 64))).setGran im (2 * w + 1) (mkGran ((v >>> 64).setWidth 64))

def EngSt.poisonWord (x : EngSt) (im : Bool) (w : Nat) : EngSt :=
  (x.setGran im (2 * w) poisonGran).setGran im (2 * w + 1) poisonGran

/-- Local byte address of a granule in the engine's window. -/
def granAddr (im : Bool) (k : Nat) : Nat := (if im then 0x30000 else 0) + 8 * k

/-- R135, R138: a correction: the granule is written back, counted, and fills the bucket; the reservation stands, since the contents
do not change. -/
def State.engCorrect (s : State) (e : Nat) (im : Bool) (k : Nat) : State :=
  let x := s.engSt e
  let (d, _) := x.readGran e im k
  let x1 := if im then { x with imem := SMap.insert x.imem k (mkGran d), corrected := x.corrected + 1 }
            else { x with dmem := SMap.insert x.dmem k (mkGran d), corrected := x.corrected + 1 }
  let s1 := (s.setEng e x1).count (oEng e + 0x28) 31 0 1
  let s2 := s1.setReg (oEng e + 0x2C) (BitVec.ofNat 32 ((if im then 2 ^ 31 else 0) + 8 * k))
  let (s3, spilt) := s2.bucket (oEng e + 0x24)
  if spilt then
    (s3.setEng e { s3.engSt e with corrected := 0 }).log (mkRec (engReq e) 0x047 (granAddr im k) (s3.engSt e).corrected (engReq e))
  else s3

def State.engCorrectAll (s : State) (e : Nat) (im : Bool) (ks : List Nat) : State :=
  ks.foldl (fun t k => t.engCorrect e im k) s

/-- The bytes of a 64-bit granule with some of them replaced. -/
def mergeBytes (old new : DWord) (be : Nat) : DWord :=
  (List.range 8).foldl (fun d i =>
    if be / 2 ^ i % 2 = 1 then withBits d (8 * i + 7) (8 * i) (bitsOf new (8 * i + 7) (8 * i)) else d) old

/-- A write of the bytes `be` of data granule `k` (R136): the engine after it, whether the granule refused it, and a correction made
on the way. A whole granule is never read first. -/
def EngSt.writeGran (x : EngSt) (e k : Nat) (v : DWord) (be : Nat) (poison : Bool) : EngSt × Bool × List Nat :=
  if be = 0 then (x, false, [])
  else if be = 0xFF then (x.setGran false k (if poison then poisonGran else mkGran v), false, [])
  else
    let (d, c) := x.readGran e false k
    if eccBad c then (x, true, [])
    else (x.setGran false k (if poison then poisonGran else mkGran (mergeBytes d v be)), false, if c = .corrected then [k] else [])

/-- The memories lose their contents: OFF with RET = 0 (R38). -/
def EngSt.lose (x : EngSt) : EngSt := { x with dmem := [], imem := [], lost := x.lost + 1 }

/-- A memory self-test leaves every word zero with valid check bits (R159). -/
def EngSt.zeroMem (x : EngSt) : EngSt :=
  { x with dmem := (List.range 24576).map (fun k => (k, mkGran 0)), imem := (List.range 8192).map (fun k => (k, mkGran 0)) }

/-- Every granule holds the poison marker (R150). -/
def EngSt.poisonAll (x : EngSt) : EngSt :=
  { x with dmem := (List.range 24576).map (fun k => (k, poisonGran)), imem := (List.range 8192).map (fun k => (k, poisonGran)) }

end Sys2Proof.Machine
end

