-- ==== Sys2Proof/Machine/DbgOps.lean ====
section
/-! DEFINITION. Halts and trigger channels as the engines meet them (R406, R411). -/

namespace Sys2Proof.Machine

def oDbg : Nat := 0x700000
def oTrigSt : Nat := oDbg + 0x20
def oMcfg : Nat := oDbg + 0x40

/-- DBG_ECFG of a physical engine. -/
def oEcfg (e : Nat) : Nat := oDbg + 0x10000 + 4 * e

def State.halted (s : State) (e : Nat) : Bool := s.bit (oEcfg e) 31

/-- The engines whose DBG_ECFG differs from its reset value; only these have a TRIGIN or are halted. -/
def State.cfgEngines (s : State) : List Nat :=
  (s.regs.filter (fun p => decide (oEcfg 0 ≤ p.1) && decide (p.1 < oEcfg 1088))).map (fun p => (p.1 - oEcfg 0) / 4)

/-- R411: channels `m` fire. Each sink that a rising channel reaches, and that is not halted, is to halt with CAUSE 3. -/
def State.fire (s : State) (m : Nat) : State :=
  let old := s.fld oTrigSt 7 0
  let rise := m &&& (255 - old)
  if rise = 0 then s
  else
    let s1 := s.setFld oTrigSt 7 0 (old ||| m)
    let s2 := s1.cfgEngines.foldl (fun t e =>
      if t.fld (oEcfg e) 23 16 &&& rise ≠ 0 ∧ t.halted e = false ∧ (t.engSt e).haltDue = 0 ∧ t.isOn (oPwrEng e) then
        t.setEng e { t.engSt e with haltDue := 3 }
      else t) s1
    if s2.fld oMcfg 23 16 &&& rise ≠ 0 ∧ s2.bit oMcfg 31 = false ∧ s2.dbg.mHaltDue = 0 then
      { s2 with dbg := { s2.dbg with mHaltDue := 3 } }
    else s2

/-- R406: the engine halts with a CAUSE; a halt by no trigger fires its TRIGOUT. The reservation is cleared (R408), and a descriptor
offered by a stalled ENQ is withdrawn, since its bundle has not issued. -/
def State.haltEngine (s : State) (e cause : Nat) : State :=
  let x := s.engSt e
  let b := x.cur
  let s1 := s.setEng e (({ x with resv := none, haltDue := 0, stepping := false }).setCur
    { b with wait := if b.wait = EWait.enqOffered then .none else b.wait })
  let s2 := if b.wait = EWait.enqOffered then s1.withdrawEng e else s1
  let s3 := (s2.setBit (oEcfg e) 31 true).setFld (oEcfg e) 30 28 cause
  if cause = 3 ∨ cause = 5 then s3 else s3.fire (s3.fld (oEcfg e) 15 8)

end Sys2Proof.Machine
end

