-- ==== Sys2Proof/Machine/EngCtl.lean ====
section
/-! DEFINITION. The control slot (R115, R120, R121, R125, R126): what each instruction reads, writes and does. -/

namespace Sys2Proof.Machine

/-- What a slot does beside its register writes. -/
inductive EngAct where
  | none
  /-- a taken transfer; `ends` = it ends the levels whose body it leaves (R121) -/
  | goto (target : Int) (ends : Bool)
  | loop (count last : Nat)
  | done
  | enq (addr : Nat)
  | evpost (ctx flag : Nat)
  | trap (code : Nat)
  | fence
  | brk
  | mfsr (rd idx : Nat)
  deriving DecidableEq, Repr

/-- The outcome of a control slot on the registers as they stand before the bundle (R113). -/
structure CtlOut where
  s : List (Nat × Word) := []
  p : List (Nat × Byte) := []
  flags : Option Word := none
  act : EngAct := .none
  /-- ILLEGAL found on the operands' values (R101) -/
  ill : Bool := false

/-- The operand form of a control instruction: what it reads, writes and must be 0. -/
inductive CtlForm where
  /-- no register -/
  | n
  /-- RD, RA, RB -/
  | rr
  /-- RD, RA, immediate -/
  | ri
  /-- RD, RA, shift count; IMM18[17:5] = 0 -/
  | sh
  /-- RD only -/
  | rd
  /-- Pd, RA, RB -/
  | cr
  /-- Pd, RA, immediate -/
  | ci
  /-- Pd, Pa, Pb -/
  | pp
  /-- Pd, Pa -/
  | pn
  /-- Pd, RA -/
  | ps
  /-- RD, Pa -/
  | pg
  /-- RA only -/
  | ra
  /-- CALL: writes S31 -/
  | call
  /-- RET: reads S31 -/
  | ret
  | loop
  | mfsr
  | mtsr
  deriving DecidableEq, Repr

/-! ## Shared shapes -/

def ctlRR (f : Word → Word → Word) (b : EBank) (x : CArgs) : CtlOut :=
  { s := [(x.rd.toNat, f (b.getS x.ra.toNat) (b.getS (ctlRb x)))] }

def ctlRI (f : Word → Word) (b : EBank) (x : CArgs) : CtlOut := { s := [(x.rd.toNat, f (b.getS x.ra.toNat))] }

/-- A compare writes all eight bits of Pd with its result. -/
def ctlCmp (f : Word → Word → Bool) (b : EBank) (x : CArgs) (y : Word) : CtlOut :=
  { p := [(x.rd.toNat % 8, if f (b.getS x.ra.toNat) y then 0xFF else 0)] }

def ctlPP (f : Byte → Byte → Byte) (b : EBank) (x : CArgs) : CtlOut :=
  { p := [(x.rd.toNat % 8, f (b.getP (x.ra.toNat % 8)) (b.getP (ctlRb x % 8)))] }

/-- The sign-extended immediate as a word. -/
def simmWord (x : CArgs) : Word := BitVec.ofInt 32 (ctlSimm x)

/-! ## The instructions -/

def ctlNop (_ : EBank) (_ : CArgs) : CtlOut := {}
def ctlAdd (b : EBank) (x : CArgs) : CtlOut := ctlRR (· + ·) b x
def ctlSub (b : EBank) (x : CArgs) : CtlOut := ctlRR (· - ·) b x
def ctlAnd (b : EBank) (x : CArgs) : CtlOut := ctlRR (· &&& ·) b x
def ctlOr (b : EBank) (x : CArgs) : CtlOut := ctlRR (· ||| ·) b x
def ctlXor (b : EBank) (x : CArgs) : CtlOut := ctlRR (· ^^^ ·) b x
def ctlShl (b : EBank) (x : CArgs) : CtlOut := ctlRR (fun a c => a <<< (c.toNat % 32)) b x
def ctlShr (b : EBank) (x : CArgs) : CtlOut := ctlRR (fun a c => a >>> (c.toNat % 32)) b x
def ctlSra (b : EBank) (x : CArgs) : CtlOut := ctlRR (fun a c => a.sshiftRight (c.toNat % 32)) b x
def ctlMul (b : EBank) (x : CArgs) : CtlOut := ctlRR (· * ·) b x
def ctlMin (b : EBank) (x : CArgs) : CtlOut := ctlRR (fun a c => if a.toInt ≤ c.toInt then a else c) b x
def ctlMax (b : EBank) (x : CArgs) : CtlOut := ctlRR (fun a c => if c.toInt ≤ a.toInt then a else c) b x
def ctlAddi (b : EBank) (x : CArgs) : CtlOut := ctlRI (· + simmWord x) b x
def ctlAndi (b : EBank) (x : CArgs) : CtlOut := ctlRI (· &&& x.imm.setWidth 32) b x
def ctlOri (b : EBank) (x : CArgs) : CtlOut := ctlRI (· ||| x.imm.setWidth 32) b x
def ctlXori (b : EBank) (x : CArgs) : CtlOut := ctlRI (· ^^^ x.imm.setWidth 32) b x
def ctlShli (b : EBank) (x : CArgs) : CtlOut := ctlRI (· <<< (ctlUimm x % 32)) b x
def ctlShri (b : EBank) (x : CArgs) : CtlOut := ctlRI (· >>> (ctlUimm x % 32)) b x
def ctlSrai (b : EBank) (x : CArgs) : CtlOut := ctlRI (·.sshiftRight (ctlUimm x % 32)) b x
def ctlLui (_ : EBank) (x : CArgs) : CtlOut := { s := [(x.rd.toNat, x.imm.setWidth 32 <<< 14)] }
def ctlCmpeq (b : EBank) (x : CArgs) : CtlOut := ctlCmp (· == ·) b x (b.getS (ctlRb x))
def ctlCmpne (b : EBank) (x : CArgs) : CtlOut := ctlCmp (· != ·) b x (b.getS (ctlRb x))
def ctlCmplt (b : EBank) (x : CArgs) : CtlOut := ctlCmp (fun a c => decide (a.toInt < c.toInt)) b x (b.getS (ctlRb x))
def ctlCmpltu (b : EBank) (x : CArgs) : CtlOut := ctlCmp (fun a c => decide (a.toNat < c.toNat)) b x (b.getS (ctlRb x))
def ctlCmpge (b : EBank) (x : CArgs) : CtlOut := ctlCmp (fun a c => decide (c.toInt ≤ a.toInt)) b x (b.getS (ctlRb x))
def ctlCmpgeu (b : EBank) (x : CArgs) : CtlOut := ctlCmp (fun a c => decide (c.toNat ≤ a.toNat)) b x (b.getS (ctlRb x))
def ctlCmpeqi (b : EBank) (x : CArgs) : CtlOut := ctlCmp (· == ·) b x (simmWord x)
def ctlCmplti (b : EBank) (x : CArgs) : CtlOut := ctlCmp (fun a c => decide (a.toInt < c.toInt)) b x (simmWord x)
def ctlPand (b : EBank) (x : CArgs) : CtlOut := ctlPP (· &&& ·) b x
def ctlPor (b : EBank) (x : CArgs) : CtlOut := ctlPP (· ||| ·) b x
def ctlPxor (b : EBank) (x : CArgs) : CtlOut := ctlPP (· ^^^ ·) b x
def ctlPnot (b : EBank) (x : CArgs) : CtlOut := ctlPP (fun a _ => ~~~a) b x
def ctlPset (b : EBank) (x : CArgs) : CtlOut := { p := [(x.rd.toNat % 8, (b.getS x.ra.toNat).setWidth 8)] }
def ctlPget (b : EBank) (x : CArgs) : CtlOut := { s := [(x.rd.toNat, (b.getP (x.ra.toNat % 8)).setWidth 32)] }
def ctlBr (b : EBank) (x : CArgs) : CtlOut := { act := .goto (b.pc + ctlSimm x) true }
def ctlJmp (b : EBank) (x : CArgs) : CtlOut := { act := .goto (b.getS x.ra.toNat).toNat true }
def ctlCall (b : EBank) (x : CArgs) : CtlOut :=
  { s := [(31, BitVec.ofNat 32 (b.pc + 1))], act := .goto (b.pc + ctlSimm x) false }
def ctlRet (b : EBank) (_ : CArgs) : CtlOut := { act := .goto (b.getS 31).toNat false }
def ctlLoop (b : EBank) (x : CArgs) : CtlOut := { act := .loop (b.getS x.ra.toNat).toNat (b.pc + ctlUimm x) }
def ctlDone (_ : EBank) (_ : CArgs) : CtlOut := { act := .done }
def ctlEnq (b : EBank) (x : CArgs) : CtlOut := { act := .enq (b.getS x.ra.toNat).toNat }
def ctlEvpost (b : EBank) (x : CArgs) : CtlOut :=
  { act := .evpost ((b.getS x.ra.toNat).toNat % 16384) (ctlUimm x % 32) }
def ctlTrap (_ : EBank) (x : CArgs) : CtlOut := { act := .trap (ctlUimm x % 256) }
def ctlFence (_ : EBank) (_ : CArgs) : CtlOut := { act := .fence }
def ctlBrk (_ : EBank) (_ : CArgs) : CtlOut := { act := .brk }
def ctlMfsr (_ : EBank) (x : CArgs) : CtlOut := { act := .mfsr x.rd.toNat x.ra.toNat }

/-- R100, R101: FLAGS is the one special register that MTSR may write; a 1 in a reserved bit is ILLEGAL. -/
def ctlMtsr (b : EBank) (x : CArgs) : CtlOut :=
  let v := b.getS x.ra.toNat
  if v &&& 0xFFFFF0F0 = 0 then { flags := some v } else { ill := true }

/-- The opcode table of the control slot (R115): form, latency (R119), effect. -/
def ctlOp (opc : Nat) : Option (CtlForm × Nat × (EBank → CArgs → CtlOut)) :=
  match opc with
  | 0x00 => some (.n, 0, ctlNop)
  | 0x01 => some (.rr, 1, ctlAdd)
  | 0x02 => some (.rr, 1, ctlSub)
  | 0x03 => some (.rr, 1, ctlAnd)
  | 0x04 => some (.rr, 1, ctlOr)
  | 0x05 => some (.rr, 1, ctlXor)
  | 0x06 => some (.rr, 1, ctlShl)
  | 0x07 => some (.rr, 1, ctlShr)
  | 0x08 => some (.rr, 1, ctlSra)
  | 0x09 => some (.rr, 2, ctlMul)
  | 0x0A => some (.rr, 1, ctlMin)
  | 0x0B => some (.rr, 1, ctlMax)
  | 0x11 => some (.ri, 1, ctlAddi)
  | 0x13 => some (.ri, 1, ctlAndi)
  | 0x14 => some (.ri, 1, ctlOri)
  | 0x15 => some (.ri, 1, ctlXori)
  | 0x16 => some (.sh, 1, ctlShli)
  | 0x17 => some (.sh, 1, ctlShri)
  | 0x18 => some (.sh, 1, ctlSrai)
  | 0x1C => some (.rd, 1, ctlLui)
  | 0x20 => some (.cr, 1, ctlCmpeq)
  | 0x21 => some (.cr, 1, ctlCmpne)
  | 0x22 => some (.cr, 1, ctlCmplt)
  | 0x23 => some (.cr, 1, ctlCmpltu)
  | 0x24 => some (.cr, 1, ctlCmpge)
  | 0x25 => some (.cr, 1, ctlCmpgeu)
  | 0x28 => some (.ci, 1, ctlCmpeqi)
  | 0x29 => some (.ci, 1, ctlCmplti)
  | 0x30 => some (.pp, 1, ctlPand)
  | 0x31 => some (.pp, 1, ctlPor)
  | 0x32 => some (.pp, 1, ctlPxor)
  | 0x33 => some (.pn, 1, ctlPnot)
  | 0x34 => some (.ps, 1, ctlPset)
  | 0x35 => some (.pg, 1, ctlPget)
  | 0x40 => some (.n, 0, ctlBr)
  | 0x41 => some (.ra, 0, ctlJmp)
  | 0x42 => some (.call, 1, ctlCall)
  | 0x43 => some (.ret, 0, ctlRet)
  | 0x44 => some (.loop, 0, ctlLoop)
  | 0x48 => some (.n, 0, ctlDone)
  | 0x49 => some (.ra, 0, ctlEnq)
  | 0x4A => some (.ra, 0, ctlEvpost)
  | 0x4C => some (.n, 0, ctlTrap)
  | 0x4D => some (.n, 0, ctlFence)
  | 0x4E => some (.n, 0, ctlBrk)
  | 0x50 => some (.mfsr, 1, ctlMfsr)
  | 0x51 => some (.mtsr, 1, ctlMtsr)
  | _ => none

/-- R99, R111: a destination predicate is named by RD[2:0], with RD[4:3] = 0, and is not P0. -/
def predDest (rd : Nat) : Bool := 0 < rd && rd < 8

/-- R112: the fields of the slot hold what its form allows. -/
def CtlForm.legal (f : CtlForm) (x : CArgs) : Bool :=
  match f with
  | .rr => bitsOf x.imm 12 0 = 0
  | .sh => bitsOf x.imm 17 5 = 0
  | .cr | .pp => bitsOf x.imm 12 0 = 0 && predDest x.rd.toNat
  | .ci | .pn | .ps => predDest x.rd.toNat
  | .loop => 1 ≤ ctlUimm x && ctlUimm x ≤ 4095
  | .mfsr => x.ra.toNat ≤ 13
  | .mtsr => x.rd.toNat = 0
  | _ => true

/-- The registers the slot writes. -/
def CtlForm.writes (f : CtlForm) (x : CArgs) : List Nat :=
  match f with
  | .rr | .ri | .sh | .rd | .pg | .mfsr => [keyS x.rd.toNat]
  | .cr | .ci | .pp | .pn | .ps => [keyP (x.rd.toNat % 8)]
  | .call => [keyS 31]
  | .mtsr => [keyFlags]
  | _ => []

/-- The registers the slot reads. -/
def CtlForm.reads (f : CtlForm) (x : CArgs) : List Nat :=
  match f with
  | .rr | .cr => [keyS x.ra.toNat, keyS (ctlRb x)]
  | .ri | .sh | .ci | .ps | .ra | .loop | .mtsr => [keyS x.ra.toNat]
  | .pp => [keyP (x.ra.toNat % 8), keyP (ctlRb x % 8)]
  | .pn | .pg => [keyP (x.ra.toNat % 8)]
  | .ret => [keyS 31]
  | .mfsr => if x.ra.toNat = 0 then [keyFlags] else []
  | _ => []

end Sys2Proof.Machine
end

