-- ==== Sys2Proof/Machine/EngLs.lean ====
section
/-! DEFINITION. The load-store slot (R118, R122 to R124, R126): addresses, traps, and what each instruction loads, stores or sends. -/

namespace Sys2Proof.Machine

/-- What a load-store slot does beside its register writes. -/
inductive LsAct where
  | none
  /-- a local store of 16 or 4 bytes at a byte address -/
  | store (ea size : Nat) (data : Quad)
  | reserve (ea : Nat)
  /-- STC: the store, when the reservation held; the reservation ends either way -/
  | condStore (st : Option (Nat × Quad))
  | getw (dr addr : Nat)
  | putw (addr : Nat) (data : Quad)
  | getb (loc rem bytes : Nat)
  | putb (loc rem bytes : Nat)
  | rsend (radr : Nat) (data : Quad)
  deriving DecidableEq, Repr

/-- The outcome of a load-store slot on the registers and the memory as they stand before the bundle. -/
structure LsOut where
  /-- trap causes (R128) with the faulting address -/
  causes : List (Nat × Nat) := []
  s : List (Nat × Word) := []
  v : List (Nat × Quad) := []
  p : List (Nat × Byte) := []
  /-- data granules that the load corrected -/
  fixes : List Nat := []
  act : LsAct := .none

/-- What an instruction sees: the engine and its number, the active bank, and whether its epoch is stale. -/
structure LsEnv where
  x : EngSt
  e : Nat
  b : EBank
  stale : Bool

def causeIfetch : Nat := 1
def causeIllegal : Nat := 2
def causeAlign : Nat := 3
def causeRange : Nat := 4
def causePoison : Nat := 5
def causeBuserr : Nat := 6
def causeStale : Nat := 7
def causeWdog : Nat := 8
def causeFlag : Nat := 9
def causeSoft : Nat := 10
def causeBreak : Nat := 11

/-! ## Addresses -/

/-- The displacement OFF × size. -/
def lsDisp (a : LArgs) (size : Nat) : Int := a.off.toInt * (size : Int)

/-- The local effective address (AM, R111). -/
def lsEa (b : EBank) (a : LArgs) (size : Nat) : Nat :=
  let base := (b.getS a.sb.toNat).toNat
  if a.am = 1 then base else ((base + lsDisp a size) % (2 ^ 32 : Nat)).toNat

/-- The post-increment of SB (AM = 1). -/
def lsInc (b : EBank) (a : LArgs) (size : Nat) : List (Nat × Word) :=
  if a.am = 1 then [(a.sb.toNat, BitVec.ofInt 32 ((b.getS a.sb.toNat).toNat + lsDisp a size))] else []

/-- The 64-bit pair S[SB+1] above S[SB] (R118). -/
def lsPair (b : EBank) (a : LArgs) : Nat := (b.getS a.sb.toNat).toNat + 2 ^ 32 * (b.getS (a.sb.toNat + 1)).toNat

/-- The remote address. -/
def lsRemote (b : EBank) (a : LArgs) (size : Nat) : Nat :=
  if a.am = 1 then lsPair b a % 2 ^ 48 else ((lsPair b a + lsDisp a size) % (2 ^ 48 : Nat)).toNat

/-- The post-increment of the pair, with carry. -/
def lsIncPair (b : EBank) (a : LArgs) (size : Nat) : List (Nat × Word) :=
  if a.am = 1 then
    let n := ((lsPair b a + lsDisp a size) % (2 ^ 64 : Nat)).toNat
    [(a.sb.toNat, BitVec.ofNat 32 n), (a.sb.toNat + 1, BitVec.ofNat 32 (n / 2 ^ 32))]
  else []

/-- R122: the conditions on a local access. -/
def localCauses (ea size : Nat) : List (Nat × Nat) :=
  (if ea % size = 0 then [] else [(causeAlign, ea)]) ++ (if ea + size ≤ 0x30000 then [] else [(causeRange, ea)])

/-- R118: S[SB+1][31:16] must be 0; R122: a remote address is 16-byte aligned. -/
def remoteCauses (b : EBank) (a : LArgs) (addr : Nat) : List (Nat × Nat) :=
  (if addr % 16 = 0 then [] else [(causeAlign, addr)]) ++ (if lsPair b a < 2 ^ 48 then [] else [(causeRange, addr)])

def staleCauses (env : LsEnv) : List (Nat × Nat) := if env.stale then [(causeStale, 0)] else []

/-- Word `i` of a 16-byte word. -/
def wordOf (v : Quad) (i : Nat) : Word := (v >>> (32 * i)).setWidth 32

/-! ## The instructions -/

def lsNop' (_ : LsEnv) (_ : LArgs) : LsOut := {}

def lsLdv (env : LsEnv) (a : LArgs) : LsOut :=
  let ea := lsEa env.b a 16
  let c := localCauses ea 16
  if c = [] then
    let (d, bad, fx) := env.x.readWord env.e false (ea / 16)
    if bad then { causes := [(causePoison, ea)] }
    else { s := lsInc env.b a 16, v := [(a.dr.toNat, d)], fixes := fx }
  else { causes := c }

def lsStv (env : LsEnv) (a : LArgs) : LsOut :=
  let ea := lsEa env.b a 16
  { causes := localCauses ea 16, s := lsInc env.b a 16, act := .store ea 16 (env.b.getV a.dr.toNat) }

/-- A 4-byte load touches one granule. -/
def loadWord (env : LsEnv) (ea : Nat) : Word × Bool × List Nat :=
  let (d, c) := env.x.readGran env.e false (ea / 8)
  ((d >>> (8 * (ea % 8))).setWidth 32, eccBad c, if c = .corrected then [ea / 8] else [])

def lsLds (env : LsEnv) (a : LArgs) : LsOut :=
  let ea := lsEa env.b a 4
  let c := localCauses ea 4
  if c = [] then
    let (d, bad, fx) := loadWord env ea
    if bad then { causes := [(causePoison, ea)] }
    else { s := (a.dr.toNat, d) :: lsInc env.b a 4, fixes := fx }
  else { causes := c }

/-- R136: a partial store whose granule cannot be read raises POISON. -/
def partialCauses (env : LsEnv) (ea : Nat) : List (Nat × Nat) :=
  let c := localCauses ea 4
  if c = [] then (if eccBad (env.x.readGran env.e false (ea / 8)).2 then [(causePoison, ea)] else []) else c

def lsSts (env : LsEnv) (a : LArgs) : LsOut :=
  let ea := lsEa env.b a 4
  { causes := partialCauses env ea, s := lsInc env.b a 4, act := .store ea 4 ((env.b.getS a.dr.toNat).setWidth 128) }

def lsLdr (env : LsEnv) (a : LArgs) : LsOut :=
  let o := lsLds env a
  { o with act := .reserve (lsEa env.b a 4) }

/-- R124: STC stores only under a reservation that covers its granule. -/
def lsStc (env : LsEnv) (a : LArgs) : LsOut :=
  let ea := lsEa env.b a 4
  let ok := env.x.resv = some (ea / 16)
  { causes := if ok then partialCauses env ea else localCauses ea 4, s := lsInc env.b a 4,
    p := [(a.pd.toNat, if ok then 0xFF else 0)],
    act := .condStore (if ok then some (ea, (env.b.getS a.dr.toNat).setWidth 128) else none) }

def lsGetw (env : LsEnv) (a : LArgs) : LsOut :=
  let addr := lsRemote env.b a 16
  { causes := remoteCauses env.b a addr, s := lsIncPair env.b a 16, act := .getw a.dr.toNat addr }

def lsPutw (env : LsEnv) (a : LArgs) : LsOut :=
  let addr := lsRemote env.b a 16
  { causes := remoteCauses env.b a addr ++ staleCauses env, s := lsIncPair env.b a 16,
    act := .putw addr (env.b.getV a.dr.toNat) }

/-- R122: the local side of a block move. -/
def blockCauses (loc bytes : Nat) : List (Nat × Nat) :=
  (if loc % 16 = 0 then [] else [(causeAlign, loc)]) ++ (if loc + bytes ≤ 0x30000 then [] else [(causeRange, loc)])

/-- The remote base of a block move: OFF is a count, not a displacement. -/
def blockRemote (b : EBank) (a : LArgs) : Nat := lsPair b a % 2 ^ 48

def lsGetb (env : LsEnv) (a : LArgs) : LsOut :=
  let loc := (env.b.getS a.dr.toNat).toNat
  let n := 16 * a.off.toNat
  let rem := blockRemote env.b a
  { causes := blockCauses loc n ++ remoteCauses env.b a rem, act := .getb loc rem n }

def lsPutb (env : LsEnv) (a : LArgs) : LsOut :=
  let loc := (env.b.getS a.dr.toNat).toNat
  let n := 16 * a.off.toNat
  let rem := blockRemote env.b a
  { causes := blockCauses loc n ++ remoteCauses env.b a rem ++ staleCauses env, act := .putb loc rem n }

/-- R219: bits [3:0] of a reduction address must be 0. -/
def lsRsend (env : LsEnv) (a : LArgs) : LsOut :=
  let r := (env.b.getS a.sb.toNat).toNat
  { causes := (if r % 16 = 0 then [] else [(causeAlign, r)]) ++ staleCauses env, act := .rsend r (env.b.getV a.dr.toNat) }

/-! ## The opcode table -/

/-- How a slot addresses: not at all, locally, by a remote pair, as a block move, as a contribution. -/
inductive LsMode where
  | un
  | loc
  | rem
  | blk
  | red
  deriving DecidableEq, Repr

structure LsForm where
  mode : LsMode
  /-- DR names a V register -/
  vec : Bool
  /-- DR is written -/
  load : Bool
  lat : Nat
  f : LsEnv → LArgs → LsOut

def lsOp (opc : Nat) : Option LsForm :=
  match opc with
  | 0x0 => some ⟨.un, false, false, 0, lsNop'⟩
  | 0x1 => some ⟨.loc, true, true, 4, lsLdv⟩
  | 0x2 => some ⟨.loc, true, false, 0, lsStv⟩
  | 0x3 => some ⟨.loc, false, true, 4, lsLds⟩
  | 0x4 => some ⟨.loc, false, false, 0, lsSts⟩
  | 0x5 => some ⟨.loc, false, true, 4, lsLdr⟩
  | 0x6 => some ⟨.loc, false, false, 2, lsStc⟩
  | 0x7 => some ⟨.rem, true, true, 0, lsGetw⟩
  | 0x8 => some ⟨.rem, true, false, 0, lsPutw⟩
  | 0x9 => some ⟨.blk, false, false, 0, lsGetb⟩
  | 0xA => some ⟨.blk, false, false, 0, lsPutb⟩
  | 0xB => some ⟨.red, true, false, 0, lsRsend⟩
  | _ => none

/-- The registers the slot writes, a post-increment included. -/
def LsForm.writes (f : LsForm) (opc : Nat) (a : LArgs) : List Nat :=
  (if f.load then [if f.vec then keyV a.dr.toNat else keyS a.dr.toNat] else [])
    ++ (if opc = 6 then [keyP a.pd.toNat] else [])
    ++ (if a.am = 1 then
          (match f.mode with
           | .loc => [keyS a.sb.toNat]
           | .rem => [keyS a.sb.toNat, keyS (a.sb.toNat + 1)]
           | _ => [])
        else [])

/-- The registers the slot reads. -/
def LsForm.reads (f : LsForm) (a : LArgs) : List Nat :=
  (match f.mode with
   | .un => []
   | .loc | .red => [keyS a.sb.toNat]
   | .rem | .blk => [keyS a.sb.toNat, keyS (a.sb.toNat + 1)])
    ++ (if f.mode ≠ .un ∧ f.load = false then [if f.vec then keyV a.dr.toNat else keyS a.dr.toNat] else [])

/-- R112: the fields of the slot hold what the layout and the instruction allow; no register is written twice. -/
def LsForm.legal (f : LsForm) (opc : Nat) (a : LArgs) : Bool :=
  a.lo.toNat = 0 &&
  (match f.mode with
   | .un => true
   | .loc => a.am.toNat < 2
   | .rem => a.am.toNat < 2 && a.sb.toNat % 2 = 0
   | .blk => a.am.toNat = 0 && a.sb.toNat % 2 = 0 && 1 ≤ a.off.toNat && a.off.toNat ≤ 1024
   | .red => a.am.toNat = 0 && a.off.toNat = 0)
  && (opc ≠ 6 || a.pd.toNat ≠ 0) && decide (f.writes opc a).Nodup

end Sys2Proof.Machine
end

