-- ==== Sys2Proof/Machine/EngVec.lean ====
section
/-! DEFINITION. The vector slot (R116, R117): what each instruction computes, under the arithmetic rules R105 to R110. -/

namespace Sys2Proof.Machine

/-- A destination with its new lanes, each with the flags it sets; the predicate picks among them (R114). -/
inductive VDst where
  /-- eight 16-bit lanes of a V register -/
  | v16 (r : Nat) (l : List (Nat × FlagSet))
  /-- four 32-bit lanes of a V register -/
  | v32 (r : Nat) (l : List (Nat × FlagSet))
  /-- a V register written whole under bit 0 (R108) -/
  | vw (r : Nat) (x : Quad) (g : FlagSet)
  /-- eight 32-bit lanes of an accumulator -/
  | acc (r : Nat) (l : List (Nat × FlagSet))
  | p (r : Nat) (x : Byte) (g : FlagSet)
  | s (r : Nat) (x : Word)
  deriving DecidableEq, Repr

/-! ## Reading operands -/

def vNat (b : EBank) (i : BitVec 5) : Nat := (b.getV i.toNat).toNat

/-- Components of a C16 word. -/
def c16 (b : EBank) (i : BitVec 5) : List Int := slanes 16 8 (vNat b i)
def c32 (b : EBank) (i : BitVec 5) : List Int := slanes 32 4 (vNat b i)
def f16 (b : EBank) (i : BitVec 5) : List Fp := fps binary16 16 8 (vNat b i)
def f32 (b : EBank) (i : BitVec 5) : List Fp := fps binary32 32 4 (vNat b i)

/-- Accumulator lanes as int32 and as binary32. -/
def accInts (b : EBank) (i : BitVec 5) : List Int := slanes 32 8 (b.getA (i.toNat % 8)).toNat
def accFps (b : EBank) (i : BitVec 5) : List Fp := fps binary32 32 8 (b.getA (i.toNat % 8)).toNat

/-- SH = IMM8[4:0]. -/
def shOf (x : VArgs) : Nat := x.imm.toNat % 32

/-! ## Making lanes -/

def satLane (w b : Nat) (x : Int) : Nat × FlagSet :=
  let (y, g) := sat b x
  (ofSigned w y, g)

def sat16 (l : List Int) : List (Nat × FlagSet) := l.map (satLane 16 bound16)
def sat32 (l : List Int) : List (Nat × FlagSet) := l.map (satLane 32 bound32)

/-- Lanes that only move bits. -/
def plain (l : List Nat) : List (Nat × FlagSet) := l.map (fun x => (x, 0))

/-- A word of bits moved, in lanes of its format: per lane for lane formats, whole for B words (R108); bits [119:112] of a B8 word are
written as 0 (R104). -/
def moveDst (fmt r : Nat) (x : Quad) : VDst :=
  if fmt = 4 then .vw r x 0
  else if fmt = 5 then .vw r (x &&& ~~~(0xFF#128 <<< 112)) 0
  else if fmt = 1 ∨ fmt = 3 then .v32 r (plain (lanes 32 4 x.toNat))
  else .v16 r (plain (lanes 16 8 x.toNat))

/-- A B result; its tag is the tag of operand A (R108). -/
def bDst (fmt r tag : Nat) (xs : List Int) (d : Nat) : VDst :=
  let (x, g) := bResult fmt tag xs d
  .vw r x g

/-- A lane-wise operation in every format: on the exact values of integer and block words, on IEEE operands. -/
def arith2 (fi : Int → Int → Int) (ff : Fp → Fp → List FpTerm) (b : EBank) (x : VArgs) : List VDst :=
  let d := x.d.toNat
  match x.fmt.toNat with
  | 0 => [.v16 d (sat16 (List.zipWith fi (c16 b x.a) (c16 b x.b)))]
  | 1 => [.v32 d (sat32 (List.zipWith fi (c32 b x.a) (c32 b x.b)))]
  | 2 => [.v16 d ((List.zipWith ff (f16 b x.a) (f16 b x.b)).map binary16.sum)]
  | 3 => [.v32 d ((List.zipWith ff (f32 b x.a) (f32 b x.b)).map binary32.sum)]
  | f =>
    let va := b.getV x.a.toNat
    [bDst f d (bTag va) (List.zipWith fi (bVals f va) (bVals f (b.getV x.b.toNat))) 0]

/-- Component signs changed where `neg` holds of the component index; IEEE formats only invert sign bits (R109). -/
def signChange (neg : Nat → Bool) (b : EBank) (x : VArgs) : List VDst :=
  let d := x.d.toNat
  let fi (l : List Int) : List Int := l.mapIdx (fun i y => if neg i then -y else y)
  let ff (w : Nat) (l : List Nat) : List Nat := l.mapIdx (fun i y => if neg i then y ^^^ 2 ^ (w - 1) else y)
  match x.fmt.toNat with
  | 0 => [.v16 d (sat16 (fi (c16 b x.a)))]
  | 1 => [.v32 d (sat32 (fi (c32 b x.a)))]
  | 2 => [.v16 d (plain (ff 16 (lanes 16 8 (vNat b x.a))))]
  | 3 => [.v32 d (plain (ff 32 (lanes 32 4 (vNat b x.a))))]
  | f =>
    let va := b.getV x.a.toNat
    [bDst f d (bTag va) (fi (bVals f va)) 0]

/-! ## The instructions -/

def vecVnop (_ : EBank) (_ : VArgs) : List VDst := []
def vecVadd (b : EBank) (x : VArgs) : List VDst := arith2 (· + ·) (fun p q => [p.term, q.term]) b x
def vecVsub (b : EBank) (x : VArgs) : List VDst := arith2 (· - ·) (fun p q => [p.term, q.neg.term]) b x
def vecVneg (b : EBank) (x : VArgs) : List VDst := signChange (fun _ => true) b x
def vecVconj (b : EBank) (x : VArgs) : List VDst := signChange (fun i => i % 2 = 1) b x
def vecVmov (b : EBank) (x : VArgs) : List VDst := [moveDst x.fmt.toNat x.d.toNat (b.getV x.a.toNat)]

def vecVsel (b : EBank) (x : VArgs) : List VDst :=
  let p := (b.getP (x.c.toNat % 8)).toNat
  let l := List.zipWith Prod.mk (lanes 16 8 (vNat b x.a)) (lanes 16 8 (vNat b x.b))
  [moveDst x.fmt.toNat x.d.toNat (BitVec.ofNat 128 (joinLanes 16 (l.mapIdx (fun i y => if p / 2 ^ i % 2 = 1 then y.1 else y.2))))]

def vecVand (b : EBank) (x : VArgs) : List VDst := [moveDst x.fmt.toNat x.d.toNat (b.getV x.a.toNat &&& b.getV x.b.toNat)]
def vecVor (b : EBank) (x : VArgs) : List VDst := [moveDst x.fmt.toNat x.d.toNat (b.getV x.a.toNat ||| b.getV x.b.toNat)]
def vecVxor (b : EBank) (x : VArgs) : List VDst := [moveDst x.fmt.toNat x.d.toNat (b.getV x.a.toNat ^^^ b.getV x.b.toNat)]

def vecVsplat (b : EBank) (x : VArgs) : List VDst :=
  [moveDst x.fmt.toNat x.d.toNat (BitVec.ofNat 128 (joinLanes 32 (List.replicate 4 (b.getS x.a.toNat).toNat)))]

/-- Elements of a format: how many, and the width of one. -/
def elemShape (fmt : Nat) : Nat × Nat :=
  match fmt with
  | 0 | 2 => (4, 32)
  | 1 | 3 => (2, 64)
  | 4 => (6, 20)
  | _ => (7, 16)

def vecVbcast (b : EBank) (x : VArgs) : List VDst :=
  let f := x.fmt.toNat
  let (n, w) := elemShape f
  let va := b.getV x.a.toNat
  let e := bitsOf va (w * (x.imm.toNat % 8) + w - 1) (w * (x.imm.toNat % 8))
  let body := joinLanes w (List.replicate n e)
  if f = 4 ∨ f = 5 then [.vw x.d.toNat (BitVec.ofNat 128 (bitsOf va 127 120 * 2 ^ 120 + body)) 0]
  else [moveDst f x.d.toNat (BitVec.ofNat 128 body)]

def vecVperm (b : EBank) (x : VArgs) : List VDst :=
  let sel := x.c.toNat % 16 * 256 + x.imm.toNat
  let la := lanes 32 4 (vNat b x.a)
  let lb := lanes 32 4 (vNat b x.b)
  let pick (k : Nat) : Nat :=
    let s := sel / 2 ^ (3 * k) % 8
    (if s / 4 = 1 then lb else la).getD (s % 4) 0
  [moveDst x.fmt.toNat x.d.toNat (BitVec.ofNat 128 (joinLanes 32 ((List.range 4).map pick)))]

def vecVins (b : EBank) (x : VArgs) : List VDst :=
  let old := lanes 32 4 (vNat b x.d)
  [moveDst x.fmt.toNat x.d.toNat (BitVec.ofNat 128 (joinLanes 32 (old.set (x.imm.toNat % 4) (b.getS x.a.toNat).toNat)))]

def vecVext (b : EBank) (x : VArgs) : List VDst :=
  [.s x.d.toNat (BitVec.ofNat 32 ((lanes 32 4 (vNat b x.a)).getD (x.imm.toNat % 4) 0))]

/-- R116: a comparison per lane; a 32-bit lane sets bits 2i and 2i + 1, and a NaN sets FINV and compares false. -/
def cmpDst (fi : Int → Int → Bool) (ff : Fp → Fp → Bool) (b : EBank) (x : VArgs) : List VDst :=
  let wide (l : List Bool) : List Bool := l.flatMap (fun t => [t, t])
  let byte (l : List Bool) : Byte := BitVec.ofNat 8 (joinLanes 1 (l.map (fun t => if t then 1 else 0)))
  let nan (p q : List Fp) : FlagSet := if p.any Fp.isNan || q.any Fp.isNan then flagInv else 0
  match x.fmt.toNat with
  | 0 => [.p (x.d.toNat % 8) (byte (List.zipWith fi (c16 b x.a) (c16 b x.b))) 0]
  | 1 => [.p (x.d.toNat % 8) (byte (wide (List.zipWith fi (c32 b x.a) (c32 b x.b)))) 0]
  | 2 => [.p (x.d.toNat % 8) (byte (List.zipWith ff (f16 b x.a) (f16 b x.b))) (nan (f16 b x.a) (f16 b x.b))]
  | _ => [.p (x.d.toNat % 8) (byte (wide (List.zipWith ff (f32 b x.a) (f32 b x.b)))) (nan (f32 b x.a) (f32 b x.b))]

def vecVcmpeq (b : EBank) (x : VArgs) : List VDst := cmpDst (· == ·) Fp.eq b x
def vecVcmpgt (b : EBank) (x : VArgs) : List VDst := cmpDst (fun p q => decide (p > q)) Fp.gt b x

def vecVshr (b : EBank) (x : VArgs) : List VDst :=
  if x.fmt.toNat = 0 then [.v16 x.d.toNat (sat16 ((c16 b x.a).map (fun y => rne y (shOf x))))]
  else [.v32 x.d.toNat (sat32 ((c32 b x.a).map (fun y => rne y (shOf x))))]

def vecVshl (b : EBank) (x : VArgs) : List VDst :=
  if x.fmt.toNat = 0 then [.v16 x.d.toNat (sat16 ((c16 b x.a).map (· * (2 ^ shOf x : Nat))))]
  else [.v32 x.d.toNat (sat32 ((c32 b x.a).map (· * (2 ^ shOf x : Nat))))]

/-- R110, R109: each accumulator lane is the exact sum of its terms (and of its old value), rounded or saturated once. -/
def accDst (old : Bool) (xi : List Int) (xf : List (List FpTerm)) (b : EBank) (x : VArgs) : List VDst :=
  if x.fmt.toNat = 0 then
    [.acc (x.d.toNat % 8) (sat32 (if old then List.zipWith (· + ·) (accInts b x.d) xi else xi))]
  else
    let ts := if old then List.zipWith (fun o t => t ++ [Fp.term o]) (accFps b x.d) xf else xf
    [.acc (x.d.toNat % 8) (ts.map binary32.sum)]

def conjI (l : List Int) : List Int := l.mapIdx (fun i y => if i % 2 = 1 then -y else y)
def conjF (l : List Fp) : List Fp := l.mapIdx (fun i y => if i % 2 = 1 then y.neg else y)

def vecVcmul (b : EBank) (x : VArgs) : List VDst :=
  accDst false (cmulInts (c16 b x.a) (c16 b x.b)) (cmulFps (f16 b x.a) (f16 b x.b)) b x
def vecVcmac (b : EBank) (x : VArgs) : List VDst :=
  accDst true (cmulInts (c16 b x.a) (c16 b x.b)) (cmulFps (f16 b x.a) (f16 b x.b)) b x
def vecVcmulb (b : EBank) (x : VArgs) : List VDst :=
  let k := x.imm.toNat % 4
  accDst false (cmulInts (c16 b x.a) (repElem 4 k (c16 b x.b))) (cmulFps (f16 b x.a) (repElem 4 k (f16 b x.b))) b x
def vecVcmacb (b : EBank) (x : VArgs) : List VDst :=
  let k := x.imm.toNat % 4
  accDst true (cmulInts (c16 b x.a) (repElem 4 k (c16 b x.b))) (cmulFps (f16 b x.a) (repElem 4 k (f16 b x.b))) b x
def vecVcmacj (b : EBank) (x : VArgs) : List VDst :=
  accDst true (cmulInts (c16 b x.a) (conjI (c16 b x.b))) (cmulFps (f16 b x.a) (conjF (f16 b x.b))) b x

/-- Lane products. -/
def mulInts (p q : List Int) : List Int := List.zipWith (· * ·) p q
def mulFps (p q : List Fp) : List (List FpTerm) := List.zipWith (fun y z => [y.mul z]) p q

def vecVmac (b : EBank) (x : VArgs) : List VDst :=
  accDst true (mulInts (c16 b x.a) (c16 b x.b)) (mulFps (f16 b x.a) (f16 b x.b)) b x
def vecVmul (b : EBank) (x : VArgs) : List VDst :=
  accDst false (mulInts (c16 b x.a) (c16 b x.b)) (mulFps (f16 b x.a) (f16 b x.b)) b x

/-- Lanes 0 to 3 gain the powers of the elements; lanes 4 to 7 keep their bits. -/
def vecVpwr (b : EBank) (x : VArgs) : List VDst :=
  let keep := plain ((lanes 32 8 (b.getA (x.d.toNat % 8)).toNat).drop 4)
  let low : List (Nat × FlagSet) :=
    if x.fmt.toNat = 0 then
      sat32 (List.zipWith (fun o p => o + p.1 * p.1 + p.2 * p.2) (accInts b x.d) (pairs (c16 b x.a)))
    else
      (List.zipWith (fun o p => [p.1.mul p.1, p.2.mul p.2, Fp.term o]) (accFps b x.d) (pairs (f16 b x.a))).map binary32.sum
  [.acc (x.d.toNat % 8) (low ++ keep)]

def vecVcmulv (b : EBank) (x : VArgs) : List VDst :=
  let d := x.d.toNat
  match x.fmt.toNat with
  | 0 => [.v16 d (sat16 ((cmulInts (c16 b x.a) (c16 b x.b)).map (fun y => rne y (shOf x))))]
  | 2 => [.v16 d ((cmulFps (f16 b x.a) (f16 b x.b)).map binary16.sum)]
  | f =>
    let va := b.getV x.a.toNat
    [bDst f d (bTag va) (cmulInts (bVals f va) (bVals f (b.getV x.b.toNat))) (shOf x)]

def vecVcmacv (b : EBank) (x : VArgs) : List VDst :=
  let f := x.fmt.toNat
  let va := b.getV x.a.toNat
  let prod := cmulInts (bVals f va) (bVals f (b.getV x.b.toNat))
  let old : List Int := (bVals f (b.getV x.d.toNat)).map (fun y => y * ((2 ^ shOf x : Nat) : Int))
  [bDst f x.d.toNat (bTag va) (List.zipWith (· + ·) old prod) (shOf x)]

def vecVbfly (b : EBank) (x : VArgs) : List VDst :=
  let s := x.imm.toNat % 2
  let t := cmulInts (c16 b x.b) (c16 b x.c)
  let big := (c16 b x.a).map (· * 32768)
  [.v16 x.d.toNat (sat16 (List.zipWith (fun p q => rne (p + q) (15 + s)) big t)),
   .v16 (x.d.toNat + 1) (sat16 (List.zipWith (fun p q => rne (p - q) (15 + s)) big t))]

def vecAzero (_ : EBank) (x : VArgs) : List VDst :=
  ((List.range 8).filter (fun n => x.imm.toNat / 2 ^ n % 2 = 1)).map (fun n => .acc n (List.replicate 8 (0, 0)))

def vecArnd (b : EBank) (x : VArgs) : List VDst :=
  if x.fmt.toNat = 0 then [.v16 x.d.toNat (sat16 ((accInts b x.a).map (fun y => rne y (shOf x))))]
  else [.v16 x.d.toNat ((accFps b x.a).map binary16.convert)]

def vecAget (b : EBank) (x : VArgs) : List VDst :=
  let a := b.getA (x.a.toNat % 8)
  [moveDst x.fmt.toNat x.d.toNat (a.setWidth 128), moveDst x.fmt.toNat (x.d.toNat + 1) ((a >>> 128).setWidth 128)]

def vecAput (b : EBank) (x : VArgs) : List VDst :=
  [.acc (x.d.toNat % 8) (plain (lanes 32 4 (vNat b x.a) ++ lanes 32 4 (b.getV (x.a.toNat + 1)).toNat))]

def vecAadd (b : EBank) (x : VArgs) : List VDst :=
  if x.fmt.toNat = 0 then
    [.acc (x.d.toNat % 8) (sat32 (List.zipWith (· + ·) (accInts b x.d) (accInts b x.a)))]
  else
    [.acc (x.d.toNat % 8) ((List.zipWith (fun p q => [Fp.term p, Fp.term q]) (accFps b x.d) (accFps b x.a)).map binary32.sum)]

/-- R117: the conversions; IMM8[4] picks the half of A that a widening conversion takes. -/
def vecVcvt (b : EBank) (x : VArgs) : List VDst :=
  let d := x.d.toNat
  let half {α : Type} (l : List α) : List α := if x.imm.toNat / 16 % 2 = 1 then l.drop 4 else l.take 4
  let cv (bd w : Nat) (l : List Fp) : List (Nat × FlagSet) :=
    l.map (fun y => let (z, g) := y.toInt bd; (ofSigned w z, g))
  match x.fmt.toNat, x.imm.toNat % 16 with
  | 0, 1 => [.v32 d ((half (c16 b x.a)).map (fun y => (ofSigned 32 y, 0)))]
  | 1, 0 => [.v16 d (sat16 (c32 b x.a ++ c32 b x.b))]
  | 0, 2 => [.v16 d ((c16 b x.a).map binary16.ofInt)]
  | 2, 0 => [.v16 d (cv bound16 16 (f16 b x.a))]
  | 2, 3 => [.v32 d ((half (f16 b x.a)).map binary32.convert)]
  | 3, 2 => [.v16 d ((f32 b x.a ++ f32 b x.b).map binary16.convert)]
  | 1, 3 => [.v32 d ((c32 b x.a).map binary32.ofInt)]
  | 3, 1 => [.v32 d (cv bound32 32 (f32 b x.a))]
  | _, _ => []

def vecVunpk (b : EBank) (x : VArgs) : List VDst :=
  let xs := sat16 ((bVals x.fmt.toNat (b.getV x.a.toNat)).map (fun y => rne y (shOf x)))
  let hi := xs.drop 8
  [.v16 x.d.toNat (xs.take 8), .v16 (x.d.toNat + 1) (hi ++ List.replicate (8 - hi.length) (0, 0))]

def vecVpack (b : EBank) (x : VArgs) : List VDst :=
  let f := x.fmt.toNat
  [bDst f x.d.toNat 0 (c16 b x.a ++ (c16 b x.b).take (bCount f - 8)) 0]

def vecVsete (b : EBank) (x : VArgs) : List VDst :=
  let f := x.fmt.toNat
  let va := b.getV x.a.toNat
  [.vw x.d.toNat (bWord f (x.imm.toNat % 16) (bTag va) (bMants f va)) 0]

def vecVtag (b : EBank) (x : VArgs) : List VDst :=
  let f := x.fmt.toNat
  let va := b.getV x.a.toNat
  [.vw x.d.toNat (bWord f (bExp va) (x.imm.toNat % 16) (bMants f va)) 0]

def vecVgete (b : EBank) (x : VArgs) : List VDst := [.s x.d.toNat (BitVec.ofNat 32 (bExp (b.getV x.a.toNat)))]

/-! ## The opcode table -/

/-- What a register field of a vector slot names. -/
inductive VKind where
  | un
  | v
  /-- an even V register and the one above it -/
  | vv
  | s
  /-- an accumulator, 0 to 7 -/
  | a
  /-- a predicate; as a destination not P0 -/
  | p
  deriving DecidableEq, Repr

/-- Latency class of a vector instruction (R119). -/
inductive VTime where
  | move
  | arith
  | cmac
  | rmac
  | cmulv
  | bfly
  | two
  | pack
  deriving DecidableEq, Repr

structure VForm where
  d : VKind
  a : VKind
  b : VKind
  c : VKind
  fmts : List Nat
  time : VTime
  /-- the destination is also read, and its accumulates may chain (R119) -/
  acc : Bool
  f : EBank → VArgs → List VDst

def anyFmt : List Nat := [0, 1, 2, 3, 4, 5]

def vecOp (opc : Nat) : Option VForm :=
  match opc with
  | 0x00 => some ⟨.un, .un, .un, .un, anyFmt, .move, false, vecVnop⟩
  | 0x01 => some ⟨.v, .v, .v, .un, anyFmt, .arith, false, vecVadd⟩
  | 0x02 => some ⟨.v, .v, .v, .un, anyFmt, .arith, false, vecVsub⟩
  | 0x03 => some ⟨.v, .v, .un, .un, anyFmt, .arith, false, vecVneg⟩
  | 0x04 => some ⟨.v, .v, .un, .un, anyFmt, .arith, false, vecVconj⟩
  | 0x05 => some ⟨.v, .v, .un, .un, anyFmt, .move, false, vecVmov⟩
  | 0x06 => some ⟨.v, .v, .v, .p, anyFmt, .move, false, vecVsel⟩
  | 0x07 => some ⟨.v, .v, .v, .un, anyFmt, .move, false, vecVand⟩
  | 0x08 => some ⟨.v, .v, .v, .un, anyFmt, .move, false, vecVor⟩
  | 0x09 => some ⟨.v, .v, .v, .un, anyFmt, .move, false, vecVxor⟩
  | 0x0A => some ⟨.v, .s, .un, .un, anyFmt, .move, false, vecVsplat⟩
  | 0x0B => some ⟨.v, .v, .un, .un, anyFmt, .move, false, vecVbcast⟩
  | 0x0C => some ⟨.v, .v, .v, .un, anyFmt, .move, false, vecVperm⟩
  | 0x0D => some ⟨.v, .s, .un, .un, anyFmt, .move, true, vecVins⟩
  | 0x0E => some ⟨.s, .v, .un, .un, anyFmt, .move, false, vecVext⟩
  | 0x10 => some ⟨.p, .v, .v, .un, [0, 1, 2, 3], .arith, false, vecVcmpeq⟩
  | 0x11 => some ⟨.p, .v, .v, .un, [0, 1, 2, 3], .arith, false, vecVcmpgt⟩
  | 0x12 => some ⟨.v, .v, .un, .un, [0, 1], .arith, false, vecVshr⟩
  | 0x13 => some ⟨.v, .v, .un, .un, [0, 1], .arith, false, vecVshl⟩
  | 0x18 => some ⟨.a, .v, .v, .un, [0, 2], .cmac, false, vecVcmul⟩
  | 0x19 => some ⟨.a, .v, .v, .un, [0, 2], .cmac, true, vecVcmac⟩
  | 0x1A => some ⟨.a, .v, .v, .un, [0, 2], .cmac, false, vecVcmulb⟩
  | 0x1B => some ⟨.a, .v, .v, .un, [0, 2], .cmac, true, vecVcmacb⟩
  | 0x1C => some ⟨.a, .v, .v, .un, [0, 2], .cmac, true, vecVcmacj⟩
  | 0x1D => some ⟨.a, .v, .v, .un, [0, 2], .rmac, true, vecVmac⟩
  | 0x1E => some ⟨.a, .v, .v, .un, [0, 2], .rmac, false, vecVmul⟩
  | 0x1F => some ⟨.a, .v, .un, .un, [0, 2], .rmac, true, vecVpwr⟩
  | 0x20 => some ⟨.v, .v, .v, .un, [0, 2, 4, 5], .cmulv, false, vecVcmulv⟩
  | 0x21 => some ⟨.v, .v, .v, .un, [4, 5], .cmulv, true, vecVcmacv⟩
  | 0x22 => some ⟨.vv, .v, .v, .v, [0], .bfly, false, vecVbfly⟩
  | 0x28 => some ⟨.un, .un, .un, .un, anyFmt, .move, false, vecAzero⟩
  | 0x29 => some ⟨.v, .a, .un, .un, [0, 2], .two, false, vecArnd⟩
  | 0x2A => some ⟨.vv, .a, .un, .un, anyFmt, .move, false, vecAget⟩
  | 0x2B => some ⟨.a, .vv, .un, .un, anyFmt, .move, false, vecAput⟩
  | 0x2C => some ⟨.a, .a, .un, .un, [0, 2], .two, true, vecAadd⟩
  | 0x30 => some ⟨.v, .v, .un, .un, [0, 1, 2, 3], .two, false, vecVcvt⟩
  | 0x31 => some ⟨.vv, .v, .un, .un, [4, 5], .two, false, vecVunpk⟩
  | 0x32 => some ⟨.v, .v, .v, .un, [4, 5], .pack, false, vecVpack⟩
  | 0x33 => some ⟨.v, .v, .un, .un, [4, 5], .move, false, vecVsete⟩
  | 0x34 => some ⟨.v, .v, .un, .un, [4, 5], .move, false, vecVtag⟩
  | 0x35 => some ⟨.s, .v, .un, .un, [4, 5], .move, false, vecVgete⟩
  | _ => none

/-- A field may name its register. -/
def VKind.legal (k : VKind) (dest : Bool) (i : Nat) : Bool :=
  match k with
  | .vv => i % 2 = 0
  | .a => i < 8
  | .p => i < 8 && (!dest || 0 < i)
  | _ => true

/-- The registers a field names. -/
def VKind.keys (k : VKind) (i : Nat) : List Nat :=
  match k with
  | .un => []
  | .v => [keyV i]
  | .vv => [keyV i, keyV (i + 1)]
  | .s => [keyS i]
  | .a => [keyA i]
  | .p => [keyP i]

/-- The immediates that an instruction does not allow (R112, R116, R117). -/
def vecImmLegal (opc : Nat) (x : VArgs) : Bool :=
  let i := x.imm.toNat
  let f := x.fmt.toNat
  match opc with
  | 0x0B => i % 8 < (elemShape f).1
  | 0x0C => x.c.toNat < 16
  | 0x12 | 0x13 => f ≠ 0 || i % 32 ≤ 15
  | 0x20 | 0x29 => f ≠ 2 || i % 32 = 0
  | 0x22 => i < 2
  | 0x30 =>
    i < 32 && [(0, 1), (1, 0), (0, 2), (2, 0), (2, 3), (3, 2), (1, 3), (3, 1)].contains (f, i % 16)
  | 0x32 => i = 0
  | _ => true

/-- R112: the slot is legal. -/
def VForm.legal (v : VForm) (opc : Nat) (x : VArgs) : Bool :=
  v.fmts.contains x.fmt.toNat && v.d.legal true x.d.toNat && v.a.legal false x.a.toNat && v.b.legal false x.b.toNat
    && v.c.legal false x.c.toNat && vecImmLegal opc x

/-- The registers the slot writes; AZERO writes the accumulators of IMM8. -/
def VForm.writes (v : VForm) (opc : Nat) (x : VArgs) : List Nat :=
  if opc = 0x28 then ((List.range 8).filter (fun n => x.imm.toNat / 2 ^ n % 2 = 1)).map keyA else v.d.keys x.d.toNat

/-- The registers the slot reads; the narrowing conversions also read B. -/
def VForm.reads (v : VForm) (opc : Nat) (x : VArgs) : List Nat :=
  v.a.keys x.a.toNat ++ v.b.keys x.b.toNat ++ v.c.keys x.c.toNat
    ++ (if opc = 0x30 ∧ (x.fmt.toNat, x.imm.toNat % 16) ∈ [(1, 0), (3, 2)] then [keyV x.b.toNat] else [])

/-- R119: latency, vector-slot cycles, and cycles to a chained accumulate. -/
def VTime.cost (t : VTime) (fmt : Nat) : Nat × Nat × Nat :=
  match t with
  | .move => (1, 1, 1)
  | .arith => if fmt < 2 then (2, 1, 2) else (3, 1, 3)
  | .cmac => if fmt = 0 then (4, 1, 1) else (5, 2, 4)
  | .rmac => if fmt = 0 then (4, 1, 1) else (5, 1, 4)
  | .cmulv => if fmt = 0 then (4, 1, 4) else (5, 2, 5)
  | .bfly => (4, 1, 4)
  | .two => (2, 1, 2)
  | .pack => (3, 1, 3)

/-- The predicate bits that govern a part of the destination (R114). -/
def VForm.governing (v : VForm) (opc : Nat) (x : VArgs) : Nat :=
  let f := x.fmt.toNat
  let byFmt (g : Nat) : Nat := if g = 4 ∨ g = 5 then 0x01 else if g = 1 ∨ g = 3 then 0x55 else 0xFF
  match opc with
  | 0x31 => 0xFF
  | 0x28 => 0xFF
  | 0x30 => byFmt (x.imm.toNat % 16)
  | _ =>
    match v.d with
    | .a => 0xFF
    | .p | .s | .un => 0x01
    | _ => byFmt f

/-- R114: the bank after one destination is written under the predicate, with the flags set. -/
def VDst.apply (pm : Nat) (b : EBank) (d : VDst) : EBank × FlagSet :=
  match d with
  | .v16 r l =>
    let (m, g) := mergeLanes 16 1 pm (b.getV r).toNat 0 l
    (b.setV r (BitVec.ofNat 128 (joinLanes 16 m)), g)
  | .v32 r l =>
    let (m, g) := mergeLanes 32 2 pm (b.getV r).toNat 0 l
    (b.setV r (BitVec.ofNat 128 (joinLanes 32 m)), g)
  | .acc r l =>
    let (m, g) := mergeLanes 32 1 pm (b.getA r).toNat 0 l
    (b.setA r (BitVec.ofNat 256 (joinLanes 32 m)), g)
  | .vw r x g => if pm % 2 = 1 then (b.setV r x, g) else (b, 0)
  | .p r x g => if pm % 2 = 1 then (b.setP r x, g) else (b, 0)
  | .s r x => if pm % 2 = 1 then (b.setS r x, 0) else (b, 0)

/-- All destinations of a slot, in turn. -/
def applyDsts (pm : Nat) : EBank → List VDst → EBank × FlagSet
  | b, [] => (b, 0)
  | b, d :: l =>
    let (b1, g) := d.apply pm b
    let (b2, h) := applyDsts pm b1 l
    (b2, g ||| h)

end Sys2Proof.Machine
end

