-- ==== Sys2Proof/Machine/EngTask.lean ====
section
/-! DEFINITION. Tasks on an engine: banks and start contexts (R98), the accesses a task has outstanding (R123), what a paired copy
captures (R189 to R191), traps (R127 to R131), the end of a task and the swap back (R145). -/

namespace Sys2Proof.Machine

/-! ## Placement and start contexts -/

def oPlace (e : Nat) : Nat := oEng e + 0x0C

/-- ENG_PLACE.STATE: 0 SPARE, 1 PLACED, 2 STALE, 3 TESTING, 4 ISOLATED. -/
def State.placeSt (s : State) (e : Nat) : Nat := s.fld (oPlace e) 31 29
def State.engLid (s : State) (e : Nat) : Nat := s.fld (oPlace e) 25 16
def State.engEpoch (s : State) (e : Nat) : Nat := s.fld (oPlace e) 7 0
def State.engStale (s : State) (e : Nat) : Bool := s.bit (oPlace e) 8

/-- R98: the start context of a task, as the dispatch agent writes it; R160 loads the watchdog count. -/
def startBank (old : EBank) (desc : List Word) (x copy limit : Nat) : EBank :=
  let arg := dArg desc
  let b : EBank := { pc := dFld desc 2 27 16, arg := BitVec.ofNat 48 arg, tid := x, flow := dFlow desc, copy := copy, busy := true,
                     gen := old.gen + 1, wd := limit }
  (b.setS 0 (BitVec.ofNat 32 arg)).setS 1 (BitVec.ofNat 32 (arg / 2 ^ 32 % 2 ^ 16))

/-! ## Outstanding accesses -/

/-- The engine, bank and task number of an access an engine issued. -/
def ReqKind.owner : ReqKind → Option (Nat × Bool × Nat)
  | .getw e w g _ | .putw e w g | .getb e w g _ _ _ | .putb e w g _ _ _ | .rsend e w g => some (e, w, g)
  | _ => none

/-- The accesses of the task in bank `w` of the engine. -/
def State.ownOut (s : State) (e : Nat) (w : Bool) (g : Nat) : List OutReq :=
  s.net.outst.filter (fun q => q.kind.owner == some (e, w, g))

/-- All accesses of the engine (R123: at most 16). -/
def State.engOut (s : State) (e : Nat) : Nat :=
  (s.net.outst.filter (fun q => match q.kind.owner with | some (f, _, _) => f == e | none => false)).length

/-- The V registers that a GETW of the task has still to write. -/
def State.pendingV (s : State) (e : Nat) (w : Bool) (g : Nat) : List Nat :=
  (s.ownOut e w g).filterMap (fun q => match q.kind with | .getw _ _ _ d => some (keyV d) | _ => none)

/-- R127: GETW and GETB data still to arrive is abandoned; writes complete. -/
def State.abandon (s : State) (e : Nat) (w : Bool) (g : Nat) : State :=
  let f (q : OutReq) : OutReq :=
    match q.kind with
    | .getw a b c _ => if (a, b, c) = (e, w, g) then { q with kind := .other } else q
    | .getb a b c _ _ _ => if (a, b, c) = (e, w, g) then { q with kind := .other } else q
    | _ => q
  { s with net := { s.net with outst := s.net.outst.map f } }

/-- A wait the manual gives no length for (a response, an acceptance): a free number of cycles. -/
def State.waitFree (s : State) (b : EBank) : State × EBank :=
  let (n, s1) := s.draw
  (s1, { b with cyc := b.cyc + n.toNat, stallMem := b.stallMem + n.toNat })

/-! ## Paired copies -/

def crc64Poly : Nat := 0x42F0E1EBA9EA3693

/-- The bytes an item adds to the result stream (R189). -/
def CapItem.stream : CapItem → List Byte
  | .packet p => bytesLE 8 (pktAddr p) ++ bytesLE 2 p.be.toNat ++ pktData p
  | .contribution p => bytesLE 8 (pktAddr p) ++ bytesLE 2 p.be.toNat ++ bytesLE 16 p.inl.toNat
  | .descriptor ws => ws.flatMap (fun w => bytesLE 4 w.toNat)
  | .event c f => bytesLE 2 c ++ bytesLE 1 f

/-- The bytes an item takes of the release buffer. -/
def CapItem.size : CapItem → Nat
  | .packet p => pktBytes p
  | .contribution _ => 16
  | .descriptor _ => 64
  | .event _ _ => 4

def digestOver (d : DWord) (l : List Byte) : DWord := BitVec.ofNat 64 (crcBytes 64 crc64Poly d.toNat l)

/-- R189: the digest closes over the final status (0 = DONE, else the trap cause) and is inverted. -/
def digestClose (d : DWord) (status : Nat) : DWord := ~~~(digestOver d (bytesLE 1 status))

/-- A copy after it issued an item. Only the secondary's writes are dropped. -/
def PairCopy.take (k : PairCopy) (keep : Bool) (i : CapItem) : PairCopy :=
  { k with digest := digestOver k.digest i.stream, bytes := k.bytes + i.size, buf := if keep then k.buf ++ [i] else k.buf }

def Pair.copyNo (p : Pair) (n : Nat) : Option PairCopy := if n = 3 then p.referee else p.copies[n - 1]?

def Pair.setCopy (p : Pair) (n : Nat) (k : PairCopy) : Pair :=
  if n = 3 then { p with referee := some k } else { p with copies := p.copies.set (n - 1) k }

/-- The bytes held in the release buffer of tile `t`: primaries and referees that run there. -/
def State.releaseBytes (s : State) (t : Nat) : Nat :=
  s.sch.ctx.foldl (fun n e =>
    match e.2.pair with
    | none => n
    | some p =>
      let one (k : Option PairCopy) : Nat := match k with | some c => if engTile c.eng = t ∧ c.buf ≠ [] then c.bytes else 0 | none => 0
      n + one p.copies.head? + one p.referee) 0

/-- Captured writes of one copy: the state, and whether the limit of R191 refused one of them. -/
def State.capture (s : State) (b : EBank) : List CapItem → State × Bool
  | [] => (s, false)
  | i :: l =>
    let c := s.ctx b.tid
    match c.pair with
    | none => (s, false)
    | some p =>
      match p.copyNo b.copy with
      | none => (s, false)
      | some k =>
        if k.bytes + i.size > 1024 * s.fld 0x300050 22 16 then (s, true)
        else (s.setCtx b.tid { c with pair := some (p.setCopy b.copy (k.take (b.copy ≠ 2) i)) }).capture b l

/-- R191: a copy that finds the release buffer of its tile full waits. -/
def State.bufferFull (s : State) (e : Nat) (b : EBank) (l : List CapItem) : Bool :=
  b.copy ≠ 0 && b.copy ≠ 2 && decide (s.releaseBytes (engTile e) + (l.map CapItem.size).sum > 0x80000)

/-! ## Ends and swaps -/

/-- ENG_TASKCYC to ENG_VBUSY take the counts of the task that ended. -/
def State.taskRegs (s : State) (e : Nat) (b : EBank) : State :=
  let w (n : Nat) : Word := BitVec.ofNat 32 (satAdd 0xFFFFFFFF n 0)
  (((s.setReg (oEng e + 0x114) (w b.cyc)).setReg (oEng e + 0x118) (w b.stallDep)).setReg (oEng e + 0x11C) (w b.stallMem)).setReg
    (oEng e + 0x120) (w b.vbusy)

/-- The task of the active bank is reported: to its context, or as the end of one copy. -/
def State.reportEnd (s : State) (b : EBank) (status cause : Nat) : State :=
  if b.copy = 0 then s.report b.tid ⟨status, cause, b.cyc, status ≠ 0⟩ else s.copyEnd b.tid b.copy cause b.cyc digestClose

/-- The active bank is empty; the engine waits for nothing. -/
def State.freeActive (s : State) (e : Nat) : State :=
  let x := s.engSt e
  s.setEng e (({ x with resv := none, wdogRaised := false }).setCur { x.cur with busy := false, cause := none, wait := .none })

/-- R130: a trap came with a pre-emption request: the banks do not swap, and the pre-empting task starts in the active bank. -/
def State.startHere (s : State) (e : Nat) : State :=
  let x := s.engSt e
  let b := x.bank (!x.active)
  let y := ((x.setCur { b with gen := x.cur.gen + 1 }).setBank (!x.active) { gen := b.gen })
  s.setEng e { y with swapDue := false }

/-- After the end of the active task (R145): a pre-empting task that waits for the boundary starts; else a pre-empted task
swaps back. -/
def State.afterEnd (s : State) (e : Nat) : State :=
  let x := s.engSt e
  if x.swapDue then s.setEng e { x with active := !x.active, swapDue := false }
  else if x.shocc then
    let s1 := s.setEng e { x with active := !x.active, shocc := false }
    let t := (x.bank (!x.active)).tid
    if (s1.ctx t).st = .preempted then s1.setCtx t { s1.ctx t with st := .running } else s1
  else s

/-! ## Traps -/

/-- What is recorded of a trap (R127 to R131). -/
structure TrapInfo where
  cause : Nat
  mult : Bool := false
  prec : Bool := true
  tmo : Bool := false
  pc : Nat
  slot : Nat := 3
  addr : Nat := 0
  sw : Nat := 0
  /-- instructions refused for a stale epoch -/
  refused : Nat := 0
  /-- an imprecise cause came with it: both are counted (R129) -/
  both : Bool := false

/-- A record of this source and code would not be dropped (R385). -/
def State.logTakes (s : State) (src code : Nat) : Bool :=
  match s.rec_.pend.find? (fun x => x.src == src) with
  | none => true
  | some p => p.code == code

/-- The record a trap logs (R128, R131). -/
def State.trapLog (s : State) (e : Nat) (t : TrapInfo) : State :=
  let r := engReq e
  if t.cause = causeIfetch ∨ t.cause = causeIllegal then s.log (mkRec r 0x040 t.pc 1 r)
  else if t.cause = causeAlign ∨ t.cause = causeRange then s.log (mkRec r 0x040 t.addr 1 r)
  else if t.cause = causePoison then s.log (mkRec r 0x041 t.addr 1 r)
  else if t.cause = causeStale then
    let n := (s.engSt e).refused + t.refused
    (s.setEng e { s.engSt e with refused := if s.logTakes r 0x042 then 0 else n }).log (mkRec r 0x042 t.addr n r)
  else s

/-- ENG_TRAPCAUSE, ENG_TRAPPC, ENG_TRAPADDR and ENG_TRAPCNT. -/
def State.trapRegs (s : State) (e : Nat) (t : TrapInfo) : State :=
  let b (x : Bool) (k : Nat) : Nat := if x then 2 ^ k else 0
  let s1 := s.setReg (oEng e + 0x100) (BitVec.ofNat 32 (2 ^ 31 + b t.mult 30 + b t.prec 29 + b t.tmo 28 + t.sw % 256 * 2 ^ 16 + t.cause))
  let s2 := s1.setReg (oEng e + 0x104) (BitVec.ofNat 32 (t.slot * 2 ^ 16 + t.pc % 4096))
  let s3 := (s2.setReg (oEng e + 0x108) (BitVec.ofNat 32 t.addr)).setReg (oEng e + 0x10C) (BitVec.ofNat 32 (t.addr / 2 ^ 32 % 2 ^ 16))
  s3.count (oEng e + 0x110) 31 0 (if t.both then 2 else 1)

/-- R127: the trap ends the task of the active bank; what waits in the shadow bank goes on. -/
def State.trapOnce (s : State) (e : Nat) (t : TrapInfo) : State :=
  let x := s.engSt e
  let b := x.cur
  let s1 := (s.trapRegs e t).trapLog e t
  let s2 := if b.wait = EWait.enqOffered then s1.withdrawEng e else s1
  let s3 := ((s2.abandon e x.active b.gen).taskRegs e b).reportEnd b 1 t.cause
  let s4 := if x.swapDue then (s3.freeActive e).startHere e else (s3.freeActive e).afterEnd e
  if x.stepping then s4.setEng e { s4.engSt e with stepping := false, haltDue := 4 } else s4

/-- R129, R144: an imprecise cause held by the active bank is taken at a bundle boundary of an engine that is not halted. -/
def State.heldTrap (s : State) (e : Nat) : Option TrapInfo :=
  let b := (s.engSt e).cur
  if b.busy = true ∧ s.halted e = false then
    b.cause.map (fun (c, tmo, a) => { cause := c, prec := false, tmo := tmo, pc := b.pc, addr := a })
  else none

/-- A held cause of the active bank is taken. -/
def State.takeHeld (s : State) (e : Nat) : State :=
  match s.heldTrap e with
  | none => s
  | some t => s.trapOnce e t

/-- A trap; the task that swaps back may hold a cause of its own. -/
def State.trapTask (s : State) (e : Nat) (t : TrapInfo) : State := (s.trapOnce e t).takeHeld e

/-- An imprecise cause arrives for the task `g` in bank `w`. The lowest code stays recorded. -/
def State.impreciseCause (s : State) (e : Nat) (w : Bool) (g cause : Nat) (tmo : Bool) (addr : Nat) : State :=
  let x := s.engSt e
  let b := x.bank w
  if b.busy = true ∧ b.gen = g then
    let keep := match b.cause with | some (c, _, _) => decide (c ≤ cause) | none => false
    let s1 := if keep then s else s.setEng e (x.setBank w { b with cause := some (cause, tmo, addr) })
    if w = x.active ∧ b.wait ≠ EWait.flagDone then s1.takeHeld e else s1
  else s

/-- R125: every access of a DONE has been acknowledged: the task completes, or ends by the FLAG trap of the bundle. -/
def State.finishDone (s : State) (e : Nat) : State :=
  let x := s.engSt e
  let b := x.cur
  let s1 :=
    if b.wait = EWait.flagDone then
      s.trapOnce e { cause := causeFlag, mult := b.cause.isSome, both := b.cause.isSome, pc := b.pc, slot := 1 }
    else (((s.taskRegs e b).reportEnd b 0 0).freeActive e).afterEnd e
  let s2 := if x.stepping then s1.setEng e { s1.engSt e with stepping := false, haltDue := 4 } else s1
  s2.takeHeld e

/-- R150, R151: the scheduler revokes the task of a bank: the bank is empty, and its GETW and GETB data are abandoned. -/
def State.clearBank (s : State) (e : Nat) (w : Bool) : State :=
  let b := (s.engSt e).bank w
  let s1 := s.abandon e w b.gen
  s1.setEng e ((s1.engSt e).setBank w { b with busy := false, cause := none, wait := .none })

end Sys2Proof.Machine
end

