-- ==== Sys2Proof/Machine/Place.lean ====
section
/-! DEFINITION. Placement (ch. 06): epochs and their bumps, revocation, takeovers, admission, isolation and release, the self-test,
and the ENG control registers. -/

namespace Sys2Proof.Machine

def State.le (s : State) (l : Nat) : LEngSt := SMap.get lengReset s.leng l
def State.setLe (s : State) (l : Nat) (x : LEngSt) : State := { s with leng := SMap.set lengReset s.leng l x }

/-! ## Epochs (R147) -/

/-- The ports that check the epoch, by number: scheduler, engine ports, reduction, the eight DRAM channels, fabric, stream, control. -/
def allPorts : List Nat := List.range 14

/-- The epoch that a port holds of a logical engine. -/
def State.portEpoch (s : State) (p l : Nat) : Nat := SMap.get (fun _ => 0) s.net.ports (p * 1024 + l)
def State.setPortEpoch (s : State) (p l n : Nat) : State :=
  { s with net := { s.net with ports := SMap.set (fun _ => 0) s.net.ports (p * 1024 + l) n } }

/-- R148: a discarded request counts for its logical engine. -/
def State.countStale (s : State) (l : Nat) : State := s.setLe l { s.le l with discards := (s.le l).discards + 1 }

def bumped (n : Nat) : Nat := if n = 255 then 1 else n + 1

/-- A task bound to an epoch of logical engine `l` other than `n` (R181). -/
def boundElsewhere (c : TaskCtx) (l n : Nat) : Bool :=
  (c.st == .delayed || c.st == .waiting || c.st == .ready) && dFld c.desc 3 1 0 = 1 && dFld c.desc 3 25 16 = l
    && dFld c.desc 3 15 8 ≠ 0 && dFld c.desc 3 15 8 ≠ n

/-- R181: a bound task whose epoch is gone ends with STALE_BIND. -/
def State.staleBind (s : State) (x : Nat) : State :=
  ((s.leaveDelay x).toCompleting x ⟨5, 0, 0, false⟩).log (mkRec reqSch 0x05A x 1 reqSch)

/-- R147: a new epoch, sent to every port; tasks bound to the old one end. -/
def State.bumpEpoch (s : State) (l : Nat) : State :=
  let n := bumped (s.le l).epoch
  let s1 := s.setLe l { s.le l with epoch := n, waiting := allPorts, discards := 0, reportDue := true }
  ((s1.sch.ctx.filter (fun e => boundElsewhere e.2 l n)).map Prod.fst).foldl (fun t x => t.staleBind x) s1

/-! ## Revocation (R150, R151, R191) -/

/-- R191: both copies and the referee of a pair leave their engines; what they captured is discarded. -/
def State.clearPair (s : State) (x : Nat) : State :=
  match (s.ctx x).pair with
  | none => s
  | some p =>
    (p.copies ++ p.referee.toList).foldl (fun t k =>
      let y := t.engSt k.eng
      if y.cur.busy = true ∧ y.cur.tid = x ∧ y.cur.copy ≠ 0 then t.clearBank k.eng y.active else t) s

/-- R151: the scheduler's side of a revoked task. -/
def State.revokedTask (s : State) (x cyc : Nat) : State :=
  let c := s.ctx x
  if dPaired c.desc then ((s.clearPair x).countRestart x).makeRestart x
  else if c.canRestart then (s.countRestart x).makeRestart x
  else s.toCompleting x ⟨2, 0, cyc, false⟩

/-- One bank of an engine is revoked. A reachable engine that runs the task records STALE_EPOCH (R130). -/
def State.revokeBank (s : State) (e : Nat) (w reach : Bool) : State :=
  let x := s.engSt e
  let b := x.bank w
  if b.busy then
    let s1 := if reach ∧ w = x.active then
        ((s.trapRegs e { cause := causeStale, pc := b.pc }).trapLog e { cause := causeStale, pc := b.pc }).taskRegs e b
      else s
    let s2 := if b.wait = EWait.enqOffered then s1.withdrawEng e else s1
    (s2.clearBank e w).revokedTask b.tid b.cyc
  else s

/-- Both banks are revoked; a swap that was due does not happen, and the reservation is gone. -/
def State.revokeEngine (s : State) (e : Nat) (reach : Bool) : State :=
  let a := (s.engSt e).active
  let s1 := (s.revokeBank e a reach).revokeBank e (!a) reach
  s1.setEng e { s1.engSt e with shocc := false, swapDue := false, resv := none, wdogRaised := false }

/-! ## Power of an engine -/

/-- R35: what makes an engine that goes OFF keep its memories: its RET, or the RET of its cluster while that stops too; in deep-night
mode, ERET. -/
def State.engineKeeps (s : State) (e : Nat) : Bool :=
  let c := oPwrClu (engClu e)
  if s.fld (oPwrEng e) 23 20 = 3 then s.bit 0x398 31
  else s.bit (oPwrEng e) 30 || (decide (s.pwr c ≠ 2) && s.bit c 30)

/-- R38, R156: the contents go with OFF unless they are kept; ENG_MEMSTAT.RETAINED remembers which. -/
def State.engineMem (s : State) (e : Nat) : State :=
  if s.engineKeeps e then s.setBit (oEng e + 0x10) 1 true
  else (s.setEng e (s.engSt e).lose).setBit (oEng e + 0x10) 1 false

/-- R149: the engine is ISOLATED, with its last logical engine and a stale epoch; it has passed no self-test since. -/
def State.markIsolated (s : State) (e : Nat) : State :=
  let s1 := (s.setFld (oPlace e) 31 29 4).setBit (oPlace e) 8 true
  let s2 := (s1.setBit (oEng e + 0x20) 31 false)
  s2.setEng e { s2.engSt e with stestPassed := false }

/-- The isolated engine goes to OFF through STOPPING with CAUSE 4, EN = 0. -/
def State.isolatedOff (s : State) (e : Nat) : State := (s.setBit (oPwrEng e) 31 false).forceStop (oPwrEng e) 4

/-! ## Takeover (R149 to R152) -/

/-- The SPAREs of a cluster, lowest first. -/
def State.sparesOf (s : State) (c : Nat) : List Nat :=
  ((List.range 17).map (fun i => 272 * (c / 16) + 17 * (c % 16) + i)).filter (fun e => s.placeSt e = 0)

/-- The SPAREs of a cluster that no running takeover has chosen. -/
def State.freeSpares (s : State) (c : Nat) : List Nat :=
  (s.sparesOf c).filter (fun e => !s.leng.any (fun y => match y.2.takeover with | some t => t.new == e | none => false))

/-- R150 step 4: the lowest SPARE that is ON, else the lowest SPARE. -/
def State.chooseSpare (s : State) (c : Nat) : Option Nat :=
  match (s.freeSpares c).find? (fun e => s.isOn (oPwrEng e)) with
  | some e => some e
  | none => (s.freeSpares c).head?

/-- An unplaced logical engine refuses the requests held for it (R152). -/
def State.refuseHeld (s : State) (l : Nat) : State :=
  let x := s.le l
  x.held.foldl (fun t (wr, p) =>
    (t.answer p wr 1 false []).log (mkRec reqSch 0x049 (pktAddr p) 1 p.src.toNat)) (s.setLe l { x with held := [] })

/-- R150 step 4, R152: the new engine of a takeover from `e` is chosen, and started where it is not ON; else there is none. -/
def State.placeOn (s : State) (l e : Nat) : State :=
  match s.chooseSpare (engClu e) with
  | none =>
    let s1 := (s.setLe l { s.le l with pstate := 3, takeover := none }).isolatedOff e
    (s1.log (mkRec reqSch 0x049 l 1 reqSch)).refuseHeld l
  | some n =>
    let s1 := s.setLe l { s.le l with takeover := some ⟨e, n, false⟩ }
    if s1.isOn (oPwrEng n) then s1 else s1.enableUnit (.eng (Fin.ofNat 1088 n))

/-- The logical engine whose running takeover has chosen `e`. -/
def State.chosenFor (s : State) (e : Nat) : Option (Nat × Takeover) :=
  s.leng.findSome? (fun y => match y.2.takeover with | some t => if t.new = e then some (y.1, t) else none | none => none)

/-- A takeover trigger on a physical engine (R149). A SPARE that a running takeover has chosen leaves it to another one. -/
def State.takeover (s : State) (e cause : Nat) : State :=
  let st := s.placeSt e
  let s1 := s.log (mkRec (engReq e) 0x045 0 cause (engReq e))
  if st = 4 then s
  else if st = 0 then
    let s2 := ((s1.revokeEngine e (cause ≠ 3)).markIsolated e).isolatedOff e
    match s2.chosenFor e with
    | some (l, t) => (s2.setLe l { s2.le l with takeover := none }).placeOn l t.old
    | none => s2
  else
    let l := s.engLid e
    let s2 := (s1.revokeEngine e (cause ≠ 3)).markIsolated e
    ((s2.setLe l { s2.le l with pstate := 1 }).bumpEpoch l).placeOn l e

/-- R150 step 6: the copy is done and every port has the epoch: the new engine is PLACED and the held requests go on. One that has left
ON since the copy is started and copied to again. -/
def State.placeIfReady (s : State) (l : Nat) : State :=
  let x := s.le l
  match x.takeover with
  | none => s
  | some t =>
    if t.copied = true ∧ x.waiting = [] then
      if s.isOn (oPwrEng t.new) = false then
        (s.setLe l { x with takeover := some { t with copied := false } }).enableUnit (.eng (Fin.ofNat 1088 t.new))
      else
        let s1 := s.setReg (oPlace t.new) (BitVec.ofNat 32 (2 ^ 29 + l * 2 ^ 16 + x.epoch))
        let s2 := s1.setLe l { x with phys := t.new, pstate := 0, takeover := none, held := [] }
        x.held.foldl (fun r (wr, p) => r.send (if wr then .wr p else .rd p)) s2
    else s

/-- A granule as the copy writes it: data as read, or the marker. -/
def copiedGran (x : EngSt) (e : Nat) (im : Bool) (k : Nat) : Gran :=
  let (d, c) := x.readGran e im k
  if eccBad c then poisonGran else mkGran d

/-- The addresses in the window of the granules that read as uncorrectable, those that hold the marker left out. -/
def badGranules (x : EngSt) (e : Nat) (im : Bool) (n : Nat) : List Nat :=
  ((List.range n).filter (fun k => (x.readGran e im k).2 == .uncorrectable)).map (granAddr im)

/-- R150 step 5: the copy from the old engine into the new one, and what becomes of the old one. -/
def State.migrate (s : State) (l : Nat) (t : Takeover) : State :=
  let x := s.engSt t.old
  let y := s.engSt t.new
  let mig := s.bit (oEng t.old) 8
  let y1 := { y with imem := (List.range 8192).map (fun k => (k, copiedGran x t.old true k)) }
  let y2 := if mig then { y1 with dmem := (List.range 24576).map (fun k => (k, copiedGran x t.old false k)), resv := none } else y1
  let bad := badGranules x t.old true 8192 ++ if mig then badGranules x t.old false 24576 else []
  let fx (im : Bool) (n : Nat) : List Nat := (List.range n).filter (fun k => (x.readGran t.old im k).2 == .corrected)
  let s0 := (s.engCorrectAll t.old true (fx true 8192)).engCorrectAll t.old false (if mig then fx false 24576 else [])
  let s1 := ((s0.setEng t.new y2).setBit (oEng t.new) 8 mig).setBit (oEng t.new + 0x10) 2 false
  let s2 := match bad with | [] => s1 | a :: _ => s1.log (mkRec reqSch 0x04B a bad.length reqSch)
  ((s2.isolatedOff t.old).setLe l { s2.le l with takeover := some { t with copied := true } }).placeIfReady l

/-- R150: the old engine does not answer: the new memories hold the marker. -/
def State.copyFailed (s : State) (l : Nat) (t : Takeover) : State :=
  let s1 := (s.setEng t.new (s.engSt t.new).poisonAll).setBit (oEng t.new + 0x10) 2 true
  ((s1.isolatedOff t.old).setLe l { s1.le l with takeover := some { t with copied := true } }).placeIfReady l

/-! ## Return to service (R154 to R157) -/

/-- R154, R156: an engine that came ON after OFF, or completed an engine reset: stale epoch, both banks empty. `kept` tells whether
the memories came through. -/
def State.engineStale (s : State) (e : Nat) (kept : Bool) : State :=
  let s1 := s.revokeEngine e true
  let x := s1.engSt e
  let s2 := s1.setEng e { x with b0 := { gen := x.b0.gen }, b1 := { gen := x.b1.gen }, active := false }
  let s3 := s2.setBit (oPlace e) 8 true
  let s4 := if kept then s3.setFld (oEng e + 0x10) 1 0 3 else s3.setBit (oEng e + 0x10) 1 false
  if s4.placeSt e = 1 ∨ s4.placeSt e = 2 ∨ s4.placeSt e = 3 then
    let l := s4.engLid e
    (s4.setFld (oPlace e) 31 29 2).setLe l { s4.le l with pstate := 1 }
  else s4

/-- SYS_RSTSTAT shows a reset of the engine, or of its tile, in progress. -/
def State.inReset (s : State) (e : Nat) : Bool :=
  s.bit 0x388 31 && ((decide (s.fld 0x388 18 16 = 1) && decide (s.fld 0x388 10 0 = e)) ||
    (decide (s.fld 0x388 18 16 = 0) && decide (s.fld 0x388 10 0 = engTile e)))

/-- R155: a stale engine that holds a placement is admitted, once no self-test runs on it (R159). -/
def State.admitLe (s : State) (l : Nat) : State :=
  let x := s.le l
  if x.takeover = none ∧ s.placeSt x.phys = 2 ∧ s.engLid x.phys = l ∧ s.isOn (oPwrEng x.phys) = true ∧ s.inReset x.phys = false
      ∧ s.bit (oEng x.phys + 0x20) 31 = false then
    let s1 := s.bumpEpoch l
    let s2 := s1.setReg (oPlace x.phys) (BitVec.ofNat 32 (2 ^ 29 + l * 2 ^ 16 + (s1.le l).epoch))
    s2.setLe l { s2.le l with pstate := 0 }
  else s

/-! ## Self-test (R159) -/

/-- ENG_STEST: the START conditions. -/
def State.stestRefused (s : State) (e ty : Nat) : Bool :=
  s.bit (oEng e + 0x20) 31 || !s.isOn (oPwrEng e) || (decide (2 ≤ ty) && decide (s.placeSt e = 1)) || (s.engSt e).shocc
    || (s.engSt e).swapDue

def State.stestStart (s0 : State) (e ty : Nat) : State :=
  let s := s0.setEng e { s0.engSt e with stestType := ty }
  let s1 := (s.setBit (oEng e + 0x20) 31 true)
  if s1.placeSt e = 1 then
    let l := s1.engLid e
    (s1.setFld (oPlace e) 31 29 3).setLe l { s1.le l with pstate := 2 }
  else s1

/-- The result of the test; it waits for a task that ran at START. -/
def State.stestEnd (s : State) (e fail : Nat) : State :=
  if s.bit (oEng e + 0x20) 31 = true ∧ (s.engSt e).cur.busy = false then
    let x := s.engSt e
    let ty := x.stestType
    let x1 : EngSt := { x with b0 := { gen := x.b0.gen }, b1 := { gen := x.b1.gen }, active := false,
                               stestPassed := x.stestPassed || decide (fail = 0) }
    let s1 := s.setEng e (if 2 ≤ ty then x1.zeroMem else x1)
    let s2 := s1.setReg (oEng e + 0x20) (BitVec.ofNat 32 ((if fail = 0 then 2 ^ 30 else 2 ^ 29) + fail * 2 ^ 12 + s.fld (oEng e + 0x20) 9 8 * 2 ^ 8))
    let placed := s.placeSt e = 3 ∨ s.placeSt e = 1
    if fail = 0 then
      if placed then
        let l := s2.engLid e
        (s2.setFld (oPlace e) 31 29 1).setLe l { s2.le l with pstate := 0 }
      else s2
    else
      let s3 := s2.log (mkRec (engReq e) 0x04A 0 fail (engReq e))
      if placed then s3.takeover e 4 else s3
  else s

/-! ## ENG_CTL and the other control registers of an engine -/

def engKey : Nat := 0xC3

/-- A write of ENG_CTL. -/
def State.engCtlWrite (s : State) (e : Nat) (v : Word) : WRes :=
  let o := oEng e
  let rel := bitsOf v 1 1 = 1
  let iso := bitsOf v 0 0 = 1
  if (rel ∨ iso) ∧ bitsOf v 31 24 ≠ engKey then .rej 0x04
  else if rel ∧ iso then .rej 0x05
  else if iso ∧ s.placeSt e = 4 then .rej 0x03
  else if rel ∧ (s.placeSt e ≠ 4 ∨ (s.engSt e).stestPassed = false) then .rej 0x03
  else
    let s1 := s.plainWrite o v
    if iso then .ok (s1.takeover e 5)
    else if rel then .ok (s1.setReg (oPlace e) (BitVec.ofNat 32 (0x100 + s1.engEpoch e)))
    else .ok s1

def State.stestWrite (s : State) (e : Nat) (v : Word) : WRes :=
  if bitsOf v 0 0 = 1 then
    if s.stestRefused e (bitsOf v 9 8) then .rej 0x03 else .ok ((s.plainWrite (oEng e + 0x20) v).stestStart e (bitsOf v 9 8))
  else .ok (s.plainWrite (oEng e + 0x20) v)

/-- The ENG block, ENG_PWR apart. -/
def State.engRegWrite (s : State) (e off : Nat) (v : Word) : WRes :=
  match off with
  | 0x000 => s.engCtlWrite e v
  | 0x020 => s.stestWrite e v
  | _ => .ok (s.plainWrite (oEng e + off) v)

/-- Registers of the ENG block that show the engine itself. -/
def State.engRegRead (s : State) (e off : Nat) : Word :=
  let x := s.engSt e
  match off with
  | 0x014 =>
    BitVec.ofNat 32 ((if x.active then 2 ^ 31 else 0) + (if x.shocc then 2 ^ 30 else 0) + s.fld (oEng e + 0x14) 15 0)
  | 0x01C => BitVec.ofNat 32 x.cur.wd
  | _ => s.reg (oEng e + off)

/-! ## Watchdog (R160) -/

/-- A watchdog count of 0 raises WDOG: the cause is held for the next bundle boundary. -/
def State.wdogExpire (s : State) (e : Nat) : State :=
  let x := s.engSt e
  let b := x.cur
  if b.busy = true ∧ b.wd = 0 ∧ s.bit (oEng e + 0x18) 31 = true ∧ s.halted e = false ∧ x.wdogRaised = false then
    let cause := match b.cause with | some (c, t, a) => if c ≤ causeWdog then some (c, t, a) else some (causeWdog, false, 0)
                                    | none => some (causeWdog, false, 0)
    (s.setEng e ({ x with wdogRaised := true }.setCur { b with cause := cause })).log (mkRec (engReq e) 0x044 0 1 (engReq e))
  else s

end Sys2Proof.Machine
end

