-- ==== Sys2Proof/Machine/Sched.lean ====
section
/-! DEFINITION. The scheduler (ch. 07): descriptors and their checks, acceptance and refusal, delay lists, dispatch and pre-emption,
the ends of tasks, completion queues, paired outcomes, deadlines. -/

namespace Sys2Proof.Machine

def oSch : Nat := 0x300000
def oSplit : Nat := oSch + 0x0C

/-! ## Descriptors (R166, R167) -/

def popcount (w n : Nat) : Nat := ((List.range w).filter (fun i => n / 2 ^ i % 2 = 1)).length

def dMode (d : List Word) : Nat := dFld d 3 1 0

/-- Reason 1: a bit that must be 0, or a reserved AFFMODE. -/
def descZeros (d : List Word) (template : Bool) : Bool :=
  let z (i hi lo : Nat) : Bool := dFld d i hi lo = 0
  z 0 15 14 && z 0 31 31 && (!dBit d 0 21 || z 2 13 0) && (dRestart d || z 0 25 24) && (dBit d 0 28 || (z 0 29 29 && z 5 31 0))
    && (!dBit d 0 30 || z 9 31 0) && z 2 15 14 && z 2 31 28 && decide (dMode d < 2) && z 3 3 2 && z 3 31 26
    && (if dMode d = 1 then z 3 7 4 && z 4 31 0 else z 3 15 8 && z 3 25 16)
    && z 7 31 16 && z 12 15 14 && z 12 23 22 && z 12 31 29 && z 13 31 0 && z 14 31 0
    && (if template then z 15 31 1 else z 15 31 0)

/-- The logical engines that an affinity allows (R166). -/
def affAllows (d : List Word) (l : Nat) : Bool :=
  if dMode d = 1 then decide (dFld d 3 25 16 = l)
  else (dFld d 3 7 4).testBit (l / 256) && (dFld d 4 15 0).testBit (l % 256 / 16) && (dFld d 4 31 16).testBit (l % 16)

/-- Clusters of an affinity by masks. -/
def affClusters (d : List Word) : Nat :=
  if dFld d 4 31 16 = 0 then 0 else popcount 4 (dFld d 3 7 4) * popcount 16 (dFld d 4 15 0)

def State.split (s : State) : Nat := s.fld oSplit 14 0

/-- A context may be allocated. -/
def State.ctxFree (s : State) (x : Nat) : Bool := (s.ctx x).st == .free && !(s.ctx x).quar

/-- The lowest-numbered free pool context (R164). -/
def State.poolFree (s : State) : Option Nat :=
  ((List.range (16384 - s.split)).map (· + s.split)).find? (fun x => s.ctxFree x)

def oDlcfg (i : Nat) : Nat := oSch + 0x20 + 4 * i
def oDlcnt (i : Nat) : Nat := oSch + 0x30 + 4 * i
def oCqctl (q : Nat) : Nat := oSch + 0x108 + 0x10 * q
def oCqidx (q : Nat) : Nat := oSch + 0x10C + 0x10 * q

/-- The reasons of R167 that apply to a descriptor, in order. -/
def State.descReasons (s : State) (d : List Word) (template : Bool) : List Nat :=
  let any := dBit d 0 21
  let c := dFld d 2 13 0
  let r (n : Nat) (b : Bool) : List Nat := if b then [n] else []
  r 1 (!descZeros d template)
    ++ r 2 (!any && decide (s.split ≤ c))
    ++ r 3 (!any && !s.ctxFree c)
    ++ r 4 (dMode d ≠ 1 && decide (affClusters d = 0))
    ++ r 5 (dPaired d && (dMode d = 1 || decide (affClusters d < 2) || dRestart d))
    ++ r 6 (dBit d 0 28 && !s.bit (oDlcfg (dFld d 0 27 26)) 31)
    ++ r 7 (!dBit d 0 30 && decide (1000000000 ≤ dFld d 8 31 0))
    ++ r 8 (dBit d 12 28 && !s.bit (oCqctl (dFld d 12 27 24)) 31)
    ++ r 9 (!any && dBit d 12 21 && decide (dFld d 12 13 0 = c))

/-! ## Templates (R169) -/

def oTmpl (n w : Nat) : Nat := oSch + 0xA0000 + 0x40 * n + 4 * w

/-- What a template request forms at the head of its input: the descriptor, the timestamp, and the reasons of its own. -/
def State.formTemplate (s : State) (ws : List Word) : List Word × Option (Nat × Nat) × List Nat :=
  let n := dFld ws 0 9 0
  let t := (List.range 16).map (fun i => s.reg (oTmpl n i))
  let t1 := if dBit ws 1 0 then (t.set 6 (dWord ws 2)).set 7 (dWord ws 3) else t
  let bad1 := dFld ws 0 31 10 ≠ 0 ∨ dFld ws 1 31 2 ≠ 0 ∨ dWord ws 6 ≠ 0 ∨ dWord ws 7 ≠ 0
  (t1, if dBit ws 1 1 then some ((dWord ws 5).toNat, (dWord ws 4).toNat) else none,
    (if bad1 then [1] else []) ++ (if dBit t 15 0 then [] else [10]))

/-- The descriptor at the head of an input: a template is copied once (R169). -/
def State.formed (s : State) (it : EnqItem) : List Word × Option (Nat × Nat) × List Nat :=
  if it.template then
    match it.formed with
    | some (w, ts) => (w, ts, [])
    | none => s.formTemplate it.words
  else (it.words, none, [])

/-- The lowest reason against an item, 0 = none. -/
def State.itemReason (s : State) (it : EnqItem) : Nat :=
  if it.words.length ≠ (if it.template then 8 else 16) then 11
  else
    let (d, _, own) := s.formed it
    (own ++ s.descReasons d it.template).foldl (fun a b => if a = 0 then b else min a b) 0

/-! ## Answers to a source (R167, R170) -/

def oPstat (p : Nat) : Nat := oSch + 0x244 + 0x80 * p

/-- A tag no request carries: the source waits for no response. -/
def noTag : Nat := 256

/-- The stream's template request is over (R213). -/
def State.strmTmplDone (s : State) (c : Nat) : State :=
  let x := SMap.get (fun _ => {}) s.net.strm c
  { s with net := { s.net with strm := SMap.set (fun _ => {}) s.net.strm c { x with tmplWait := false } } }

/-- A request on the network is answered by the scheduler. -/
def State.schAnswer (s : State) (req tag : Nat) (ok : Bool) : State :=
  if tag = noTag then s
  else s.send (.wrack (ackRsp req tag (if ok then 0 else 1)))

/-- The release of task `x` goes on behind the ENQ it offered. -/
def State.enqTaken (s : State) (x : Nat) : State :=
  let c := s.ctx x
  match c.pair with
  | some p => s.setCtx x { c with pair := some { p with enqWait := false } }
  | none => s

/-- The source learns that its descriptor was accepted into context `x`. -/
def State.tellAccepted (s : State) (src : EnqSrc) (x : Nat) : State :=
  match src with
  | .portal p => s.setReg (oPstat p) (BitVec.ofNat 32 (2 ^ 30 + x))
  | .engine e =>
    let y := s.engSt e
    if y.cur.wait = EWait.enqOffered then s.setEng e (y.setCur { y.cur with wait := EWait.enqTaken }) else s
  | .noc r t => s.schAnswer r t true
  | .stream c => s.strmTmplDone c
  | .classifier t => s.clsTmplDone t
  | .released y => s.enqTaken y

/-- The source learns that its descriptor was refused or discarded. -/
def State.tellRefused (s : State) (src : EnqSrc) (reason : Nat) : State :=
  match src with
  | .portal p =>
    s.setReg (oPstat p) (BitVec.ofNat 32 (2 ^ 29 + reason * 2 ^ 24 + s.fld (oPstat p) 13 0))
  | .engine e =>
    let y := s.engSt e
    let g := y.cur.gen
    (s.setEng e (y.setCur { y.cur with wait := EWait.none })).impreciseCause e y.active g causeBuserr false 0
  | .noc r t => s.schAnswer r t false
  | .stream c => s.strmTmplDone c
  | .classifier t => s.clsTmplDone t
  | .released y => s.enqTaken y

/-! ## Acceptance -/

/-- R172: the 48-bit seconds near now that end in the 32 bits given. -/
def fullSec (now lo : Nat) : Nat :=
  let n := timeSec now
  -- the one value congruent to lo in [n - 2^31, n + 2^31 - 1]
  let d := (lo + 2 ^ 32 - n % 2 ^ 32) % 2 ^ 32
  if d < 2 ^ 31 then n + d else n + d - 2 ^ 32

/-- The absolute deadline fixed at acceptance (R172), in lattice units. -/
def deadlineOf (now : Nat) (d : List Word) (ts : Option (Nat × Nat)) : Option Nat :=
  let ns := dFld d 8 31 0
  let sec := dFld d 9 31 0
  if dBit d 0 30 then
    let ref := match ts with | some (s, n) => timeOf (fullSec now s) n 0 | none => now
    some (ref + ns * 65536)
  else if ns = 0 ∧ sec = 0 then none
  else some (timeOf (fullSec now sec) ns 0)

/-- The descriptor as the context stores it: the deadline absolute, DEADREL and word 15 clear. -/
def storedDesc (d : List Word) (dl : Option Nat) : List Word :=
  let d1 := d.set 15 0
  if dBit d 0 30 then
    match dl with
    | some t => ((d1.set 0 (withBits (dWord d 0) 30 30 0)).set 8 (BitVec.ofNat 32 (timeNs t))).set 9 (BitVec.ofNat 32 (timeSec t))
    | none => d1
  else d1

/-- R175: the list has reached the expiry. -/
def dlDue (cnt e : Nat) : Bool := (cnt + 2 ^ 32 - e) % 2 ^ 32 < 2 ^ 31

/-- Ticks still to go, for entries not yet due; due entries come first. -/
def dlKey (cnt e : Nat) : Int :=
  let d : Nat := (e + 2 ^ 32 - cnt) % 2 ^ 32
  if d ≤ 2 ^ 31 then (d : Int) else (d : Int) - 2 ^ 32

/-- R175: an entry goes behind those with an equal or earlier expiry. -/
def dlInsert (cnt : Nat) (v : Nat × Nat) : List (Nat × Nat) → List (Nat × Nat)
  | [] => [v]
  | w :: l => if dlKey cnt w.1 ≤ dlKey cnt v.1 then w :: dlInsert cnt v l else v :: w :: l

/-- The context of an accepted task enters its first state (R176). -/
def State.enterTask (s : State) (x : Nat) : State :=
  let c := s.ctx x
  let l := dFld c.desc 3 25 16
  if dMode c.desc = 1 ∧ dFld c.desc 3 15 8 ≠ 0 ∧ dFld c.desc 3 15 8 ≠ (s.le l).epoch then s.staleBind x
  else if dBit c.desc 0 28 then
    let i := dFld c.desc 0 27 26
    let cnt := s.fld (oDlcnt i) 31 0
    if dlDue cnt c.expiry then s.release x
    else (s.setCtx x { c with st := .delayed }).setDelayList i (dlInsert cnt (c.expiry, x) (s.delayList i))
  else s.release x

/-- R164 to R174: a descriptor takes context `x`. -/
def State.acceptInto (s : State) (x : Nat) (it : EnqItem) (d : List Word) (ts : Option (Nat × Nat)) : State :=
  let old := s.ctx x
  let dl := deadlineOf s.now d ts
  let ds := storedDesc d dl
  let e := if dBit d 0 29 then (dFld d 5 31 0 + s.fld (oDlcnt (dFld d 0 27 26)) 31 0) % 2 ^ 32 else dFld d 5 31 0
  let fl := if dBit d 0 20 ∨ dBit d 0 21 then 0 else old.flags
  let c : TaskCtx := { st := .waiting, desc := ds, flags := fl, dev := old.dev, deadline := dl, expiry := e }
  let f := dFlow d
  let s1 := (s.setCtx x c).setFlow f { s.flow f with pending := (s.flow f).pending + 1 }
  (s1.enterTask x).tellAccepted it.src x

/-- R167: a refused descriptor. -/
def State.refuse (s : State) (it : EnqItem) (reason : Nat) : State :=
  (s.tellRefused it.src reason).log (mkRec reqSch 0x050 0 reason it.req)

/-- Input `i` has taken its turn (R23, R168). -/
def State.turnTaken (s : State) (i : Nat) : State := { s with sch := { s.sch with enqPtr := (i + 1) % 17 } }

/-- The head of input `i` is held. -/
def State.holdHead (s : State) (i : Nat) (it : EnqItem) (rest : List EnqItem) : State :=
  let n := s.sch.heldNo + 1
  ({ s with sch := { s.sch with heldNo := n } }).setInput i ({ it with held := true, heldNo := if it.held then it.heldNo else n } :: rest)

/-- The physical engine of a requester ID. -/
def engOfReq (r : Nat) : Option Nat := if r / 4096 < 4 ∧ r % 4096 < 272 then some (272 * (r / 4096) + r % 4096) else none

/-- R148: the request comes from an engine whose epoch is old. -/
def State.oldItem (s : State) (it : EnqItem) : Bool :=
  !it.template && (engOfReq it.req).isSome && decide (it.epoch ≠ s.portEpoch 0 it.lid)

/-- R148: a stale acknowledgement, which the engine that asked ignores. -/
def State.tellStale (s : State) (src : EnqSrc) : State :=
  match src with
  | .noc r t => if t = noTag then s else s.send (.wrack (ackRsp r t 2))
  | _ => s.tellAccepted src 0

/-! ## Uncorrectable words of the scheduler's SRAM (R193) -/

/-- The words `lo` to `lo + n - 1` by SCH offset / 8 are read: what cannot be corrected is recorded, and the answer says whether any. -/
def State.schRead (s : State) (lo n : Nat) : State × Bool :=
  let (s1, bad) := s.sramRead reqSch lo n
  ((bad.foldl (fun (t : State) a => t.log (mkRec reqSch 0x057 (8 * (a % 2 ^ 32)) 1 reqSch)) s1).sramFresh reqSch lo n, !bad.isEmpty)

/-- A task leaves the bank it stands in; a task it pre-empted goes on. -/
def State.evictTask (s : State) (x : Nat) : State :=
  let e := (s.le (s.ctx x).lid).phys
  [false, true].foldl (fun (t : State) w =>
    let y := t.engSt e
    let b := y.bank w
    if b.busy = true ∧ b.tid = x ∧ b.copy = 0 then
      let t1 := if b.wait = EWait.enqOffered then t.withdrawEng e else t
      let t2 := t1.clearBank e w
      if w = y.active then t2.afterEnd e else t2.setEng e { t2.engSt e with shocc := false, swapDue := false }
    else t) s

/-- R193: a context whose words are uncorrectable: its task ends with LOST, and the context is quarantined. -/
def State.loseCtx (s : State) (x : Nat) : State :=
  let c := s.ctx x
  let s1 := if c.st = .free ∨ c.st = .completing then s else (((s.clearPair x).evictTask x).leaveDelay x).toCompleting x ⟨7, 0, 0, false⟩
  s1.setCtx x { s1.ctx x with quar := true }

def State.ctxRead (s : State) (x : Nat) : State :=
  let (s1, bad) := s.schRead (0x8000 + 2 * x) 2
  if bad then s1.loseCtx x else s1

/-- R193: a flow whose record is uncorrectable is gated; its lock falls when its holder ends. -/
def State.flowRead (s : State) (f : Nat) : State :=
  let (s1, bad) := s.schRead (0x10000 + f) 1
  if bad then s1.setBit (0x380000 + 8 * f) 30 true else s1

/-- R193: a template with an uncorrectable word is invalid. -/
def State.tmplRead (s : State) (n : Nat) : State :=
  let (s1, bad) := s.schRead (0x14000 + 8 * n) 8
  if bad then s1.setBit (oTmpl n 15) 0 false else s1

/-- What the check of the head of input `i` reads: its template and its flow. -/
def State.headReads (s : State) (i : Nat) : State :=
  if s.ice.errs = [] then s
  else match s.input i with
    | it :: _ =>
      let s1 := if it.template = true ∧ it.formed = none then s.tmplRead (dFld it.words 0 9 0) else s
      s1.flowRead (dFlow (s1.formed it).1)
    | [] => s

/-- What a cycle of dispatch reads: the contexts of the READY tasks and their flows. -/
def State.readyReads (s : State) : State :=
  if s.ice.errs = [] then s
  else ((s.sch.ctx.filter (fun e => e.2.st == .ready)).map Prod.fst).foldl (fun (t : State) x => (t.ctxRead x).flowRead (dFlow (s.ctx x).desc)) s

/-- Contexts are read. -/
def State.ctxReads (s : State) (xs : List Nat) : State := if s.ice.errs = [] then s else xs.foldl (fun (t : State) x => t.ctxRead x) s

/-! ## The head of an input -/

/-- The head of input `i` is checked: discarded with a stale acknowledgement, refused, held, or accepted (R148, R165, R167, R168, R171). -/
def State.processHead (s : State) (i : Nat) : State :=
  match s.input i with
  | [] => s
  | it :: rest =>
    if s.schInit then s.holdHead i it rest
    else if s.oldItem it then (((s.turnTaken i).setInput i rest).countStale it.lid).tellStale it.src
    else
      let r := s.itemReason it
      if r ≠ 0 then ((s.turnTaken i).setInput i rest).refuse it r
      else
        let (d, ts, _) := s.formed it
        if dBit d 0 21 then
          match s.poolFree with
          | none => s.holdHead i { it with formed := if it.template then some (d, ts) else none } rest
          | some x => ((s.turnTaken i).setInput i rest).acceptInto x it d ts
        else ((s.turnTaken i).setInput i rest).acceptInto (dFld d 2 13 0) it d ts

/-- The descriptors behind a head that has gone follow, as far as they have reached their input by a command of their own. -/
def State.followers (i : Nat) : Nat → State → State
  | 0, s => s
  | n + 1, s =>
    match s.input i with
    | it :: _ =>
      (match it.src with
       | .noc _ t => if t = noTag ∧ it.held = false then State.followers i n ((s.headReads i).processHead i) else s
       | _ => s)
    | [] => s

/-- The head of input `i` is checked, and what stands behind it. -/
def State.checkHead (s : State) (i : Nat) : State := State.followers i (s.input i).length ((s.headReads i).processHead i)

/-- A descriptor or a template request reaches input `i`. One that a unit of the device has offered stands there already; any other joins
the buffer. As the head it is checked. -/
def State.descriptorAt (s : State) (i : Nat) (it : EnqItem) : State :=
  let offered (x : EnqItem) : Bool :=
    x.words == it.words && x.req == it.req && x.template == it.template && !x.held && (match x.src with | .noc _ t => t != noTag | _ => true)
  if reservedDie it.req then s.discardReserved (ctlBase + 0x300800) it.req
  else match s.input i with
    | [] => (s.pushInput i it).checkHead i
    | h :: _ => if offered h then s.checkHead i else s.pushInput i it

/-- The held input whose head has been held longest (R171). -/
def State.nextHeld (s : State) : Option Nat :=
  let hs := ((List.range 17).map (fun k => (s.sch.enqPtr + k) % 17)).filterMap (fun i =>
    match s.input i with | h :: _ => if h.held then some (h.heldNo, i) else none | [] => none)
  (hs.foldl (fun m x => match m with | none => some x | some y => if x.1 < y.1 then some x else some y) none).map Prod.snd

/-- R171: the oldest held descriptor is accepted, after its second check. -/
def State.acceptHeld (s : State) : State :=
  match s.poolFree, s.nextHeld with
  | some _, some i => s.checkHead i
  | _, _ => s

/-- R165: initialisation is over: every input goes on. -/
def State.inputsGo (s : State) : State :=
  ((List.range 17).map (fun k => (s.sch.enqPtr + k) % 17)).foldl (fun t i =>
    match t.input i with | h :: _ => if h.held then t.checkHead i else t | [] => t) s

/-- R172: a write held for ENQTMO µs is discarded. Engines and portals have no limit. -/
def State.enqTimeout (s : State) (i : Nat) : State :=
  match s.input i with
  | h :: rest =>
    if h.held then
      match h.src with
      | .portal _ | .engine _ | .released _ => s
      | _ => State.followers i rest.length (((s.setInput i rest).tellRefused h.src 0).log (mkRec reqSch 0x053 0 1 h.req))
    else s
  | [] => s

/-! ## Delay lists (R175) -/

/-- A tick of source `src` is counted by the enabled lists. -/
def State.delayTick (s : State) (src : Nat) : State :=
  (List.range 4).foldl (fun t i =>
    if t.bit (oDlcfg i) 31 = true ∧ t.fld (oDlcfg i) 1 0 = src then
      t.setReg (oDlcnt i) (t.reg (oDlcnt i) + 1)
    else t) s

/-- The head of list `i` is due. -/
def State.listDue (s : State) (i : Nat) : Bool :=
  match s.delayList i with
  | (e, _) :: _ => dlDue (s.fld (oDlcnt i) 31 0) e
  | [] => false

/-- One release; the lists with due entries take turns, from list 0 on once none is left. -/
def State.delayRelease (s : State) : State :=
  match ((List.range 4).map (fun k => (s.sch.dlPtr + k) % 4)).find? s.listDue with
  | none => { s with sch := { s.sch with dlPtr := 0 } }
  | some i =>
    match s.delayList i with
    | (_, x) :: rest =>
      let s1 := (s.setDelayList i rest).release x
      { s1 with sch := { s1.sch with dlPtr := if (List.range 4).any s1.listDue then (i + 1) % 4 else 0 } }
    | [] => s

/-! ## Deadlines (R187) -/

/-- R187: a task that ended by DONE in time has not missed its deadline, though it still waits in COMPLETING. -/
def TaskCtx.inTime (c : TaskCtx) (d : Nat) : Bool := match c.ending with | some (r, t) => decide (r.status = 0) && decide (t ≤ d) | none => false

/-- A deadline that has passed is found once. -/
def State.findMiss (s : State) (x : Nat) : State :=
  let c := s.ctx x
  match c.deadline with
  | none => s
  | some d =>
    if d < s.now ∧ c.miss = false ∧ c.st ≠ .free ∧ c.inTime d = false then
      ((s.setCtx x { c with miss := true }).count (oSch + 0x80 + 4 * dPrio c.desc) 31 0 1).logLim (limKey 0x051 0)
        (mkRec reqSch 0x051 x 1 reqSch)
    else s

/-! ## Dispatch (R181 to R184) -/

/-- An engine is available to dispatch (R147, R181). -/
def State.leAvailable (s : State) (l : Nat) : Bool :=
  let x := s.le l
  let e := s.engSt x.phys
  x.pstate = 0 && x.takeover.isNone && x.waiting.isEmpty && s.isOn (oPwrEng x.phys) && !e.cur.busy && !e.shocc && !e.swapDue
    && !s.halted x.phys && e.haltDue = 0 && !s.bit (oEng x.phys + 0x20) 31

def oFlowcfg (f : Nat) : Nat := oSch + 0x80000 + 8 * f

/-- The flow lets task `x` be dispatched (R179). -/
def State.flowOpen (s : State) (x : Nat) : Bool :=
  let f := dFlow (s.ctx x).desc
  let w := s.flow f
  !s.bit (oFlowcfg f) 30 && (!s.bit (oFlowcfg f) 31 || w.holder.isNone || w.holder == some x)

/-- R181: the task may run on engine `l`, were the engine available. -/
def State.eligible (s : State) (x l : Nat) : Bool :=
  let c := s.ctx x
  affAllows c.desc l && (dMode c.desc ≠ 1 || dFld c.desc 3 15 8 = 0 || dFld c.desc 3 15 8 = (s.le l).epoch)

/-- The order of R177 within a priority. -/
def readyBefore (a b : TaskCtx) : Bool :=
  if dPrio a.desc ≠ dPrio b.desc then decide (dPrio b.desc < dPrio a.desc)
  else if a.restarted ≠ b.restarted then a.restarted
  else decide (a.ready < b.ready)

/-- The task before which none of the list stands. -/
def State.bestOf (s : State) : List Nat → Option Nat
  | [] => none
  | x :: l => match s.bestOf l with | none => some x | some y => if readyBefore (s.ctx y) (s.ctx x) then some y else some x

/-- READY tasks whose flow is open. -/
def State.readyTasks (s : State) : List Nat :=
  (s.sch.ctx.filter (fun e => e.2.st == .ready && s.flowOpen e.1)).map Prod.fst

def State.pipeOf (s : State) (t : Nat) : Nat := SMap.get (fun _ => 0) s.sch.pipePtr t

/-- The engines of tile `t` from the pipeline's pointer on. -/
def State.pipeOrder (s : State) (t : Nat) : List Nat := (List.range 256).map (fun k => 256 * t + (s.pipeOf t + k) % 256)

def leClu (l : Nat) : Nat := l / 16

/-- What a pipeline may start: a READY task, or the referee of a pair (R190). -/
structure Cand where
  x : Nat
  referee : Bool
  deriving DecidableEq, Repr

/-- The referees that wait for an engine. -/
def State.waitingReferees (s : State) : List Cand :=
  (s.sch.ctx.filter (fun e => match e.2.pair with | some p => p.needRef | none => false)).map (fun e => Cand.mk e.1 true)

/-- The candidate may run on engine `l`: a referee in a third cluster (R181, R190). -/
def State.candOn (s : State) (c : Cand) (l : Nat) : Bool :=
  s.eligible c.x l &&
    (!c.referee || (match (s.ctx c.x).pair with | some p => !(p.copies.any (fun k => leClu k.lid == leClu l)) | none => false))

/-- The candidates in the order of R177. -/
def State.candInsert (s : State) (c : Cand) : List Cand → List Cand
  | [] => [c]
  | d :: l => if readyBefore (s.ctx c.x) (s.ctx d.x) then c :: d :: l else d :: s.candInsert c l

def State.candidates (s : State) : List Cand :=
  (s.readyTasks.map (fun x => Cand.mk x false) ++ s.waitingReferees).foldr s.candInsert []

/-- R182, R185, R189: who takes which of the engines `av` of the pipeline, and for a pair a second one of another cluster. A pair that
finds no second engine keeps the engines it is eligible for from those behind it. -/
def State.pickTask (s : State) (av all : List Nat) : List Cand → Option (Cand × Nat × Option Nat)
  | [] => none
  | c :: cs =>
    match av.find? (s.candOn c) with
    | none => s.pickTask av all cs
    | some l =>
      if c.referee = false ∧ dPaired (s.ctx c.x).desc = true then
        match (av ++ all).find? (fun m => s.candOn c m && decide (leClu m ≠ leClu l)) with
        | some m => some (c, l, some m)
        | none => s.pickTask (av.filter (fun m => !s.candOn c m)) all cs
      else some (c, l, none)

/-- The dispatch agent writes a start context into bank `w` of an engine. -/
def State.startTask (s : State) (l x copy : Nat) (w : Bool) : State :=
  let e := (s.le l).phys
  let y := s.engSt e
  s.setEng e (y.setBank w (startBank (y.bank w) (s.ctx x).desc x copy (s.fld (oEng e + 0x18) 19 0)))

/-- R174, R182: what every dispatch of a task does to its context, its flow and the counts. -/
def State.noteDispatch (s : State) (t l x : Nat) : State :=
  let c := s.ctx x
  let m := dWord c.desc 1
  let s1 := s.setCtx x { c with st := .running, dev := c.flags &&& m, flags := c.flags &&& ~~~m, lid := l, epoch := (s.le l).epoch }
  let f := dFlow c.desc
  let s2 := if s1.bit (oFlowcfg f) 31 then s1.setFlow f { s1.flow f with holder := some x } else s1
  let n := (s2.fld (oSch + 0xA0) 31 0 + 2 ^ 32 * s2.fld (oSch + 0xA4) 31 0 + 1) % 2 ^ 64
  let s3 := (s2.setReg (oSch + 0xA0) (BitVec.ofNat 32 n)).setReg (oSch + 0xA4) (BitVec.ofNat 32 (n / 2 ^ 32))
  let s4 := { s3 with sch := { s3.sch with pipePtr := SMap.set (fun _ => 0) s3.sch.pipePtr t ((l + 1) % 256) } }
  s4.findMiss x

/-- A copy of a paired task starts. -/
def newCopy (s : State) (l : Nat) : PairCopy := { lid := l, eng := (s.le l).phys }

/-- Task `x` starts on one engine, or as a pair: the primary on the lower logical engine. -/
def State.dispatchTo (s : State) (t x l : Nat) (second : Option Nat) : State :=
  match second with
  | none => (s.startTask l x 0 ((s.engSt (s.le l).phys).active)).noteDispatch t l x
  | some m =>
    let a := min l m
    let b := max l m
    let s1 := (s.startTask a x 1 ((s.engSt (s.le a).phys).active)).startTask b x 2 ((s.engSt (s.le b).phys).active)
    let s2 := s1.noteDispatch t l x
    s2.setCtx x { s2.ctx x with pair := some { copies := [newCopy s a, newCopy s b], referee := none }, lid := a,
                                epoch := (s.le a).epoch }

/-- The referee of task `x` starts. -/
def State.startReferee (s : State) (x l : Nat) : State :=
  let c := s.ctx x
  match c.pair with
  | none => s
  | some p =>
    let s1 := s.startTask l x 3 ((s.engSt (s.le l).phys).active)
    (s1.setCtx x { c with pair := some { p with needRef := false, referee := some (newCopy s l) }, lid := l, epoch := (s.le l).epoch }).count
      (oSch + 0x54) 31 16 1

/-! ### Pre-emption (R183) -/

/-- The engine of logical engine `l` runs a task that one of priority `p` may pre-empt: its priority. -/
def State.preemptable (s : State) (l p : Nat) : Option Nat :=
  let x := s.le l
  let e := s.engSt x.phys
  let b := e.cur
  let q := dPrio (s.ctx b.tid).desc
  if x.pstate = 0 ∧ x.takeover.isNone = true ∧ x.waiting.isEmpty = true ∧ s.isOn (oPwrEng x.phys) = true ∧ b.busy = true ∧ b.copy = 0 ∧ e.shocc = false
      ∧ e.swapDue = false ∧ s.halted x.phys = false ∧ e.haltDue = 0 ∧ q < p then some q else none

/-- The least (priority, engine) of a list. -/
def leastPair : List (Nat × Nat) → Option (Nat × Nat)
  | [] => none
  | a :: l => match leastPair l with | none => some a | some b => if b.1 < a.1 ∨ (b.1 = a.1 ∧ b.2 < a.2) then some b else some a

/-- R183: the engine that task `x` pre-empts, of all that its affinity allows, where it belongs to tile `t`. -/
def State.victim (s : State) (t x : Nat) : Option Nat :=
  let c := s.ctx x
  let p := dPrio c.desc
  if s.bit oSch 30 = true ∧ s.fld oSch 26 24 ≤ p ∧ dPaired c.desc = false ∧ (List.range 1024).all (fun l => !(s.leAvailable l && s.eligible x l)) then
    let cand := (List.range 1024).filterMap (fun l => if s.eligible x l then (s.preemptable l p).map (fun q => (q, l)) else none)
    match leastPair cand with
    | some (_, l) => if l / 256 = t then some l else none
    | none => none
  else none

/-- R143, R183: the start context goes into the shadow bank; the swap follows at the bundle boundary. -/
def State.preempt (s : State) (t x l : Nat) : State :=
  let e := (s.le l).phys
  let y := s.engSt e
  let s1 := s.startTask l x 0 (!y.active)
  let s2 := s1.setEng e { s1.engSt e with swapDue := true }
  let s3 := s2.noteDispatch t l x
  s3.setReg (oSch + 0xA8) (s3.reg (oSch + 0xA8) + 1)

/-- One dispatch or pre-emption of pipeline `t` (R163, R184). -/
def State.dispatch (s : State) (t : Nat) : State :=
  if s.schInit = true ∨ s.bit oSch 31 = false ∨ s.nightState ≠ 0 then s
  else
    match s.pickTask ((s.pipeOrder t).filter s.leAvailable) ((List.range 1024).filter s.leAvailable) s.candidates with
    | some (c, l, m) => if c.referee then s.startReferee c.x l else s.dispatchTo t c.x l m
    | none =>
      match s.bestOf (s.readyTasks.filter (fun x => (s.victim t x).isSome)) with
      | some x => match s.victim t x with | some l => s.preempt t x l | none => s
      | none => s

/-! ## Ends (R186) -/

/-- The context is free: its flow has one task less. Flags persist. -/
def State.freeCtx (s : State) (x : Nat) : State :=
  let c := s.ctx x
  let f := dFlow c.desc
  let s1 := s.setFlow f { s.flow f with pending := (s.flow f).pending - 1 }
  s1.setCtx x { flags := (s1.ctx x).flags, dev := c.dev, lid := c.lid, quar := c.quar, desc := c.desc, miss := c.miss, rcnt := c.rcnt }

/-- The completion actions of a task in COMPLETING. -/
def State.complete (s : State) (x : Nat) (r : EndReport) : State :=
  let s0 := s.findMiss x
  let c := s0.ctx x
  let s1 := s0.setCtx x { c with report := none, pair := none, ending := some (r, s.now) }
  let s2 := if r.status = 0 ∧ dBit c.desc 12 21 = true then s1.postEvent (dFld c.desc 12 13 0) (dFld c.desc 12 20 16) else s1
  if dBit c.desc 12 28 then
    let q := dFld c.desc 12 27 24
    { s2 with sch := { s2.sch with cqWait := SMap.set (fun _ => []) s2.sch.cqWait q (SMap.get (fun _ => []) s2.sch.cqWait q ++ [x]) } }
  else s2.freeCtx x

/-! ### Paired outcomes (R189, R190) -/

/-- A captured item is issued (R190). A descriptor is offered at the tile's engine input, where it is checked as the head. -/
def State.releaseItem (s : State) (x : Nat) (k : PairCopy) (i : CapItem) : State :=
  let r := engReq k.eng
  match i with
  | .packet p => s.issueWr r p.epoch.toNat p.lid.toNat (pktAddr p) p.len.toNat p.be p.poison (pktData p) (.pairWrite x)
  | .contribution p =>
    let t := s.freeTag r
    let s1 := s.send (.rcon { p with tag := BitVec.ofNat 8 t })
    { s1 with net := { s1.net with outst := s1.net.outst ++ [outReq r t (pktAddr p) true (.pairWrite x)] } }
  | .descriptor ws =>
    let j := 2 + 4 * engTile k.eng
    let c := s.ctx x
    let s1 := s.setCtx x { c with pair := c.pair.map (fun p => { p with enqWait := true }) }
    let s2 := s1.pushInput j (enqItem (.released x) r (s.engEpoch k.eng) k.lid false ws)
    if s.input j = [] then s2.checkHead j else s2
  | .event c f => s.postEvent c f

/-- Items are issued in order, as far as no captured ENQ waits for its acceptance; the answer lists what is left. -/
def State.releaseAll (x : Nat) (k : PairCopy) : List CapItem → State → State × List CapItem
  | [], s => (s, [])
  | i :: l, s =>
    if (match (s.ctx x).pair with | some p => p.enqWait | none => false) then (s, i :: l)
    else State.releaseAll x k l (s.releaseItem x k i)

/-- The release of task `x` goes on. -/
def State.releaseGo (s : State) (x : Nat) (k : PairCopy) : State :=
  let (s1, rest) := State.releaseAll x k k.buf s
  let c := s1.ctx x
  s1.setCtx x { c with pair := c.pair.map (fun p => { p with copies := [{ k with buf := rest }] }) }

/-- The outcome is the copy `k`: its writes are issued when its status is DONE; otherwise the task ends as it did. -/
def State.pairResult (s : State) (x : Nat) (p : Pair) (k : PairCopy) : State :=
  match k.ended with
  | some 0 =>
    (s.setCtx x { s.ctx x with pair := some { p with releasing := true, copies := [k], referee := none, needRef := false, enqWait := false } }).releaseGo x k
  | some cause => (s.toCompleting x ⟨1, cause, k.cyc, false⟩).complete x ⟨1, cause, k.cyc, false⟩
  | none => s

/-- No majority, or no third cluster. -/
def State.pairFail (s : State) (x : Nat) (cyc : Nat) : State :=
  let s1 := (s.count (oSch + 0x54) 15 0 1).log (mkRec reqSch 0x056 x 1 reqSch)
  (s1.toCompleting x ⟨4, 0, cyc, false⟩).complete x ⟨4, 0, cyc, false⟩

/-- A referee is needed: it waits for dispatch, or there is no third cluster. -/
def State.needReferee (s : State) (x : Nat) (p : Pair) : State :=
  let c := s.ctx x
  if affClusters c.desc < 3 then (s.clearPair x).pairFail x ((p.copies.head?.map PairCopy.cyc).getD 0)
  else s.setCtx x { c with st := .comparing, pair := some { p with needRef := true } }

/-- The engine of a copy that disagreed is taken over, or isolated where it holds no placement any more (R149, cause 6). Its bank is
emptied first, so that the task is not restarted. -/
def State.copyTakeover (s : State) (k : PairCopy) : State :=
  s.takeover k.eng 6

/-- The table of paired outcomes. -/
def State.refereeOutcome (s : State) (x : Nat) (p : Pair) (r : PairCopy) : State :=
  let s0 := s.clearPair x
  match p.copies with
  | [a, b] =>
    if a.ended.isSome = true ∧ r.digest = a.digest then
      ((s0.log (mkRec reqSch 0x055 x 1 reqSch)).copyTakeover b).pairResult x p a
    else if b.ended.isSome = true ∧ r.digest = b.digest then
      ((s0.log (mkRec reqSch 0x055 x 2 reqSch)).copyTakeover a).pairResult x p r
    else (s0.log (mkRec reqSch 0x055 x 3 reqSch)).pairFail x r.cyc
  | _ => s0

/-- The accesses that released writes of task `x` still await. -/
def State.pairWrites (s : State) (x : Nat) : Bool := s.net.outst.any (fun q => q.kind == .pairWrite x)

/-- The end of a paired task, as far as its copies have ended. -/
def State.pairEnd (s : State) (x : Nat) (p : Pair) : State :=
  if p.releasing then
    match p.copies.head? with
    | none => s
    | some k =>
      let s1 := s.releaseGo x k
      let gone := match (s1.ctx x).pair with | some q => !q.enqWait && q.copies.all (fun c => c.buf.isEmpty) | none => false
      if gone = true ∧ s1.pairWrites x = false then (s1.toCompleting x ⟨0, 0, k.cyc, false⟩).complete x ⟨0, 0, k.cyc, false⟩ else s1
  else
    match p.referee with
    | some r => if r.ended.isSome then s.refereeOutcome x p r else s
    | none =>
      if p.needRef then s
      else
        match p.copies with
        | [a, b] =>
          if a.ended.isSome = true ∧ b.ended.isSome = true then
            if a.digest = b.digest then s.pairResult x p a else s.needReferee x p
          else s
        | _ => s

/-- R186: the end of a task is processed. -/
def State.taskEnd (s : State) (x : Nat) : State :=
  let c := s.ctx x
  match c.report with
  | some r =>
    if c.st ≠ .completing ∧ r.mayRestart = true ∧ c.canRestart = true then
      let s1 := (s.countRestart x).makeRestart x
      s1.setCtx x { s1.ctx x with report := none }
    else
      let s1 := if c.st = .completing then s else s.toCompleting x r
      s1.complete x r
  | none =>
    match c.pair with
    | some p => s.pairEnd x p
    | none => s

/-- R190: one copy has not ended PAIRTMO after the other, neither of them halted. -/
def State.pairTimeout (s : State) (x : Nat) : State :=
  match (s.ctx x).pair with
  | some p =>
    match p.copies with
    | [a, b] =>
      if a.ended.isSome ≠ b.ended.isSome ∧ p.needRef = false ∧ p.referee.isNone = true ∧ p.releasing = false ∧ s.halted a.eng = false
          ∧ s.halted b.eng = false then
        s.needReferee x p
      else s
    | _ => s
  | none => s

/-! ## Completion queues (R188) -/

def State.cqTasks (s : State) (q : Nat) : List Nat := SMap.get (fun _ => []) s.sch.cqWait q

/-- The completion record of context `x`. -/
def cqRecord (c : TaskCtx) (x : Nat) (r : EndReport) (t : Nat) : List Word :=
  [BitVec.ofNat 32 (x + dPrio c.desc * 2 ^ 16 + (if c.miss then 2 ^ 19 else 0) + r.status * 2 ^ 20 + (if r.status = 1 then r.cause else 0) * 2 ^ 24),
   BitVec.ofNat 32 (dFlow c.desc + c.lid * 2 ^ 16), dWord c.desc 10, dWord c.desc 11, BitVec.ofNat 32 (timeNs t),
   BitVec.ofNat 32 (timeSec t), BitVec.ofNat 32 (c.epoch + min c.rcnt 3 * 2 ^ 8), BitVec.ofNat 32 (satAdd 0xFFFFFFFF r.cyc 0)]

/-- The record at the head of a queue is written at index PI, unless the queue is stopped, full, or has a write under way. -/
def State.cqWrite (s : State) (q : Nat) : State :=
  match s.cqTasks q with
  | [] => s
  | x :: _ =>
    let size := 2 ^ s.fld (oCqctl q) 20 16
    let pi := s.fld (oCqidx q) 15 0
    if s.bit (oCqctl q) 31 = false ∨ s.bit (oCqctl q) 30 = true ∨ (pi + 1) % size = s.fld (oCqidx q) 31 16 % size
        ∨ s.net.outst.any (fun o => o.kind == .cqRecord q) = true then s
    else
      match (s.ctx x).ending with
      | none => s
      | some (r, t) =>
        let base := s.fld (oSch + 0x100 + 0x10 * q) 31 0 + 2 ^ 32 * s.fld (oSch + 0x104 + 0x10 * q) 31 0
        let a := base + 32 * pi
        s.issueWr reqSch 0 0 a 1 0xFFFF false ((cqRecord (s.ctx x) x r t).flatMap (fun w => bytesLE 4 w.toNat)) (.cqRecord q)

/-- The write of a record is answered: PI advances and the context is free, or the queue stops. -/
def State.cqAnswer (s : State) (q : Nat) (ok : Bool) : State :=
  match s.cqTasks q with
  | [] => s
  | x :: rest =>
    if ok then
      let pi := (s.fld (oCqidx q) 15 0 + 1) % 2 ^ s.fld (oCqctl q) 20 16
      let s1 := { s with sch := { s.sch with cqWait := SMap.set (fun _ => []) s.sch.cqWait q rest } }
      let s2 := (s1.setFld (oCqidx q) 15 0 pi).freeCtx x
      if s2.bit (oCqctl q) 29 then
        s2.emit (if s2.bit (oCqctl q) 28 then .mgmtIrq mgmtLineCq else .msix 0 (s2.fld (oCqctl q) 10 0))
      else s2
    else (s.setBit (oCqctl q) 30 true).log (mkRec reqSch 0x059 (s.fld (oSch + 0x100 + 0x10 * q) 31 0) 1 reqSch)

/-! ## Duplicated control (R192) -/

def oDup : Nat := oSch + 0x68

def State.dupMismatch (s : State) (f : CopyFault) : State :=
  if s.bit oDup 30 then s
  else
    let s1 := match f with | .shadowFails => s | _ => s.setBit oDup 31 (!s.bit oDup 31)
    ((s1.setBit oDup 30 true).count oDup 15 0 1).log (mkRec reqSch 0x054 0 1 reqSch)

/-! ## Registers of the scheduler -/

/-- R178: a cancel. -/
def State.cancel (s : State) (v : Word) : WRes :=
  let x := bitsOf v 13 0
  let c := s.ctx x
  if bitsOf v 31 31 = 1 then
    if c.quar then .ok (s.setCtx x { c with quar := false }) else .rej 0x03
  else if c.st = .delayed ∨ c.st = .waiting ∨ c.st = .ready then .ok ((s.leaveDelay x).toCompleting x ⟨6, 0, 0, false⟩)
  else .rej 0x03

/-- R170: GO and ABORT of a portal. -/
def State.portalWrite (s : State) (req p : Nat) (v : Word) : WRes :=
  let go := bitsOf v 0 0 = 1
  let ab := bitsOf v 1 1 = 1
  let busy := s.bit (oPstat p) 31
  if go ∧ ab then .rej 0x05
  else if go then
    if busy then .rej 0x03
    else
      let ws := (List.range 16).map (fun i => s.reg (oSch + 0x200 + 0x80 * p + 4 * i))
      .ok ((s.setReg (oPstat p) (BitVec.ofNat 32 (2 ^ 31 + s.fld (oPstat p) 13 0))).pushInput 0
        (enqItem (.portal p) req 0 0 false ws))
  else if ab ∧ busy = true then
    .ok ((s.setInput 0 ((s.input 0).filter (fun it => !(it.src == .portal p)))).setReg (oPstat p)
      (BitVec.ofNat 32 (2 ^ 29 + s.fld (oPstat p) 13 0)))
  else .ok s

/-- SCH_CQCTL (R188). -/
def State.cqctlWrite (s : State) (q : Nat) (v : Word) : WRes :=
  let o := oCqctl q
  if s.bit o 31 = true ∧ (bitsOf v 20 16 ≠ s.fld o 20 16 ∨ bitsOf v 28 28 ≠ s.fld o 28 28) then .rej 0x03
  else
    let s1 := s.plainWrite o v
    if s.bit o 31 = false ∧ bitsOf v 31 31 = 1 then
      let s2 := s1.setBit o 30 false
      .ok (if s.fld (oCqidx q) 15 0 = s.fld (oCqidx q) 31 16 then s2.setFld (oCqidx q) 15 0 0 else s2)
    else .ok s1

/-- R175: writes of a delay list's configuration and count. -/
def State.dlcfgWrite (s : State) (i : Nat) (v : Word) : WRes :=
  let o := oDlcfg i
  let held := s.delayList i ≠ []
  if bitsOf v 1 0 ≠ s.fld o 1 0 ∧ (held ∨ s.bit o 31 = true) then .rej 0x03
  else if bitsOf v 31 31 = 0 ∧ held then .rej 0x03
  else .ok (s.plainWrite o v)

def State.dlcntWrite (s : State) (i : Nat) (v : Word) : WRes :=
  if s.delayList i ≠ [] ∨ s.bit (oDlcfg i) 31 = true then .rej 0x03 else .ok (s.plainWrite (oDlcnt i) v)

/-- SCH_FLOWCFG (R179). -/
def State.flowcfgWrite (s : State) (f : Nat) (v : Word) : WRes :=
  if bitsOf v 31 31 ≠ s.fld (oFlowcfg f) 31 31 ∧ (s.flow f).pending ≠ 0 then .rej 0x03 else .ok (s.plainWrite (oFlowcfg f) v)

def State.allFree (s : State) : Bool := s.sch.ctx.all (fun e => e.2.st == .free)

/-- The SCH block. -/
def State.schRegWrite (s : State) (req off : Nat) (v : Word) : WRes :=
  let o := oSch + off
  if off = 0x00C then (if s.allFree then .ok (s.plainWrite o v) else .rej 0x03)
  else if 0x020 ≤ off ∧ off < 0x030 then s.dlcfgWrite ((off - 0x20) / 4) v
  else if 0x030 ≤ off ∧ off < 0x040 then s.dlcntWrite ((off - 0x30) / 4) v
  else if off = 0x058 ∨ off = 0x880 then .ok (s.postEvent (bitsOf v 13 0) (bitsOf v 20 16))
  else if off = 0x05C then s.cancel v
  else if 0x100 ≤ off ∧ off < 0x200 then
    let q := (off - 0x100) / 16
    if off % 16 = 8 then s.cqctlWrite q v
    else if off % 16 = 12 then
      (if 2 ^ s.fld (oCqctl q) 20 16 ≤ bitsOf v 31 16 then .rej 0x01 else .ok (s.plainWrite o v))
    else .ok (s.plainWrite o v)
  else if 0x200 ≤ off ∧ off < 0x400 then
    let p := (off - 0x200) / 0x80
    if off % 0x80 = 0x40 then s.portalWrite req p v
    else if off % 0x80 < 0x40 then (if s.bit (oPstat p) 31 then .rej 0x03 else .ok (s.plainWrite o v))
    else .ok s
  else if 0x80000 ≤ off ∧ off < 0xA0000 then s.flowcfgWrite ((off - 0x80000) / 8) v
  else if off = 0x800 ∨ off = 0x840 then .ok s
  else .ok (s.plainWrite o v)

/-- SCH_CQBASE commits as a pair (R21): 128-byte aligned, while the queue is disabled. -/
def State.cqbaseCommit (s : State) (q : Nat) (lo hi : Word) : WRes :=
  if lo.toNat % 128 ≠ 0 then .rej 0x01
  else if s.bit (oCqctl q) 31 then .rej 0x03
  else .ok ((s.setReg (oSch + 0x100 + 0x10 * q) lo).setReg (oSch + 0x104 + 0x10 * q) hi)

/-- SCH_CTXST. -/
def ctxstWord (c : TaskCtx) : Word :=
  let st := match c.st with
    | .free => 0 | .delayed => 1 | .waiting => 2 | .ready => 3 | .running => 4 | .preempted => 5 | .comparing => 6 | .completing => 7
  BitVec.ofNat 32 (st * 2 ^ 29 + dPrio c.desc * 2 ^ 26 + (if c.quar then 2 ^ 25 else 0) + (if c.miss then 2 ^ 24 else 0)
    + min c.rcnt 3 * 2 ^ 22 + c.lid)

/-- SCH_LEMAP. -/
def State.lemapWord (s : State) (l : Nat) : Word :=
  let x := s.le l
  let e := s.engSt x.phys
  let b (p : Bool) (k : Nat) : Nat := if p then 2 ^ k else 0
  BitVec.ofNat 32 (x.pstate * 2 ^ 29 + b e.cur.busy 28 + b e.shocc 27 + b (s.halted x.phys) 26
    + b (e.cur.busy && e.cur.copy ≠ 0) 25 + x.epoch * 2 ^ 16 + x.phys)

/-- SCH_STAT: EMPTY and FREE follow the pool. -/
def State.schStatWord (s : State) : Word :=
  let used := (s.sch.ctx.filter (fun e => decide (s.split ≤ e.1) && !s.ctxFree e.1)).length
  let free := 16384 - s.split - used
  if s.schInit then s.reg (oSch + 8)
  else BitVec.ofNat 32 ((if free = 0 then 2 ^ 15 else 0) + free)

/-- SCH_ENQSTAT. -/
def State.enqstatWord (s : State) : Word :=
  let held := (List.range 17).filter (fun i => match s.input i with | h :: _ => h.held | [] => false)
  BitVec.ofNat 32 ((if held = [] then 0 else 2 ^ 31) + (held.map (fun i => 2 ^ i)).sum)

/-- Registers of the SCH block that show tables. -/
def State.schRegRead (s : State) (off : Nat) : Word :=
  let o := oSch + off
  if off = 0x008 then s.schStatWord
  else if off = 0x014 then s.enqstatWord
  else if 0x040 ≤ off ∧ off < 0x050 then BitVec.ofNat 32 (s.delayList ((off - 0x40) / 4)).length
  else if 0x1000 ≤ off ∧ off < 0x2000 then s.lemapWord ((off - 0x1000) / 4)
  else if 0x40000 ≤ off ∧ off < 0x80000 then
    let c := s.ctx ((off - 0x40000) / 16)
    match off % 16 with
    | 0 => ctxstWord c
    | 4 => c.flags
    | _ => c.dev
  else if 0x80000 ≤ off ∧ off < 0xA0000 ∧ off % 8 = 4 then
    let f := s.flow ((off - 0x80000) / 8)
    BitVec.ofNat 32 ((match f.holder with | some x => 2 ^ 31 + x * 2 ^ 16 | none => 0) + f.pending)
  else if 0x100000 ≤ off ∧ off < 0x200000 then
    let c := s.ctx ((off - 0x100000) / 64)
    dWord c.desc (off % 64 / 4)
  else s.reg o

end Sys2Proof.Machine
end

