-- ==== Sys2Proof/Machine/Reduce.lean ====
section
/-! DEFINITION. Reduction groups (R219 to R228): the entry node, the wide form, the entries of the routers, the root slots, rounding at
the root, rounds, and the registers of a group. -/

namespace Sys2Proof.Machine

def oRed (g : Nat) : Nat := 0x40000 + 0x40 * g
def oRedMem (g i : Nat) : Nat := 0x80000 + 0x100 * g + 4 * i

def State.grp (s : State) (g : Nat) : RedGroup := SMap.get (fun _ => {}) s.net.groups g
def State.setGrp (s : State) (g : Nat) (x : RedGroup) : State :=
  { s with net := { s.net with groups := SMap.set (fun _ => {}) s.net.groups g x } }

def State.redFmt (s : State) (g : Nat) : Nat := s.fld (oRed g) 3 0
def State.redRoot (s : State) (g : Nat) : Nat := s.fld (oRed g) 25 24
def State.redWidth (s : State) (g : Nat) : Nat := s.fld (oRed g + 4) 11 0
def State.redReady (s : State) (g : Nat) : Bool := s.bit (oRed g) 31 && s.bit (oRed g) 30

/-- The reduction address (R219). -/
def redGroupOf (a : Nat) : Nat := a / 2 ^ 23 % 512
def redRoundOf (a : Nat) : Nat := a / 2 ^ 15 % 256
def redWordOf (a : Nat) : Nat := a / 2 ^ 4 % 2048

/-! ## The wide form (R222) -/

/-- Slots and special flags of one word. -/
def wideOf (fmt : Nat) (x : Quad) : List Int × List Nat :=
  match fmt with
  | 0 => (slanes 16 8 x.toNat, [])
  | 1 => (slanes 32 4 x.toNat, [])
  | 2 =>
    let l := fps binary16 16 8 x.toNat
    (l.map (fun f => f.scaled (-24)),
     l.map (fun f => match f with | .nan _ => 4 | .inf n => if n then 2 else 1 | .fin .. => 0))
  | 3 => ((lanes 32 4 x.toNat).map (fun n => (n : Int)), [])
  | f => (bVals f x, [])

/-- Addition of two wide forms. -/
def wideAdd (fmt : Nat) (a b : List Int) : List Int :=
  if fmt = 3 then
    List.zipWith (fun x y => ((binary32.sum [(Fp.ofBits binary32 x.toNat).term, (Fp.ofBits binary32 y.toNat).term]).1 : Int)) a b
  else List.zipWith (· + ·) a b

def specialAdd (a b : List Nat) : List Nat := List.zipWith (· ||| ·) a b

/-- The result word at the root, and the saturations, infinities and overflows in it. -/
def redResult (fmt shift tag : Nat) (v : List Int) (sp : List Nat) : Quad × Nat :=
  let join (w : Nat) (l : List Nat) : Quad := BitVec.ofNat 128 (joinLanes w l)
  match fmt with
  | 0 =>
    let r := v.map (fun x => sat bound16 (rne x shift))
    (join 16 (r.map (fun p => ofSigned 16 p.1)), (r.filter (fun p => p.2 ≠ 0)).length)
  | 1 =>
    let r := v.map (fun x => sat bound32 (rne x shift))
    (join 32 (r.map (fun p => ofSigned 32 p.1)), (r.filter (fun p => p.2 ≠ 0)).length)
  | 2 =>
    let one (x : Int) (f : Nat) : Nat × Nat :=
      if 4 ≤ f ∨ f = 3 then (binary16.qnan, 0)
      else if f = 1 then (binary16.infBits false, 1)
      else if f = 2 then (binary16.infBits true, 1)
      else
        let (b, g) := binary16.round (decide (x < 0)) x.natAbs (-24)
        (b, if g &&& flagOvf ≠ 0 then 1 else 0)
    let r := List.zipWith one v sp
    (join 16 (r.map Prod.fst), (r.map Prod.snd).sum)
  | 3 =>
    let r := v.map (fun x => match Fp.ofBits binary32 x.toNat with
      | .nan _ => (binary32.qnan, 0) | .inf n => (binary32.infBits n, 1) | .fin .. => (x.toNat, 0))
    (join 32 (r.map Prod.fst), (r.map Prod.snd).sum)
  | f =>
    let (e, ms, _) := norm (boundB f) v 0
    let n := (v.filter (fun x => decide (boundB f < (rne x e).natAbs))).length
    (bWord f e tag ms, n)

/-! ## Paths and masks (R220, R223) -/

/-- The router of the root store, and the mark of a packet that reached it. -/
def rootRouter (t : Nat) : Nat := 20 * t + 9
def atStore : Nat := 88

/-- The entry node of a logical engine's contribution. -/
def entryOf (l : Nat) : Nat := 20 * (l / 256) + l % 256 / 16

/-- R223: the mask of the members whose path to the root crosses router `r`, for one word. -/
def State.expected (s : State) (g r word : Nat) : BitVec 64 :=
  let x := s.grp g
  let v : RouteEnv := { s.routeEnv with oos := x.oos }
  let dst := rootRouter (s.redRoot g)
  x.members.foldl (fun m (i, l) =>
    if (v.path dst word (entryOf l)).contains r then m ||| BitVec.ofNat 64 (2 ^ i) else m) 0

/-- Where a wide packet goes from router `r`. -/
def State.wideNext (s : State) (w : Wide) : Nat :=
  let dst := rootRouter (s.redRoot w.group)
  if w.at_ = dst then atStore else (s.routeEnv.next w.at_ dst w.word).getD w.at_

/-! ## Entries of the routers -/

def State.entry (s : State) (r i : Nat) : Option Wide := SMap.get (fun _ => none) s.net.entries (r * 32 + i)
def State.setEntry (s : State) (r i : Nat) (w : Option Wide) : State :=
  { s with net := { s.net with entries := SMap.set (fun _ => none) s.net.entries (r * 32 + i) w } }

/-- The entry of router `r` with the key of a packet. -/
def State.findEntry (s : State) (r : Nat) (w : Wide) : Option (Nat × Wide) :=
  (List.range 32).findSome? (fun i =>
    match s.entry r i with
    | some x => if x.group = w.group ∧ x.round = w.round ∧ x.word = w.word then some (i, x) else none
    | none => none)

def State.freeEntry (s : State) (r : Nat) : Option Nat := (List.range 32).find? (fun i => (s.entry r i).isNone)

def mergeWide (fmt : Nat) (a b : Wide) : Wide :=
  { a with mask := a.mask ||| b.mask, val := wideAdd fmt a.val b.val, special := specialAdd a.special b.special,
           poison := a.poison || b.poison }

/-- R227: an entry is read. An uncorrectable one poisons what it holds. -/
def State.entryRead (s : State) (r i : Nat) (x : Wide) : State × Wide :=
  let (s1, bad) := s.sramRead (routerReq r) i 1
  (s1.sramFresh (routerReq r) i 1, { x with poison := x.poison || !bad.isEmpty })

/-- A packet leaves its router towards the root; over a die-link module its three flits stay in the retry buffer (R302). -/
def State.passOn (s : State) (w : Wide) : State :=
  let n := s.wideNext w
  (s.crossFlits w.at_ n 3).send (.rwide { w with at_ := n })

/-! ## The root (R224 to R226) -/

def slotKey (word round : Nat) : Nat := round % 2 * 2048 + word

def State.slot (s : State) (g k : Nat) : RedSlot := SMap.get (fun _ => {}) (s.grp g).slots k
def State.setSlot (s : State) (g k : Nat) (x : RedSlot) : State :=
  let y := s.grp g
  s.setGrp g { y with slots := SMap.set (fun _ => {}) y.slots k x }

/-- The requester ID of the root store. -/
def rootReq (t : Nat) : Nat := t * 0x1000 + 0x709

/-- The progress of a round. -/
def State.roundOf (s : State) (g r : Nat) : RedRound :=
  ((s.grp g).rounds.find? (fun x => x.round == r)).getD ⟨r, 0, 0, false⟩

def State.setRound (s : State) (g : Nat) (x : RedRound) : State :=
  let y := s.grp g
  let l := if y.rounds.any (fun z => z.round == x.round) then y.rounds.map (fun z => if z.round = x.round then x else z)
           else y.rounds ++ [x]
  s.setGrp g { y with rounds := l }

/-- R226: a round whose words have all closed and whose writes have all been acknowledged. -/
def State.roundDone (s : State) (g r : Nat) : State :=
  let x := s.roundOf g r
  if x.closed = s.redWidth g ∧ x.acks = 0 then
    let y := s.grp g
    let s1 := s.setGrp g { y with rounds := y.rounds.filter (fun z => z.round ≠ r) }
    let s2 := s1.setFld (oRed g + 0x24) 31 24 r
    let ev := oRed g + 0x20
    if s2.bit ev 31 then s2.postEvent (s2.fld ev 13 0) (s2.fld ev 20 16) else s2
  else s

def State.pairOf (s : State) (o : Nat) : Nat := s.fld o 31 0 + 2 ^ 32 * s.fld (o + 4) 31 0

/-- R227: the store's words of a slot are read; the answer says whether one is uncorrectable. -/
def State.slotRead (s : State) (g k : Nat) : State × Bool :=
  let u := rootReq (s.redRoot g)
  let (s1, bad) := s.sramRead u (4096 * g + k) 1
  (s1.sramFresh u (4096 * g + k) 1, !bad.isEmpty)

/-- R225, R227: the result of a slot is written. -/
def State.writeResult (s : State) (g k : Nat) (slot : RedSlot) : State :=
  let (s, bad) := s.slotRead g k
  let x : RedSlot := { slot with poison := slot.poison || bad }
  let word := k % 2048
  let (v, n) := redResult (s.redFmt g) (s.fld (oRed g) 11 8) (s.fld (oRed g) 15 12) x.val x.special
  let a := s.pairOf (oRed g + 8) + x.round % 2 * s.fld (oRed g + 0x18) 23 0 + 16 * word
  let rd := s.roundOf g x.round
  let s1 := s.setRound g { rd with closed := rd.closed + 1, acks := rd.acks + 1, poisonLogged := rd.poisonLogged || x.poison }
  let s2 := s1.issueWr (rootReq (s.redRoot g)) 0 0 a 0 0xFFFF x.poison (bytesLE 16 v.toNat) (.redResult g x.round word false)
  let s3 := s2.count (oRed g + 0x30) 31 0 n
  let s4 := s3.setSlot g k { x with isOpen := false, closing := true, used := true }
  if x.poison = true ∧ rd.poisonLogged = false then
    s4.log (mkRec (rootReq (s.redRoot g)) 0x069 x.round 1 (rootReq (s.redRoot g)))
  else s4

/-- R225: the partial record. -/
def partialRecord (x : RedSlot) (word nmem : Nat) : List Byte :=
  bytesLE 8 x.mask.toNat ++ bytesLE 2 word ++ bytesLE 1 x.round ++ [1] ++ bytesLE 1 nmem ++ bytesLE 3 0

/-- R225: a slot is closed by timeout, under POLICY. -/
def State.closeTimeout (s : State) (g k : Nat) : State :=
  let x := s.slot g k
  let word := k % 2048
  let r := rootReq (s.redRoot g)
  let s0 := s.logLim (limKey 0x067 g) (mkRec r 0x067 word 1 r)
  if s.fld (oRed g) 29 28 = 1 then
    let s1 :=
      if s.bit (oRed g) 27 then
        let a := s.pairOf (oRed g + 0x10) + (x.round % 2 * s.redWidth g + word) * 16
        let rd := s0.roundOf g x.round
        (s0.setRound g { rd with acks := rd.acks + 1 }).issueWr r 0 0 a 0 0xFFFF false
          (partialRecord x word (s.grp g).members.length) (.redResult g x.round word true)
      else s0
    (s1.count (oRed g + 0x28) 31 16 1).writeResult g k x
  else
    let rd := s0.roundOf g x.round
    let s1 := (s0.count (oRed g + 0x28) 15 0 1).setRound g { rd with closed := rd.closed + 1 }
    (s1.setSlot g k { round := x.round, used := true }).roundDone g x.round

/-- A duplicate or late contribution at the root (R224). -/
def State.redDup (s : State) (g : Nat) : State :=
  let r := rootReq (s.redRoot g)
  (s.count (oRed g + 0x2C) 15 0 1).logLim (limKey 0x068 g) (mkRec r 0x068 0 1 r)

/-- The mask of every VALID member. -/
def State.fullMask (s : State) (g : Nat) : BitVec 64 := (s.grp g).members.foldl (fun m (i, _) => m ||| BitVec.ofNat 64 (2 ^ i)) 0

/-- A slot that holds every member completes. -/
def State.completeSlot (s : State) (g k : Nat) : State :=
  let x := s.slot g k
  if x.isOpen = true ∧ x.mask = s.fullMask g then s.writeResult g k x else s

/-- R224: a packet at the root store. A slot whose result write is not yet acknowledged is not FREE: the packet waits. -/
def State.atRoot (s : State) (w : Wide) : State :=
  let g := w.group
  let k := slotKey w.word w.round
  let x := s.slot g k
  let opened : RedSlot := { isOpen := true, round := w.round, used := x.used, mask := w.mask, val := w.val, special := w.special,
                            poison := w.poison }
  if s.redReady g = false then s
  else if x.closing then (if x.round = w.round then s.redDup g else s.send (.rwide w))
  else if x.isOpen = false then
    (if x.used = true ∧ x.round = w.round then s.redDup g else (s.setSlot g k opened).completeSlot g k)
  else if x.round = w.round then
    (if x.mask &&& w.mask = 0 then
      (s.setSlot g k { x with mask := x.mask ||| w.mask, val := wideAdd (s.redFmt g) x.val w.val,
                              special := specialAdd x.special w.special, poison := x.poison || w.poison }).completeSlot g k
    else s.redDup g)
  else if (w.round + 256 - x.round) % 256 < 128 then
    let s1 := s.closeTimeout g k
    if (s1.slot g k).closing then s1.send (.rwide w) else (s1.setSlot g k opened).completeSlot g k
  else s.redDup g

/-! ## A wide packet at a router (R223) -/

def State.wideAt (s : State) (w : Wide) : State :=
  if w.at_ = atStore then s.atRoot w
  else
    let fmt := s.redFmt w.group
    let full := s.expected w.group w.at_ w.word
    match s.findEntry w.at_ w with
    | some (i, x) =>
      if x.mask &&& w.mask = 0 then
        let (s1, x1) := s.entryRead w.at_ i x
        let y := mergeWide fmt x1 w
        if y.mask = full then (s1.setEntry w.at_ i none).passOn y else s1.setEntry w.at_ i (some y)
      else s.passOn w
    | none =>
      if w.mask = full then s.passOn w
      else match s.freeEntry w.at_ with
        | some i => s.setEntry w.at_ i (some w)
        | none => s.passOn w

/-- The `i`-th wide packet in flight. -/
def nthWide : Nat → List NetMsg → Option Wide
  | _, [] => none
  | n, .rwide w :: l => match n with | 0 => some w | k + 1 => nthWide k l
  | n, _ :: l => nthWide n l

/-- The messages without the `i`-th wide packet. -/
def dropWide : Nat → List NetMsg → List NetMsg
  | _, [] => []
  | n, .rwide w :: l => match n with | 0 => l | k + 1 => .rwide w :: dropWide k l
  | n, m :: l => m :: dropWide n l

/-- R223: an entry that has waited HOLD cycles leaves. -/
def State.entryExpiry (s : State) (r i : Nat) : State :=
  match s.entry r i with
  | some w =>
    let (s1, x) := s.entryRead r i w
    (s1.setEntry r i none).passOn x
  | none => s

/-! ## The entry node (R221) -/

/-- The router of an engine. -/
def routerOfEng (e : Nat) : Nat := 20 * (e / 272) + e % 272 / 17

/-- A contribution at the entry node. -/
def State.contribute (s : State) (p : Pkt) : State :=
  let a := pktAddr p
  let g := redGroupOf a
  let l := p.lid.toNat
  match engOfReq p.src.toNat with
  | none => s.answer p true 1 false []
  | some e =>
    let r := routerOfEng e
    let refuse : State := (s.answer p true 1 false []).log (mkRec (routerReq r) 0x066 a 1 p.src.toNat)
    if s.redReady g = false ∨ s.redWidth g ≤ redWordOf a then refuse
    else
      match (s.grp g).members.find? (fun m => m.2 == l) with
      | none => refuse
      | some (i, _) =>
        if p.epoch.toNat ≠ s.portEpoch 2 l then ((s.countStale l).count (oRed g + 0x2C) 31 16 1).answer p true 2 false []
        else
          let (v, sp) := wideOf (s.redFmt g) p.inl
          let w : Wide := ⟨g, redRoundOf a, redWordOf a, BitVec.ofNat 64 (2 ^ i), v, sp, p.poison, r⟩
          (s.answer p true 0 false []).send (.rwide w)

/-! ## Registers of a group (R220, R228) -/

/-- The VALID members of the table: mask bit, logical engine. -/
def State.memberTable (s : State) (g : Nat) : List (Nat × Nat) :=
  (List.range 64).filterMap (fun i => if s.bit (oRedMem g i) 31 then some (i, s.fld (oRedMem g i) 9 0) else none)

/-- R220: the first condition that rejects EN = 1; `v` is the word written. -/
def State.redEnableCode (s : State) (g : Nat) (v : Word) : Option Nat :=
  let mem := s.memberTable g
  let base := s.fld (oRed g + 4) 27 16
  let width := s.redWidth g
  let root := bitsOf v 25 24
  let fmt := bitsOf v 3 0
  let lo := base
  let hi := base + 2 * width
  let clash := (List.range 512).any (fun h =>
    h ≠ g && s.bit (oRed h) 31 && s.redRoot h = root
      && decide (s.fld (oRed h + 4) 27 16 < hi) && decide (lo < s.fld (oRed h + 4) 27 16 + 2 * s.redWidth h))
  let out := s.pairOf (oRed g + 8)
  let st := s.pairOf (oRed g + 0x10)
  let outBad := decide (out % 16 ≠ 0) || !insideOne out (s.fld (oRed g + 0x18) 23 0 + 16 * width)
  let stBad := bitsOf v 27 27 = 1 && (decide (st % 16 ≠ 0) || !insideOne st (32 * width))
  if mem = [] ∨ ¬ (mem.map Prod.snd).Nodup then some 0x05
  else if 4096 < hi then some 0x05
  else if clash then some 0x05
  else if bitsOf v 11 8 ≠ 0 ∧ 2 ≤ fmt then some 0x05
  else if outBad ∨ stBad then some 0x05
  else if s.isOn (oPwrTile root) = false then some 0x03
  else none

/-- R228: EN = 0 closes the open slots by timeout and frees the store range. A round whose words have then all closed ends as its writes are
acknowledged (R226). -/
def State.redDisable (s : State) (g : Nat) : State :=
  let ks := ((s.grp g).slots.filter (fun e => e.2.isOpen)).map Prod.fst
  let s1 := ks.foldl (fun t k => t.closeTimeout g k) s
  let s2 := { s1 with net := { s1.net with entries := s1.net.entries.filter (fun e =>
    match e.2 with | some w => w.group ≠ g | none => true) } }
  (s2.setGrp g { rounds := (s2.grp g).rounds.filter (fun r => r.closed = s2.redWidth g) }).setBit (oRed g) 30 false

/-- The fields of SYS_REDCFG other than EN. -/
def redCfgOthers (v : Word) : Word := v &&& 0x3BFFFF0F

def State.redCfgWrite (s : State) (g : Nat) (v : Word) : WRes :=
  let o := oRed g
  let en := bitsOf v 31 31 = 1
  if s.bit o 31 then
    if redCfgOthers v ≠ redCfgOthers (s.reg o) then .rej 0x03
    else if en then .ok s
    else .ok ((s.redDisable g).setBit o 31 false)
  else if en then
    match s.redEnableCode g v with
    | some c => .rej c
    | none => .ok (s.plainWrite o v)
  else .ok (s.plainWrite o v)

/-- R220: the member table and the epochs are loaded. -/
def State.groupReady (s : State) (g : Nat) : State :=
  if s.bit (oRed g) 31 = true ∧ s.bit (oRed g) 30 = false ∧ s.isOn (oPwrTile (s.redRoot g)) = true then
    (s.setGrp g { s.grp g with members := s.memberTable g, oos := s.fld oNocstat 27 0 }).setBit (oRed g) 30 true
  else s

/-- The other registers of a group, and its member table. -/
def State.redRegWrite (s : State) (off : Nat) (v : Word) : WRes :=
  if 0x80000 ≤ off then
    if s.bit (oRed ((off - 0x80000) / 0x100)) 31 then .rej 0x03 else .ok (s.plainWrite off v)
  else
    let g := (off - 0x40000) / 0x40
    if off % 0x40 = 0 then s.redCfgWrite g v
    else if off % 0x40 < 0x24 then
      if s.bit (oRed g) 31 then .rej 0x03
      else if off % 0x40 = 0x18 ∧ bitsOf v 3 0 ≠ 0 then .rej 0x01
      else .ok (s.plainWrite off v)
    else .ok (s.plainWrite off v)

/-- SYS_REDOUT and SYS_REDPREC commit as pairs. -/
def State.redPairCommit (s : State) (off : Nat) (lo hi : Word) : WRes :=
  if s.bit (oRed ((off - 0x40000) / 0x40)) 31 then .rej 0x03 else .ok ((s.setReg off lo).setReg (off + 4) hi)

/-- SYS_REDST. -/
def State.redStWord (s : State) (g : Nat) : Word :=
  let x := s.grp g
  let n := (x.slots.filter (fun e => e.2.isOpen || e.2.closing)).length
  BitVec.ofNat 32 (s.fld (oRed g + 0x24) 31 24 * 2 ^ 24 + n * 2 ^ 12 + (s.memberTable g).length)

/-- R226: a result or partial-record write of the root is acknowledged. -/
def State.redAck (s : State) (g round word : Nat) (record : Bool) : State :=
  let rd := s.roundOf g round
  let s1 := s.setRound g { rd with acks := rd.acks - 1 }
  let k := slotKey word round
  let x := s1.slot g k
  let s2 := if record = false ∧ x.closing = true ∧ x.round = round then s1.setSlot g k { round := round, used := true } else s1
  s2.roundDone g round

/-- R228: tile `t` leaves ON: the open slots of the groups rooted there are lost, and READY reads 0. -/
def State.redTileOff (s : State) (t : Nat) : State :=
  (List.range 512).foldl (fun r g =>
    if r.bit (oRed g) 31 = true ∧ r.redRoot g = t then
      (r.setGrp g { r.grp g with slots := [], rounds := [] }).setBit (oRed g) 30 false
    else r) s

/-- R228: a soft reset clears EN and every open slot, entry and counter. -/
def State.redSoftReset (s : State) : State :=
  let s0 := { s with net := { s.net with groups := [], entries := [], msgs := s.net.msgs.filter (fun m => match m with | .rwide _ => false | _ => true) } }
  (List.range 512).foldl (fun r g =>
    ((((r.setFld (oRed g) 31 30 0).setReg (oRed g + 0x24) 0).setReg (oRed g + 0x28) 0).setReg (oRed g + 0x2C) 0).setReg (oRed g + 0x30) 0) s0

end Sys2Proof.Machine
end

