-- ==== Sys2Proof/Machine/Stream.lean ====
section
/-! DEFINITION. Sample streams (R211 to R218) and what the converter paths make of them (R261, R267 to R272): grids and rates, packing,
receive blocks from the first sample to the template request, transmit posts, fetches and emission, and the stream registers. -/

namespace Sys2Proof.Machine

/-! ## Registers of a channel -/

def oStr (c : Nat) : Nat := 0x20000 + 0x40 * c
def oStrblk (c : Nat) : Nat := oStr c + 0x04
def oStridx (c : Nat) : Nat := oStr c + 0x28
def oStrstat (c : Nat) : Nat := oStr c + 0x2C
def oStrdrop (c : Nat) : Nat := oStr c + 0x30

def State.strm (s : State) (c : Nat) : StrmSt := SMap.get (fun _ => {}) s.net.strm c
def State.setStrm (s : State) (c : Nat) (x : StrmSt) : State :=
  { s with net := { s.net with strm := SMap.set (fun _ => {}) s.net.strm c x } }

/-- Tile and converter die of a channel. -/
def strTile (c : Nat) : Nat := c / 64

def State.strEn (s : State) (c : Nat) : Bool := s.bit (oStr c) 31
def State.strTx (s : State) (c : Nat) : Bool := s.bit (oStr c) 30
def State.strRun (s : State) (c : Nat) : Bool := s.strEn c && decide (s.fld (oStrstat c) 31 29 = 2)
def State.strAlign (s : State) (c : Nat) : Nat := s.fld (oStr c) 29 28
def State.strFmt (s : State) (c : Nat) : Nat := s.fld (oStr c) 15 12
def State.strBlkw (s : State) (c : Nat) : Nat := s.fld (oStrblk c) 28 16
def State.strNbuf (s : State) (c : Nat) : Nat := s.fld (oStrblk c) 8 0
def State.strChan (s : State) (c : Nat) : Nat := s.fld (oStr c) 3 0

/-- The requester ID of the converter channel, which issues the accesses of the stream. -/
def State.strReq (s : State) (c : Nat) : Nat :=
  (8 + strTile c) * 0x1000 + (if s.strTx c then 0x200 else 0x100) + s.strChan c

/-! ## Converter registers -/

def oCnv (n : Nat) : Nat := 0xC00000 + 0x40000 * n

/-- The registers of path `4c + p` of one direction. -/
def oPath (n : Nat) (tx : Bool) (i : Nat) : Nat := oCnv n + (if tx then 0x500 else 0x100) + 0x10 * i

/-- The path that a configuration word of a channel names. -/
def pathOf (v : Word) : Nat := 4 * bitsOf v 3 0 + bitsOf v 9 8

def State.strPath (s : State) (c : Nat) : Nat := oPath (strTile c) (s.strTx c) (pathOf (s.reg (oStr c)))

def cnvReq (n : Nat) : Nat := (8 + n) * 0x1000

/-- D by DSEL. -/
def dselOf (k : Nat) : Nat := [8, 10, 12, 16, 20, 24, 32, 40, 48, 64, 80, 96, 128].getD k 8

/-- R268: the rate of a path as a fraction, in samples per second. -/
def State.pathRate (s : State) (o : Nat) (tx : Bool) : Nat × Nat :=
  ((if tx then 16000000000 else 10000000000) * s.fld (o + 8) 31 16, dselOf (s.fld o 11 8) * s.fld (o + 8) 15 0)

/-- The whole rate of an enabled channel. -/
def State.strRate (s : State) (c : Nat) : Nat := let (a, b) := s.pathRate (s.strPath c) (s.strTx c); a / b

/-! ## The NCO of a path (R266, R268) -/

/-- Converter samples in a nanosecond: 10 GS/s and 16 GS/s. -/
def convRate (tx : Bool) : Nat := if tx then 16 else 10

/-- The converter sample at or before a time, counted from lattice time 0 s. -/
def convSample (tx : Bool) (t : Nat) : Nat := t * convRate tx / 65536

/-- R266: what the phase accumulator holds at converter sample `n`. -/
def ncoPhase (ftw phase n : Nat) : BitVec 32 := BitVec.ofNat 32 (ftw * n + phase * 2 ^ 16)

/-- The phase of path `o` at converter sample `n`. -/
def State.pathPhase (s : State) (o n : Nat) : BitVec 32 := ncoPhase (s.fld (o + 4) 31 0) (s.fld o 31 16) n

/-- R268: a receive frequency above 5 GHz lies in the second Nyquist zone. -/
def secondZone (ftw : Nat) : Bool := decide (2 ^ 31 < ftw)

/-- Converter samples, the last of them taken at converter sample `n`, each with the phase of the NCO. -/
def State.mixed (s : State) (o n : Nat) (adc : List Int) : List (BitVec 32 × Int) :=
  adc.mapIdx (fun j x => (s.pathPhase o (n + 1 + j - adc.length), x))

/-- The baseband sample of a receive path, after converter samples with their phases (R261, R270). -/
def State.baseband (s : State) (o : Nat) (l : List (BitVec 32 × Int)) : Int × Int :=
  let ftw := s.fld (o + 4) 31 0
  Config.rxBaseband ftw (secondZone ftw) (dselOf (s.fld o 11 8)) (s.fld (o + 8) 31 16) (s.fld (o + 8) 15 0) l

/-- R270: a full-scale code. -/
def fullScale (x : Int) : Bool := decide (32767 ≤ x.natAbs)

/-! ## The grid (R267) -/

/-- `a / b` to nearest, ties to even. -/
def rneDiv (a b : Nat) : Nat :=
  let q := a / b
  let r := a % b
  if 2 * r < b then q else if b < 2 * r then q + 1 else q + q % 2

/-- Grid instant `k`, counted from lattice time 0. -/
def gridTime (rate k : Nat) : Nat := rneDiv (k * unitsPerSec) rate

/-- The grid instant nearest a time, and the first at or after it. -/
def gridNear (rate t : Nat) : Nat := rneDiv (t * rate) unitsPerSec
def gridAfter (rate t : Nat) : Nat :=
  let k := gridNear rate t
  if t ≤ gridTime rate k then k else k + 1

/-! ## Packing (R212, R270) -/

/-- Samples in a word of a format. -/
def samplesPerWord (fmt : Nat) : Nat := if fmt = 0 then 4 else if fmt = 4 then 6 else 7

/-- A word from exact components in units of 2^-16, and its saturations. -/
def packWord (fmt tag : Nat) (xs : List Int) : Quad × Nat :=
  if fmt = 0 then
    let r := xs.map (fun x => sat bound16 (rne x 16))
    (BitVec.ofNat 128 (joinLanes 16 (r.map (fun p => ofSigned 16 p.1))), (r.filter (fun p => p.2 ≠ 0)).length)
  else
    let (e, ms, _) := norm (boundB fmt) xs 16
    (bWord fmt e tag ms, (xs.filter (fun x => decide (boundB fmt < (rne x (16 + e)).natAbs))).length)

/-- R270, R271: saturations of a die, logged at most once per ms. -/
def State.logClips (s : State) (n count : Nat) : State :=
  if count = 0 then s else s.logLim (limKey 0x084 n) (mkRec (cnvReq n) 0x084 0 count (cnvReq n))

/-! ## Loss of receive blocks (R214) -/

/-- The gap that a lost block leaves is carried by the next block. -/
def passGap : List RxBlk → StrmSt → StrmSt
  | b :: l, x => { x with blocks := { b with gap := true } :: l }
  | [], x => { x with gap := true, blocks := [] }

/-- R213: a frame closes. -/
def State.closeFrame (s : State) (c fidx : Nat) : State :=
  let ev := oStr c + 0x1C
  if s.bit ev 31 = true ∧ fidx < 32 ∧ s.bit (oStr c + 0x20) fidx = true then s.postEvent (s.fld ev 13 0) fidx else s

def State.strOvf (s : State) (c code addr n : Nat) : State :=
  (s.count (oStrdrop c) 31 16 n).logLim (limKey code c) (mkRec (s.strReq c) code addr n (s.strReq c))

/-- The next block of a frame, after the one in progress ended or was lost; the answer tells whether the frame is over. -/
def State.nextIndex (s : State) (c : Nat) : State × Bool :=
  let x := s.strm c
  if s.strAlign c = 0 then (s, false)
  else if x.bidx + 1 = s.fld (oStr c) 23 16 then (s.setStrm c { x with bidx := x.bidx + 1, inFrame := false }, true)
  else (s.setStrm c { x with bidx := x.bidx + 1 }, false)

/-- A block that is lost before it begins: the samples up to the next boundary are discarded. -/
def State.loseNew (s : State) (c : Nat) (full : Bool) : State :=
  let x := s.strm c
  let per := samplesPerWord (s.strFmt c) * s.strBlkw c
  let s1 := s.setStrm c { x with skip := per - 1, gap := true }
  let s2 := if full then s1.count (oStrdrop c) 15 0 1 else s1.strOvf c 0x062 0 1
  -- a frame whose last block is lost closes at the loss
  let s3 := if s.strAlign c ≠ 0 ∧ x.bidx + 1 = s.fld (oStr c) 23 16 then s2.closeFrame c (s.fld (oStrstat c) 7 0) else s2
  if per = 1 then (s3.nextIndex c).1 else s3

/-! ## Writing a block out -/

/-- The bytes of words. -/
def quadBytes (l : List Quad) : List Byte := l.flatMap (fun w => bytesLE 16 w.toNat)

/-- The ring address of the block that lands next. -/
def State.strRing (s : State) (c : Nat) : Nat :=
  s.pairOf (oStr c + 8) + (s.strm c).seq % s.strNbuf c * (s.strBlkw c * 16)

/-- The record address of that block. -/
def State.strRecAddr (s : State) (c : Nat) : Nat := s.pairOf (oStr c + 0x10) + (s.strm c).seq % s.strNbuf c * 32

/-- A time as a record gives it: ns, 48-bit seconds, fraction. -/
def timeBytes (t : Nat) : List Byte := bytesLE 4 (timeNs t) ++ bytesLE 6 (timeSec t) ++ bytesLE 2 (timeFrac t)

/-- The block record (R211). -/
def blockRecord (b : RxBlk) (seq : Nat) : List Byte :=
  timeBytes b.time ++ bytesLE 4 seq ++ timeBytes b.frameTime
    ++ bytesLE 4 (b.bidx + 2 ^ 8 * b.fidx + 2 ^ 16 * ((if b.gap then 1 else 0) + if b.short then 2 else 0))

/-- The next packet of the block at the head: its samples (stage 2) or its record (stage 4). -/
def State.strWrite (s : State) (c : Nat) : State :=
  match (s.strm c).blocks with
  | [] => s
  | b :: _ =>
    let data := if b.stage = 4 then blockRecord b (s.strm c).seq else quadBytes b.words
    let a := (if b.stage = 4 then s.strRecAddr c else s.strRing c) + b.acked
    let len := pieceLen a (data.length - b.acked)
    let k : ReqKind := if b.stage = 4 then .strRecord c b.id else .strSample c b.id
    let (s1, bad) := if b.stage = 4 then (s, false) else s.sramTake (s.strReq c) (b.acked / 8) (pieceBytes len / 8)
    s1.issueWr (s.strReq c) 0 0 a len 0xFFFF bad ((data.drop b.acked).take (pieceBytes len)) k

def State.setHead (s : State) (c : Nat) (f : RxBlk → RxBlk) : State :=
  let x := s.strm c
  match x.blocks with
  | b :: l => s.setStrm c { x with blocks := f b :: l }
  | [] => s

/-- A complete block that has become the head begins to be written. -/
def State.strPump (s : State) (c : Nat) : State :=
  match (s.strm c).blocks with
  | b :: _ => if b.stage = 1 then (s.setHead c (fun x => { x with stage := 2, acked := 0 })).strWrite c else s
  | [] => s

/-- R213: the block at the head has landed: PI, the template request, the frame event, and the next block. -/
def State.strLanded (s : State) (c : Nat) (b : RxBlk) (rest : List RxBlk) : State :=
  let x := s.strm c
  let ring := s.strRing c
  let tm := oStr c + 0x18
  let s1 := (s.setStrm c { x with blocks := rest, seq := (x.seq + 1) % 2 ^ 32 }).setFld (oStridx c) 15 0 (x.seq + 1)
  let s2 :=
    if s1.bit tm 31 then
      let t := if s1.bit (oStr c) 27 then b.frameTime else b.time
      let w (n : Nat) : Word := BitVec.ofNat 32 n
      let it := enqItem (.stream c) (s1.strReq c) 0 0 true
        [w ((s1.fld tm 9 0 + b.bidx) % 1024), 3, w ring, w (ring / 2 ^ 32), w (timeNs t), w (timeSec t), 0, 0]
      (s1.setStrm c { s1.strm c with tmplWait := true }).pushInput (4 + 4 * strTile c) it
    else s1
  let s3 := if b.closes then s2.closeFrame c b.fidx else s2
  s3.strPump c

/-- A write of the block at the head is answered. -/
def State.strAck (s : State) (c id addr : Nat) (ok : Bool) : State :=
  match (s.strm c).blocks with
  | b :: rest =>
    if b.id ≠ id then s
    else if ok = false then
      let s1 := s.setStrm c (passGap rest { s.strm c with blocks := rest })
      let s2 := s1.strOvf c 0x063 addr 1
      let s3 := if b.closes then s2.closeFrame c b.fidx else s2
      s3.strPump c
    else
      let total := if b.stage = 4 then 32 else 16 * b.words.length
      let a := (if b.stage = 4 then s.strRecAddr c else s.strRing c) + b.acked
      let n := b.acked + pieceBytes (pieceLen a (total - b.acked))
      let s1 := s.setHead c (fun x => { x with acked := n })
      if n < total then s1.strWrite c
      else if b.stage = 4 then s1.strLanded c b rest
      else s1.setHead c (fun x => { x with stage := 3 })
  | [] => s

/-- R213: every sample write of the block is acknowledged: its record is written, once the template request of the block before has been
accepted. -/
def State.strLand (s : State) (c : Nat) : State :=
  match (s.strm c).blocks with
  | b :: _ =>
    if b.stage = 3 ∧ (s.strm c).tmplWait = false then (s.setHead c (fun x => { x with stage := 4, acked := 0 })).strWrite c else s
  | [] => s

/-! ## Samples arrive (R211, R214) -/

/-- The block in progress. -/
def filling (x : StrmSt) : Option RxBlk := x.blocks.getLast?.bind (fun b => if b.stage = 0 then some b else none)

def setLast (x : StrmSt) (b : RxBlk) : StrmSt := { x with blocks := x.blocks.dropLast ++ [b] }

/-- A word joins the block in progress; a full block is complete. -/
def State.addWord (s : State) (c : Nat) (w : Quad) : State :=
  let x := s.strm c
  match filling x with
  | none => s
  | some b =>
    let b1 := { b with words := b.words ++ [w] }
    if b1.words.length = s.strBlkw c then
      let (s1, fin) := (s.setStrm c (setLast x { b1 with stage := 1 })).nextIndex c
      let y := s1.strm c
      ((if fin then s1.setStrm c (setLast y { b1 with stage := 1, closes := true }) else s1)).strPump c
    else s.setStrm c (setLast x b1)

/-- The waiting components make a word. -/
def State.flushElems (s : State) (c : Nat) : State :=
  let x := s.strm c
  let o := s.strPath c
  let n := 2 * samplesPerWord (s.strFmt c)
  let (w, clips) := packWord (s.strFmt c) (s.fld o 7 4) (x.elems ++ List.replicate (n - x.elems.length) 0)
  (((s.setStrm c { x with elems := [] }).count (o + 12) 31 16 clips).logClips (strTile c) clips).addWord c w

/-- R211: a tick ends an incomplete frame: the block in progress is completed with zeros. -/
def State.endFrame (s : State) (c : Nat) : State :=
  let x := s.strm c
  match filling x with
  | some b =>
    let s1 := (s.setStrm c (setLast x { b with short := true }))
    let s2 := if x.elems = [] then s1 else s1.flushElems c
    match filling (s2.strm c) with
    | some b1 =>
      let b2 := { b1 with words := b1.words ++ List.replicate (s2.strBlkw c - b1.words.length) 0, stage := 1, closes := true }
      (s2.setStrm c (setLast { s2.strm c with inFrame := false } b2)).strPump c
    | none =>
      let y := s2.strm c
      s2.setStrm c { y with inFrame := false, blocks := y.blocks.map (fun z => if z.id = b.id then { z with closes := true } else z) }
  | none =>
    -- the last block that was produced closes the frame: it has been lost, waits to land, or has landed
    let s1 := s.setStrm c { x with inFrame := false, skip := 0 }
    let now : State := s1.closeFrame c (s.fld (oStrstat c) 7 0)
    if x.skip ≠ 0 then (if x.bidx + 1 = s.fld (oStr c) 23 16 then s1 else now)
    else match x.blocks.reverse with
      | b :: l => if b.frameTime = x.frameTime then s1.setStrm c { x with inFrame := false, blocks := l.reverse ++ [{ b with closes := true }] } else now
      | [] => now

/-- A tick at or before time `t` begins a frame. -/
def State.beginFrame (s : State) (c t : Nat) : State :=
  let x := s.strm c
  match (x.ticks.filter (fun k => decide (k.1 ≤ t))).getLast? with
  | none => s
  | some (_, fi) =>
    let s1 := if x.inFrame then s.endFrame c else s
    (s1.setStrm c { s1.strm c with ticks := x.ticks.filter (fun k => decide (t < k.1)), inFrame := true, bidx := 0, frameTime := t, skip := 0,
                                   elems := [] }).setFld (oStrstat c) 7 0 fi

/-- One sample, taken at time `t`. -/
def State.strSample (s : State) (c t : Nat) (v : Int × Int) : State :=
  let s0 := if s.strAlign c = 0 then s else s.beginFrame c t
  let x := s0.strm c
  let per := 2 * samplesPerWord (s0.strFmt c)
  if s0.strAlign c ≠ 0 ∧ x.inFrame = false then s0
  else if x.skip ≠ 0 then
    let s1 := s0.setStrm c { x with skip := x.skip - 1 }
    if x.skip = 1 then (s1.nextIndex c).1 else s1
  else
    let add (r : State) : State :=
      let y := r.strm c
      let r1 := r.setStrm c { y with elems := y.elems ++ [v.1, v.2] }
      if (r1.strm c).elems.length = per then r1.flushElems c else r1
    match filling x with
    | some _ => add s0
    | none =>
      let pi := s0.fld (oStridx c) 15 0
      let ci := s0.fld (oStridx c) 31 16
      if s0.bit (oStr c) 26 = true ∧ s0.strNbuf c ≤ (pi + 65536 - ci) % 65536 then s0.loseNew c true
      else if 2 ≤ x.blocks.length then s0.loseNew c false
      else
        let b : RxBlk := { id := x.nextId, words := [], time := t, frameTime := if s0.strAlign c = 0 then t else x.frameTime,
                           bidx := if s0.strAlign c = 0 then 0 else x.bidx, fidx := s0.fld (oStrstat c) 7 0, gap := x.gap }
        add (s0.setStrm c { x with blocks := x.blocks ++ [b], nextId := x.nextId + 1, gap := false })

/-- R261, R266, R270: the baseband samples of a receive channel from the grid instant `k` on, one for each list of the converter samples taken
since the one before; `l` holds the converter samples already taken, with their phases. -/
def State.rxSamples (s : State) (c k : Nat) (l : List (BitVec 32 × Int)) : List (List Int) → State
  | [] => s
  | a :: rest =>
    let o := s.strPath c
    let t := gridTime (s.strRate c) k
    let l1 := l ++ s.mixed o (convSample false t) a
    let v := s.baseband o l1
    let g : Int := (2 ^ s.fld o 1 0 : Nat)
    ((s.count (o + 12) 15 0 (a.filter fullScale).length).strSample c t (v.1 * g, v.2 * g)).rxSamples c (k + 1) l1 rest

/-- R270: converter samples of a receive channel, the first of its baseband samples at the grid instant nearest `t`. -/
def State.strSamples (s : State) (c t : Nat) (adc : List (List Int)) : State :=
  if s.strRun c = true ∧ s.strTx c = false then s.rxSamples c (gridNear (s.strRate c) t) [] adc else s

/-- R211: a tick of source 1 (SYM) or 2 (SLOT). -/
def State.strTick (s : State) (src t idx : Nat) : State :=
  (List.range 256).foldl (fun r c =>
    if r.strRun c = true ∧ r.strTx c = false ∧ r.strAlign c = src then
      let x := r.strm c
      r.setStrm c { x with ticks := x.ticks ++ [(t, if src = 2 then 0 else idx)] }
    else r) s

/-! ## Transmit (R215, R216, R272) -/

/-- TXQ follows the queue. -/
def State.setPosts (s : State) (c : Nat) (l : List TxPost) : State :=
  (s.setStrm c { s.strm c with posts := l }).setFld (oStrstat c) 28 24 l.length

/-- A discarded transmit block. -/
def State.txDiscard (s : State) (c code req : Nat) : State :=
  (s.count (oStrdrop c) 31 16 1).logLim (limKey code c) (mkRec (s.strReq c) code 0 1 req)

/-- What becomes of a post: none while the queue is full. -/
inductive PostOut where
  | taken (s : State)
  | refused (s : State)
  | waits

/-- A transmit post (R215, R216); R38: one to an enabled channel whose tile or die is not ON has code 0x014. -/
def State.txPost (s : State) (c req : Nat) (whole : Bool) (d : Quad) : PostOut :=
  let x := s.strm c
  let ns := bitsOf d 31 0
  let seq := bitsOf d 95 80
  let due := timeOf (fullSec s.now (bitsOf d 63 32)) ns (bitsOf d 79 64)
  if s.strEn c = true ∧ s.strTx c = true ∧ (s.isOn (oPwrTile (c / 64)) = false ∨ s.isOn (oPwrCnv (c / 64)) = false) then
    .refused (s.log (mkRec 0x4010 0x014 (ctlBase + 0x30000 + 0x10 * c) 1 req))
  else if s.strRun c = false ∨ s.strTx c = false then .refused (s.txDiscard c 0x06A req)
  else if whole = false then .refused (s.txDiscard c 0x06A req)
  else
    let late := match x.lastDue with | some t => decide (due ≤ t) | none => false
    let bad := bitsOf d 127 96 ≠ 0 ∨ 1000000000 ≤ ns ∨ (match x.nextSeq with | some n => decide (seq ≠ n) | none => false) = true
      ∨ late = true
    let s1 := s.setStrm c { x with nextSeq := some ((seq + 1) % 65536) }
    if bad then .refused (s1.txDiscard c 0x06A req)
    else if 16 ≤ x.posts.length then .waits
    else .taken ((s1.setStrm c { s1.strm c with lastDue := some due }).setPosts c (x.posts ++ [{ seq := seq, due := due }]))

/-- The ring address of a post's block. -/
def State.txRing (s : State) (c seq : Nat) : Nat := s.pairOf (oStr c + 8) + seq % s.strNbuf c * (s.strBlkw c * 16)

/-- The next read of a block. -/
def State.txRead (s : State) (c : Nat) (p : TxPost) : State :=
  let a := s.txRing c p.seq + 16 * p.words.length
  s.issueRd (s.strReq c) 0 0 a (pieceLen a (16 * (s.strBlkw c - p.words.length))) (.strFetch c p.seq)

def setPost (l : List TxPost) (p : TxPost) : List TxPost := l.map (fun q => if q.seq = p.seq then p else q)

/-- R215: the read of a post begins at its due time minus STRLEAD, or at once where that time has passed. -/
def State.txDue (s : State) (c : Nat) (p : TxPost) : Bool := decide (p.due ≤ s.now + s.fld (oStr c + 0x24) 31 0 * 65536)

/-- R215: the first post whose read has not begun. -/
def State.txFetch (s : State) (c : Nat) : State :=
  match (s.strm c).posts.find? (fun p => !p.fetching) with
  | some p => if s.txDue c p then (s.setPosts c (setPost (s.strm c).posts { p with fetching := true })).txRead c p else s
  | none => s

/-- The words a list of bytes holds. -/
def quadsOf : Nat → List Byte → List Quad
  | 0, _ => []
  | n + 1, l => BitVec.ofNat 128 (ofBytesLE (l.take 16)) :: quadsOf n (l.drop 16)

/-- A read of a transmit block is answered. -/
def State.txData (s : State) (c seq : Nat) (ok : Bool) (data : List Byte) : State :=
  match (s.strm c).posts.find? (fun p => p.seq == seq && p.fetching && !p.fetched) with
  | none => s
  | some p =>
    if ok = false then (s.setPosts c ((s.strm c).posts.filter (fun q => q.seq ≠ seq))).txDiscard c 0x065 (s.strReq c)
    else
      let ws := p.words ++ quadsOf (data.length / 16) data
      let p1 := { p with words := ws, fetched := decide (s.strBlkw c ≤ ws.length) }
      let s1 := s.setPosts c (setPost (s.strm c).posts p1)
      if p1.fetched then s1 else s1.txRead c p1

/-- R216: the first block not read is late. -/
def State.txLate (s : State) (c : Nat) : State :=
  match (s.strm c).posts.find? (fun p => !p.fetched) with
  | some p => (s.setPosts c ((s.strm c).posts.filter (fun q => q.seq ≠ p.seq))).txDiscard c 0x064 (s.strReq c)
  | none => s

/-- Components of a word beyond int16 (R271). -/
def wordClips (fmt : Nat) (w : Quad) : Nat :=
  if fmt = 0 then 0 else ((bVals fmt w).filter (fun x => decide (bound16 < x.natAbs))).length

/-- R271: the components of a word in int16. -/
def wordComps (fmt : Nat) (w : Quad) : List Int :=
  if fmt = 0 then slanes 16 8 w.toNat else (bVals fmt w).map (fun x => (sat bound16 x).1)

/-- R271: the sum of a channel's paths, exact in units of 2^-16, as the DAC converts it, and whether it saturates. -/
def dacCode (x : Int) : Int × Bool := let (v, g) := sat 8191 (rne x 16); (v, g ≠ 0)

/-- R272: the block in emission ends before its time: the path contributes 0 from the next grid instant on. -/
def State.cutEmission (s : State) (c : Nat) : State :=
  let k := gridAfter (s.strRate c) s.now
  match (s.strm c).emitEnd with
  | some e => if k < e then s.emit (.samplesCut (strTile c) (s.strChan c) (s.fld (oStr c) 9 8) k) else s
  | none => s

/-- R266, R271, R272: the block at the head is emitted from its start instant; `sums` are the exact sums of the channel's four paths, in
units of 2^-16, that come to its DAC meanwhile. -/
def State.txEmit (s : State) (c : Nat) (sums : List Int) : State :=
  let x := s.strm c
  let n := strTile c
  match x.posts with
  | p :: rest =>
    let (s, bad) := s.sramTake (s.strReq c) 0 (2 * p.words.length)
    if p.fetched = false ∨ s.strRun c = false then s
    else if bad then (s.setPosts c rest).txDiscard c 0x065 (s.strReq c)
    else
      let rate := s.strRate c
      let fmt := s.strFmt c
      let k := gridAfter rate p.due
      let o := s.strPath c
      let cut := match x.emitEnd with | some e => e - k | none => 0
      let gap := match x.emitEnd with | some e => if gridTime rate e < p.due ∧ e < k then 1 else 0 | none => 0
      let codes := sums.map dacCode
      let clips := (p.words.map (wordClips fmt)).sum + (codes.filter Prod.snd).length
      let path := s.fld (oStr c) 9 8
      let t0 := gridTime rate k
      let s1 := (s.setStrm c { x with emitEnd := some (k + samplesPerWord fmt * p.words.length) }).setPosts c rest
      let s2 := ((s1.count (o + 12) 15 0 cut).count (o + 12) 31 16 gap).count (oCnv n + 0x940 + 4 * s.strChan c) 31 0 clips
      let s3 := s2.logClips n clips
      let s4 := if cut + gap = 0 then s3 else s3.logLim (limKey 0x085 n) (mkRec (cnvReq n) 0x085 0 (cut + gap) (cnvReq n))
      let s5 := if cut = 0 then s4 else s4.emit (.samplesCut n (s.strChan c) path k)
      (s5.emit (.samplesOut n (s.strChan c) path t0 (s.fld (o + 4) 31 0) (s.pathPhase o (convSample true t0)) (2 + s.fld o 1 0)
        (p.words.flatMap (wordComps fmt)))).emit (.dacOut n (s.strChan c) (codes.map Prod.fst))
  | [] => s

/-- R272: a forward time step from `old` to `new` discards the blocks it skipped. -/
def State.strStep (s : State) (old new : Nat) : State :=
  (List.range 256).foldl (fun r c =>
    let gone := (r.strm c).posts.filter (fun p => decide (old ≤ p.due) && decide (p.due < new))
    if gone = [] then r
    else gone.foldl (fun t p => (t.setPosts c ((t.strm c).posts.filter (fun q => q.seq ≠ p.seq))).txDiscard c 0x064 (t.strReq c)) r) s

/-! ## Start and stop -/

/-- Answers of what the channel asked for are no longer awaited. -/
def State.strForget (s : State) (c : Nat) : State :=
  let f (q : OutReq) : OutReq :=
    match q.kind with
    | .strSample d _ | .strRecord d _ | .strFetch d _ => if d = c then { q with kind := .other } else q
    | _ => q
  { s with net := { s.net with outst := s.net.outst.map f } }

/-- R218: a channel stops and waits; what was in flight counts as lost. -/
def State.strStop (s : State) (c : Nat) : State :=
  if s.strRun c then
    let x := s.strm c
    let y : StrmSt := { seq := x.seq, nextId := x.nextId, gap := true, nextSeq := x.nextSeq, lastDue := x.lastDue, tmplWait := x.tmplWait }
    (((((s.cutEmission c).strForget c).setStrm c y).count (oStrdrop c) 31 16 (x.blocks.length + x.posts.length)).setFld (oStrstat c) 28 24 0).setFld
      (oStrstat c) 31 29 1
  else s

/-- Every channel of a tile stops. -/
def State.strStopTile (s : State) (t : Nat) : State := (List.range 64).foldl (fun r j => r.strStop (64 * t + j)) s

/-- The whole rates of a list of channels. -/
def State.rateSum (s : State) (tx : Bool) (l : List Nat) : Nat :=
  (l.map (fun d => let (x, y) := s.pathRate (oPath (strTile d) tx (pathOf (s.reg (oStr d)))) tx; x / y)).sum

/-- R306: channels of one direction stop, highest number first, until at most 14 GS/s remain; the state and their number. -/
def State.shedDir (s : State) (tx : Bool) : List Nat → State × Nat
  | [] => (s, 0)
  | c :: l =>
    if s.rateSum tx (c :: l) ≤ 14000000000 then (s, 0)
    else
      let s1 := s.strStop c
      let s2 := s1.setStrm c { s1.strm c with shed := true }
      let (t, n) := s2.shedDir tx l
      (t, n + 1)

/-- R306: the TC module of a tile runs at x16. -/
def State.shedStreams (s : State) (t : Nat) : State × Nat :=
  let of (tx : Bool) (r : State) : List Nat :=
    (((List.range 64).map (fun j => 64 * t + 63 - j))).filter (fun d => r.strEn d && !(r.strm d).shed && r.strTx d == tx)
  let (s1, n1) := s.shedDir false (of false s)
  let (s2, n2) := s1.shedDir true (of true s1)
  (s2, n1 + n2)

/-- R274: the channels that use a converter channel stop. -/
def State.strStopChan (s : State) (n : Nat) (tx : Bool) (ch : Nat) : State :=
  (List.range 64).foldl (fun r j =>
    if r.strTx (64 * n + j) = tx ∧ r.strChan (64 * n + j) = ch then r.strStop (64 * n + j) else r) s

/-- The converter channel of a stream is available. -/
def State.chanAvail (s : State) (n : Nat) (tx : Bool) (ch : Nat) : Bool := s.bit (oCnv n + 0x10) (ch + if tx then 16 else 0)

def State.tcUp (s : State) (n : Nat) : Bool := inService (s.fld oNocstat 27 0) (tcModule n)

/-- R218: a waiting channel resumes. -/
def State.strResume (s : State) (c : Nat) : State :=
  let n := strTile c
  if s.strEn c = true ∧ (s.strm c).shed = false ∧ s.fld (oStrstat c) 31 29 = 1 ∧ s.isOn (oPwrTile n) = true ∧ s.isOn (oPwrCnv n) = true ∧ s.tcUp n = true
      ∧ s.chanAvail n (s.strTx c) (s.strChan c) = true then s.setFld (oStrstat c) 31 29 2
  else s

/-- R218: a soft reset. -/
def State.strSoftReset (s : State) : State :=
  (List.range 256).foldl (fun r c =>
    if r.strEn c then
      (((((r.cutEmission c).strForget c).setStrm c {}).setBit (oStr c) 31 false).setReg (oStridx c) 0).setReg (oStrstat c) 0
    else (r.setReg (oStridx c) 0).setReg (oStrstat c) 0) s

/-! ## Registers (R217, R269) -/

/-- The enabled channels of a tile in one direction, `c` left out. -/
def State.strPeers (s : State) (c : Nat) (tx : Bool) : List Nat :=
  ((List.range 64).map (fun j => 64 * strTile c + j)).filter (fun d => d ≠ c && s.strEn d && s.strTx d == tx)

/-- R217, R269: the first condition that rejects EN = 1; `v` is the word written. -/
def State.strEnableCode (s : State) (c : Nat) (v : Word) : Option Nat :=
  let n := strTile c
  let tx := bitsOf v 30 30 = 1
  let align := bitsOf v 29 28
  let frmb := bitsOf v 23 16
  let tm := oStr c + 0x18
  let len := s.strNbuf c * (s.strBlkw c * 16)
  let peers := s.strPeers c (decide tx)
  let path (w : Word) : Nat := oPath n (decide tx) (pathOf w)
  let (a, b) := s.pathRate (path v) (decide tx)
  let rates := (peers.map (fun d => let (x, y) := s.pathRate (path (s.reg (oStr d))) (decide tx); x / y)).sum
  let rnum := s.fld (path v + 8) 31 16
  let rden := s.fld (path v + 8) 15 0
  if s.isOn (oPwrTile n) = false ∨ s.isOn (oPwrCnv n) = false then some 0x03
  else if (align = 0 ∧ (frmb ≠ 0 ∨ bitsOf v 27 27 = 1 ∨ s.reg (oStr c + 0x20) ≠ 0)) ∨ (align ≠ 0 ∧ frmb = 0) then some 0x05
  else if s.bit tm 31 = true ∧ 1023 < s.fld tm 9 0 + max frmb 1 - 1 then some 0x05
  else if insideOne (s.pairOf (oStr c + 8)) len = false ∨ insideOne (s.pairOf (oStr c + 0x10)) (32 * s.strNbuf c) = false then some 0x05
  else if peers.any (fun d => pathOf (s.reg (oStr d)) = pathOf v) then some 0x05
  else if 524288 < ((c :: peers).map (fun d => 32 * s.strBlkw d)).sum then some 0x05
  else if s.chanAvail n (decide tx) (bitsOf v 3 0) = false ∨ s.fld (oCnv n + 8) 25 24 ≠ 2 then some 0x03
  else if rden < rnum ∨ 2 * rnum < rden then some 0x05
  else if a % b ≠ 0 then some 0x05
  else if 1250000000 < a / b then some 0x05
  else if 20000000000 < a / b + rates ∨ (s.fld (0xA00008 + 0x1000 * tcModule n) 27 26 = 2 ∧ 14000000000 < a / b + rates) then some 0x05
  else none

/-- The fields of SYS_STRCFG other than EN. -/
def strCfgOthers (v : Word) : Word := v &&& 0x7CFFF30F

/-- R217: a write of SYS_STRCFG. -/
def State.strCfgWrite (s : State) (c : Nat) (v : Word) : WRes :=
  let o := oStr c
  let en := bitsOf v 31 31 = 1
  if s.strEn c then
    if strCfgOthers v ≠ strCfgOthers (s.reg o) then .rej 0x03
    else if en then .ok s
    else .ok (((((s.cutEmission c).strForget c).setStrm c {}).setBit o 31 false).setReg (oStrstat c) 0)
  else if en then
    match s.strEnableCode c v with
    | some k => .rej k
    | none =>
      let s1 := ((s.plainWrite o v).setStrm c {}).setFld (oStridx c) 15 0 0
      .ok (s1.setReg (oStrstat c) (BitVec.ofNat 32 (if s1.tcUp (strTile c) then 2 ^ 30 else 2 ^ 29)))
  else .ok (s.plainWrite o v)

/-- The stream registers, offsets 0x20000 to 0x23FFF of SYS. -/
def State.strRegWrite (s : State) (off : Nat) (v : Word) : WRes :=
  let c := (off - 0x20000) / 0x40
  let k := off % 0x40
  if k = 0 then s.strCfgWrite c v
  else if k = 0x28 then .ok (s.plainWrite off v)
  else if k < 0x28 ∧ s.strEn c = true then .rej 0x03
  else .ok (s.plainWrite off v)

/-- SYS_STRBASE and SYS_STRREC commit as pairs. -/
def State.strPairCommit (s : State) (off : Nat) (lo hi : Word) : WRes :=
  if s.strEn ((off - 0x20000) / 0x40) then .rej 0x03 else .ok ((s.setReg off lo).setReg (off + 4) hi)

/-- R273: some stream channel that uses the die is enabled. -/
def State.cnvBusy (s : State) (n : Nat) : Bool := (List.range 64).any (fun j => s.strEn (64 * n + j))

/-- R269: an enabled stream channel uses path `i` of one direction. -/
def State.pathBusy (s : State) (n : Nat) (tx : Bool) (i : Nat) : Bool :=
  (List.range 64).any (fun j => s.strEn (64 * n + j) && s.strTx (64 * n + j) == tx && decide (pathOf (s.reg (oStr (64 * n + j))) = i))

end Sys2Proof.Machine
end

