-- ==== Sys2Proof/Machine/Chain.lean ====
section
/-! DEFINITION. Lanes as state, and the sending side of the chain port (R64 to R66, R292): packets of a forwarded section, and where
forwarding stops. -/

namespace Sys2Proof.Machine

def State.lane (s : State) (l : Nat) : LaneSt := SMap.get (fun _ => {}) s.ser.lanes l
def State.setLane (s : State) (l : Nat) (x : LaneSt) : State :=
  { s with ser := { s.ser with lanes := SMap.set (fun _ => {}) s.ser.lanes l x } }

/-- The chain port's sides: both up when their four lanes are UP (R292). -/
def State.sideUp (s : State) (down : Bool) : Bool :=
  (List.range 4).all (fun i => (s.lane ((if down then 52 else 48) + i)).st = 3)

/-! ## CFG registers that many rules touch -/

def oCfg : Nat := 0x100000
def oCfgStat : Nat := oCfg + 8
def oDiscard : Nat := oCfg + 0x28
/-- CFG_CHSTAT of the downstream device at position `d`. -/
def oChst (d : Nat) : Nat := oCfg + 0x40 + 4 * (d - 1)

/-- CFG_STAT.STATE: 0 IDLE, 1 LOADING, 2 RELEASING, 3 DONE, 4 WIPING, 5 FAILED, 6 LOCKED. -/
def State.cfgState (s : State) : Nat := s.fld oCfgStat 31 29
def State.setCfgState (s : State) (n : Nat) : State := s.setFld oCfgStat 31 29 n
/-- CFG_STAT.PARTIAL. -/
def State.cfgPartial (s : State) : Bool := s.bit oCfgStat 27

/-- R74: a record of the configuration controller, with its failing position, which CFG_FAILPOS and POSKIND then read. Word 6 names the
intake of the section in progress. -/
def State.cfgLog (s : State) (code kind value : Nat) : State :=
  ((s.setFld oCfgStat 25 24 kind).setReg (oCfg + 0x18) (BitVec.ofNat 32 value)).log
    (mkRec 0x4001 code (value + kind * 2 ^ 62) 1 (if s.cfg.src = 1 then 0x4001 else 0xF000))

/-- The controller interrupts management, and the host when IRQEN = 1. -/
def State.cfgIrq (s : State) : State :=
  let s1 := s.emit (.mgmtIrq mgmtLineCfg)
  if s.bit oCfg 8 then s1.emit (.msix 0 1) else s1

/-- Bytes discarded from intake. -/
def State.cfgDiscard (s : State) (n : Nat) : State := s.count oDiscard 31 0 n

/-! ## Sending -/

/-- The CRC-32C of a packet, over its sequence number, its flags and its bytes. -/
def chainCrc (seq : BitVec 16) (sos eos : Bool) (d : List Byte) : Word :=
  BitVec.ofNat 32 (crc32c (bytesLE 2 seq.toNat ++ [BitVec.ofNat 8 ((if sos then 1 else 0) + if eos then 2 else 0)] ++ d))

def mkChainPkt (seq : Nat) (sos eos : Bool) (d : List Byte) : ChainPkt :=
  ⟨BitVec.ofNat 16 seq, sos, eos, d, chainCrc (BitVec.ofNat 16 seq) sos eos d⟩

/-- R65: packets of the section go out while fewer than 16 are unacknowledged. -/
def State.chainPump : Nat → State → State
  | 0, s => s
  | n + 1, s =>
    let c := s.cfg.chain
    let k := min 4096 c.fwdLeft
    if c.fwdLeft = 0 ∨ s.sideUp true = false ∨ 16 ≤ c.unacked.length ∨ s.cfg.buf.length < k then s
    else
      let p := mkChainPkt c.txSeq c.sos (decide (c.fwdLeft = k)) (s.cfg.buf.take k)
      let c1 : ChainSt := { c with fwdLeft := c.fwdLeft - k, sos := false, txSeq := (c.txSeq + 1) % 65536, waitPort := false,
                                   unacked := c.unacked ++ [(p, 0)] }
      chainPump n ({ s with cfg := { s.cfg with buf := s.cfg.buf.drop k, chain := c1 } }.emit (.chainPkt p))

/-- R64 to R66: forwarding stops with code 0x02A; what is left of the section is drained. -/
def State.chainStop (s : State) : State :=
  let c := s.cfg.chain
  let n := min c.fwdLeft s.cfg.buf.length
  let s1 := (s.cfgLog 0x02A 0 0).setReg (oChst c.fwdDev) (BitVec.ofNat 32 (4 * 2 ^ 29 + 0x02A * 2 ^ 12))
  let s2 := { s1 with cfg := { s1.cfg with
    buf := s.cfg.buf.drop n, drop := s.cfg.drop + (c.fwdLeft - n),
    chain := { c with fwdLeft := 0, unacked := [], stopped := true, waitPort := false } } }
  s2.cfgDiscard n

/-- R65: an acknowledgement frees the packets up to its number. -/
def State.chainAckRx (s : State) (seq : Nat) : State :=
  let c := s.cfg.chain
  if c.unacked.any (fun x => x.1.seq.toNat == seq) then
    let rest : List (ChainPkt × Nat) := (c.unacked.dropWhile (fun x => x.1.seq.toNat != seq)).drop 1
    let s1 : State := { s with cfg := { s.cfg with chain := { c with unacked := rest } } }
    let s2 := if rest.isEmpty = true ∧ c.fwdLeft = 0 ∧ s1.fld (oChst c.fwdDev) 31 29 = 1 then s1.setFld (oChst c.fwdDev) 31 29 2 else s1
    s2.chainPump 16
  else s

/-- R65: 50 µs without an acknowledgement. -/
def State.chainAckTmo (s : State) : State :=
  let c := s.cfg.chain
  match c.unacked with
  | [] => s
  | (p, n) :: rest =>
    if 2 ≤ n then s.chainStop.emit .chainAbort
    else
      let s1 := { s with cfg := { s.cfg with chain := { c with unacked := (p, n + 1) :: rest } } }
      c.unacked.foldl (fun r x => r.emit (.chainPkt x.1)) s1

/-- R66: the port is not up 100 ms after the first downstream section. -/
def State.chainPortTmo (s : State) : State :=
  if s.cfg.chain.waitPort = true ∧ s.sideUp true = false then s.chainStop else s

end Sys2Proof.Machine
end

