-- ==== Sys2Proof/Machine/Pld.lean ====
section
/-! DEFINITION. Frames of configuration cells and polders (R49 to R54, R75 to R94): frame addresses, frame checks, polder states,
the scrubber. -/

namespace Sys2Proof.Machine

/-! ## Frame addresses (R51, R52) -/

def faTile (a : Nat) : Nat := a / 2 ^ 30 % 4
def faBand (a : Nat) : Nat := a / 2 ^ 27 % 8
def faClass (a : Nat) : Nat := a / 2 ^ 24 % 8
def faCol (a : Nat) : Nat := a / 2 ^ 10 % 2 ^ 14
def faMinor (a : Nat) : Nat := a % 2 ^ 10

/-- The table "Frame map of one row band". -/
def colCount (c : Nat) : Nat := [160, 280, 71, 8, 11, 34].getD c 0
def minorCount (c : Nat) : Nat := [32, 32, 192, 32, 16, 8].getD c 0

def faValid (a : Nat) : Bool := decide (faCol a < colCount (faClass a)) && decide (faMinor a < minorCount (faClass a))

/-- R52: FAR after a frame. -/
def faAdvance (a : Nat) : Nat := if faMinor a + 1 = minorCount (faClass a) then a - faMinor a + 2 ^ 10 else a + 1

/-- R75: the column group of a frame of class 0 to 2; none for block-RAM column 70 and the other classes. -/
def faGroup (a : Nat) : Option Nat :=
  match faClass a with
  | 0 => some (faCol a / 16)
  | 1 => some (faCol a / 28)
  | 2 => if faCol a < 70 then some (faCol a / 7) else none
  | _ => none

/-- R75: `a` is a polder frame of the rectangle `geom` (PDECL word 0) of polder `p` = 8t + p. -/
def polderFrame (p : Nat) (geom : Word) (a : Nat) : Bool :=
  match faGroup a with
  | none => false
  | some g =>
    faValid a && decide (faTile a = p / 8) && decide (bitsOf geom 2 0 ≤ faBand a) && decide (faBand a ≤ bitsOf geom 6 4)
      && decide (bitsOf geom 11 8 ≤ g) && decide (g ≤ bitsOf geom 15 12)

/-! ## Frame checks (R49) -/

def frameCrc (d : BitVec 3072) : Nat := crcBytes 16 0x1021 0xFFFF (bytesLE 384 d.toNat)

/-- A cleared frame. Its check is that of 384 zero bytes. -/
def zeroFrame : CFrame := ⟨0, 0xEC83⟩
def frameDflt (_ : Nat) : CFrame := zeroFrame

def CFrame.good (f : CFrame) : Bool := decide (f.chk.toNat = frameCrc f.data)

/-- Losses of the block RAM of tile `t`. -/
def State.bramLost (s : State) (t : Nat) : Nat := SMap.get (fun _ => 0) s.cfg.bramLost t

/-- R38: a block-RAM frame of a tile that has left OFF with RET = 0 holds free contents until it is written. -/
def lostFrame (n a : Nat) : CFrame :=
  ⟨BitVec.ofNat 3072 ((List.range 48).foldl (fun x i => x * 2 ^ 64 + (Config.uninit (2 ^ 50 + n) (64 * a + i)).toNat) 0),
   (Config.uninit (2 ^ 50 + n) (64 * a + 48)).setWidth 16⟩

/-- The frame at an address: as written, else cleared. -/
def State.frame (s : State) (a : Nat) : CFrame :=
  if faClass a = 2 ∧ s.bramLost (faTile a) ≠ 0 ∧ (SMap.find s.cfg.frames a).isNone = true then lostFrame (s.bramLost (faTile a)) a
  else SMap.get frameDflt s.cfg.frames a

def State.setFrame (s : State) (a : Nat) (f : CFrame) : State :=
  let m := if s.bramLost (faTile a) = 0 then SMap.set frameDflt s.cfg.frames a f else SMap.insert s.cfg.frames a f
  { s with cfg := { s.cfg with frames := m } }

/-- The block-RAM frame addresses of a tile. -/
def bramAddrs (t : Nat) : List Nat :=
  (List.range 8).flatMap (fun b => (List.range 71).flatMap (fun c => (List.range 192).map (fun m =>
    t * 2 ^ 30 + b * 2 ^ 27 + 2 * 2 ^ 24 + c * 2 ^ 10 + m)))

/-- The cells of tile `t` for which `sel` holds are cleared. -/
def State.clearFrames (s : State) (t : Nat) (sel : Nat → Bool) : State :=
  let s1 := { s with cfg := { s.cfg with frames := s.cfg.frames.filter (fun e => !(sel e.1 && decide (faTile e.1 = t))) } }
  if s.bramLost t = 0 then s1 else ((bramAddrs t).filter sel).foldl (fun r a => r.setFrame a zeroFrame) s1

/-- R38: a tile leaves OFF with RET = 0: its configuration cells are cleared and its block RAM is undefined. -/
def State.loseFrames (s : State) (t : Nat) : State :=
  let c := { s.cfg with
    frames := s.cfg.frames.filter (fun e => decide (faTile e.1 ≠ t)), bramLost := SMap.insert s.cfg.bramLost t (s.bramLost t + 1) }
  { s with cfg := c, pld := { s.pld with retained := s.pld.retained.filter (fun p => decide (p / 8 ≠ t)) } }

/-! ## Polders -/

def oPld : Nat := 0x200000
def oPgeom (p : Nat) : Nat := oPld + 0x400 + 0x40 * p
def oPldStat (p : Nat) : Nat := oPgeom p + 0x10
def oIsocnt (p : Nat) : Nat := oPgeom p + 0x1C

/-- PLD_STAT.PSTATE: 0 UNDECLARED, 1 OFF, 2 EMPTY, 3 LOADING, 4 CHECKING, 5 HELD, 6 RUNNING, 7 WIPING. -/
def State.pstate (s : State) (p : Nat) : Nat := s.fld (oPldStat p) 2 0
def State.setPstate (s : State) (p n : Nat) : State := s.setFld (oPldStat p) 2 0 n

/-- Word 3 of the declaration. -/
def State.pldFlags (s : State) (p : Nat) : Word := SMap.get (fun _ => 0) s.pld.flags p

/-- The frames of polder `p`. -/
def State.ofPolder (s : State) (p a : Nat) : Bool := s.bit (oPgeom p) 31 && polderFrame p (s.reg (oPgeom p)) a

/-- The polder that holds a frame. -/
def State.polderAt (s : State) (a : Nat) : Option Nat := ((List.range 8).map (fun i => 8 * faTile a + i)).find? (fun p => s.ofPolder p a)

/-- R83: the least address of a polder frame that does not match its check. Cleared frames match. -/
def State.badFrame (s : State) (p : Nat) : Option Nat :=
  (s.cfg.frames.find? (fun e => s.ofPolder p e.1 && !e.2.good)).map (·.1)

/-! ### Borders, sluices and the fabric's pins (R80, R84, R86, R87, R419) -/

def State.border (s : State) (p : Nat) : Border := SMap.get (fun _ => {}) s.pld.border p
def State.setBorder (s : State) (p : Nat) (b : Border) : State :=
  { s with pld := { s.pld with border := SMap.set (fun _ => {}) s.pld.border p b } }

def State.fab (s : State) (t : Nat) : FabTile := SMap.get (fun _ => {}) s.pld.fab t
def State.setFab (s : State) (t : Nat) (f : FabTile) : State :=
  { s with pld := { s.pld with fab := SMap.set (fun _ => {}) s.pld.fab t f } }

/-- R70 step 4, R71: a tile's flip-flops and block RAM outputs take their image values, its shells are enabled, its sluices open and
its pins are enabled. -/
def State.fabOpen (s : State) (t : Nat) : State := s.setFab t { released := true, image := (s.fab t).image + 1 }

/-- R71, R419: the tile's fabric is inert, its pins high impedance. -/
def State.fabShut (s : State) (t : Nat) : State := s.setFab t { s.fab t with released := false }

/-- R39: user flip-flops take their image values: those of a tile, and those of its polders that are not being rebuilt. -/
def State.fabReset (s : State) (t : Nat) : State :=
  let s1 := s.setFab t { s.fab t with image := (s.fab t).image + 1 }
  (List.range 8).foldl (fun r i =>
    let p := 8 * t + i
    if r.pstate p = 5 ∨ r.pstate p = 6 then r.setBorder p { r.border p with image := (r.border p).image + 1 } else r) s1

/-- The sluice field `k` of a frame: SIDE, USED, DIR and MODE (R86). -/
def sluiceField (f : CFrame) (k : Nat) : Nat := bitsOf f.data (6 * k + 5) (6 * k)

/-- R86: the polder that a sluice of the column of frame `a` serves: the one to the left of the column, or to the right. -/
def State.sluicePolder (s : State) (a : Nat) (right : Bool) : Option Nat :=
  ((List.range 8).map (fun i => 8 * faTile a + i)).find? (fun p =>
    let g := s.reg (oPgeom p)
    s.bit (oPgeom p) 31 && decide (bitsOf g 2 0 ≤ faBand a) && decide (faBand a ≤ bitsOf g 6 4) &&
      decide (faCol a = if right then bitsOf g 11 8 else bitsOf g 15 12 + 1))

/-- R86, R87: what sluice `k` of the sluice frame at `a` puts out. -/
def State.sluiceOut (s : State) (a k : Nat) : SluiceOut :=
  let w := sluiceField (s.frame a) k
  if faClass a ≠ 4 ∨ (s.fab (faTile a)).released = false ∨ w / 8 % 2 = 0 then .none
  else match s.sluicePolder a (w / 16 % 2 = 1) with
    | none => .none
    | some p =>
      if w / 4 % 2 = 1 then (if (s.border p).inward then .passes else .held)
      else if (s.border p).out then .passes
      else match w % 4 with
        | 1 => .zero
        | 2 => .one
        | _ => .held

/-- R419: fabric user I/O ball `n` of tile `t`. -/
def State.ball (s : State) (t n : Nat) : BallOut :=
  if (s.fab t).released = false then .highZ
  else match Config.ballSluice t n with
    | none => .image
    | some (a, k) => .sluice (s.sluiceOut a k)

/-- The polder leaves the list of those about to run. -/
def State.unstart (s : State) (p : Nat) : State := { s with pld := { s.pld with starting := s.pld.starting.filter (fun e => e.1 ≠ p) } }

/-- R88: a running polder is held: its outward sluices apply their settings, its window closes, its user reset is asserted. -/
def State.pldHold (s : State) (p : Nat) : State := (s.setPstate p 5).setBorder p { s.border p with out := false, released := false }

/-- R84 step 3, R88: the user reset is released; 16 sluice cycles later the polder runs. -/
def State.pldStart (s : State) (p : Nat) (load : Bool) : State :=
  ({ s with pld := { s.pld with starting := (s.unstart p).pld.starting ++ [(p, load)] } }).setBorder p { s.border p with released := true }

/-- R80 steps 2 and 3: the dike is closed: outward sluices apply their settings, inward sluices freeze, the clocks stop, the reset is
asserted. -/
def State.sealBorder (s : State) (p : Nat) : State :=
  s.setBorder p { s.border p with out := false, inward := false, clocks := false, released := false }

/-- R84 steps 1 and 2: image values, inward sluices follow, the clocks start. -/
def State.openBorder (s : State) (p : Nat) : State :=
  s.setBorder p { s.border p with inward := true, clocks := true, image := (s.border p).image + 1 }

/-- R39: a polder reset: image values; the sluices apply their settings until it is done. -/
def State.pldReset (s : State) (p : Nat) : State := s.setBorder p { s.border p with out := false, image := (s.border p).image + 1 }
def State.pldResetDone (s : State) (p : Nat) : State := s.setBorder p { s.border p with out := decide (s.pstate p = 6) }

/-- R87: a refused access to a closed polder. -/
def State.pldRefuse (s : State) (p addr req : Nat) : State :=
  let s1 := s.count (oIsocnt p) 31 0 1
  if s.pld.isoLogged.contains p then s1
  else { s1 with pld := { s1.pld with isoLogged := s1.pld.isoLogged ++ [p] } }.log (mkRec 0x4001 0x034 addr 1 req)

/-- A write of PLD_CTL (R88). -/
def State.pldCtl (s : State) (p : Nat) (v : Word) : WRes :=
  let run := bitsOf v 0 0 = 1
  let hold := bitsOf v 1 1 = 1
  if run ∧ hold then .rej 0x05
  else if run then
    if s.pstate p ≠ 5 ∨ s.bit (oPldStat p) 6 = true then .rej 0x03 else .ok (s.pldStart p (s.pld.starting.any (fun e => e.1 == p && e.2)))
  else if hold then
    if s.pstate p ≠ 6 then .rej 0x03 else .ok (s.pldHold p)
  else .ok s

/-- The PLD block. -/
def State.pldRegWrite (s : State) (off : Nat) (v : Word) : WRes :=
  if 0x400 ≤ off ∧ off % 0x40 = 0x0C then s.pldCtl ((off - 0x400) / 0x40) v else .ok (s.plainWrite (oPld + off) v)

/-! ## The power of a polder (R78, R89, R90) -/

/-- SYS_PWRPLD reaches ON. -/
def State.pldOn (s : State) (p : Nat) : State :=
  if s.pstate p = 1 then s.setPstate p (if s.pld.retained.contains p then 4 else 2) else s

/-- A declared polder leaves ON; `keep` when its tile stops with RET = 1. -/
def State.pldOff (s : State) (p : Nat) (keep : Bool) : State :=
  let st := s.pstate p
  if st < 2 then s
  else
    let held := keep && decide (3 ≤ st)
    let s1 := ((s.unstart p).setPstate p 1).sealBorder p
    let rest := s1.pld.retained.filter (· ≠ p)
    let s2 := { s1 with pld := { s1.pld with retained := if held then rest ++ [p] else rest } }
    if held then s2 else s2.clearFrames (p / 8) (s.ofPolder p)

/-- R71: a tile leaves ON: its lap is abandoned. -/
def State.scrubAbandon (s : State) (t : Nat) : State :=
  { s with pld := { s.pld with scrub := SMap.set (fun _ => {}) s.pld.scrub t {} } }

/-! ## The scrubber (R91 to R95) -/

def oScrub (t : Nat) : Nat := oPld + 0x100 + 0x20 * t

def State.scrub (s : State) (t : Nat) : ScrubSt := SMap.get (fun _ => {}) s.pld.scrub t
def State.setScrub (s : State) (t : Nat) (x : ScrubSt) : State :=
  { s with pld := { s.pld with scrub := SMap.set (fun _ => {}) s.pld.scrub t x } }

/-- The next valid address of the tile in ascending order. -/
def faNext (a : Nat) : Option Nat :=
  let c := faClass a
  if faMinor a + 1 < minorCount c then some (a + 1)
  else if faCol a + 1 < colCount c then some (a - faMinor a + 2 ^ 10)
  else if c < 5 then some (a - a % 2 ^ 24 + 2 ^ 24)
  else if faBand a < 7 then some (a - a % 2 ^ 27 + 2 ^ 27)
  else none

/-- R92: a frame that the scrubber does not check. -/
def State.scrubSkips (s : State) (a : Nat) : Bool :=
  faClass a = 2 || (faClass a = 0 && (s.frame a).data.getLsbD 3071) ||
    (match s.polderAt a with | some p => !(s.pstate p = 5 || s.pstate p = 6) | none => false)

/-- The first checked frame from `a` on, with the frames skipped on the way; class 2 is passed over whole. -/
def State.scrubSeek (s : State) : Nat → Nat → Nat → Option Nat × Nat
  | 0, _, k => (none, k)
  | n + 1, a, k =>
    if faClass a = 2 then s.scrubSeek n (a - a % 2 ^ 24 + 2 ^ 24) (k + 71 * 192)
    else if s.scrubSkips a then
      (match faNext a with
       | some b => s.scrubSeek n b (k + 1)
       | none => (none, k + 1))
    else (some a, k)

/-- The data bit whose error has the syndrome `x`, counted from the last bit the code takes in. -/
def errorBit (x : Nat) : Nat → Nat → Nat → Option Nat
  | 0, _, _ => none
  | n + 1, k, y => if x = y then some k else errorBit x n (k + 1) (crcBit 16 0x1021 y 0)

/-- R93: the frame with a single-bit error corrected; none when the syndrome is of no single bit. -/
def CFrame.correct (f : CFrame) : Option CFrame :=
  let x := frameCrc f.data ^^^ f.chk.toNat
  match (List.range 16).find? (fun i => x == 2 ^ i) with
  | some i => some { f with chk := f.chk ^^^ BitVec.ofNat 16 (2 ^ i) }
  | none =>
    match errorBit x 3072 0 0x1021 with
    | some k =>
      let j := 3071 - k
      some { f with data := f.data ^^^ BitVec.ofNat 3072 (2 ^ (8 * (j / 8) + (7 - j % 8))) }
    | none => none

/-- A lap ends. -/
def State.scrubLapEnd (s : State) (t k : Nat) : State :=
  let o := oScrub t
  let us := (s.scrub t).us
  let s1 := (((s.setReg o (BitVec.ofNat 32 us)).setReg (o + 4) (BitVec.ofNat 32 (max us (s.reg (o + 4)).toNat))).setReg (o + 0x14)
    (BitVec.ofNat 32 k)).setScrub t {}
  if 80000 < us then s1.log (mkRec 0x4001 0x03B 0 us 0x4001) else s1

/-- R93, R94: what the syndrome of a frame makes the scrubber do. -/
def State.scrubCheck (s : State) (t a : Nat) : State :=
  let f := s.frame a
  if f.good then s
  else match f.correct with
    | some g => ((s.setFrame a g).count (oScrub t + 8) 31 0 1).log (mkRec 0x4001 0x038 a 1 0x4001)
    | none =>
      let s1 := s.count (oScrub t + 12) 31 0 1
      match s.polderAt a with
      | some p => (((s1.setBit (oPldStat p) 6 true).pldHold p).log (mkRec 0x4001 0x039 a 1 0x4001)).emit (.mgmtIrq mgmtLineCfg)
      | none => s1.log (mkRec 0x4001 0x03A a 1 0x4001)

/-- R92: the next frame of tile `t` is checked; the answer names the polder of an uncorrectable frame. -/
def State.scrubStep (s : State) (t : Nat) : State :=
  let x := s.scrub t
  match s.scrubSeek 227328 (x.at_.getD (t * 2 ^ 30)) x.skip with
  | (none, k) => s.scrubLapEnd t k
  | (some a, k) =>
    let s1 := (s.setReg (oScrub t + 0x10) (BitVec.ofNat 32 a)).scrubCheck t a
    match faNext a with
    | none => s1.scrubLapEnd t k
    | some b =>
      match s1.scrubSeek 227328 b k with
      | (none, j) => s1.scrubLapEnd t j
      | (some c, j) => s1.setScrub t { x with at_ := some c, skip := j }

/-- A µs of the laps in progress. -/
def State.scrubUs (s : State) : State :=
  (List.range 4).foldl (fun r t =>
    if r.cfg.done = true ∧ r.isOn (oPwrTile t) = true ∧ r.bit oPld (16 + t) = true ∧ (r.scrub t).at_.isSome = true then
      r.setScrub t { r.scrub t with us := (r.scrub t).us + 1 }
    else r) s

end Sys2Proof.Machine
end

