-- ==== Sys2Proof/Machine/TimSrc.lean ====
section
/-! DEFINITION. What the time lattice makes of its sources (R230, R235, R240 to R243, R245): the model, FFO, the lock states, and the qualification and
selection of sources. -/

namespace Sys2Proof.Machine

def oTim : Nat := 0x500000
def oTimStat : Nat := oTim + 8
def oRtc : Nat := 0xE00000
def oRtcStat : Nat := oRtc + 8

def State.setTim (s : State) (x : TimSt) : State := { s with tim := x }
def State.setRtc (s : State) (x : RtcSt) : State := { s with rtc := x }

def State.timLog (s : State) (code count : Nat) : State := s.log (mkRec 0x4005 code 0 count 0x4005)

/-- TIM_STAT.STATE: 0 FREERUN, 1 FREQLOCK, 2 ACQUIRING, 3 LOCKED, 4 HOLDOVER, 5 EXPIRED. -/
def State.lockState (s : State) : Nat := s.fld oTimStat 31 29
def State.firstLock (s : State) : Bool := s.bit oTimStat 28
def oSrcCfg (i : Nat) : Nat := oTim + 0x80 + 4 * i
def oSrcSt (i : Nat) : Nat := oTim + 0xC0 + 4 * i
def oHoStat : Nat := oTim + 0x108

/-- Units of lattice time in a microsecond. -/
def unitsPerUs : Nat := 65536000

/-- `a / b` rounded to nearest, ties to even. -/
def rneQ (a : Int) (b : Nat) : Int :=
  let q := a / b
  let r := a % b
  if 2 * r < b then q else if (b : Int) < 2 * r then q + 1 else if q % 2 = 0 then q else q + 1

def clampInt (b x : Int) : Int := if x < -b then -b else if b < x then b else x

/-! ## The model (R245) -/

/-- log2 of `x / 2^96` in [1, 2), as `n` binary digits. -/
def log2Digits : Nat → Nat → Nat
  | 0, _ => 0
  | n + 1, x =>
    let y := x * x / 2 ^ 96
    if 2 ^ 97 ≤ y then 2 ^ n + log2Digits n (y / 2) else log2Digits n y

/-- ln (a / b) for a ≥ b > 0, in units of 2^-48, truncated. -/
def lnFix (a b : Nat) : Nat :=
  let k := Nat.log2 (a / b)
  let x := a * 2 ^ 96 / (b * 2 ^ k)
  -- ln 2 = 0xB17217F7D1CF79ABC9E3B398 × 2^-96
  (k * 2 ^ 60 + log2Digits 60 x) * 0xB17217F7D1CF79ABC9E3B398 / 2 ^ 108

/-- y(T, t) in units of 2^-68; T in units of 2^-4 °C, t in s. -/
def State.model (s : State) (temp : Int) (t : Nat) : Int :=
  let c (k : Nat) : Int := toSigned 32 (s.reg (oTim + 0x110 + 4 * k)).toNat
  let d := temp - toSigned 16 (s.fld (oTim + 0x124) 15 0)
  let tau := 3600 * s.fld (oTim + 0x128) 15 0
  c 0 * 2 ^ 24 + c 1 * d * 2 ^ 12 + c 2 * d * d + c 3 * (t : Int) * 2 ^ 4 + rneQ (c 4 * (lnFix (tau + t) tau : Nat)) (2 ^ 28)

/-- Seconds since the model origin. -/
def State.ageAt (s : State) (sec : Nat) : Nat := sec - ((s.reg (oTim + 0x130)).toNat + 2 ^ 32 * (s.reg (oTim + 0x134)).toNat)
def State.modelAge (s : State) : Nat := s.ageAt (timeSec s.now)

/-- R247: T clamped to the learned range ± 2 °C. -/
def State.clampTemp (s : State) (t : Int) : Int :=
  let lo := toSigned 16 (s.fld (oTim + 0x12C) 31 16) - 32
  let hi := toSigned 16 (s.fld (oTim + 0x12C) 15 0) + 32
  if t < lo then lo else if hi < t then hi else t

/-! ## FFO (R230) -/

/-- 200 ppm in units of 2^-44. -/
def ffoMax : Int := 3518437208

def State.setFfo (s : State) (x : Int) : State :=
  let y := clampInt ffoMax x
  (s.setTim { s.tim with ffo := y }).setReg (oTim + 0x44) (BitVec.ofNat 32 (ofSigned 32 (y / 4)))

/-- R243: a phase error `e` (in units of 2^-16 ns) in the proportional-integral loop of LOOPBW: FFO moves towards the loop's output, by at most
SLEWMAX ppb. -/
def State.slew (s : State) (e : Int) : State :=
  let (kp, ki) := Config.loopGains (s.fld oTim 2 0)
  let i := s.tim.integ + ki * e
  let top : Int := (s.fld (oTim + 0x38) 31 16 * 2 ^ 44 / 1000000000 : Nat)
  (s.setTim { s.tim with integ := i }).setFfo (s.tim.ffo + clampInt top (rneQ (i + kp * e) (2 ^ 32) - s.tim.ffo))

/-- Mean of FFO over the last 300 s. -/
def State.meanFfo (s : State) : Int := if s.tim.hist = [] then s.tim.ffo else s.tim.hist.sum / (s.tim.hist.length : Int)

/-- HOSTAT.VALID. -/
def State.modelValid (s : State) : Bool := s.bit oHoStat 31

/-- FFO by the model's prediction. -/
def State.modelFfo (s : State) : State := s.setFfo (rneQ (s.model (s.clampTemp s.tim.temp) s.modelAge) (2 ^ 24))

/-! ## Lock states (R242) -/

/-- A change of STATE. -/
def State.lockTo (s : State) (n : Nat) : State :=
  let o := s.lockState
  if o = n then s
  else
    let s0 := s.setTim { s.tim with lockedSec := 0, integ := if n = 2 then s.tim.ffo * 2 ^ 32 else s.tim.integ }
    let s1 := (s0.setFld oTimStat 31 29 n).timLog 0x070 (o * 256 + n)
    match n with
    | 0 => if s.modelValid then s1.modelFfo else s1.setFfo 0
    | 4 =>
      let s2 := s1.setTim { s1.tim with fe := s.meanFfo, ye := s.model (s.clampTemp s.tim.temp) s.modelAge }
      let fr := s.fld oTimStat 7 4
      let aid : Bool := fr = 3 || fr = 4
      ((s2.setReg (oTim + 0x10C) 0).setBit oTimStat 25 aid).setBit oTimStat 24 (aid || s.modelValid)
    | _ => s1

def State.srcEn (s : State) (i : Nat) : Bool := s.bit (oSrcCfg i) 31
/-- SSTATE: 0 DISABLED, 1 UNQUALIFIED, 2 QUALIFIED, 3 FAILED. -/
def State.srcState (s : State) (i : Nat) : Nat := s.fld (oSrcSt i) 31 29
def State.srcPrio (s : State) (i : Nat) : Nat := s.fld (oSrcCfg i) 30 28
def State.srcGood (s : State) (i : Nat) : Bool := s.srcEn i && s.srcState i = 2

/-- R241: the QUALIFIED source of highest PRIO; equal PRIO goes to the lower index. -/
def State.bestSource (s : State) (l : List Nat) : Option Nat :=
  l.foldl (fun b i =>
    match b with
    | none => if s.srcGood i then some i else none
    | some j => if s.srcGood i && decide (s.srcPrio j < s.srcPrio i) then some i else some j) none

/-- R241: the selection among `l`, given the current source. -/
def State.pick (s : State) (l : List Nat) (cur : Nat) : Option Nat :=
  match s.bestSource l with
  | none => none
  | some b =>
    if l.contains cur = true ∧ s.srcGood cur = true then
      (if s.bit oTim 30 = true ∧ s.srcPrio cur < s.srcPrio b then some b else some cur)
    else some b

/-- R241, R242: the selection is made, and STATE follows. -/
def State.select (s : State) : State :=
  let old := s.fld oTimStat 15 12
  let ph := if s.bit oTim 29 then none else s.pick [0, 1, 2] old
  let fr := match s.pick [3, 4] (s.fld oTimStat 7 4) with | some i => some i | none => ph
  let lost := !(old < 3 && s.srcGood old) || s.bit oTim 29
  let s1 := (s.setFld oTimStat 15 12 (ph.getD 15)).setFld oTimStat 7 4 (fr.getD 15)
  let n := match s.lockState, ph with
    | 0, some _ => 2
    | 0, none => if fr.isSome then 1 else 0
    | 1, some _ => 2
    | 1, none => if fr.isSome then 1 else 0
    | 2, some _ => 2
    | 2, none => if s.firstLock then 4 else if fr.isSome then 1 else 0
    | 3, some _ => if lost then 2 else 3
    | 3, none => 4
    | _, some _ => 2
    | n, none => n
  s1.lockTo n

/-! ## Sources (R235 to R240) -/

/-- A source that a loss condition can disqualify. -/
def State.losable (s : State) (i : Nat) : Bool := s.srcEn i && (decide (s.srcState i = 1) || decide (s.srcState i = 2))

/-- R240: a source is FAILED; the selection is not made yet. After 5 s without an ESMC PDU its QL reads QL-FAILED (R238). -/
def State.sourceFails (s : State) (i reason : Nat) : State :=
  let s1 := ((s.setFld (oSrcSt i) 31 29 3).setFld (oSrcSt i) 27 24 reason).timLog 0x071 (i * 256 + reason)
  if reason = 5 then s1.setFld (oSrcSt i) 23 20 Config.qlFailed.toNat else s1

/-- R240, R241: loss conditions of one TIM cycle (source, reason) disqualify their sources, and then the selection is made. -/
def State.disqualifyAll (s : State) (l : List (Nat × Nat)) : State :=
  let m := l.filter (fun x => s.losable x.1)
  if m = [] then s else (m.foldl (fun (r : State) x => r.sourceFails x.1 x.2) s).select

/-- R240: a loss condition disqualifies a source. -/
def State.disqualify (s : State) (i reason : Nat) : State := s.disqualifyAll [(i, reason)]

/-- R235: lane `l` no longer receives, or is OFF. -/
def State.laneLost (s : State) (l : Nat) : State :=
  s.disqualifyAll (([3, 4].filter (fun i => s.fld (oSrcCfg i) 5 0 = l)).map (fun i => (i, 7)))

/-- R260: the sources on lanes of the tile, or on every lane, are disqualified with reason 7. -/
def State.laneSources (s : State) (t : Option Nat) : State :=
  s.disqualifyAll (([3, 4].filter (fun i => decide (t = none) || decide (t = some (s.fld (oSrcCfg i) 5 0 / 12)))).map (fun i => (i, 7)))

def State.nightSources (s : State) : State := s.disqualifyAll [(1, 7), (2, 7), (3, 7), (4, 7)]

/-- A good measurement brings a FAILED source back to UNQUALIFIED. -/
def State.goodMeasure (s : State) (i : Nat) : State := if s.srcState i = 3 then s.setFld (oSrcSt i) 31 29 1 else s

def State.srcError (s : State) (i : Nat) : State := s.count (oSrcSt i) 15 0 1

end Sys2Proof.Machine
end

