-- ==== Sys2Proof/Machine/Ser.lean ====
section
/-! DEFINITION. Serial lanes, Ethernet ports and the chain port's sides (R275 to R285, R290 to R292), with their registers. -/

namespace Sys2Proof.Machine

def oSer (l : Nat) : Nat := 0xB00000 + 0x1000 * l
def oPcfg (l : Nat) : Nat := oSer l + 0x100
def oPstatSer (l : Nat) : Nat := oSer l + 0x104

def State.port (s : State) (l : Nat) : PortSt := SMap.get (fun _ => {}) s.ser.ports l
def State.setPort (s : State) (l : Nat) (x : PortSt) : State :=
  { s with ser := { s.ser with ports := SMap.set (fun _ => {}) s.ser.ports l x } }

/-- The requester ID a lane's records carry; the chain port is the configuration controller's (word 0). -/
def laneSrc (l : Nat) : Nat := if l < 48 then laneReq l else 0x4001

/-! ## Ports (R281) -/

/-- Lanes of a port by its WIDTH code. -/
def portWidth (w : Nat) : Nat := 2 ^ bitsOf (BitVec.ofNat 32 w) 30 28

def State.portLanes (s : State) (l : Nat) : List Nat := (List.range (portWidth (s.reg (oPcfg l)).toNat)).map (fun i => l + i)

def State.portEn (s : State) (l : Nat) : Bool := s.bit (oPcfg l) 31

/-- The first lane of the enabled port that holds a lane. -/
def State.portOf (s : State) (l : Nat) : Option Nat :=
  ((List.range 12).map (fun i => l / 12 * 12 + i)).find? (fun f => s.portEn f && (s.portLanes f).contains l)

def State.link (s : State) (l : Nat) : Bool := s.bit (oPstatSer l) 31

/-- LINK and LF follow the port's lanes. -/
def State.relink (s : State) (l : Nat) : State :=
  match s.portOf l with
  | none => s
  | some f =>
    let up := (s.portLanes f).all (fun k => (s.lane k).st = 3)
    (s.setBit (oPstatSer f) 31 up).setBit (oPstatSer f) 29 (!up)

/-! ## Lane states (R277) -/

/-- A lane changes its state. -/
def State.laneTo (s : State) (l : Nat) (x : LaneSt) : State :=
  let s1 := s.setLane l x
  if l < 48 then s1.relink l
  else
    { s1 with ser := { s1.ser with upUp := s1.ser.upUp || s1.sideUp false, downUp := s1.ser.downUp || s1.sideUp true } }.chainPump 16

def State.adaptFld (s : State) (l hi lo : Nat) : Nat :=
  if l < 48 then s.fld (oSer l + 0xC) hi lo else bitsOf (0x004001F4 : Word) hi lo

def State.laneCount (s : State) (l hi lo : Nat) : State := if l < 48 then s.count (oSer l + 0x14) hi lo 1 else s

/-- A SEEKING lane locks its clock. -/
def State.cdrLocked (s : State) (l : Nat) : State :=
  let x := s.lane l
  if x.st = 1 then s.laneTo l { x with st := 2 } else s

/-- A TRAINING lane reaches block lock with a sufficient figure of merit. -/
def State.blockLocked (s : State) (l fom : Nat) : State :=
  let x := s.lane l
  if x.st = 2 then
    (if s.adaptFld l 23 16 ≤ fom then s.laneTo l { st := 3, fom := fom, b := 1, fails := 0 } else s.setLane l { x with fom := fom })
  else s

/-- The next B. -/
def backoff (x : LaneSt) : Nat := if x.fails = 0 then 1 else min 1000 (2 * x.b)

/-- TRAINING fails. -/
def State.trainFailed (s : State) (l : Nat) : State :=
  let x := s.lane l
  if x.st = 2 then
    let n := x.fails + 1
    ((s.laneTo l { x with st := 4, b := backoff x, fails := n }).laneCount l 31 16).log (mkRec (laneSrc l) 0x091 0 n (laneSrc l))
  else s

def State.backoffOver (s : State) (l : Nat) : State :=
  let x := s.lane l
  if x.st = 4 then s.laneTo l { x with st := 1 } else s

/-- A lane leaves UP; the cause is 1 = signal lost, 2 = block lock lost. -/
def State.laneDown (s : State) (l cause : Nat) : State :=
  let x := s.lane l
  if x.st = 3 then
    (((s.laneTo l { x with st := 1 }).laneCount l 15 0).log (mkRec (laneSrc l) 0x090 0 cause (laneSrc l))).laneLost l
  else s

/-- R279: the figure of merit is low for 1 s. -/
def State.fomIsLow (s : State) (l fom : Nat) : State :=
  let x := s.lane l
  if x.st = 3 ∧ fom < s.adaptFld l 23 16 then
    (s.setLane l { x with fom := fom }).log (mkRec (laneSrc l) 0x092 0 fom (laneSrc l))
  else s

/-- A lane reaches ON, and leaves it. -/
def State.laneOn (s : State) (l : Nat) : State := s.laneTo l { s.lane l with st := 1 }
def State.laneOff (s : State) (l : Nat) : State := (s.laneTo l { b := 1 }).laneLost l

/-- A tile reset retrains the lanes that are ON. -/
def State.laneRetrain (s : State) (l : Nat) : State :=
  if (s.lane l).st = 0 then s else s.laneTo l { b := 1, st := 1 }

/-! ## Reception (R283, R284) -/

/-- The stamp with its correction for board asymmetry, in units of 2^-8 ns. -/
def stampAdd (t corr : Nat) : Nat := ((t : Int) + toSigned 16 corr * 256).toNat

/-- Bytes of a port's frames that wait. -/
def State.rxHeld (s : State) (l : Nat) (prio : Option Nat) : Nat :=
  (((s.cls (l / 12)).q.filter (fun x => x.lane = l ∧ (prio = none ∨ prio = some (framePrio x.bytes)))).map (fun x => x.bytes.length + 4)).sum

/-- SER_LPBK.MODE of each lane of the port at `l` (R280). -/
def State.lpModes (s : State) (l : Nat) : List Nat := (s.portLanes l).map (fun k => s.fld (oSer k + 0x10) 1 0)

/-- R280: a near-end loopback on every lane: the port receives what it sends, and nothing from the balls. -/
def State.looped (s : State) (l : Nat) : Bool := (s.lpModes l).all (fun m => m == 1 || m == 2)

/-- R280: the transmit balls of every lane carry what the port sends. -/
def State.ballsOwn (s : State) (l : Nat) : Bool := (s.lpModes l).all (fun m => m == 0 || m == 2)

/-- R290: a received pause names the queues it stops. -/
def State.pauseRx (s : State) (l p : Nat) : State :=
  if s.portEn l = true ∧ s.link l = true then (s.setFld (oPstatSer l) 7 0 p).count (oSer l + 0x148) 31 16 1 else s

/-- The port sends a pause frame for the queues of `m`; in a near-end loopback it receives it. -/
def State.pauseTx (s : State) (l m : Nat) (xoff : Bool) : State :=
  let s1 := s.count (oSer l + 0x148) 15 0 1
  let s2 := if s1.ballsOwn l then s1.emit (.pauseOut l m xoff) else s1
  let q := if m = 256 then 255 else m
  let old := s2.fld (oPstatSer l) 7 0
  if s2.looped l then s2.pauseRx l (if xoff then old ||| q else old &&& (255 - q)) else s2

/-- R283: pause frames follow the occupancy of the buffer. -/
def State.flowControl (s : State) (l : Nat) : State :=
  let o := oSer l + 0x10C
  let xoff := 1024 * s.fld o 15 8
  let xon := 1024 * s.fld o 7 0
  let one (r : State) (k n : Nat) : State :=
    let p := r.port l
    if xoff < n ∧ !p.xoff.testBit k then (r.setPort l { p with xoff := p.xoff ||| 2 ^ k }).pauseTx l (2 ^ k) true
    else if n < xon ∧ p.xoff.testBit k = true then (r.setPort l { p with xoff := p.xoff ^^^ 2 ^ k }).pauseTx l (2 ^ k) false
    else r
  if s.bit o 23 then one s 8 (s.rxHeld l none)
  else (List.range 8).foldl (fun r k => if r.bit o (24 + k) then one r k (r.rxHeld l (some k)) else r) s

/-- R283: a frame whose first bit crosses at `time` reaches the port whose first lane is `l`. -/
def State.portRx (s : State) (l : Nat) (bytes : List Byte) (pcsError : Bool) (time : Nat) : State :=
  if s.portEn l = true ∧ s.link l = true then
    let n := bytes.length
    let body := bytes.take (n - 4)
    let fcs := ofBytesLE (bytes.drop (n - 4))
    if pcsError = true ∨ n < 64 ∨ s.fld (oPcfg l) 15 0 < n ∨ fcs ≠ crc32 body then s.count (oSer l + 0x138) 31 0 1
    else
      let prio := framePrio body
      let cap := 65536 * portWidth (s.reg (oPcfg l)).toNat
      if cap < s.rxHeld l none + n ∧ s.bit (oSer l + 0x10C) (24 + prio) = false then s.count (oSer l + 0x13C) 31 0 1
      else
        let t := l / 12
        let stamp := stampAdd time (s.fld (oSer l + 0x108) 15 0)
        let y := s.cls t
        let s1 := (s.count (oSer l + 0x130) 31 0 1).setCls t { y with q := y.q ++ [⟨l, stamp, body⟩] }
        (s1.clsRun t).flowControl l
  else s

/-- R280: a frame from the balls reaches the port when no lane is in loopback; in far-end loopback it goes back out of the balls. -/
def State.rxFrame (s : State) (l : Nat) (f : RxFrame) : State :=
  let ms := s.lpModes l
  if ms.all (fun m => m == 0) then s.portRx l f.bytes f.pcsError (timeOf f.sec.toNat f.ns.toNat f.frac.toNat)
  else if ms.all (fun m => m == 3) = true ∧ (s.lane l).st = 3 then s.emit (.frameOut l f.bytes)
  else s

/-! ## Transmission (R290) -/

def PortSt.queue (p : PortSt) (k : Nat) : List TxFrame := SMap.get (fun _ => []) p.queues k
def PortSt.setQueue (p : PortSt) (k : Nat) (l : List TxFrame) : PortSt := { p with queues := SMap.set (fun _ => []) p.queues k l }

/-- The lowest-numbered VALID rule of a tile that unpacks: its word 2. -/
def State.unpackRule (s : State) (t : Nat) : Option Word :=
  (List.range 256).findSome? (fun r =>
    if s.bit (oRule t r) 31 = true ∧ s.fld (oRule t r + 8) 25 24 ≠ 0 then some (s.reg (oRule t r + 8)) else none)

/-- The next read of a frame's buffer: whole 16-byte words. -/
def State.laneFetch (s : State) (l : Nat) (x : TxFrame) : State :=
  let a := x.addr / 16 * 16 + x.raw.length
  let need := (x.addr % 16 + x.len + 15) / 16 * 16
  let left := if x.raw.length < need then need - x.raw.length else 256
  let len := if x.pack then 0 else pieceLen a left
  s.issueRd (laneReq l) 0 0 a len (.laneFetch l x.prio x.id)

/-- Bytes of the 32 KiB transmit buffer that frames take: those that are read, and those that are being read. -/
def PortSt.buffered (p : PortSt) : Nat :=
  ((List.range 8).map (fun k => match (p.queue k).head? with
    | some x => if x.reading || x.frame.isSome then x.len else 0
    | none => 0)).sum

/-- The head of a queue begins to be read, where no pause stops the queue and the transmit buffer has room for the frame. -/
def State.fetchHead (s : State) (l k : Nat) : State :=
  let p := s.port l
  match p.queue k with
  | x :: rest =>
    if x.reading ∨ x.frame.isSome = true ∨ s.bit (oPstatSer l) k = true ∨ 32768 < p.buffered + x.len then s
    else (s.setPort l (p.setQueue k ({ x with reading := true } :: rest))).laneFetch l { x with reading := true }
  | [] => s

/-- The frame of a queue that a pause stops gives its place up, to be read again. -/
def State.giveUp (s : State) (l k : Nat) : State :=
  let p := s.port l
  match p.queue k with
  | x :: rest =>
    if s.bit (oPstatSer l) k = true ∧ x.frame.isSome = true then s.setPort l (p.setQueue k ({ x with raw := [], frame := none } :: rest)) else s
  | [] => s

/-- The transmit buffer is filled, the highest queue first. -/
def State.fetchHeads (s : State) (l : Nat) : State :=
  let s1 := (List.range 8).foldl (fun (r : State) k => r.giveUp l k) s
  [7, 6, 5, 4, 3, 2, 1, 0].foldl (fun (r : State) k => r.fetchHead l k) s1

/-- R290: a post that is refused, or queued; none while its queue is full. -/
def State.serPost (s : State) (l req : Nat) (whole : Bool) (d : Quad) : PostOut :=
  let len := bitsOf d 63 48
  let prio := bitsOf d 66 64
  let ts := bitsOf d 68 67
  let pack := bitsOf d 69 69 = 1
  let tsoff := bitsOf d 95 80
  let bad := whole = false ∨ s.portEn l = false ∨ bitsOf d 71 70 ≠ 0 ∨ bitsOf d 79 72 ≠ 0 ∨ bitsOf d 127 112 ≠ 0 ∨ len < 60 ∨ 9596 < len ∨ ts = 3
    ∨ (ts = 2 ∧ len < tsoff + 10) ∨ (pack ∧ (s.unpackRule (l / 12)).isNone = true)
  if bad then .refused (s.log (mkRec (laneReq l) 0x093 0 1 req))
  else
    let p := s.port l
    if 16 ≤ (p.queue prio).length then .waits
    else
      let x : TxFrame := { id := p.nextId, addr := bitsOf d 47 0, len := len, prio := prio, tsmode := ts, pack := pack, tsoff := tsoff,
                           tsid := bitsOf d 111 96 }
      .taken ((s.setPort l { p.setQueue prio (p.queue prio ++ [x]) with nextId := p.nextId + 1 }).fetchHead l prio)

/-! ### Packing (R289) -/

/-- The `24` mantissas of a PRB packed to IQW bits, with the saturations. -/
def packPrb (fmt iqw : Nat) (l : List Byte) : List Byte × Nat :=
  let w0 := BitVec.ofNat 128 (ofBytesLE (l.take 16))
  let w1 := BitVec.ofNat 128 (ofBytesLE (l.drop 16))
  let k := if fmt = 4 then 12 else 14
  let xs := (bVals fmt w0).take k ++ (bVals fmt w1).take (24 - k)
  let bound := 2 ^ (iqw - 1) - 1
  let (e, ms, _) := norm bound xs 0
  let clips := (xs.filter (fun x => decide (bound < (rne x e).natAbs))).length
  let n := ms.foldl (fun a m => a * 2 ^ iqw + ofSigned iqw m) 0
  (BitVec.ofNat 8 e :: (bytesLE (3 * iqw) n).reverse, clips)

def packPrbs (fmt iqw : Nat) : Nat → List Byte → List Byte × Nat
  | 0, _ => ([], 0)
  | n + 1, l =>
    let (a, c) := packPrb fmt iqw (l.take 32)
    let (b, d) := packPrbs fmt iqw n (l.drop 32)
    (a ++ b, c + d)

/-- The sections of a buffer laid out as R289 does, until `left` bytes of the frame are made; none while the buffer is too short. -/
def packSections (fmt iqw : Nat) (chdr : Bool) : Nat → Nat → List Byte → Option (List Byte × Nat)
  | 0, _, _ => none
  | fuel + 1, left, l =>
    if left = 0 then some ([], 0)
    else
      let h := if chdr then 6 else 4
      let n := byteAt l 3
      if l.length < 16 ∨ l.length < 16 + 32 * n then none
      else
        let (d, c) := packPrbs fmt iqw n (l.drop 16)
        let out := l.take h ++ d
        if left < out.length then some (out.take left, c)
        else (packSections fmt iqw chdr fuel (left - out.length) (l.drop (16 + 32 * n))).map (fun r => (out ++ r.1, c + r.2))

/-- The frame of `len` bytes that a buffer makes. -/
def packFrame (w2 : Word) (len : Nat) (l : List Byte) : Option (List Byte × Nat) :=
  match msgKind l 0 with
  | .ecpri _ a =>
    let h := a + 12
    if l.length < (h + 15) / 16 * 16 then none
    else
      (packSections (if bitsOf w2 25 24 = 1 then 4 else 5) (bitsOf w2 23 20) (bitsOf w2 19 19 = 1) 4096 (len - h)
        (l.drop ((h + 15) / 16 * 16))).map (fun r => (l.take h ++ r.1, r.2))
  | _ => none

/-- What the bytes read make of a post: the frame once it is whole. -/
def State.wholeFrame (s : State) (l : Nat) (x : TxFrame) : Option (List Byte × Nat) :=
  let d := x.raw.drop (x.addr % 16)
  if x.pack then
    match s.unpackRule (l / 12) with
    | some w2 => packFrame w2 x.len d
    | none => none
  else if x.len ≤ d.length then some (d.take x.len, 0) else none

/-- A frame that ends unsent (R290). -/
def State.txAbort (s : State) (l : Nat) (x : TxFrame) : State :=
  let p := s.port l
  ((s.setPort l (p.setQueue x.prio ((p.queue x.prio).filter (fun y => y.id ≠ x.id)))).log
    (mkRec (laneReq l) 0x094 x.addr 1 (laneReq l))).fetchHeads l

/-- A read of a frame buffer is answered. A packed frame that has not come out whole after eight times its length ends in error. -/
def State.laneData (s : State) (l k id : Nat) (ok : Bool) (data : List Byte) : State :=
  let p := s.port l
  match (p.queue k).find? (fun y => y.id == id && y.reading) with
  | none => s
  | some x =>
    if ok = false then s.txAbort l x
    else
      let x1 := { x with raw := x.raw ++ data }
      let put (y : TxFrame) : State := s.setPort l (p.setQueue k ((p.queue k).map (fun z => if z.id = id then y else z)))
      match s.wholeFrame l x1 with
      | some f => put { x1 with frame := some f, reading := false }
      | none => if 8 * x.len + 256 < x1.raw.length then (put x1).txAbort l x1 else (put x1).laneFetch l x1

/-- The highest queue that no pause stops and whose head has its place in the transmit buffer. -/
def State.txQueue (s : State) (l : Nat) : Option Nat :=
  [7, 6, 5, 4, 3, 2, 1, 0].find? (fun k =>
    (match ((s.port l).queue k).head? with | some x => x.reading || x.frame.isSome | none => false) && !s.bit (oPstatSer l) k)

/-- The bytes of `l` with `d` at byte `i`. -/
def patchBytes (l : List Byte) (i : Nat) (d : List Byte) : List Byte := l.take i ++ d ++ l.drop (i + d.length)

/-- R285, R290: the frame at the head of the chosen queue is sent at time `t`; without a link the heads are discarded. -/
def State.txSend (s : State) (l t : Nat) : State :=
  let p := s.port l
  if s.portEn l = false then s
  else if s.link l = false then
    (List.range 8).foldl (fun r k =>
      match (r.port l).queue k with
      | _ :: rest => (r.setPort l ((r.port l).setQueue k rest)).count (oSer l + 0x14C) 31 0 1
      | [] => r) s |>.fetchHeads l
  else
    match s.txQueue l with
    | none => s.fetchHeads l
    | some k =>
      match p.queue k with
      | [] => s
      | x :: rest =>
        match x.frame with
        | none => s
        | some (f, clips) =>
         let (s, bad) := s.sramTake (laneReq l) 0x10000 ((f.length + 7) / 8)
         if bad then s.txAbort l x
         else
          let stamp := stampAdd t (s.fld (oSer l + 0x108) 31 16)
          let f1 := if x.tsmode = 2 then
              patchBytes f x.tsoff ((bytesLE 6 (timeSec stamp)).reverse ++ (bytesLE 4 (timeNs stamp)).reverse)
            else f
          let s1 := ((s.setPort l (p.setQueue k rest)).count (oSer l + 0x134) 31 0 1).count (oSer l + 0x150) 31 0 clips
          let s2 :=
            if x.tsmode = 1 then
              let q := s1.port l
              if 16 ≤ q.stamps.length then s1.log (mkRec (laneReq l) 0x097 0 1 (laneReq l))
              else s1.setPort l { q with stamps := q.stamps ++ [(x.tsid, stamp)] }
            else s1
          let whole := f1 ++ bytesLE 4 (crc32 f1)
          let s3 := if s2.ballsOwn l then s2.emit (.frameOut l whole) else s2
          (if s3.looped l then s3.portRx l whole false t else s3).fetchHeads l

/-! ## Port registers -/

/-- The rows of "Ethernet configurations": SPEED, lanes, RATE, MOD, allowed FEC, and the port speed in Gb/s. -/
def portRows : List (Nat × Nat × Nat × Nat × List Nat × Nat) :=
  [(0, 1, 1031250, 0, [0, 1], 10), (1, 1, 2578125, 0, [0, 1, 2], 25), (2, 4, 1031250, 0, [0, 1], 40), (3, 1, 5312500, 1, [3], 50),
   (4, 4, 2578125, 0, [0, 2], 100), (4, 2, 5312500, 1, [3], 100), (4, 1, 10625000, 1, [3], 100), (5, 4, 5312500, 1, [3], 200)] ++
  [(5, 2, 10625000, 1, [3], 200), (6, 8, 5312500, 1, [3], 400), (6, 4, 10625000, 1, [3], 400)]

/-- The row a configuration matches, with the lanes' rates. -/
def State.portRow (s : State) (l : Nat) (v : Word) : Option Nat :=
  portRows.findSome? (fun (sp, w, rate, m, fec, gb) =>
    if sp = bitsOf v 27 24 ∧ w = portWidth v.toNat ∧ fec.contains (bitsOf v 23 22) = true
        ∧ (List.range w).all (fun i => s.fld (oSer (l + i)) 23 0 = rate && s.fld (oSer (l + i)) 25 24 = m) = true then some gb
    else none)

/-- Gb/s of the enabled ports of a tile. -/
def State.tileGb (s : State) (t : Nat) : Nat :=
  ((List.range 12).map (fun i => if s.portEn (12 * t + i) then (s.portRow (12 * t + i) (s.reg (oPcfg (12 * t + i)))).getD 0 else 0)).sum

/-- R281: the first condition that rejects EN = 1. -/
def State.portEnableCode (s : State) (l : Nat) (v : Word) : Option Nat :=
  let w := portWidth v.toNat
  let ls := (List.range w).map (fun i => l + i)
  if l % 12 % w ≠ 0 ∨ 12 < l % 12 + w then some 0x05
  else match s.portRow l v with
    | none => some 0x05
    | some gb =>
      if 400 < s.tileGb (l / 12) + gb then some 0x05
      else if ls.any (fun k => !s.isOn (oPwrLane k) || (s.portOf k).isSome) then some 0x03
      else none

/-- R291: the port stops. -/
def State.portStop (s : State) (l : Nat) : State :=
  let p := s.port l
  let n := ((List.range 8).map (fun k => (p.queue k).length)).sum
  let t := l / 12
  let y := s.cls t
  (((s.setPort l { stamps := p.stamps, nextId := p.nextId }).setCls t { y with q := y.q.filter (fun x => x.lane ≠ l) }).count
    (oSer l + 0x14C) 31 0 n).setReg (oPstatSer l) 0

/-- A write of SER_PCFG. -/
def State.pcfgWrite (s : State) (l : Nat) (v : Word) : WRes :=
  let o := oPcfg l
  if s.portEn l then
    if v &&& 0x7FC0FFFF ≠ s.reg o &&& 0x7FC0FFFF then .rej 0x03
    else if bitsOf v 31 31 = 1 then .ok s
    else .ok ((s.portStop l).setBit o 31 false)
  else if bitsOf v 31 31 = 1 then
    match s.portEnableCode l v with
    | some c => .rej c
    | none => .ok ((s.plainWrite o v).relink l)
  else .ok (s.plainWrite o v)

/-- R275: a write of SER_CFG. -/
def State.serCfgWrite (s : State) (l : Nat) (v : Word) : WRes :=
  let rate := bitsOf v 23 0
  let pam := bitsOf v 25 24 = 1
  if s.pwr (oPwrLane l) ≠ 0 then .rej 0x03
  else if (pam ∧ (rate < 5300000 ∨ 11200000 < rate)) ∨ (¬pam ∧ (rate < 125000 ∨ 5600000 < rate)) then .rej 0x05
  else if bitsOf v 28 28 = 1 ∧ (s.portOf l).isSome = true then .rej 0x03
  else .ok (s.plainWrite (oSer l) v)

/-- R283: a write of SER_PFC. -/
def State.pfcWrite (s : State) (l : Nat) (v : Word) : WRes :=
  if (bitsOf v 23 23 = 1 ∧ bitsOf v 31 24 ≠ 0) ∨ bitsOf v 15 8 ≤ bitsOf v 7 0 then .rej 0x05
  else .ok ((s.plainWrite (oSer l + 0x10C) v).flowControl l)

/-- A port register of a lane that is not its port's first (R281). -/
def State.notFirst (s : State) (l : Nat) : Bool :=
  match s.portOf l with | some f => decide (f ≠ l) | none => false

/-- The SER block; SER_TXPOST apart. -/
def State.serRegWrite (s : State) (l off : Nat) (v : Word) : WRes :=
  let o := oSer l + off
  if 0x100 ≤ off ∧ s.notFirst l = true then .rej 0x03
  else match off with
    | 0x000 => s.serCfgWrite l v
    | 0x010 =>
      if bitsOf v 1 0 ≠ s.fld o 1 0 ∧ ((s.portOf l).isSome = true ∨ (s.lane l).st = 2) then .rej 0x03 else .ok (s.plainWrite o v)
    | 0x100 => s.pcfgWrite l v
    | 0x10C => s.pfcWrite l v
    | _ => .ok (s.plainWrite o v)

/-- The SER block as it reads. -/
def State.serRegRead (s : State) (l off : Nat) : Word :=
  if 0x100 ≤ off ∧ s.notFirst l = true then 0
  else match off with
    | 0x008 =>
      let x := s.lane l
      BitVec.ofNat 32 (x.st * 2 ^ 29 + x.fom * 2 ^ 16 + x.b)
    | 0x120 => match (s.port l).stamps with
      | (id, _) :: _ => BitVec.ofNat 32 (2 ^ 31 + id)
      | [] => 0
    | _ => s.reg (oSer l + off)

/-- R285: a read of SER_TXTS pops the oldest stamp into the snapshot. -/
def State.popStamp (s : State) (l : Nat) : State :=
  let p := s.port l
  match p.stamps with
  | [] => s
  | (_, t) :: rest =>
    let o := oSer l
    (((s.setPort l { p with stamps := rest }).setReg (o + 0x124) (BitVec.ofNat 32 (timeNs t))).setReg (o + 0x128)
      (BitVec.ofNat 32 (timeSec t))).setReg (o + 0x12C) (BitVec.ofNat 32 (timeFrac t * 65536 + timeSec t / 2 ^ 32 % 65536))

/-! ## Classifier registers -/

/-- The registers of the classifier at SYS offset `off`. -/
def State.clsRegWrite (s : State) (off : Nat) (v : Word) : WRes :=
  let t := (off - 0xC0000) / 0x4000
  let k := off % 0x4000
  if k = 0 then (if bitsOf v 27 24 = 15 then .rej 0x03 else .ok ((s.plainWrite off v).clsRun t))
  else if 0x100 ≤ k ∧ k < 0x200 ∧ k % 16 = 8 then
    (if s.bit off 31 = true ∧ v &&& 0x003F1FFF ≠ s.reg off &&& 0x003F1FFF then .rej 0x03 else .ok (s.plainWrite off v))
  else if 0x1000 ≤ k ∧ k % 16 = 8 then
    (let un := bitsOf v 25 24
     let iqw := bitsOf v 23 20
     if (un = 1 ∧ (iqw = 0 ∨ 10 < iqw)) ∨ (un = 2 ∧ (iqw = 0 ∨ 8 < iqw)) then .rej 0x05 else .ok (s.plainWrite off v))
  else .ok (s.plainWrite off v)

/-- SYS_CLSRING commits as a pair. -/
def State.ringCommit (s : State) (off : Nat) (lo hi : Word) : WRes :=
  if lo.toNat % 256 ≠ 0 then .rej 0x01
  else if s.bit (off + 8) 31 then .rej 0x03
  else .ok ((s.setReg off lo).setReg (off + 4) hi)

/-! ## The chain port's sides (R292) -/

def oChctl : Nat := 0xB0000
def oChcnt : Nat := 0xB0008

/-- SYS_STRAP.MODE. -/
def State.bootMode (s : State) : Nat := s.fld 0x390 2 0

/-- The four lanes of a side start or stop. -/
def State.sideSet (s : State) (down en : Bool) : State :=
  let s1 := (List.range 4).foldl (fun r i =>
    let l := (if down then 52 else 48) + i
    if en then (if (r.lane l).st = 0 then r.setLane l { r.lane l with st := 1 } else r) else r.setLane l {}) s
  if en then s1
  else if down then { s1 with ser := { s1.ser with downUp := false } }
  else { s1 with ser := { s1.ser with upUp := false } }

/-- A write of SYS_CHCTL. -/
def State.chctlWrite (s : State) (v : Word) : WRes :=
  if s.bootMode = 0 ∧ bitsOf v 1 0 ≠ 0 then .rej 0x03
  else
    let s1 := s.plainWrite oChctl v
    .ok ((s1.sideSet false (bitsOf v 0 0 = 1)).sideSet true (bitsOf v 1 1 = 1))

/-- A side goes down. -/
def State.sideDown (s : State) (down : Bool) : State :=
  let up := if down then s.ser.downUp else s.ser.upUp
  if up then
    let s1 := (List.range 4).foldl (fun r i =>
      let l := (if down then 52 else 48) + i
      if (r.lane l).st = 3 then r.setLane l { r.lane l with st := 1 } else r) s
    let s2 := if down then { s1 with ser := { s1.ser with downUp := false } } else { s1 with ser := { s1.ser with upUp := false } }
    (s2.count oChcnt 15 0 1).log (mkRec 0x4001 0x098 0 1 0x4001)
  else s

/-- SYS_CHSTAT: the state of a side is the lowest of its lanes, BACKOFF below the others. -/
def State.chstatWord (s : State) : Word :=
  let ls (down : Bool) : List LaneSt := (List.range 4).map (fun i => s.lane ((if down then 52 else 48) + i))
  let st (down : Bool) : Nat :=
    let l := (ls down).map LaneSt.st
    if l.contains 0 then 0 else if l.contains 4 then 4 else l.foldl min 3
  let fom (down : Bool) : Nat := ((ls down).map LaneSt.fom).foldl min 255
  BitVec.ofNat 32 (st false * 2 ^ 29 + st true * 2 ^ 26 + fom false * 2 ^ 16 + fom true * 2 ^ 8)

/-! ## Commands -/

def execCdrLock (l : SLane) (s : State) : Host.Outcome State Fault Refusal := .next (s.cdrLocked l.val)

def execBlockLock (l : SLane) (fom : BitVec 8) (s : State) : Host.Outcome State Fault Refusal := .next (s.blockLocked l.val fom.toNat)

/-- R277: TRNTMO, or the signal, is lost. -/
def execTrainingTmo (l : SLane) (_ : TrainFail) (s : State) : Host.Outcome State Fault Refusal := .next (s.trainFailed l.val)

def execBackoffExpiry (l : SLane) (s : State) : Host.Outcome State Fault Refusal := .next (s.backoffOver l.val)

def execSignalLost (l : SLane) (s : State) : Host.Outcome State Fault Refusal := .next (s.laneDown l.val 1)

def execBlockLockLost (l : SLane) (s : State) : Host.Outcome State Fault Refusal := .next (s.laneDown l.val 2)

def execFomLow (l : SLane) (fom : BitVec 8) (s : State) : Host.Outcome State Fault Refusal := .next (s.fomIsLow l.val fom.toNat)

def execRxFrame (l : Lane) (f : RxFrame) (s : State) : Host.Outcome State Fault Refusal := .next (s.rxFrame l.val f)

def execClsSlotLanded (t : Tile) (s : State) : Host.Outcome State Fault Refusal := .next (s.clsLanded t.val)

def execPauseFrame (l : Lane) (paused : BitVec 8) (s : State) : Host.Outcome State Fault Refusal := .next (s.pauseRx l.val paused.toNat)

def execTxFrameSend (l : Lane) (sec : BitVec 48) (ns : Word) (frac : BitVec 16) (s : State) : Host.Outcome State Fault Refusal :=
  .next (s.txSend l.val (timeOf sec.toNat ns.toNat frac.toNat))

def execChainSideDown (downstream : Bool) (s : State) : Host.Outcome State Fault Refusal := .next (s.sideDown downstream)

end Sys2Proof.Machine
end

