-- ==== Sys2Proof/Machine/Cfg.lean ====
section
/-! DEFINITION. The configuration controller (R45 to R74, R79 to R84): intake, sections, blocks, image commands, release, failure and
the chain. -/

namespace Sys2Proof.Machine

/-! ## Sections (R45) -/

/-- `n` bytes at offset `o` of a header, as a little-endian number. -/
def hdrNum (h : List Byte) (o n : Nat) : Nat := ofBytesLE ((h.drop o).take n)

def hdrBlocks (h : List Byte) : Nat := hdrNum h 0x00C 4
def hdrPartial (h : List Byte) : Bool := hdrNum h 0x006 2 / 2 % 2 = 1
def hdrEnc (h : List Byte) : Bool := hdrNum h 0x006 2 % 2 = 1
def hdrSlot (h : List Byte) : Nat := hdrNum h 0x010 4 % 4
def hdrKeySrc (h : List Byte) : Nat := hdrNum h 0x010 4 / 16 % 8
/-- The polder of a partial image. -/
def hdrTarget (h : List Byte) : Nat := hdrNum h 0x0C0 4

def hdrMagic (h : List Byte) : Bool := hdrNum h 0 4 = 0x4B58494D

/-- The length of the blocks, 0 when BLOCKS is out of range. -/
def hdrLength (h : List Byte) : Nat := if 1 ≤ hdrBlocks h ∧ hdrBlocks h ≤ 5632 then 65536 * hdrBlocks h else 0

/-- R45: every field is as its Meaning says; `rev` is SYS_ID[7:0]. The first section of a chain image has DEVIDX = 0 (R64). -/
def hdrFields (rev : Nat) (h : List Byte) : Bool :=
  let slot := hdrNum h 0x010 4
  hdrMagic h && decide (hdrNum h 0x004 2 = 3) && decide (hdrNum h 0x006 2 < 4) && decide (hdrNum h 0x008 2 = 0x1024)
    && decide (hdrNum h 0x00A 1 ≤ rev) && decide (hdrNum h 0x00B 1 = 0) && decide (hdrLength h ≠ 0)
    && decide (slot = hdrSlot h + 16 * hdrKeySrc h) && decide (hdrKeySrc h ≤ 3) && (hdrEnc h == decide (hdrKeySrc h ≠ 0))
    && decide (hdrNum h 0x014 4 = 0) && decide (hdrNum h 0x01C 4 = 0) && decide (hdrNum h 0x028 8 = 0)
    && decide (hdrNum h (if hdrPartial h then 0x0D0 else 0x0C0) (if hdrPartial h then 176 else 192) = 0)
    && decide (hdrNum h 0x1E0 32 = 0)

/-- R57: the key that KEYSRC selects. -/
def State.imageKey (s : State) (src : Nat) : List Byte :=
  match src with
  | 1 => s.fuses.fk0
  | 2 => s.fuses.fk1
  | _ => s.rtc.key

def blankKey (k : List Byte) : Bool := k.all (· == 0)

/-- PFRAMES of a declared rectangle (R79). -/
def geomFrames (g : Word) : Nat := (bitsOf g 6 4 + 1 - bitsOf g 2 0) * (bitsOf g 15 12 + 1 - bitsOf g 11 8) * 2752

/-- R79: the checks of PART_HDR, in the order of their table. -/
def State.partCode (s : State) (h : List Byte) : Option Nat :=
  let p := hdrTarget h
  if 32 ≤ p ∨ s.bit (oPgeom p) 31 = false then some 0x031
  else
    let g := s.reg (oPgeom p) &&& 0xFF77
    if hdrNum h 0x0C4 4 ≠ g.toNat ∨ hdrNum h 0x0C8 4 ≠ (s.reg (oPgeom p + 4)).toNat ∨ hdrNum h 0x0CC 4 ≠ geomFrames g then some 0x031
    else if ¬[2, 5, 6].contains (s.pstate p) = true then some 0x032
    else none

/-- R431: the code of the first check of a header that fails. -/
def State.hdrCode (s : State) (h : List Byte) : Option Nat :=
  let slot := hdrSlot h
  if !hdrFields (s.fld 0 7 0) h ∨ (hdrPartial h = true ∧ s.cfg.done = false) then some 0x020
  else if s.fuses.keyHash.getD slot 0 = 0 ∨ s.fuses.revoked.testBit slot = true then some 0x022
  else if sha384 ((h.drop 0x060).take 96) ≠ s.fuses.keyHash.getD slot 0 then some 0x022
  else if ecdsaVerify ((h.drop 0x060).take 96) ((h.drop 0x180).take 96) (sha384 (h.take 0x180)) = false then some 0x021
  else if hdrNum h 0x018 4 < s.fuses.imgCount then some 0x025
  else if s.fuses.encReq = true ∧ hdrEnc h = false then some 0x022
  else if hdrEnc h = true ∧ blankKey (s.imageKey (hdrKeySrc h)) = true then some 0x022
  else if hdrPartial h then s.partCode h
  else none

/-! ## Failure (R58, R72, R82) -/

/-- R58: codes 0x021 to 0x025 count. -/
def State.cfgAfail (s : State) (code : Nat) : State := if 0x021 ≤ code ∧ code ≤ 0x025 then s.count oCfgStat 11 4 1 else s

/-- R58: the lockout is reached. -/
def State.cfgLockDue (s : State) : Bool := 16 ≤ s.fld oCfgStat 11 4

/-- R58: LOCKED is entered. -/
def State.cfgLocked (s : State) : State :=
  let s1 := (s.setCfgState 6).cfgLog 0x02C 0 0
  { s1 with cfg := { s1.cfg with err := true } }

/-- The code and the failing position of a failure in the registers and in its record (R74), with the interrupt. -/
def State.cfgNote (s : State) (code kind value : Nat) : State :=
  (((s.cfgAfail code).cfgLog code kind value).setFld oCfgStat 23 12 code).cfgIrq

/-- The section in progress is given up: nothing of it is left in the controller. -/
def CfgSt.clearLoad (c : CfgSt) : CfgSt :=
  { c with hdr := none, blk := 0, digest := 0, words := [], pos := 0, far := none, ended := false, anyFrame := false, dike := false,
           written := [], decls := [], key := none }

/-- R67: a load that came over the chain reports its end upstream. -/
def State.cfgReport (s : State) (code : Nat) : State :=
  if s.bootMode = 2 ∧ s.cfg.src = 1 then s.emit (.chainStatus code 1) else s

/-- R72: a full load fails. -/
def State.fullFail (s : State) (code kind value : Nat) : State :=
  let s1 := (s.cfgNote code kind value).setCfgState 4
  let n := s1.cfg.buf.length
  { s1 with cfg := { s1.cfg.clearLoad with err := true, buf := [], writers := [] } }.cfgDiscard n

/-- R82 step 5: the rest of the section has been discarded and the polder is not being wiped. -/
def State.partialOver (s : State) (p : Nat) : State :=
  if s.cfg.ending = true ∧ s.cfg.drop = 0 ∧ ¬(p < 32 ∧ s.pstate p = 7) then
    let code := s.fld oCfgStat 23 12
    let s1 := ({ s with cfg := { s.cfg.clearLoad with ending := false } }).cfgReport code
    if s1.cfgLockDue then s1.cfgLocked else s1.setCfgState 3
  else s

/-- The bytes at the head of the buffer that are to be discarded. -/
def State.cfgDrop (s : State) : State :=
  let n := min s.cfg.drop s.cfg.buf.length
  let new := decide (s.cfg.drop ≠ 0)
  let s1 := { s with cfg := { s.cfg with
    buf := s.cfg.buf.drop n, drop := s.cfg.drop - n,
    us := if new then 0 else s.cfg.us, starved := if new then 0 else s.cfg.starved } }.cfgDiscard n
  match s1.cfg.hdr with
  | some h => s1.partialOver (hdrTarget h)
  | none => s1.partialOver 32

/-- R82: a partial load fails; `h` is its header, empty where it has not come whole: then the bytes that have come are what is discarded. -/
def State.partFail (s : State) (h : List Byte) (code kind value : Nat) : State :=
  let p := hdrTarget h
  let known := decide (h ≠ []) && decide (p < 32) && s.bit (oPgeom p) 31
  let s1 := (((s.cfgNote code kind value).emit .cfgErrPulse).setCfgState 1).setFld oCfgStat 28 28 s.cfg.src
  let s2 := if known then (s1.setFld (oPldStat p) 27 16 code).setBit (oPldStat p) 7 true else s1
  let s3 := if known = true ∧ s.cfg.dike = true ∧ [3, 4, 5].contains (s.pstate p) = true then
      ((s2.unstart p).setPstate p 7).sealBorder p else s2
  let left := if h = [] then s.cfg.buf.length else hdrLength h - 65536 * s.cfg.blk
  let t := p / 8 % 4
  { s3 with cfg := { s3.cfg.clearLoad with
    hdr := some h, ending := true, drop := left, writers := if s.cfg.dike then SMap.drop s3.cfg.writers t else s3.cfg.writers } }.cfgDrop

/-- The load in progress fails. -/
def State.cfgFail (s : State) (code kind value : Nat) : State :=
  match s.cfg.hdr with
  | some h => if hdrPartial h then s.partFail h code kind value else s.fullFail code kind value
  | none => if s.cfg.done then s.partFail [] code kind value else s.fullFail code kind value

/-- R62: a full header while CFG_DONE is high. -/
def State.fullRefused (s : State) (h : List Byte) : State :=
  let s1 := (((s.emit .cfgErrPulse).setFld oCfgStat 23 12 0x02F).cfgLog 0x02F 0 0)
  let s2 := { s1 with cfg := { s1.cfg with drop := hdrLength h } }
  if s.bootMode = 0 then s2.cfgDrop
  else ({ s2 with cfg := { s2.cfg with chain := { s2.cfg.chain with stopped := true } } }.cfgLog 0x02A 0 0).cfgDrop

/-! ## Intake (R59 to R63) -/

/-- Intake is refused: a reserved strap, LOCKED, or from a failure until CLEAR. -/
def State.cfgRefusing (s : State) : Bool := s.bit 0x390 31 || [4, 5, 6].contains s.cfgState

/-- No section is in progress, nor a byte of one. -/
def State.cfgIdle (s : State) : Bool :=
  s.cfg.buf = [] && s.cfg.hdr.isNone && s.cfg.drop = 0 && s.cfg.chain.fwdLeft = 0

/-- A load begins: its registers start anew. -/
def State.cfgBegin (s : State) (src : Nat) : State :=
  ((((s.setCfgState 1).setFld oCfgStat 28 28 src).setFld oCfgStat 27 27 0).setReg (oCfg + 0x10) 0).setReg (oCfg + 0x14) 0

/-- R59: in a follower the window gives partial images alone, for the device itself; anything else in front is to be dropped. -/
def State.windowFilter (s : State) : State :=
  let c := s.cfg
  if s.bootMode ≠ 2 ∨ c.src ≠ 0 ∨ s.cfgState ≠ 3 ∨ c.hdr.isSome = true ∨ c.drop ≠ 0 ∨ c.buf.length < 4 then s
  else if hdrMagic c.buf = false then ({ s with cfg := { c with drop := c.buf.length } }).cfgDrop
  else if c.buf.length < 16 ∨ (hdrPartial c.buf = true ∧ hdrNum c.buf 0x00B 1 = 0) then s
  else ({ s with cfg := { c with drop := 512 + hdrLength c.buf } }).cfgDrop

/-- R80, R82: a partial load begins: STATE reads LOADING and PARTIAL 1 from the bytes that tell the section's TYPE and DEVIDX on. -/
def State.partBegin (s : State) : State :=
  let c := s.cfg
  if s.cfgState = 3 ∧ c.hdr.isNone = true ∧ c.drop = 0 ∧ c.chain.fwdLeft = 0 ∧ 12 ≤ c.buf.length
      ∧ hdrMagic c.buf = true ∧ hdrPartial c.buf = true ∧ hdrNum c.buf 0x00B 1 = 0 then
    ((s.setCfgState 1).setFld oCfgStat 28 28 c.src).setFld oCfgStat 27 27 1
  else s

/-- Where word `n` of the command stream lies in the section. -/
def streamPos (n : Nat) : Nat := 512 + 65536 * (n / 16368) + 4 * (n % 16368)

/-- Every block has been taken and nothing but NOPs is left: none while blocks are missing; else the first other command. -/
def State.restNops (s : State) (h : List Byte) : Option (Option Nat) :=
  if s.cfg.blk < hdrBlocks h then none
  else some ((s.cfg.words.findIdx? (fun w => w != 0)).map (fun i => streamPos (s.cfg.pos + i)))

/-- R70 steps 1 to 3: after END, with every frame writer empty, the working key is erased and STATE reads RELEASING. -/
def State.releaseBegin (s : State) : State :=
  match s.cfg.hdr with
  | none => s
  | some h =>
    if hdrPartial h = true ∨ s.cfgState ≠ 1 ∨ s.cfg.ended = false ∨ s.cfg.writers ≠ [] then s
    else match s.restNops h with
      | none => s
      | some (some pos) => s.cfgFail 0x026 2 pos
      | some none => { s with cfg := { s.cfg with key := none } }.setCfgState 2

/-- The buffer is looked at after bytes have come or a section has ended. -/
def State.cfgStep (s : State) : State :=
  let s1 := s.cfgDrop
  let s2 := if s1.cfgState = 0 ∧ s1.cfg.buf ≠ [] then s1.cfgBegin s1.cfg.src else s1
  let s3 := (s2.chainPump 256).windowFilter.partBegin.releaseBegin
  if s3.cfgState = 1 ∧ s3.cfg.done = false ∧ s3.cfg.hdr.isNone = true ∧ 4 ≤ s3.cfg.buf.length ∧ hdrMagic s3.cfg.buf = false then
    s3.fullFail 0x020 0 0
  else s3

/-- R60: window data that has waited moves into the buffer as space frees; where intake is refused it is discarded. -/
def State.cfgPull (s : State) : State :=
  let c := s.cfg
  if c.wait = [] then s
  else if s.cfgRefusing then { s with cfg := { c with wait := [] } }.cfgDiscard c.wait.length
  else if s.cfgIdle = false ∧ c.src ≠ 0 then s
  else
    let n := min (262144 - c.buf.length) c.wait.length
    let fresh := s.cfgIdle
    { s with cfg := { c with
      buf := c.buf ++ c.wait.take n, wait := c.wait.drop n, src := 0,
      us := if fresh then 0 else c.us, starved := if fresh then 0 else c.starved } }

/-- Steps and moves in turn, as long as data that waits gets on. -/
def State.cfgTurns : Nat → State → State
  | 0, s => s
  | n + 1, s =>
    let s1 := s.cfgStep
    let s2 := s1.cfgPull
    if s2.cfg.wait.length < s1.cfg.wait.length then State.cfgTurns n s2 else s1

def State.cfgFlow (s : State) : State := State.cfgTurns (s.cfg.wait.length + 1) s

/-- Bytes arrive from the window. What the buffer has no room for waits (R60), as does what comes during a section of the chain port. -/
def State.windowIntake (s : State) (bytes : List Byte) : State :=
  if s.cfgRefusing = true ∨ (s.bootMode = 2 ∧ s.cfg.done = false) then s.cfgDiscard bytes.length
  else ({ s with cfg := { s.cfg with wait := s.cfg.wait ++ bytes } }).cfgPull.cfgFlow

/-- Bytes arrive from the chain port; none where the buffer cannot take them now: the packet is not acknowledged. -/
def State.chainIntake (s : State) (bytes : List Byte) : Option State :=
  if s.cfgRefusing then some (s.cfgDiscard bytes.length)
  else if (s.cfgIdle = false ∧ s.cfg.src ≠ 1) ∨ 262144 < s.cfg.buf.length + bytes.length then none
  else
    let fresh := s.cfgIdle
    let c := s.cfg
    some { s with cfg := { c with
      buf := c.buf ++ bytes, src := 1, us := if fresh then 0 else c.us, starved := if fresh then 0 else c.starved } }.cfgFlow

/-- R59: a write to the configuration window. -/
def State.windowData (s : State) (data : List (BitVec 4 × Word)) : State :=
  if s.sys.hubOn = false then s
  else if data.any (fun d => d.1 ≠ 0xF) then
    s.cfgDiscard ((data.map (fun d => ((List.range 4).filter (fun i => d.1.getLsbD i)).length)).sum)
  else s.windowIntake (data.flatMap (fun d => bytesLE 4 d.2.toNat))

/-- R61: the controller waits for bytes that have not arrived. -/
def State.cfgStarved (s : State) : Bool :=
  match s.cfg.hdr with
  | some h => s.cfgState = 1 && !s.cfg.ended && !s.cfg.ending && decide (s.cfg.blk < hdrBlocks h) && decide (s.cfg.buf.length < 65536)
  | none =>
    (s.cfgState = 1 || (s.cfgState = 3 && s.cfg.drop = 0 && s.cfg.chain.fwdLeft = 0 && s.cfg.buf ≠ []))
      && !s.cfg.ending && decide (s.cfg.buf.length < 512)

/-- R61: starved for CFG_TMO.INTMO ms. -/
def State.intakeTmo (s : State) : State :=
  if s.cfgStarved then
    (s.cfgFail 0x029 2 ((if s.cfg.hdr.isSome then 512 + 65536 * s.cfg.blk else 0) + s.cfg.buf.length)).cfgFlow
  else s

/-- A µs of the load times. -/
def State.cfgUs (s : State) : State :=
  if s.cfgIdle then s
  else { s with cfg := { s.cfg with us := s.cfg.us + 1, starved := s.cfg.starved + if s.cfgStarved then 1 else 0 } }

/-! ## Headers and blocks -/

/-- R64: a section for a later device is passed on, with DEVIDX reduced by 1. -/
def State.forward (s : State) (h : List Byte) : State :=
  let n := hdrLength h
  let c := s.cfg
  let dev := hdrNum h 0x00B 1
  if c.chain.stopped then
    (({ s with cfg := { c with buf := c.buf.drop 512, drop := n } }).cfgDiscard 512).cfgFlow
  else
    let h1 := h.take 0x00B ++ [BitVec.ofNat 8 (dev - 1)] ++ h.drop 0x00C
    let s1 := { s with cfg := { c with
      buf := h1 ++ c.buf.drop 512,
      chain := { c.chain with fwdLeft := 512 + n, fwdDev := dev, sos := true, waitPort := !s.sideUp true } } }
    ((s1.setReg (oChst dev) (BitVec.ofNat 32 (2 ^ 29))).sideSet true true).setBit oChctl 1 true |>.cfgFlow

/-- A header that has passed its checks: the load of its blocks begins. -/
def State.acceptHeader (s : State) (h : List Byte) : State :=
  let c := s.cfg.clearLoad
  let s1 := { s with cfg := { c with
    hdr := some h, buf := s.cfg.buf.drop 512, digest := ofBytesBE ((h.drop 0x030).take 48),
    key := if hdrEnc h then some (s.imageKey (hdrKeySrc h)) else none } }
  if hdrPartial h then (s1.cfgBegin s.cfg.src).setBit oCfgStat 27 true else s1

/-- R431: a header is taken whole. -/
def State.sectionHeader (s : State) : State :=
  let c := s.cfg
  let h := c.buf.take 512
  if c.hdr.isSome = true ∨ c.drop ≠ 0 ∨ c.ending = true ∨ c.chain.fwdLeft ≠ 0 ∨ h.length < 512 ∨ (s.cfgState ≠ 1 ∧ s.cfgState ≠ 3) then s
  else if c.done = true ∧ s.bootMode ≠ 0 ∧ hdrMagic h = true ∧ hdrLength h ≠ 0 ∧ 1 ≤ hdrNum h 0x00B 1 ∧ hdrNum h 0x00B 1 ≤ 15 then
    (if c.chain.unacked = [] then s.forward h else s)
  else
    let s1 := { s with cfg := { c with buf := c.buf.drop 512 } }
    if c.done = true ∧ hdrPartial h = false ∧ hdrFields (s.fld 0 7 0) h = true then s1.fullRefused h
    else match s.hdrCode h with
      | some code => if c.done then s1.partFail h code 0 0 else s1.fullFail code 0 0
      | none => s.acceptHeader h

/-- R80: the dike of polder `p` closes. -/
def State.closeDike (s : State) (p : Nat) : State :=
  let s1 := ((s.unstart p).setPstate p 3).sealBorder p
  { s1 with cfg := { s1.cfg with dike := true }, pld := { s1.pld with retained := s1.pld.retained.filter (· ≠ p) } }

/-- The words of a block's bytes. -/
def wordsLE : Nat → List Byte → List Word
  | 0, _ => []
  | n + 1, l => BitVec.ofNat 32 (ofBytesLE (l.take 4)) :: wordsLE n (l.drop 4)

/-- R47: block `k`, as stored, decrypted where the image is encrypted: its first 65,520 bytes, or the code of the check that fails. -/
def openBlock (key : Option (List Byte)) (iv : List Byte) (digest k : Nat) (b : List Byte) : List Byte ⊕ Nat :=
  let text := b.take 65520
  let tag := ofBytesBE (b.drop 65520)
  if sha384 b ≠ digest then .inr 0x023
  else match key with
    | some key =>
      let (plain, ok) := gcmDecrypt key (iv ++ bytesBE 4 k) text tag
      if ok then .inl plain else .inr 0x024
    | none => if tag = 0 then .inl text else .inr 0x024

/-- R47: the next block is checked. -/
def State.imageBlock (s : State) : State :=
  match s.cfg.hdr with
  | none => s
  | some h =>
    let c := s.cfg
    if s.cfgState ≠ 1 ∨ c.ending = true ∨ hdrBlocks h ≤ c.blk ∨ c.buf.length < 65536 then s
    else
      let s1 := { s with cfg := { c with buf := c.buf.drop 65536, blk := c.blk + 1 } }
      match openBlock c.key ((h.drop 0x020).take 8) c.digest c.blk (c.buf.take 65536) with
      | .inr code => s1.cfgFail code 2 (512 + 65536 * c.blk)
      | .inl d =>
        let s2 := { s1 with cfg := { s1.cfg with
          words := c.words ++ wordsLE 16368 d, digest := ofBytesBE ((d.drop 65472).take 48) } }.count (oCfg + 0x10) 31 0 1
        let p := hdrTarget h
        if hdrPartial h = false ∨ 0 < c.blk then s2
        else if [2, 5, 6].contains (s.pstate p) then s2.closeDike p
        else s2.cfgFail 0x032 0 0

/-! ## Image commands (R48) -/

/-- What a command needs: a bad operand, more words than there are, or so many payload words. -/
inductive Need where
  | bad
  | more
  | words (n : Nat)

/-- The command at the head of the stream: none of its kind now; a failure; or its operand and payload, taken from the stream. -/
inductive CmdGo where
  | stay
  | stop (s : State)
  | go (h : List Byte) (n : Nat) (payload : List Word) (s : State)

/-- R48: the next command is `op`, and its payload has been verified. -/
def State.cfgTake (s : State) (op : Nat) (need : Nat → List Word → Need) : CmdGo :=
  match s.cfg.hdr with
  | none => .stay
  | some h =>
    let c := s.cfg
    let short : CmdGo := if c.blk < hdrBlocks h then .stay else .stop (s.cfgFail 0x026 2 (512 + 65536 * hdrBlocks h))
    if s.cfgState ≠ 1 ∨ c.ending = true then .stay
    else match c.words with
      | [] => if c.ended then .stay else short
      | w :: rest =>
        let bad : CmdGo := .stop (s.cfgFail 0x026 2 (streamPos c.pos))
        let o := bitsOf w 31 28
        if 8 ≤ o ∨ (c.ended = true ∧ o ≠ 0) then bad
        else if o ≠ op then .stay
        else match need (bitsOf w 27 0) rest with
          | .bad => bad
          | .more => short
          | .words n =>
            if rest.length < n then short
            else .go h (bitsOf w 27 0) (rest.take n) { s with cfg := { c with words := rest.drop n, pos := c.pos + 1 + n } }

/-! ### Frames -/

/-- A frame address that a load may not write, with its code: R81, R51, R54, R53 (and R77), in this order. -/
def State.addrCode (s : State) (h : List Byte) (a : Nat) : Option Nat :=
  let t := oPwrTile (faTile a)
  if hdrPartial h = true ∧ s.ofPolder (hdrTarget h) a = false then some 0x030
  else if faValid a = false then some 0x027
  else if s.pwr t ≠ 1 ∧ s.pwr t ≠ 2 then some 0x027
  else if s.cfg.written.contains a then some 0x027
  else if s.cfg.decls.any (fun d => polderFrame d.1 (d.2.getD 0 0) a) then some 0x027
  else none

/-- The frame of 96 data words and a check word. -/
def frameOf (ws : List Word) : CFrame :=
  ⟨BitVec.ofNat 3072 ((ws.take 96).foldr (fun w n => w.toNat + 2 ^ 32 * n) 0), (ws.getD 96 0).setWidth 16⟩

/-- A frame goes to the writer of its tile; `w` is its check word. The answer says whether the load goes on. -/
def State.putFrame (s : State) (h : List Byte) (a : Nat) (f : CFrame) (w : Word) : State × Bool :=
  match s.addrCode h a with
  | some code => (s.cfgFail code 1 a, false)
  | none =>
    if w.toNat ≠ frameCrc f.data then (s.cfgFail 0x028 1 a, false)
    else
      let t := faTile a
      let q := SMap.get (fun _ => []) s.cfg.writers t
      ({ s with cfg := { s.cfg with
          writers := SMap.set (fun _ => []) s.cfg.writers t (q ++ [(a, f)]), written := a :: s.cfg.written, anyFrame := true } }, true)

/-- Frames at FAR, FAR advancing after each (R52). -/
def State.putAtFar (h : List Byte) : List (CFrame × Word) → Nat → State → State
  | [], a, s => { s with cfg := { s.cfg with far := some a } }
  | (f, w) :: l, a, s =>
    match s.putFrame h a f w with
    | (s1, true) => State.putAtFar h l (faAdvance a) s1
    | (s1, false) => s1

/-- The all-zero frame `n` times (ZFR). -/
def State.putZeros (h : List Byte) : Nat → Nat → State → State
  | 0, a, s => { s with cfg := { s.cfg with far := some a } }
  | n + 1, a, s =>
    match s.putFrame h a zeroFrame 0xEC83 with
    | (s1, true) => State.putZeros h n (faAdvance a) s1
    | (s1, false) => s1

/-- One frame at each of the listed addresses (MFW). -/
def State.putMany (h : List Byte) (f : CFrame) (w : Word) : List Word → State → State
  | [], s => s
  | a :: l, s =>
    match s.putFrame h a.toNat f w with
    | (s1, true) => State.putMany h f w l s1
    | (s1, false) => s1

/-- The frames of a WFR payload. -/
def wholeFrames : Nat → List Word → List (CFrame × Word)
  | 0, _ => []
  | n + 1, l => (frameOf l, l.getD 96 0) :: wholeFrames n (l.drop 97)

def popCount (w : Word) : Nat := ((List.range 32).filter (fun j => w.getLsbD j)).length

/-- Payload words of `n` sparse frames (R50); none while they are not all there. -/
def sparseLen : Nat → List Word → Option Nat
  | 0, _ => some 0
  | n + 1, a :: b :: c :: l =>
    let k := popCount a + popCount b + popCount c + 1
    if l.length < k then none else (sparseLen n (l.drop k)).map (· + 3 + k)
  | _ + 1, _ => none

/-- The data words of a sparse frame: where the mask bit is 0 the word is 0. -/
def spread : List Bool → List Word → List Word
  | [], _ => []
  | true :: m, w :: l => w :: spread m l
  | true :: m, [] => 0 :: spread m []
  | false :: m, l => 0 :: spread m l

def sparseFrames : Nat → List Word → List (CFrame × Word)
  | 0, _ => []
  | n + 1, l =>
    let mask := (l.take 3).flatMap (fun w => (List.range 32).map (fun j => w.getLsbD j))
    let k := (mask.filter id).length
    let body := l.drop 3
    let w := body.getD k 0
    (frameOf (spread mask (body.take k) ++ [w]), w) :: sparseFrames n (body.drop (k + 1))

/-- The need of a frame command: 1 to `top` in the operand, and a FAR. -/
def farNeed (s : State) (top : Nat) (k : Nat → List Word → Need) (n : Nat) (l : List Word) : Need :=
  if n = 0 ∨ top < n ∨ s.cfg.far.isNone then .bad else k n l

/-! ### Polder declarations (R76) -/

/-- The window of a declaration. -/
def declWin (d : List Word) : Nat × Nat := (bitsOf (d.getD 2 0) 9 0, bitsOf (d.getD 2 0) 25 16)

def overlap (a n b m : Nat) : Bool := decide (a < b + m) && decide (b < a + n)

/-- R76: the payload is in range and its reserved bits are 0. -/
def declOk (d : List Word) : Bool :=
  let w0 := d.getD 0 0
  let w2 := d.getD 2 0
  decide (w0 &&& 0xFFFF0088 = 0) && decide (bitsOf w0 15 12 ≤ 9) && decide (bitsOf w0 11 8 ≤ bitsOf w0 15 12)
    && decide (bitsOf w0 2 0 ≤ bitsOf w0 6 4) && decide (w2 &&& 0xFC00FC00 = 0)
    && decide (bitsOf w2 9 0 + bitsOf w2 25 16 ≤ 1024) && decide (d.getD 3 0 &&& 0xFFFFFFFC = 0)

/-- Two rectangles share a frame. -/
def rectsMeet (a b : Word) : Bool :=
  overlap (bitsOf a 2 0) (bitsOf a 6 4 + 1 - bitsOf a 2 0) (bitsOf b 2 0) (bitsOf b 6 4 + 1 - bitsOf b 2 0) &&
    overlap (bitsOf a 11 8) (bitsOf a 15 12 + 1 - bitsOf a 11 8) (bitsOf b 11 8) (bitsOf b 15 12 + 1 - bitsOf b 11 8)

/-- R76: a declaration that clashes with an earlier one. -/
def declClash (p : Nat) (d : List Word) (e : Nat × List Word) : Bool :=
  e.1 == p || (decide (e.1 / 8 = p / 8) && rectsMeet (d.getD 0 0) (e.2.getD 0 0)) ||
    (decide (0 < (declWin d).2) && decide (0 < (declWin e.2).2) && overlap (declWin d).1 (declWin d).2 (declWin e.2).1 (declWin e.2).2)

/-- The 64 MiB units of a window are mapped (R196). -/
def State.mapWindow (s : State) (t port base : Nat) : Nat → State
  | 0 => s
  | n + 1 => (s.mapWindow t port base n).setReg (0x10100 + 4 * (base + n)) (BitVec.ofNat 32 (2 ^ 31 + t * 16 + port))

/-- A polder is declared: its fabric port is the image's. -/
def State.declare (s : State) (d : Nat × List Word) : State :=
  let p := d.1
  let (x, s0) := s.draw
  let port := x.toNat % 16
  let s1 := s0.setReg (oPgeom p) (BitVec.ofNat 32 (2 ^ 31 + port * 2 ^ 16 + (d.2.getD 0 0).toNat))
  let s2 := ((s1.setReg (oPgeom p + 4) (d.2.getD 1 0)).setReg (oPgeom p + 8) (d.2.getD 2 0)).setPstate p 1
  let s3 := { s2 with pld := { s2.pld with flags := SMap.set (fun _ => 0) s2.pld.flags p (d.2.getD 3 0) } }
  s3.mapWindow (p / 8) port (declWin d.2).1 (declWin d.2).2

/-! ## Completion (R70, R83, R84) -/

/-- R56, R57: what CFG_SEC shows of the last image. -/
def State.cfgSec (s : State) (h : List Byte) : State :=
  ((s.setFld (oCfg + 0x24) 31 24 (hdrNum h 0x018 4)).setFld (oCfg + 0x24) 17 16 (hdrSlot h)).setFld (oCfg + 0x24) 14 12 (hdrKeySrc h)

/-- R70 step 4: the fabric of every tile that is ON is released. -/
def State.fabRelease (s : State) : State := (List.range 4).foldl (fun r t => if r.isOn (oPwrTile t) then r.fabOpen t else r) s

/-- R70 steps 4 to 6: the fabric is released. -/
def State.cfgRelease (s0 : State) : State :=
  let s := s0.releaseBegin
  match s.cfg.hdr with
  | none => s
  | some h =>
    if s.cfgState ≠ 2 then s
    else
      let c := s.cfg
      let s1 := ((s.cfgSec h).setReg (oCfg + 0x1C) (BitVec.ofNat 32 c.us)).setReg (oCfg + 0x20) (BitVec.ofNat 32 c.starved)
      let s2 := (c.decls.foldl State.declare s1).fabRelease
      let s3 := { s2 with cfg := { c.clearLoad with done := true, us := 0, starved := 0 }, pld := { s2.pld with scrub := [] } }
      ((s3.setCfgState 3).cfgIrq.cfgReport 0).cfgFlow

/-- R84: a partial load is complete. -/
def State.partialDone (s : State) (p : Nat) : State :=
  match s.cfg.hdr with
  | none => s
  | some h =>
    let c := s.cfg
    let s1 := ((s.cfgSec h).setReg (oPgeom p + 0x14) (BitVec.ofNat 32 c.written.length)).setReg (oPgeom p + 0x18) (BitVec.ofNat 32 c.us)
    let s2 := ((s1.setFld (oPldStat p) 15 8 (s1.fld (oPldStat p) 15 8 + 1)).setBit (oPldStat p) 7 false).setBit (oPldStat p) 6 false
    let s3 := { s2 with cfg := { c.clearLoad with us := 0, starved := 0 } }
    ((s3.setCfgState 3).cfgIrq.cfgReport 0).cfgFlow

/-- R84: the check has passed. -/
def State.polderRelease (s : State) (p : Nat) (load : Bool) : State :=
  let s1 := (s.setPstate p 5).openBorder p
  if bitsOf (s.pldFlags p) 1 1 = 1 then s1.pldStart p load
  else if load then s1.partialDone p else s1

/-- The target of the partial load in progress is `p`, and its END has been reached. -/
def State.loadEndedAt (s : State) (p : Nat) : Option (List Byte) :=
  match s.cfg.hdr with
  | some h => if hdrPartial h = true ∧ hdrTarget h = p ∧ s.cfg.ended = true ∧ s.cfg.ending = false then some h else none
  | none => none

/-- R83: the completion check of a load ends. -/
def State.loadCheck (s : State) (p : Nat) (h : List Byte) : State :=
  if SMap.get (fun _ => []) s.cfg.writers (p / 8) ≠ [] then s
  else match s.restNops h with
    | none => s
    | some (some pos) => s.cfgFail 0x026 2 pos
    | some none =>
      if s.pstate p ≠ 4 ∨ s.cfg.written.length ≠ hdrNum h 0x0CC 4 then s.cfgFail 0x033 0 0
      else match s.badFrame p with
        | some a => s.cfgFail 0x033 1 a
        | none => { s with cfg := { s.cfg with key := none } }.polderRelease p true

/-- R90: the check of retained frames ends. -/
def State.retainedCheck (s : State) (p : Nat) : State :=
  let s1 := { s with pld := { s.pld with retained := s.pld.retained.filter (· ≠ p) } }
  match s1.badFrame p with
  | some a =>
    (((s1.setPstate p 7).setFld (oPldStat p) 27 16 0x033).setBit (oPldStat p) 7 true).cfgLog 0x033 1 a
  | none => s1.polderRelease p false

def State.completionCheck (s : State) (p : Nat) : State :=
  match s.loadEndedAt p with
  | some h => s.loadCheck p h
  | none => if s.pstate p = 4 ∧ s.pld.retained.contains p = true then s.retainedCheck p else s

/-- R84 step 3: the sluices pass and the window opens. -/
def State.runStart (s : State) (p : Nat) : State :=
  match s.pld.starting.find? (fun e => e.1 == p) with
  | none => s
  | some (_, load) =>
    let s1 := ((s.unstart p).setPstate p 6).setBorder p { s.border p with out := true, released := true }
    let s2 := { s1 with pld := { s1.pld with isoLogged := s1.pld.isoLogged.filter (· ≠ p) } }
    if load then s2.partialDone p else s2

/-- R82, R90: every frame of the polder is zero. -/
def State.polderWiped (s : State) (p : Nat) : State :=
  if s.pstate p = 7 then
    let s1 := (s.clearFrames (p / 8) (s.ofPolder p)).setPstate p 2
    if s1.cfg.ending = true ∧ (match s1.cfg.hdr with | some h => hdrTarget h = p | none => false) = true then (s1.partialOver p).cfgFlow else s1
  else s

/-! ## Other events -/

/-- R54: the writer of tile `t` writes its next frame. -/
def State.frameWritten (s : State) (t : Nat) : State :=
  match SMap.get (fun _ => []) s.cfg.writers t with
  | [] => s
  | (a, f) :: rest =>
    let st := s.pwr (oPwrTile t)
    if st = 2 then
      ({ s with cfg := { s.cfg with writers := SMap.set (fun _ => []) s.cfg.writers t rest } }.setFrame a f).count (oCfg + 0x14) 31 0 1
    else if st = 1 then s
    else s.cfgFail 0x027 1 a

/-- R72: every frame of the four tiles is zero. -/
def State.wipeDone (s : State) : State :=
  if s.cfgState = 4 then
    let s1 := { s with cfg := { s.cfg with frames := [], bramLost := [] } }
    (if s1.cfgLockDue then s1.cfgLocked else s1.setCfgState 5).cfgReport (s.fld oCfgStat 23 12)
  else s

/-- R72, R73: a write of CFG_CTL. -/
def State.cfgCtlWrite (s : State) (v : Word) : WRes :=
  let clear := bitsOf v 0 0 = 1
  let abort := bitsOf v 1 1 = 1
  let st := s.cfgState
  if clear ∧ abort then .rej 0x05
  else if (clear ∧ st ≠ 5) ∨ (abort ∧ st ≠ 1) then .rej 0x03
  else
    let s1 := s.plainWrite oCfg v
    if clear then .ok { s1.setCfgState 0 with cfg := { s1.cfg with err := false } }
    else if abort ∧ s.cfg.ending = false then .ok (s1.cfgFail 0x02E 0 0).cfgFlow
    else .ok s1

/-- The CFG block. -/
def State.cfgRegWrite (s : State) (off : Nat) (v : Word) : WRes :=
  match off with
  | 0x000 => s.cfgCtlWrite v
  | 0x00C => if s.cfgState = 1 then .rej 0x03 else .ok (s.plainWrite (oCfg + off) v)
  | _ => .ok (s.plainWrite (oCfg + off) v)

/-- CFG_SEC shows the fuses. -/
def State.cfgRegRead (s : State) (off : Nat) : Word :=
  if off = 0x024 then
    withBits (withBits (withBits (s.reg (oCfg + off)) 23 18 s.fuses.imgCount) 4 1 s.fuses.revoked) 0 0 (if s.fuses.encReq then 1 else 0)
  else s.reg (oCfg + off)

/-- R63, R82: PERST_N falls. -/
def State.cfgPerst (s : State) : State :=
  if s.cfgState = 1 ∧ s.cfg.src = 0 ∧ s.cfg.ending = false then (s.cfgFail 0x02D 0 0).cfgFlow else s

/-- R58, R72: a warm reset. AFAIL and LOCKED stay; every configuration cell is cleared. A bad strap still holds CFG_ERR_N low (R30). -/
def State.cfgWarm (s : State) : State :=
  let lock := s.cfgState = 6
  let afail := s.fld oCfgStat 11 4
  let s1 := { s with cfg := { err := decide lock || s.bit 0x390 31 }, pld := {}, regs := SMap.dropRange (SMap.dropRange s.regs oCfg 0x100000) oPld 0x100000 }
  (s1.setFld oCfgStat 11 4 afail).setCfgState (if lock then 6 else 0)

/-! ## The chain -/

/-- R65: a packet from upstream. -/
def State.chainRx (s : State) (p : ChainPkt) : State :=
  if s.bootMode ≠ 2 ∨ p.crc ≠ chainCrc p.seq p.sos p.eos p.data ∨ p.seq.toNat ≠ s.cfg.chain.rxSeq ∨ 4096 < p.data.length then s
  else match s.chainIntake p.data with
    | none => s
    | some s1 => { s1 with cfg := { s1.cfg with chain := { s1.cfg.chain with rxSeq := (p.seq.toNat + 1) % 65536 } } }.emit (.chainAck p.seq.toNat)

/-- R65: an abort packet from upstream. -/
def State.chainAbortRx (s : State) : State :=
  if s.bootMode ≠ 2 then s
  else if s.cfg.chain.fwdLeft ≠ 0 ∧ s.cfg.src = 1 then s.chainStop.emit .chainAbort
  else if s.cfg.src = 1 ∧ s.cfg.ending = false ∧
      (s.cfgState = 1 ∨ (s.cfgState = 3 ∧ s.cfg.drop = 0 ∧ s.cfg.buf ≠ [])) then s.cfgFail 0x02B 0 0
  else s

/-- R67: a status packet from downstream. -/
def State.chainStatusRx (s : State) (code pos : Nat) : State :=
  if s.bootMode = 2 then s.emit (.chainStatus code (pos + 1))
  else if s.bootMode = 1 ∧ 1 ≤ pos ∧ pos ≤ 15 then
    s.setReg (oChst pos) (BitVec.ofNat 32 ((if code = 0 then 3 else 4) * 2 ^ 29 + code * 2 ^ 12))
  else s

/-! ## Commands -/

def execIntakeData (data : List (BitVec 4 × Word)) (s : State) : Host.Outcome State Fault Refusal := .next (s.windowData data)

def execSectionHeader (s : State) : Host.Outcome State Fault Refusal := .next s.sectionHeader.cfgFlow

def execImageBlock (s : State) : Host.Outcome State Fault Refusal := .next s.imageBlock.cfgFlow

/-- A command that has been taken. -/
def CmdGo.run (c : CmdGo) (s : State) (f : List Byte → Nat → List Word → State → State) : Host.Outcome State Fault Refusal :=
  .next (match c with
    | .stay => s
    | .stop t => t.cfgFlow
    | .go h n l t => (f h n l t).cfgFlow)

/-- The operand of NOP, FAR and END is 0. -/
def zeroNeed (k n : Nat) (_ : List Word) : Need := if n = 0 then .words k else .bad

def execCmdNop (s : State) : Host.Outcome State Fault Refusal := (s.cfgTake 0 (zeroNeed 0)).run s (fun _ _ _ t => t)

def execFar (s : State) : Host.Outcome State Fault Refusal :=
  (s.cfgTake 1 (zeroNeed 1)).run s (fun _ _ l t => { t with cfg := { t.cfg with far := some (l.getD 0 0).toNat } })

def execWfr (s : State) : Host.Outcome State Fault Refusal :=
  (s.cfgTake 2 (farNeed s 4096 (fun n _ => .words (97 * n)))).run s
    (fun h n l t => State.putAtFar h (wholeFrames n l) (s.cfg.far.getD 0) t)

def execSfr (s : State) : Host.Outcome State Fault Refusal :=
  (s.cfgTake 3 (farNeed s 4096 (fun n l => match sparseLen n l with | some k => .words k | none => .more))).run s
    (fun h n l t => State.putAtFar h (sparseFrames n l) (s.cfg.far.getD 0) t)

def execZfr (s : State) : Host.Outcome State Fault Refusal :=
  (s.cfgTake 4 (farNeed s 227328 (fun _ _ => .words 0))).run s (fun h n _ t => State.putZeros h n (s.cfg.far.getD 0) t)

def execMfw (s : State) : Host.Outcome State Fault Refusal :=
  (s.cfgTake 5 (fun n _ => if 2 ≤ n ∧ n ≤ 1024 then .words (97 + n) else .bad)).run s
    (fun h _ l t => State.putMany h (frameOf l) (l.getD 96 0) (l.drop 97) t)

/-- R76: a declaration that fails ends the load at the command's word. -/
def execPdecl (s : State) : Host.Outcome State Fault Refusal :=
  (s.cfgTake 6 (fun n l =>
      if 32 ≤ n ∨ (s.cfg.hdr.map hdrPartial).getD true ∨ s.cfg.anyFrame then .bad
      else if l.length < 4 then .more
      else if !declOk (l.take 4) ∨ s.cfg.decls.any (declClash n (l.take 4)) then .bad
      else .words 4)).run s
    (fun _ n l t => { t with cfg := { t.cfg with decls := t.cfg.decls ++ [(n, l)] } })

/-- END: the completion steps begin; a polder under load is checked (R83). -/
def execImgEnd (s : State) : Host.Outcome State Fault Refusal :=
  (s.cfgTake 7 (zeroNeed 0)).run s (fun h _ _ t =>
    let t1 := { t with cfg := { t.cfg with ended := true } }
    if hdrPartial h = true ∧ t.pstate (hdrTarget h) = 3 then t1.setPstate (hdrTarget h) 4 else t1)

def execFrameWritten (t : Tile) (s : State) : Host.Outcome State Fault Refusal := .next (s.frameWritten t.val).cfgFlow

def execIntakeTmo (s : State) : Host.Outcome State Fault Refusal := .next s.intakeTmo

def execCfgRelease (s : State) : Host.Outcome State Fault Refusal := .next s.cfgRelease.cfgFlow

def execWipeDone (s : State) : Host.Outcome State Fault Refusal := .next s.wipeDone.cfgFlow

def execChainPacket (p : ChainPkt) (s : State) : Host.Outcome State Fault Refusal := .next (s.chainRx p)

def execChainAck (seq : BitVec 16) (s : State) : Host.Outcome State Fault Refusal := .next ((s.chainAckRx seq.toNat).cfgFlow)

def execChainAckTmo (s : State) : Host.Outcome State Fault Refusal := .next (s.chainAckTmo.cfgFlow)

def execChainAbortPacket (s : State) : Host.Outcome State Fault Refusal := .next (s.chainAbortRx.cfgFlow)

def execChainStatusPacket (code : BitVec 12) (pos : Nat) (s : State) : Host.Outcome State Fault Refusal :=
  .next (s.chainStatusRx code.toNat pos)

def execChainPortTmo (s : State) : Host.Outcome State Fault Refusal := .next (s.chainPortTmo.cfgFlow)

def execCompletionCheckDone (p : Pld) (s : State) : Host.Outcome State Fault Refusal := .next (s.completionCheck p.val).cfgFlow

def execPolderRunStart (p : Pld) (s : State) : Host.Outcome State Fault Refusal := .next (s.runStart p.val).cfgFlow

def execPolderWipeDone (p : Pld) (s : State) : Host.Outcome State Fault Refusal := .next (s.polderWiped p.val).cfgFlow

/-- R92: the scrubber runs after CFG_DONE while its tile is ON and no load writes frames there. -/
def execScrubFrameCheck (t : Tile) (s : State) : Host.Outcome State Fault Refusal :=
  if s.cfg.done = true ∧ s.isOn (oPwrTile t.val) = true ∧ s.bit oPld (16 + t.val) = true
      ∧ SMap.get (fun _ => []) s.cfg.writers t.val = [] then
    let s1 := s.scrubStep t.val
    -- an uncorrectable frame keeps a polder from running
    .next (s1.pld.starting.foldl (fun r e =>
      if r.bit (oPldStat e.1) 6 = true ∧ s.bit (oPldStat e.1) 6 = false then
        (if e.2 then (r.unstart e.1).partialDone e.1 else r.unstart e.1)
      else r) s1)
  else .next s

end Sys2Proof.Machine
end

