-- ==== Sys2Proof/Machine/EngIssue.lean ====
section
/-! DEFINITION. Issuing a bundle (R97, R111 to R114, R119 to R121): its legality, its traps, its stalls, its cycle, and its effect. A
command of an engine names the instruction in one slot of the bundle at the engine's PC; the bundle issues whole. -/

namespace Sys2Proof.Machine

/-! ## Legality (R112, R121) -/

/-- A slot's opcode is reserved, or a field holds what the instruction does not allow. -/
def ctlBad (c : CtlSlot) : Bool := match ctlOp c.opc with | none => true | some (f, _, _) => !f.legal c.x
def vecBad (v : VecSlot) : Bool := match vecOp v.opc with | none => true | some f => !f.legal v.opc v.x
def lsBad (l : LsSlot) : Bool := match lsOp l.opc with | none => true | some f => !f.legal l.opc l.x

def ctlWrites (c : CtlSlot) : List Nat := match ctlOp c.opc with | none => [] | some (f, _, _) => f.writes c.x
def vecWrites (v : VecSlot) : List Nat := match vecOp v.opc with | none => [] | some f => f.writes v.opc v.x
def lsWrites (l : LsSlot) : List Nat := match lsOp l.opc with | none => [] | some f => f.writes l.opc l.x

/-- Two slots write the same register (R112). -/
def Bundle.conflict (u : Bundle) : Bool :=
  !decide ((ctlWrites u.c).dedup ++ (vecWrites u.v).dedup ++ (lsWrites u.l).dedup).Nodup

/-- The slots that the bundle's words make illegal, a slot that writes one register twice among them (R112). -/
def Bundle.badSlots (u : Bundle) : List Nat :=
  (if ctlBad u.c || !decide (ctlWrites u.c).Nodup then [0] else []) ++ (if vecBad u.v || !decide (vecWrites u.v).Nodup then [1] else [])
    ++ (if lsBad u.l || !decide (lsWrites u.l).Nodup then [2] else [])

/-- The end bundle of a loop holds a BR, JMP, CALL, RET or LOOP. -/
def EngSt.transferAt (x : EngSt) (e n : Nat) : Bool :=
  if n < 4096 then
    let (w, bad, _) := x.readWord e true n
    !bad && decide ((bundleOf w).c.opc ∈ [0x40, 0x41, 0x42, 0x43, 0x44])
  else false

/-- R121: the checks at the issue of a LOOP. -/
def EngSt.loopBad (x : EngSt) (e last : Nat) : Bool :=
  (match x.cur.loops with
   | [] => false
   | [l] => decide (l.last < last)
   | _ => true) || x.transferAt e last

/-! ## The slots of a bundle as they issue -/

def ctlRun (u : Bundle) (b : EBank) : CtlOut :=
  if predOn u.c.q b then (match ctlOp u.c.opc with | some (_, _, f) => f b u.c.x | none => {}) else {}

/-- The predicate bits of the vector slot that govern its destination. -/
def vecOn (u : Bundle) (b : EBank) : Bool :=
  match vecOp u.v.opc with
  | some f => f.governing u.v.opc u.v.x &&& (predMask u.v.q b).toNat ≠ 0
  | none => false

def vecRun (u : Bundle) (b : EBank) : EBank × FlagSet :=
  if vecOn u b then (match vecOp u.v.opc with | some f => applyDsts (predMask u.v.q b).toNat b (f.f b u.v.x) | none => (b, 0))
  else (b, 0)

def lsOn (u : Bundle) (b : EBank) : Bool := predOn u.l.q b

def lsRun (env : LsEnv) (u : Bundle) : LsOut :=
  if lsOn u env.b then (match lsOp u.l.opc with | some f => f.f env u.l.x | none => {}) else {}

/-- The registers the bundle waits on (R97, R114): predicates, and the operands of the slots that execute; those that a chained
accumulate reads wait for the chain alone. -/
def Bundle.readKeys (u : Bundle) (b : EBank) : List Nat :=
  [keyP u.c.q.pred.toNat, keyP u.v.q.pred.toNat, keyP u.l.q.pred.toNat]
    ++ (if predOn u.c.q b then (match ctlOp u.c.opc with | some (f, _, _) => f.reads u.c.x | none => []) else [])
    ++ (if vecOn u b then
          (match vecOp u.v.opc with
           | some f => f.reads u.v.opc u.v.x
              ++ (if f.acc ∧ ¬ (f.time = .cmac ∨ f.time = .rmac ∨ f.time = .cmulv) then f.writes u.v.opc u.v.x else [])
           | none => [])
        else [])
    ++ (if lsOn u b then (match lsOp u.l.opc with | some f => f.reads u.l.x | none => []) else [])

/-- The destinations that an accumulate chains through. -/
def Bundle.chainKeys (u : Bundle) (b : EBank) : List Nat :=
  if vecOn u b then
    (match vecOp u.v.opc with
     | some f => if f.acc ∧ (f.time = .cmac ∨ f.time = .rmac ∨ f.time = .cmulv) then f.writes u.v.opc u.v.x else []
     | none => [])
  else []

/-- The registers that the slots which execute write. -/
def Bundle.writeKeys (u : Bundle) (b : EBank) : List Nat :=
  (if predOn u.c.q b then ctlWrites u.c else []) ++ (if vecOn u b then vecWrites u.v else []) ++ (if lsOn u b then lsWrites u.l else [])

/-- Every register the bundle waits on while GETW data is on its way to it. -/
def Bundle.waitKeys (u : Bundle) (b : EBank) : List Nat := u.readKeys b ++ u.chainKeys b ++ u.writeKeys b

/-! ## Traps of a bundle (R128) -/

/-- A cause, the faulting address and the slot. -/
abbrev Cause := Nat × Nat × Nat

/-- R126: the conditions on the descriptor of an ENQ. -/
def enqCauses (x : EngSt) (e a : Nat) : List Cause :=
  let c := (if a % 64 = 0 then [] else [(causeAlign, a, 0)]) ++ (if a + 64 ≤ 0x30000 then [] else [(causeRange, a, 0)])
  if c = [] then
    if (List.range 4).any (fun i => (x.readWord e false (a / 16 + i)).2.1) then [(causePoison, a, 0)] else []
  else c

/-- Causes of the control slot. `hen` is DBG_ECFG.HEN (R406). -/
def ctlCauses (x : EngSt) (e : Nat) (stale hen : Bool) (o : CtlOut) : List Cause :=
  (if o.ill then [(causeIllegal, 0, 0)] else [])
    ++ (match o.act with
        | .goto t _ => if 0 ≤ t ∧ t < 4096 then [] else [(causeIfetch, 0, 3)]
        | .loop _ last => if x.loopBad e last then [(causeIllegal, 0, 0)] else []
        | .enq a => enqCauses x e a ++ (if stale then [(causeStale, 0, 0)] else [])
        | .evpost _ _ | .done => if stale then [(causeStale, 0, 0)] else []
        | .trap _ => [(causeSoft, 0, 0)]
        | .brk => if hen then [] else [(causeBreak, 0, 0)]
        | _ => [])

/-- The lowest code of a list of causes. -/
def lowest : List Cause → Option Cause
  | [] => none
  | c :: l => match lowest l with | none => some c | some d => if c.1 ≤ d.1 then some c else some d

/-- R112, R132: the slot of a cause, 3 when it lies in more than one. -/
def slotOf (cs : List Cause) (c : Nat) : Nat :=
  match ((cs.filter (fun x => x.1 == c)).map (fun x => x.2.2)).dedup with
  | [k] => k
  | _ => 3

/-- R128: causes beside the recorded one arose. -/
def severalCauses (cs : List Cause) (c : Nat) : Bool := cs.any (fun x => x.1 != c)

/-- All precise causes of the bundle. -/
def Bundle.causes (u : Bundle) (env : LsEnv) (hen : Bool) : List Cause :=
  let bad := u.badSlots
  let static : List Cause :=
    if bad = [] ∧ u.conflict = false then []
    else [(causeIllegal, 0, if u.conflict then 3 else match bad with | [k] => k | _ => 3)]
  static
    ++ (if bad.contains 0 then [] else ctlCauses env.x env.e env.stale hen (ctlRun u env.b))
    ++ (if bad.contains 2 then [] else (lsRun env u).causes.map (fun (c, a) => (c, a, 2)))

/-- The instructions of the bundle that a stale epoch refuses. -/
def refusedStale (cs : List Cause) : Nat := (cs.filter (fun c => c.1 == causeStale)).length

/-! ## What the bundle captures, and its stalls -/

/-- R135: the granules that a read of `n` data words from word `k` on corrects. -/
def EngSt.fixesIn (x : EngSt) (e k n : Nat) : List Nat := (List.range n).flatMap (fun i => (x.readWord e false (k + i)).2.2)

/-- The words of a descriptor in local memory. -/
def enqWords (x : EngSt) (e a : Nat) : List Word :=
  (List.range 16).map (fun i => wordOf (x.readWord e false (a / 16 + i / 4)).1 (i % 4))

/-- The packets of a block write, data and poison as the local memory reads (R201). -/
def putbPackets (x : EngSt) (e epoch lid : Nat) : Nat → Nat → Nat → Nat → List Pkt
  | 0, _, _, _ => []
  | fuel + 1, loc, rem, left =>
    if left = 0 then []
    else
      let len := pieceLen rem left
      let n := pieceBytes len
      let ws := (List.range (n / 16)).map (fun i => x.readWord e false (loc / 16 + i))
      let bytes := ws.flatMap (fun w => bytesLE 16 w.1.toNat)
      let bad := ws.any (fun w => w.2.1)
      let p := if len = 0 then inlinePkt 1 (engReq e) 0 epoch lid rem 0xFFFF bad (BitVec.ofNat 128 (ofBytesLE bytes))
               else bodyPkt 1 (engReq e) 0 epoch lid rem len bad bytes
      p :: putbPackets x e epoch lid fuel (loc + n) (rem + n) (left - n)

/-- A contribution (R221): one flit to the entry node, addressed by the reduction address. -/
def conPkt (e tag epoch lid radr : Nat) (v : Quad) : Pkt := inlinePkt 4 (engReq e) tag epoch lid radr 0xFFFF false v

/-- What a paired copy captures of the bundle, the control slot first. -/
def captured (s : State) (x : EngSt) (e : Nat) (co : CtlOut) (lo : LsOut) : List CapItem :=
  let ep := s.engEpoch e
  let li := s.engLid e
  (match co.act with
   | .enq a => [.descriptor (enqWords x e a)]
   | .evpost c f => [.event c f]
   | _ => [])
    ++ (match lo.act with
        | .putw a d => [.packet (inlinePkt 1 (engReq e) 0 ep li a 0xFFFF false d)]
        | .putb loc rem n => (putbPackets x e ep li 1025 loc rem n).map CapItem.packet
        | .rsend a d => [.contribution (conPkt e 0 ep li a d)]
        | _ => [])

/-- The granules that capturing corrects. -/
def capturedFixes (x : EngSt) (e : Nat) (co : CtlOut) (lo : LsOut) : List Nat :=
  (match co.act with | .enq a => x.fixesIn e (a / 16) 4 | _ => [])
    ++ (match lo.act with | .putb loc _ n => x.fixesIn e (loc / 16) (n / 16) | _ => [])

/-- The bundle makes a request on the network. -/
def goesOut (b : EBank) (lo : LsOut) : Bool :=
  match lo.act with
  | .getw _ _ | .getb _ _ _ => true
  | .putw _ _ | .putb _ _ _ | .rsend _ _ => b.copy = 0
  | _ => false

/-- A stall that no command of this engine ends (R123, R125, R126, R165, R191). -/
def State.stalled (s : State) (e : Nat) (x : EngSt) (co : CtlOut) (lo : LsOut) : Bool :=
  let b := x.cur
  (goesOut b lo && decide (16 ≤ s.engOut e))
    || (co.act == .fence && decide (s.ownOut e x.active b.gen ≠ []))
    || (b.copy = 0 && (match co.act with | .evpost _ _ => s.schInit | _ => false))
    || s.bufferFull e b (captured s x e co lo)

/-! ## The cycle of issue (R119, R120, R136) -/

def maxReady (m : SMap Nat) (ks : List Nat) : Nat := ks.foldl (fun n k => max n (SMap.get (fun _ => 0) m k)) 0

/-- The data bank that the load-store slot accesses. -/
def lsBankOf (u : Bundle) (b : EBank) (lo : LsOut) : Option Nat :=
  if lsOn u b then
    match lsOp u.l.opc, lo.act with
    | some f, _ => if f.mode = .loc then some (lsEa b u.l.x (if f.vec then 16 else 4) / 16 % 16) else none
    | none, _ => none
  else none

/-- The bank with its counts moved to the cycle the bundle issues. -/
def EBank.toIssue (b : EBank) (u : Bundle) (bk : Option Nat) : EBank :=
  let t1 := max b.cyc (max (maxReady b.ready (u.readKeys b)) (maxReady b.chain (u.chainKeys b)))
  let t2 := if u.v.opc ≠ 0 then max t1 b.vfree else t1
  let wait := if b.rmw.isSome ∧ b.rmw = bk then 1 else 0
  { b with cyc := t2 + wait, stallDep := b.stallDep + (t2 - b.cyc), stallMem := b.stallMem + wait,
           vbusy := b.vbusy + if u.v.opc ≠ 0 then 1 else 0 }

def setReady (m : SMap Nat) (ks : List Nat) (n : Nat) : SMap Nat := ks.foldl (fun a k => SMap.set (fun _ => 0) a k n) m

/-- After issue: when the results are ready, and when the next bundle may issue. -/
def EBank.afterIssue (b : EBank) (u : Bundle) (con von lon partialSt taken : Bool) (bk : Option Nat) : EBank :=
  let t := b.cyc
  let clat := match ctlOp u.c.opc with | some (_, n, _) => n | none => 0
  let (vlat, vcyc, vch) := match vecOp u.v.opc with | some f => f.time.cost u.v.x.fmt.toNat | none => (1, 1, 1)
  let (llat, ldst) :=
    match lsOp u.l.opc with
    | some f => (f.lat, (if f.load ∧ f.mode = .loc then [if f.vec then keyV u.l.x.dr.toNat else keyS u.l.x.dr.toNat] else [])
                          ++ (if u.l.opc = 6 then [keyP u.l.x.pd.toNat] else []))
    | none => (0, [])
  let r0 := if con then setReady b.ready (ctlWrites u.c) (t + clat) else b.ready
  let r1 := if von then setReady r0 (vecWrites u.v) (t + vlat) else r0
  let r2 := if lon then setReady (setReady r1 (lsWrites u.l) (t + 1)) ldst (t + llat) else r1
  let c1 := if von then setReady b.chain (vecWrites u.v) (t + vch) else b.chain
  { b with ready := r2, chain := if lon then setReady c1 ldst (t + llat) else c1,
           vfree := if von then t + vcyc else b.vfree, rmw := if partialSt then bk else none,
           cyc := if taken then t + 3 else t + 1 }

/-! ## Where the next bundle is (R120, R121) -/

/-- The innermost level stands first. A level whose last pass ends at `pc` ends; an outer level may end there too. -/
def loopNext (pc : Nat) : List LoopLvl → Nat × List LoopLvl
  | [] => (pc + 1, [])
  | l :: r =>
    if l.last = pc then (if l.left ≤ 1 then loopNext pc r else (l.first, { l with left := l.left - 1 } :: r)) else (pc + 1, l :: r)

/-- The next PC and the levels after a bundle that does `a`. Levels stand outermost first in the bank. -/
def nextPc (b : EBank) (a : EngAct) : Nat × List LoopLvl :=
  match a with
  | .goto t ends =>
    let n := t.toNat
    (n, if ends then b.loops.filter (fun l => decide (l.first ≤ n ∧ n ≤ l.last)) else b.loops)
  | .loop 0 last =>
    let (n, l) := loopNext last b.loops.reverse
    (n, l.reverse)
  | .loop k last => (b.pc + 1, b.loops ++ [⟨b.pc + 1, last, k⟩])
  | _ =>
    let (n, l) := loopNext b.pc b.loops.reverse
    (n, l.reverse)

/-! ## Special registers (R100) -/

/-- The value MFSR reads, and the engine after it (a read of TNS takes the snapshot). -/
def State.mfsr (s : State) (e : Nat) (x : EngSt) (idx : Nat) : Word × EngSt :=
  let b := x.cur
  let w (n : Nat) : Word := BitVec.ofNat 32 n
  let lc (i : Nat) : Nat := (b.loops[i]?.map LoopLvl.left).getD 0
  match idx with
  | 0 => (b.flags, x)
  | 1 => (w (lc 0), x)
  | 2 => (w (lc 1), x)
  | 3 => (w b.tid, x)
  | 4 => (w b.flow, x)
  | 5 => (w (s.engLid e), x)
  | 6 => (w e, x)
  | 7 => (w (s.engEpoch e + if s.engStale e then 256 else 0), x)
  | 8 => (w (satAdd 0xFFFFFFFF b.cyc 0), x)
  | 9 =>
    let t := s.dieNow (engTile e)
    (w (timeNs t), x.setCur { b with tsec := w (timeSec t), tfrac := w (timeFrac t) })
  | 10 => (b.tsec, x)
  | 11 => (b.tfrac, x)
  | 12 => (w b.arg.toNat, x)
  | 13 => (w (b.arg.toNat / 2 ^ 32), x)
  | _ => (0, x)

/-! ## The effect of a bundle -/

/-- The local side of the load-store slot. -/
def EngSt.lsLocal (x : EngSt) (e : Nat) (a : LsAct) : EngSt × List Nat :=
  let st (x : EngSt) (ea size : Nat) (d : Quad) : EngSt × List Nat :=
    if size = 16 then (x.writeWord false (ea / 16) d, [])
    else
      let be := if ea % 8 = 0 then 0x0F else 0xF0
      let v : DWord := if ea % 8 = 0 then d.setWidth 64 else d.setWidth 64 <<< 32
      let (y, _, fx) := x.writeGran e (ea / 8) v be false
      (y, fx)
  match a with
  | .store ea size d => st x ea size d
  | .reserve ea => ({ x with resv := some (ea / 16) }, [])
  | .condStore none => ({ x with resv := none }, [])
  | .condStore (some (ea, d)) =>
    let (y, fx) := st x ea 4 d
    ({ y with resv := none }, fx)
  | _ => (x, [])

/-- The store of less than a granule (R136). -/
def partialStore : LsAct → Bool
  | .store _ size _ => size ≠ 16
  | .condStore (some _) => true
  | _ => false

/-- The next packet of a block read or write of the task in bank `w`. -/
def State.issuePiece (s : State) (e : Nat) (w : Bool) (g : Nat) (write : Bool) (loc rem left : Nat) : State :=
  let len := pieceLen rem left
  if write then
    let s0 := s.engCorrectAll e false ((s.engSt e).fixesIn e (loc / 16) (pieceBytes len / 16))
    match putbPackets (s.engSt e) e (s.engEpoch e) (s.engLid e) 1 loc rem left with
    | p :: _ => s0.issueWr (engReq e) (s.engEpoch e) (s.engLid e) rem len 0xFFFF p.poison (pktData p) (.putb e w g loc rem left)
    | [] => s
  else s.issueRd (engReq e) (s.engEpoch e) (s.engLid e) rem len (.getb e w g loc rem left)

/-- The remote side of the load-store slot. -/
def State.lsRemoteAct (s : State) (e : Nat) (w : Bool) (b : EBank) (a : LsAct) : State :=
  let ep := s.engEpoch e
  let li := s.engLid e
  match a with
  | .getw dr addr => s.issueRd (engReq e) ep li addr 0 (.getw e w b.gen dr)
  | .getb loc rem n => s.issuePiece e w b.gen false loc rem n
  | .putw addr d =>
    if b.copy = 0 then s.issueWr (engReq e) ep li addr 0 0xFFFF false (bytesLE 16 d.toNat) (.putw e w b.gen) else s
  | .putb loc rem n => if b.copy = 0 then s.issuePiece e w b.gen true loc rem n else s
  | .rsend radr d =>
    if b.copy = 0 then
      let t := s.freeTag (engReq e)
      let s1 := s.send (.rcon (conPkt e t ep li radr d))
      { s1 with net := { s1.net with outst := s1.net.outst ++ [outReq (engReq e) t radr true (.rsend e w b.gen)] } }
    else s
  | _ => s

/-- The bundle issues and completes: registers, memory, requests, events, the next PC; then what ends or stops the task. -/
def State.runBundle (s : State) (e : Nat) (u : Bundle) (co : CtlOut) (lo : LsOut) : State :=
  let x0 := s.engSt e
  let b00 := x0.cur
  let bk := lsBankOf u b00 lo
  -- waits of unstated length
  let posts := match co.act with | .evpost _ _ => b00.copy == 0 | _ => false
  let keys := u.waitKeys b00
  let waits := b00.late || b00.wait == EWait.enqTaken || (co.act == .fence && b00.owe) || posts || b00.got.any (fun k => keys.contains k)
  let (s0, b0) := if waits then s.waitFree b00 else (s, b00)
  let b1 := { b0.toIssue u bk with late := false, wait := .none, got := b0.got.filter (fun k => !keys.contains k),
                                   owe := if co.act = .fence then goesOut b0 lo else b0.owe || goesOut b0 lo }
  -- results; every operand was read from the bank before the bundle
  let (bv, g) := vecRun u b1
  let (mf, x1) := match co.act with | .mfsr rd i => (let (v, y) := s0.mfsr e (x0.setCur b1) i; ([(rd, v)], y)) | _ => ([], x0.setCur b1)
  let b2 := (co.s ++ mf ++ lo.s).foldl (fun b (i, v) => b.setS i v) bv
  let b3 := (co.p ++ lo.p).foldl (fun b (i, v) => b.setP i v) b2
  let b4 := lo.v.foldl (fun b (i, v) => b.setV i v) b3
  let b5 := { b4 with flags := co.flags.getD b4.flags ||| BitVec.ofNat 32 g }
  let (npc, loops) := nextPc b1 co.act
  let taken := match co.act with | .goto _ _ => true | _ => false
  let b6 := (b5.afterIssue u (predOn u.c.q b00) (vecOn u b00) (lsOn u b00) (partialStore lo.act) taken bk)
  let flagTrap := decide (g &&& bitsOf b00.flags 11 8 ≠ 0)
  let isDone := co.act == .done
  let b7 := { b6 with pc := if flagTrap then b00.pc else if isDone then npc % 4096 else if 4095 < npc then b00.pc else npc, loops := loops }
  let (x2, fx) := x1.lsLocal e lo.act
  let s1 := s0.setEng e ({ x2 with resv := if isDone then none else x2.resv }.setCur b7)
  let s2 := s1.engCorrectAll e false (lo.fixes ++ fx ++ if b00.copy = 0 then [] else capturedFixes x0 e co lo)
  let s3 := s2.lsRemoteAct e x0.active b00 lo.act
  let s4 := match co.act with | .evpost c f => if b00.copy = 0 then s3.postEvent c f else s3 | _ => s3
  let (s5, overrun) := if b00.copy = 0 then (s4, false) else s4.capture b00 (captured s x0 e co lo)
  -- the ends
  if isDone then
    let c := (s5.engSt e).cur
    let (s6, c1) := if s5.ownOut e x0.active b00.gen = [] then (s5, c) else s5.waitFree c
    let s7 := s6.setEng e ((s6.engSt e).setCur { c1 with wait := if flagTrap then .flagDone else .done })
    if overrun then s7.impreciseCause e x0.active b00.gen causeBuserr false 0 else s7
  else if flagTrap then s5.trapTask e { cause := causeFlag, mult := overrun, both := overrun, pc := b00.pc, slot := 1 }
  else if 4095 < npc then s5.trapTask e { cause := causeIfetch, pc := npc }
  else
    let s6 := if overrun then s5.impreciseCause e x0.active b00.gen causeBuserr false 0 else s5
    if co.act = .brk then s6.haltEngine e 2
    else if x0.stepping then s6.setEng e { s6.engSt e with stepping := false, haltDue := 4 }
    else s6

def State.markEnq (s : State) (e : Nat) : State :=
  let x := s.engSt e
  s.setEng e (x.setCur { x.cur with wait := .enqOffered })

/-- R126: the descriptor of an ENQ is offered at the engine input of the tile. -/
def State.offerEnq (s : State) (e a : Nat) : State :=
  let x := s.engSt e
  let i := 2 + 4 * engTile e
  if s.inputRoom i then
    ((s.engCorrectAll e false (x.fixesIn e (a / 16) 4)).markEnq e).pushInput i
      (enqItem (.engine e) (engReq e) (s.engEpoch e) (s.engLid e) false (enqWords x e a))
  else s

/-- The engine may issue: it is ON, a task is in the active bank, and no halt, swap or wait is due. -/
def State.mayIssue (s : State) (e : Nat) : Bool :=
  let x := s.engSt e
  s.isOn (oPwrEng e) && x.cur.busy && !s.halted e && x.haltDue = 0 && !x.swapDue
    && (x.cur.wait == .none || x.cur.wait == .enqTaken)

/-- R97: the bundle at the PC waits; the cycles it does so are counted as it issues. -/
def State.holdBundle (s : State) (e : Nat) : State :=
  let x := s.engSt e
  if x.cur.late then s else s.setEng e (x.setCur { x.cur with late := true })

/-- The bundle `u` at the PC of engine `e`, with the granules its fetch corrected. -/
def State.issueBundle (s : State) (e : Nat) (u : Bundle) : State :=
  let x := s.engSt e
  let b := x.cur
  let keys := u.waitKeys b
  if (s.pendingV e x.active b.gen).any (fun k => keys.contains k) then s.holdBundle e
  else
    let env : LsEnv := ⟨x, e, b, s.engStale e⟩
    let co := ctlRun u b
    let lo := lsRun env u
    let cs := u.causes env (s.bit (oEcfg e) 27)
    match lowest cs with
    | some (c, a, _) =>
      let sw := match co.act with | .trap n => if c = causeSoft then n else 0 | _ => 0
      s.trapTask e { cause := c, mult := severalCauses cs c, pc := b.pc, slot := slotOf cs c, addr := a, sw := sw, refused := refusedStale cs }
    | none =>
      if s.stalled e x co lo then s.holdBundle e
      else match co.act with
      | .enq a => if b.copy = 0 ∧ b.wait ≠ EWait.enqTaken then s.offerEnq e a else s.runBundle e u co lo
      | _ => s.runBundle e u co lo

/-- A command of engine `e` whose instruction the bundle at its PC holds (`hit`). A held cause is taken at the boundary (R129); a
fetch that cannot be used raises POISON. Any other command of the engine has no effect. -/
def State.issue (s : State) (e : Nat) (hit : Bundle → Bool) : State :=
  let x := s.engSt e
  if s.isOn (oPwrEng e) && (s.heldTrap e).isSome then s.takeHeld e
  else if s.mayIssue e then
    let (w, bad, fx) := x.readWord e true x.cur.pc
    if bad then s.trapTask e { cause := causePoison, pc := x.cur.pc, addr := granAddr true (2 * x.cur.pc) }
    else
      let u := bundleOf w
      if hit u then (s.engCorrectAll e true fx).issueBundle e u else s
  else s

/-- The control slot of the bundle is this instruction, or holds a reserved opcode. -/
def hitCtl (opc : Nat) (q : Pred) (x : CArgs) (u : Bundle) : Bool := u.c == ⟨q, opc, x⟩ || (ctlOp u.c.opc).isNone
def hitVec (opc : Nat) (q : Pred) (x : VArgs) (u : Bundle) : Bool := u.v == ⟨q, opc, x⟩ || (vecOp u.v.opc).isNone
def hitLs (opc : Nat) (q : Pred) (x : LArgs) (u : Bundle) : Bool := u.l == ⟨q, opc, x⟩ || (lsOp u.l.opc).isNone

def State.issueCtl (s : State) (e : Eng) (opc : Nat) (q : Pred) (x : CArgs) : State := s.issue e.val (hitCtl opc q x)
def State.issueVec (s : State) (e : Eng) (opc : Nat) (q : Pred) (x : VArgs) : State := s.issue e.val (hitVec opc q x)
def State.issueLs (s : State) (e : Eng) (opc : Nat) (q : Pred) (x : LArgs) : State := s.issue e.val (hitLs opc q x)

end Sys2Proof.Machine
end

