-- ==== Sys2Proof/Machine/EngineEvents.lean ====
section
/-! DEFINITION. What happens to engines beside their bundles (ch. 05, 06): the end of DONE, timeouts, the bank swap, faults that take
an engine over, the migration copy, admission, the self-test's result, the watchdog, and the leaks of the buckets. -/

namespace Sys2Proof.Machine

/-- The register with LEVEL, THRESH and LEAK of a bucket (R138, R193, R340). -/
def bucketReg : Bucket → Nat
  | .eng e => oEng e.val + 0x24
  | .sched => 0x300060
  | .dram k => 0x900100 + 0x20 * k.val
  | .tileSram t => 0x900200 + 0x10 * t.val
  | .blockRam t => 0x900208 + 0x10 * t.val
  | .hub => 0x900240

/-- SYS_ENGCLK of a tile. -/
def oEngclk (t : Nat) : Nat := 0x3A0 + 4 * t

/-- R143: at a bundle boundary the banks swap; the pre-empted task is in the shadow bank. A trap at the same boundary comes first
(R130). An ENQ whose descriptor was accepted has still to issue. -/
def State.bankSwap (s : State) (e : Nat) : State :=
  let x := s.engSt e
  let b := x.cur
  if x.swapDue = false ∨ b.wait = EWait.enqTaken then s
  else if (s.heldTrap e).isSome then s.takeHeld e
  else
    let s1 := if b.wait = EWait.enqOffered then s.withdrawEng e else s
    let b1 := { b with wait := if b.wait = EWait.enqOffered then EWait.none else b.wait }
    let x1 : EngSt := { x.setCur b1 with active := !x.active, shocc := true, swapDue := false, resv := none }
    let s2 := (s1.setEng e x1).count (oEng e + 0x14) 15 0 1
    if (s2.ctx b.tid).st = .running then s2.setCtx b.tid { s2.ctx b.tid with st := .preempted } else s2

/-- R125: DONE completes when its accesses have been acknowledged. -/
def State.doneComplete (s : State) (e : Nat) : State :=
  let x := s.engSt e
  let b := x.cur
  if s.isOn (oPwrEng e) = true ∧ b.busy = true ∧ s.halted e = false ∧ (b.wait = EWait.done ∨ b.wait = EWait.flagDone) then
    if b.wait = EWait.done ∧ (s.heldTrap e).isSome = true then s.takeHeld e
    else if s.ownOut e x.active b.gen = [] then s.finishDone e else s
  else s

/-- R123: no response for 100 µs. -/
def State.remoteTmo (s : State) (e tag : Nat) : State :=
  let r := engReq e
  match s.net.outst.find? (fun q => q.src == r && q.tag == tag) with
  | none => s
  | some q =>
    match q.kind.owner with
    | none => s
    | some (_, w, g) =>
      let drop (o : OutReq) : OutReq := if o.src = r ∧ o.tag = tag then { o with kind := .other } else o
      let s1 := { s with net := { s.net with outst := s.net.outst.map drop } }
      (s1.log (mkRec r 0x043 q.addr 1 r)).impreciseCause e w g causeBuserr true q.addr

def State.bucketLeak (s : State) (o : Nat) : State := s.setFld o 31 24 (s.fld o 31 24 - 1)

def execBucketLeak (b : Bucket) (s : State) : Host.Outcome State Fault Refusal := .next (s.bucketLeak (bucketReg b))

def execBankSwap (e : Eng) (s : State) : Host.Outcome State Fault Refusal := .next (s.bankSwap e.val)

def execDoneComplete (e : Eng) (s : State) : Host.Outcome State Fault Refusal := .next (s.doneComplete e.val)

def execRemoteAccessTmo (e : Eng) (tag : BitVec 8) (s : State) : Host.Outcome State Fault Refusal :=
  .next (s.remoteTmo e.val tag.toNat)

/-- R149 cause 1, of an engine that is ON. -/
def execRegfileParityError (e : Eng) (s : State) : Host.Outcome State Fault Refusal :=
  .next (if s.isOn (oPwrEng e.val) then s.takeover e.val 1 else s)

/-- R149 cause 2: the watchdog expired and the trap has not been reported. -/
def execWdogReportTmo (e : Eng) (s : State) : Host.Outcome State Fault Refusal :=
  .next (if (s.engSt e.val).wdogRaised then s.takeover e.val 2 else s)

/-- R149 cause 3; a halted engine still answers (R406). -/
def execIslandNoAnswer (e : Eng) (s : State) : Host.Outcome State Fault Refusal :=
  .next (if s.isOn (oPwrEng e.val) = true ∧ s.halted e.val = false then s.takeover e.val 3 else s)

/-- R150 step 5: the copy of a takeover whose new engine is ON is done. -/
def execMigrationCopyDone (l : LEng) (s : State) : Host.Outcome State Fault Refusal :=
  .next (match (s.le l.val).takeover with
    | some t => if t.copied = false ∧ s.isOn (oPwrEng t.new) = true then s.migrate l.val t else s
    | none => s)

/-- R150: the old engine does not answer the copy. -/
def execCopySourceTmo (l : LEng) (s : State) : Host.Outcome State Fault Refusal :=
  .next (match (s.le l.val).takeover with
    | some t => if t.copied = false ∧ s.isOn (oPwrEng t.new) = true then s.copyFailed l.val t else s
    | none => s)

/-- R148: the record of a bump. -/
def execOldEpochReport (l : LEng) (s : State) : Host.Outcome State Fault Refusal :=
  .next (let x := s.le l.val
    if x.reportDue then (s.setLe l.val { x with reportDue := false }).log (mkRec reqSch 0x046 l.val x.discards reqSch) else s)

def execEngineAdmission (l : LEng) (s : State) : Host.Outcome State Fault Refusal := .next (s.admitLe l.val)

def execStestDone (e : Eng) (failUnit : Fin 5) (s : State) : Host.Outcome State Fault Refusal := .next (s.stestEnd e.val failUnit.val)

def execEngineWdogExpiry (e : Eng) (s : State) : Host.Outcome State Fault Refusal := .next (s.wdogExpire e.val)

/-- R96: the source of the tile runs at the new frequency. -/
def execEngclkLock (t : Tile) (s : State) : Host.Outcome State Fault Refusal := .next (s.setBit (oEngclk t.val) 31 true)

end Sys2Proof.Machine
end

