-- ==== Sys2Proof/Machine/Dram.lean ====
section
/-! DEFINITION. Where a DRAM line lies (R316, R317), the granules of a channel, and what a line is found to be (R333 to R341). -/

namespace Sys2Proof.Machine

/-! ## Channels -/

def oMem (k : Nat) : Nat := 0x800000 + 0x10000 * k
def oIce : Nat := 0x900000
def oDramil : Nat := 0x50000

/-- The requester ID of a DRAM controller (R15), and of the integrity unit. -/
def memReq (k : Nat) : Nat := k / 2 * 0x1000 + 0x500 + k % 2
def reqIce : Nat := 0x4006

/-- The interrupt of the integrity unit on the management cores (R346, R360). -/
def mgmtLineIce : Nat := 69

def State.chan (s : State) (k : Nat) : ChanSt := SMap.get (fun _ => {}) s.mem k
def State.setChan (s : State) (k : Nat) (x : ChanSt) : State := { s with mem := SMap.set (fun _ => {}) s.mem k x }

/-- The widths of a channel's device fields (MEM_GEOM). -/
structure Geom where
  rowB : Nat
  colB : Nat
  bgB : Nat
  baB : Nat
  cidB : Nat
  rankB : Nat

def geomOf (w : Word) : Geom := ⟨bitsOf w 28 24, bitsOf w 19 16, bitsOf w 13 12, bitsOf w 9 8, bitsOf w 5 4, bitsOf w 1 0⟩
def State.geom (s : State) (k : Nat) : Geom := geomOf (s.reg (oMem k + 0xC))
def Geom.bits (g : Geom) : Nat := g.rowB + g.colB + g.bgB + g.baB + g.cidB + g.rankB

/-- R316: the capacity in bytes. -/
def State.dramCap (s : State) (k : Nat) : Nat := 128 * 2 ^ (s.geom k).bits

/-! ## Interleave (R316) -/

/-- A span of addresses that a set of channels holds. -/
structure Seg where
  base : Nat
  len : Nat
  chans : List Nat

def State.inMask (s : State) (k : Nat) : Bool := s.bit oDramil k

def State.dramSegs (s : State) : List Seg :=
  let seg (b : Nat) (l : List Nat) : Seg := ⟨b, l.length * s.dramCap (l.headD 0), l⟩
  match s.fld oDramil 31 30 with
  | 1 => [seg 0 ((List.range 8).filter s.inMask)]
  | 2 => (List.range 4).map (fun n => seg (n * 2 ^ 39) ([2 * n, 2 * n + 1].filter s.inMask))
  | _ => ((List.range 8).filter s.inMask).map (fun k => seg (k * 2 ^ 38) [k])

def Seg.has (g : Seg) (a : Nat) : Bool := decide (g.base ≤ a) && decide (a < g.base + g.len)

/-- The channel of an address, and the address in it; none is a decode miss. -/
def State.dramPlace (s : State) (a : Nat) : Option (Nat × Nat) :=
  match (s.dramSegs).find? (fun g => g.has a) with
  | none => none
  | some g =>
    let n := g.chans.length
    let b := 2 ^ s.fld oDramil 20 16
    let r := a - g.base
    if n = 1 then some (g.chans.headD 0, r)
    else some (g.chans.getD (a / b % n) 0, r / (b * n) * b + r % b)

/-- The first address at or after `a` in a span that channel `k` holds. -/
def Seg.nextOn (g : Seg) (b k a : Nat) : Option Nat :=
  match g.chans.findIdx? (· == k) with
  | none => none
  | some i =>
    let n := g.chans.length
    let a0 := max a g.base
    let j := a0 / b
    let c := if n = 1 ∨ j % n = i then a0 else (j + (i + n - j % n) % n) * b
    if c < g.base + g.len then some c else none

/-- The first address at or after `a` that R316 places on channel `k`. -/
def State.dramNext (s : State) (k a : Nat) : Option Nat :=
  (s.dramSegs).findSome? (fun g => g.nextOn (2 ^ s.fld oDramil 20 16) k a)

/-- The channels that hold part of `n` bytes at `a`, and whether channels hold all of them. -/
def State.dramSpan (s : State) (a n : Nat) : List Nat × Bool :=
  let ks := (List.range 8).filter (fun k => match s.dramNext k a with | some x => decide (x < a + n) | none => false)
  let part (g : Seg) : Nat := min (a + n) (g.base + g.len) - max a g.base
  (ks, decide ((s.dramSegs.map part).sum = n))

/-- Channels that interleave with channel `k`. -/
def State.partners (s : State) (k : Nat) : List Nat :=
  ((s.dramSegs.filter (fun g => g.chans.contains k)).flatMap Seg.chans).filter (fun j => j != k)

/-! ## Device fields (R317) -/

/-- A number cut into fields of the given widths, from its least significant bit upwards. -/
def cutFields : List Nat → Nat → List Nat
  | [], _ => []
  | w :: ws, x => x % 2 ^ w :: cutFields ws (x / 2 ^ w)

/-- A place in the devices. -/
structure DevPlace where
  rank : Nat
  /-- banks of all ranks, chip IDs and bank groups in one numbering -/
  bank : Nat
  row : Nat
  col : Nat

def Geom.dev (g : Geom) (order l : Nat) : DevPlace :=
  let mk (rank cid bg ba row col : Nat) : DevPlace :=
    ⟨rank, ((rank * 2 ^ g.cidB + cid) * 2 ^ g.bgB + bg) * 2 ^ g.baB + ba, row, col⟩
  match order with
  | 1 =>
    match cutFields [g.colB, g.bgB, g.baB, g.rankB, g.cidB, g.rowB] l with
    | [col, bg, ba, rk, cid, row] => mk rk cid bg ba row col
    | _ => mk 0 0 0 0 0 0
  | 2 =>
    match cutFields [g.rankB, g.cidB, g.bgB, g.baB, g.colB, g.rowB] l with
    | [rk, cid, bg, ba, col, row] => mk rk cid bg ba row col
    | _ => mk 0 0 0 0 0 0
  | o =>
    match cutFields [g.bgB, g.baB, g.colB, g.rankB, g.cidB, g.rowB] l with
    | [bg, ba, col, rk, cid, row] =>
      if o = 3 then mk rk cid (bg ^^^ row % 2 ^ g.bgB) (ba ^^^ row / 2 ^ g.bgB % 2 ^ g.baB) row col else mk rk cid bg ba row col
    | _ => mk 0 0 0 0 0 0

/-- The place of the line at a channel address. -/
def State.devOf (s : State) (k ca : Nat) : DevPlace := (s.geom k).dev (s.fld (oMem k + 0x10) 1 0) (ca / 128)

/-- The number of a line's first granule in the cell store. -/
def Geom.cell (g : Geom) (d : DevPlace) : Nat := ((d.bank * 2 ^ g.rowB + d.row) * 2 ^ g.colB + d.col) * 16

/-! ## Granules -/

/-- A granule as stored; one that nothing has written since its contents were lost is free (R38, R343). -/
def ChanSt.gran (x : ChanSt) (k i : Nat) : DGran :=
  match SMap.find x.cells i with
  | some g => g
  | none => ⟨Config.uninit (2 ^ 40 + 8 * x.lost + k) i, Config.uninitCheck (2 ^ 40 + 8 * x.lost + k) i⟩

/-- The sixteen granules of the line at a physical address. -/
def State.rawLine (s : State) (a : Nat) : List DGran :=
  match s.dramPlace a with
  | none => []
  | some (k, ca) => (List.range 16).map (fun g => (s.chan k).gran k ((s.geom k).cell (s.devOf k ca) + g))

/-- Granules of a line are stored; none leaves a granule as it is. -/
def State.putLine (s : State) (a : Nat) (l : List (Option DGran)) : State :=
  match s.dramPlace a with
  | none => s
  | some (k, ca) =>
    let c := (s.geom k).cell (s.devOf k ca)
    let x := s.chan k
    s.setChan k { x with
      cells := (List.range 16).foldl (fun m g => match l.getD g none with | some v => SMap.insert m (c + g) v | none => m) x.cells,
      other := (List.range 16).foldl (fun m g => if (l.getD g none).isSome then SMap.drop m (c + g) else m) x.other }

/-- R333: the code of a channel changes; what was written under the other one reads as undefined. -/
def State.recode (s : State) (k : Nat) : State :=
  let x := s.chan k
  s.setChan k { x with cells := x.other, other := x.cells, lost := x.lost + 1 }

/-- R338: the marker. -/
def State.putMarker (s : State) (a : Nat) : State := s.putLine a (List.replicate 16 (some poisonDGran))

/-- ICE_CHMODE.TAGGED of a channel (R333). -/
def State.tagged (s : State) (k : Nat) : Bool := s.bit oIce k

/-! ## What a line is found to be (R336, R338, R341) -/

structure Found where
  /-- the granules delivered -/
  gr : List DGran
  /-- corrected granules, and the mask of uncorrectable ones -/
  corr : List Nat
  bad : Nat
  /-- the marker -/
  poison : Bool

def applyFlips (l : List DGran) (f : List (BitVec 64 × BitVec 16)) : List DGran :=
  (List.range l.length).map (fun i =>
    let g := l.getD i poisonDGran
    let e := f.getD i (0, 0)
    ⟨g.data ^^^ e.1, g.chk ^^^ e.2⟩)

def decodeLine (tagged : Bool) (l : List DGran) : Found :=
  let rs := l.map (dramRead tagged)
  let all := rs.all (fun r => decide (r.2 = .poison))
  let isBad (r : DGran × EccState) : Bool := decide (r.2 = .uncorrectable) || (decide (r.2 = .poison) && !all)
  { gr := rs.map Prod.fst,
    corr := (List.range rs.length).filter (fun i => match rs[i]? with | some r => decide (r.2 = .corrected) | none => false),
    bad := ((List.range rs.length).map (fun i => match rs[i]? with | some r => if isBad r then 2 ^ i else 0 | none => 0)).sum,
    poison := all && !rs.isEmpty }

/-- The syndrome of a granule as ICE_DSYN shows it. -/
def dramSyn (tagged : Bool) (g : DGran) : Nat :=
  let want := dramEncode tagged g.data (if tagged then nib g.chk.toNat 3 else 0)
  (g.chk ^^^ want).toNat % if tagged then 2 ^ 12 else 2 ^ 16

/-- The granules of a line of bytes outside any range (R334, R335). -/
def encodeLine (tagged : Bool) (l : List Byte) : List DGran :=
  (List.range 16).map (fun g =>
    let d : DWord := BitVec.ofNat 64 (ofBytesLE ((l.drop (8 * g)).take 8))
    ⟨d, dramEncode tagged d 0⟩)

def lineBytes (l : List DGran) : List Byte := l.flatMap (fun g => bytesLE 8 g.data.toNat)

/-! ## Counting (R340, R341) -/

def oDecc (k : Nat) : Nat := oIce + 0x100 + 0x20 * k

/-- ICE_DLAST and ICE_DSYN record a line. -/
def State.noteLine (s : State) (k a : Nat) (ue marker : Bool) (g syn : Nat) : State :=
  let s1 := (s.setReg (oDecc k + 0x10) (BitVec.ofNat 32 a)).setReg (oDecc k + 0x14) (BitVec.ofNat 32 (a / 2 ^ 32))
  s1.setReg (oDecc k + 0x18)
    (BitVec.ofNat 32 ((if ue then 2 ^ 31 else 0) + (if marker then 2 ^ 30 else 0) + g * 2 ^ 16 + syn))

/-- One corrected granule: the counter, the bucket and its record. -/
def State.oneCorrection (s : State) (k a : Nat) : State :=
  let s1 := s.count (oDecc k + 4) 31 0 1
  let n := SMap.get (fun _ => 0) s1.ice.since k + 1
  let (s2, full) := s1.bucket (oDecc k)
  let keep (m : Nat) (t : State) : State := { t with ice := { t.ice with since := SMap.set (fun _ => 0) t.ice.since k m } }
  if full then (keep 0 s2).log (mkRec (memReq k) 0x0C0 a n (memReq k)) else keep n s2

/-- Corrections found in the line at `a`, as read. -/
def State.corrections (s : State) (k a : Nat) (f : Found) (asRead : List DGran) : State :=
  match f.corr.getLast? with
  | none => s
  | some g =>
    let s1 := f.corr.foldl (fun t _ => t.oneCorrection k a) s
    s1.noteLine k a false false g (dramSyn (s.tagged k) (asRead.getD g poisonDGran))

/-- R341: a line uncorrectable after the second read. -/
def State.uncorrectable (s : State) (k a : Nat) (f : Found) (asRead : List DGran) (marker : Bool) (req code : Nat) : State :=
  let g := ((List.range 16).filter (fun i => f.bad.testBit i)).getLastD 0
  let s1 := (s.count (oDecc k + 8) 31 0 1).noteLine k a true marker g (dramSyn (s.tagged k) (asRead.getD g poisonDGran))
  s1.log (mkRec (memReq k) code a f.bad req)

end Sys2Proof.Machine
end

