-- ==== Sys2Proof/Machine/Ice.lean ====
section
/-! DEFINITION. Protected ranges (ch. 14): their settings and metadata, lines and counter blocks under AES-256-GCM, the
counter-and-tag cache, re-encryption and rotation, the random source, and the ICE registers. -/

namespace Sys2Proof.Machine

/-! ## Ranges and their layout -/

def oRange (r : Nat) : Nat := oIce + 0x800 + 0x40 * r
def oPrstat (r : Nat) : Nat := oRange r + 0x24

def State.range (s : State) (r : Nat) : RangeSt := SMap.get (fun _ => {}) s.ice.ranges r
def State.setRange (s : State) (r : Nat) (x : RangeSt) : State :=
  { s with ice := { s.ice with ranges := SMap.set (fun _ => {}) s.ice.ranges r x } }

def State.rngEn (s : State) (r : Nat) : Bool := s.bit (oRange r) 31
/-- 0 OFF, 1 INIT, 2 ACTIVE, 3 READONLY, 4 ROTATING. -/
def State.rngState (s : State) (r : Nat) : Nat := s.fld (oPrstat r) 31 29
def State.rngBase (s : State) (r : Nat) : Nat := (s.reg (oRange r + 8)).toNat + 2 ^ 32 * (s.reg (oRange r + 0xC)).toNat
def State.rngSize (s : State) (r : Nat) : Nat := s.fld (oRange r + 0x10) 16 0 * 2 ^ 20
def State.rngMeta (s : State) (r : Nat) : Nat := (s.reg (oRange r + 0x18)).toNat + 2 ^ 32 * (s.reg (oRange r + 0x1C)).toNat

/-- R350: the numbers of blocks of the levels, from n0 on. -/
def levelCounts : Nat → Nat → List Nat
  | 0, _ => []
  | f + 1, n => if n ≤ 32 then [n] else n :: levelCounts f ((n + 31) / 32)

def State.rngLevels (s : State) (r : Nat) : List Nat := levelCounts 6 (s.rngSize r / 4096)
def State.metaSize (s : State) (r : Nat) : Nat := 128 * (s.rngLevels r).sum

/-- R354: the address of a counter block. -/
def State.blkAddr (s : State) (r lvl n : Nat) : Nat := s.rngMeta r + 128 * (((s.rngLevels r).take lvl).sum + n)

def State.ranges (s : State) : List Nat := (List.range 8).filter s.rngEn

/-- The enabled range that holds an address. -/
def State.rangeAt (s : State) (a : Nat) : Option Nat :=
  s.ranges.find? (fun r => decide (s.rngBase r ≤ a) && decide (a < s.rngBase r + s.rngSize r))

/-- The enabled range whose metadata area holds an address. -/
def State.metaAt (s : State) (a : Nat) : Option Nat :=
  s.ranges.find? (fun r => decide (s.rngMeta r ≤ a) && decide (a < s.rngMeta r + s.metaSize r))

def State.pageOf (s : State) (r a : Nat) : Nat := (a - s.rngBase r) / 4096

/-! ## Lines and blocks under a key (R353) -/

def lineIv (major minor idx : Nat) : List Byte := bytesBE 12 (major * 2 ^ 40 + minor * 2 ^ 33 + idx * 16)
def blockIv (major minor n lvl : Nat) : List Byte := bytesBE 12 (major * 2 ^ 40 + minor * 2 ^ 33 + n * 16 + 8 + lvl)

/-- Granules of 128 bytes with a 64-bit tag in the tag nibbles (R335). -/
def taggedLine (l : List Byte) (tag : Nat) : List DGran :=
  (List.range 16).map (fun g =>
    let d : DWord := BitVec.ofNat 64 (ofBytesLE ((l.drop (8 * g)).take 8))
    ⟨d, dramEncode true d (nib tag g)⟩)

def lineTag (l : List DGran) : Nat := ofNibs (l.map (fun g => nib g.chk.toNat 3))

/-- A line of plain text as stored. -/
def sealLine (key : List Byte) (major minor idx : Nat) (l : List Byte) : List DGran :=
  let iv := lineIv major minor idx
  let c := gcmText key iv l
  taggedLine c (gcmTag key iv [] c / 2 ^ 64)

/-- The plain text of stored granules, none where the tag fails. -/
def openLine (key : List Byte) (major minor idx : Nat) (l : List DGran) : Option (List Byte) :=
  let iv := lineIv major minor idx
  let c := lineBytes l
  if gcmTag key iv [] c / 2 ^ 64 = lineTag l then some (gcmText key iv c) else none

def CtrBlk.minor (b : CtrBlk) (i : Nat) : Nat := SMap.get (fun _ => 0) b.minors i
def CtrBlk.setMinor (b : CtrBlk) (i n : Nat) : CtrBlk := { b with minors := SMap.set (fun _ => 0) b.minors i n, dirty := true }

/-- R354: a counter block as 128 bytes. -/
def CtrBlk.bytes (b : CtrBlk) : List Byte :=
  bytesLE 35 (b.major + ((List.range 32).map (fun i => b.minor i * 2 ^ (7 * i + 56))).sum) ++ List.replicate 93 0

def blockOf (l : List Byte) : CtrBlk :=
  let x := ofBytesLE (l.take 35)
  { major := x % 2 ^ 56,
    minors := (List.range 32).foldl (fun m i => SMap.set (fun _ => 0) m i (x / 2 ^ (7 * i + 56) % 128)) [] }

def sealCtr (key : List Byte) (major minor n lvl : Nat) (b : CtrBlk) : List DGran :=
  taggedLine b.bytes (gcmTag key (blockIv major minor n lvl) b.bytes [] / 2 ^ 64)

def openCtr (key : List Byte) (major minor n lvl : Nat) (l : List DGran) : Option CtrBlk :=
  let c := lineBytes l
  if gcmTag key (blockIv major minor n lvl) c [] / 2 ^ 64 = lineTag l then some (blockOf c) else none

/-! ## The counter-and-tag cache (R355) -/

def cacheKey (r lvl n : Nat) : Nat := (r * 8 + lvl) * 2 ^ 32 + n
def State.cached (s : State) (r lvl n : Nat) : Option CtrBlk := SMap.find s.ice.cache (cacheKey r lvl n)
def State.setCached (s : State) (r lvl n : Nat) (b : CtrBlk) : State :=
  { s with ice := { s.ice with cache := SMap.insert s.ice.cache (cacheKey r lvl n) b } }
def State.dropCached (s : State) (r lvl n : Nat) : State :=
  { s with ice := { s.ice with cache := SMap.drop s.ice.cache (cacheKey r lvl n) } }

def State.atTop (s : State) (r lvl : Nat) : Bool := decide (lvl + 1 = (s.rngLevels r).length)

/-- The trusted block above block `n` of a level, and the place of the MINOR in it. -/
def State.parentBlk (s : State) (r lvl n : Nat) : Option (CtrBlk × Nat) :=
  if s.atTop r lvl then some ((s.range r).root, n) else (s.cached r (lvl + 1) (n / 32)).map (fun b => (b, n % 32))

def State.setParent (s : State) (r lvl n : Nat) (b : CtrBlk) : State :=
  if s.atTop r lvl then s.setRange r { s.range r with root := b } else s.setCached r (lvl + 1) (n / 32) b

/-- R360: a counter-block failure. -/
def State.ctrFail (s : State) (r lvl n : Nat) : State :=
  let x := s.range r
  let s1 := s.setRange r { x with bad := if x.bad.contains (lvl, n) then x.bad else x.bad ++ [(lvl, n)] }
  let a := s.blkAddr r lvl n
  let s2 := if s1.bit (oPrstat r) 27 then s1
            else ((s1.setBit (oPrstat r) 27 true).setReg (oRange r + 0x38) (BitVec.ofNat 32 a)).setReg (oRange r + 0x3C) (BitVec.ofNat 32 (a / 2 ^ 32))
  (s2.log (mkRec reqIce 0x0C8 a 1 reqIce)).emit (.mgmtIrq mgmtLineIce)

/-- The home tile of a block. -/
def State.homeTile (s : State) (r lvl n : Nat) : Option Nat := (s.dramPlace (s.blkAddr r lvl n)).map (fun p => p.1 / 2)

/-- R339, R340, R355: a cached block is read. What can be corrected is; an entry that cannot is discarded, and a dirty one is a
counter-block failure. -/
def State.readBlk (s : State) (r lvl n : Nat) : State :=
  match s.cached r lvl n with
  | none => s
  | some b =>
    if b.err = [] then s
    else
      let unit := memReq (2 * (s.homeTile r lvl n).getD 0)
      let word := s.blkAddr r lvl n / 128 % 8192 * 16
      let found (e : Nat × Gran) : EccState := (secdedRead e.2).2
      let s1 := (b.err.filter (fun e => decide (found e = .corrected))).foldl (fun (t : State) e => t.sramCount unit (sramLoc unit (word + e.1))) s
      if b.err.all (fun e => decide (found e = .corrected) || decide (found e = .clean)) then s1.setCached r lvl n { b with err := [] }
      else (if b.dirty then s1.ctrFail r lvl n else s1).dropCached r lvl n

/-- R360: a failed block covers the page. -/
def State.damaged (s : State) (r page : Nat) : Bool := (s.range r).bad.any (fun b => decide (page / 32 ^ b.1 = b.2))

/-- R359: a MAJOR would wrap; the range becomes READONLY. -/
def State.majorWrap (s : State) (r a req : Nat) : State :=
  let s1 := (s.setFld (oPrstat r) 31 29 3).setBit (oPrstat r) 28 true
  s1.log (mkRec reqIce 0x0CA a 1 req)

/-- R358: the children of a block whose MAJOR advances take new tags, under MINOR 0. -/
def State.retag (s : State) (r lvl n : Nat) (old new : CtrBlk) : State :=
  let key := (s.range r).key
  let m := (s.rngLevels r).getD (lvl - 1) 0
  (List.range 32).foldl (fun t i =>
    let c := 32 * n + i
    let a := t.blkAddr r (lvl - 1) c
    if m ≤ c then t
    else match t.cached r (lvl - 1) c with
      | some b => if b.dirty then t else t.putLine a ((sealCtr key new.major 0 c (lvl - 1) b).map some)
      | none =>
        match openCtr key old.major (old.minor i) c (lvl - 1) (decodeLine true (t.rawLine a)).gr with
        | some b => t.putLine a ((sealCtr key new.major 0 c (lvl - 1) b).map some)
        | none => t.ctrFail r (lvl - 1) c) s

/-- R355: the MINOR of a block advances in its parent; none where the parent is out of reach or its MAJOR would wrap. -/
def State.bumpParent (s : State) (r lvl n : Nat) : Option State :=
  match s.parentBlk r lvl n with
  | none => none
  | some (p, i) =>
    if p.minor i < 127 then some (s.setParent r lvl n (p.setMinor i (p.minor i + 1)))
    else if p.major + 1 = 2 ^ 56 then none
    else
      let q : CtrBlk := { major := p.major + 1, minors := [], dirty := true }
      some ((s.setParent r lvl n q).retag r (lvl + 1) (if s.atTop r lvl then 0 else n / 32) p q)

/-- The block as it lies in memory is written anew, under its parent's counters. -/
def State.storeBlk (s : State) (r lvl n : Nat) (b : CtrBlk) : State :=
  match s.parentBlk r lvl n with
  | none => s
  | some (p, i) =>
    s.putLine (s.blkAddr r lvl n) ((sealCtr (s.range r).key p.major (p.minor i) n lvl { b with dirty := false }).map some)

/-- R355: a block leaves the cache; a dirty one is written. -/
def State.evict (s : State) (r lvl n : Nat) : State :=
  let s := s.readBlk r lvl n
  let s := if s.atTop r lvl then s else s.readBlk r (lvl + 1) (n / 32)
  match s.cached r lvl n with
  | none => s
  | some b =>
    if b.dirty then
      match s.bumpParent r lvl n with
      | some s1 => (s1.storeBlk r lvl n b).dropCached r lvl n
      | none => s.majorWrap r (s.blkAddr r lvl n) reqIce
    else s.dropCached r lvl n

/-- A key of the cache, taken apart. -/
def cacheParts (k : Nat) : Nat × Nat × Nat := (k / 2 ^ 32 / 8, k / 2 ^ 32 % 8, k % 2 ^ 32)

/-- A block leaves with every cached block below it, the lowest levels first. -/
def State.evictTree (s : State) (r lvl n : Nat) : State :=
  (List.range (lvl + 1)).foldl (fun t l =>
    let ks := (t.ice.cache.map (fun e => cacheParts e.1)).filter
      (fun e => decide (e.1 = r) && decide (e.2.1 = l) && decide (e.2.2 / 32 ^ (lvl - l) = n))
    ks.foldl (fun u e => u.evict r l e.2.2) t) s

/-- Cached blocks of a tile. -/
def State.cachedIn (s : State) (t : Nat) : List (Nat × Nat × Nat) :=
  (s.ice.cache.map (fun e => cacheParts e.1)).filter (fun e => s.homeTile e.1 e.2.1 e.2.2 == some t)

/-- R361: the cache of a tile is written back. -/
def State.iceFlush (s : State) (t : Nat) : State := (s.cachedIn t).foldl (fun u e => u.evictTree e.1 e.2.1 e.2.2) s

/-- R360: the cache of a tile is lost; its dirty blocks fail. -/
def State.iceLost (s : State) (t : Nat) : State :=
  (s.cachedIn t).foldl (fun u e =>
    match u.cached e.1 e.2.1 e.2.2 with
    | some b => (if b.dirty then u.ctrFail e.1 e.2.1 e.2.2 else u).dropCached e.1 e.2.1 e.2.2
    | none => u) s

/-- A place in a home tile's set of 16 is made free. -/
def State.makeRoom (s : State) (r lvl n : Nat) : State :=
  match s.homeTile r lvl n with
  | none => s
  | some t =>
    let set (a : Nat) : Nat := a / 128 % 512
    let es := (s.cachedIn t).filter (fun e => decide (set (s.blkAddr e.1 e.2.1 e.2.2) = set (s.blkAddr r lvl n)))
    if es.length < 16 then s
    else
      let (v, s1) := s.draw
      match es[v.toNat % es.length]? with
      | some e => s1.evictTree e.1 e.2.1 e.2.2
      | none => s1

/-- A trusted block: cached, or verified up to a cached block or the root (R355), without a change of state. -/
def State.loadBlk (s : State) (r : Nat) : Nat → Nat → Nat → Option CtrBlk
  | 0, _, _ => some (s.range r).root
  | f + 1, lvl, n =>
    match s.cached r lvl n with
    | some b => some b
    | none =>
      match s.loadBlk r f (lvl + 1) (n / 32) with
      | none => none
      | some p =>
        let d := decodeLine true (s.rawLine (s.blkAddr r lvl n))
        if d.bad ≠ 0 ∨ d.poison = true then none
        else openCtr (s.range r).key p.major (p.minor (if f = 0 then n else n % 32)) n lvl d.gr

def State.leafOf (s : State) (r page : Nat) : Option CtrBlk := s.loadBlk r (s.rngLevels r).length 0 page

/-- R355: a counter block has been fetched. -/
def State.fetchBlk (s : State) (r lvl n : Nat) : State :=
  if s.rngState r < 2 ∨ (s.rngLevels r).length ≤ lvl ∨ (s.rngLevels r).getD lvl 0 ≤ n ∨ (s.cached r lvl n).isSome = true
      ∨ s.damaged r (n * 32 ^ lvl) = true then s
  else
    let s := if s.atTop r lvl then s else s.readBlk r (lvl + 1) (n / 32)
    match s.parentBlk r lvl n with
    | none => s
    | some _ =>
      let raw := s.rawLine (s.blkAddr r lvl n)
      let d := decodeLine true raw
      if d.bad ≠ 0 ∨ d.poison = true then s.ctrFail r lvl n
      else
        let k := match s.dramPlace (s.blkAddr r lvl n) with | some (k, _) => k | none => 0
        let s1 := s.corrections k (s.blkAddr r lvl n) d raw
        let s2 := if d.corr = [] then s1 else s1.putLine (s.blkAddr r lvl n) (d.gr.map some)
        let s3 := s2.makeRoom r lvl n
        match s3.parentBlk r lvl n with
        | none => s3
        | some (p, i) =>
          match openCtr (s.range r).key p.major (p.minor i) n lvl d.gr with
          | some b => s3.setCached r lvl n b
          | none => s3.ctrFail r lvl n

/-! ## Whole ranges (R351, R358, R359) -/

/-- A fresh AES-256 key from the random source. -/
def State.drawKey (s : State) : List Byte × State :=
  (List.range 4).foldl (fun (a : List Byte × State) _ => let (v, t) := a.2.draw; (a.1 ++ bytesLE 8 v.toNat, t)) ([], s)

/-- Every counter block is written with zero counters and valid tags, and the root is zeroed. -/
def State.zeroMeta (s : State) (r : Nat) : State :=
  let key := (s.range r).key
  let s1 := (List.range (s.rngLevels r).length).foldl (fun t lvl =>
    (List.range ((t.rngLevels r).getD lvl 0)).foldl (fun u n => u.putLine (u.blkAddr r lvl n) ((sealCtr key 0 0 n lvl {}).map some)) t) s
  let s2 := s1.setRange r { s1.range r with root := {} }
  { s2 with ice := { s2.ice with cache := s2.ice.cache.filter (fun e => decide ((cacheParts e.1).1 ≠ r)) } }

/-- A tag failure (R356). -/
def State.tagFail (s : State) (r a req : Nat) : State :=
  (s.count (oRange r + 0x30) 31 0 1).logLim (limKey 0x0C6 r) (mkRec reqIce 0x0C6 a 1 req)

/-- A line is read under its old counters and written under new ones; one that fails is written with the marker (R358). -/
def State.recrypt (s : State) (r a idx : Nat) (old : Option (CtrBlk × Nat)) (oldKey newKey : List Byte) (major : Nat) : State :=
  let d := decodeLine true (s.rawLine a)
  match old with
  | none => s.putMarker a
  | some (b, m) =>
    if d.poison = true ∨ d.bad ≠ 0 then s.putMarker a
    else match openLine oldKey b.major m idx d.gr with
      | some l => s.putLine a ((sealLine newKey major 0 idx l).map some)
      | none => (s.tagFail r a reqIce).putMarker a

/-- R351: INIT ends. -/
def State.prInit (s : State) (r : Nat) : State :=
  if s.rngState r = 1 then (s.zeroMeta r).setFld (oPrstat r) 31 29 2 else s

/-- R359: rotation ends. -/
def State.rotated (s : State) (r : Nat) : State :=
  if s.rngState r ≠ 4 then s
  else
    let old := s.range r
    let (key, s1) := s.drawKey
    let s2 := (List.range (s.rngSize r / 4096)).foldl (fun t page =>
      let leaf := if s.damaged r page then none else s.leafOf r page
      (List.range 32).foldl (fun u i =>
        u.recrypt r (s.rngBase r + 4096 * page + 128 * i) (32 * page + i) (leaf.map (fun b => (b, b.minor i))) old.key key 0) t) s1
    let s3 := (s2.setRange r { s2.range r with key := key, fromRo := false }).zeroMeta r
    (s3.setFld (oPrstat r) 31 29 2).setBit (oPrstat r) 28 false

/-! ## Access checks (R352, R359, R360) -/

/-- Requesters that R352 refuses: the debugger, the host, and what enters through a fabric port. -/
def refusedReq (q : Nat) : Bool :=
  decide (q = 0x4003) || decide (q / 0x1000 = 15) || (decide (q / 0x1000 < 4) && decide (0x400 ≤ q % 0x1000) && decide (q % 0x1000 < 0x408))

def State.prRefuse (s : State) (r a req : Nat) : State :=
  (s.count (oRange r + 0x34) 31 0 1).logLim (limKey 0x0CB r) (mkRec reqIce 0x0CB a 1 req)

/-- The checks of an access to the line at `a`: none when it may go on, else the state after the error. -/
def State.iceGate (s : State) (write : Bool) (a req : Nat) : Option State :=
  match s.metaAt a with
  | some r => some (s.prRefuse r a req)
  | none =>
    match s.rangeAt a with
    | none => none
    | some r =>
      if refusedReq req ∨ s.rngState r = 1 then some (s.prRefuse r a req)
      else if write then
        if s.rngState r = 3 ∨ (s.rngState r = 4 ∧ (s.range r).fromRo = true) then some (s.count (oRange r + 0x34) 31 0 1)
        else if s.damaged r (s.pageOf r a) then some s
        else match s.leafOf r (s.pageOf r a) with
          | some b =>
            if b.minor ((a - s.rngBase r) / 128 % 32) = 127 ∧ b.major + 1 = 2 ^ 56 ∧ s.rngState r = 2 then some (s.majorWrap r a req) else none
          | none => none
      else none

/-! ## Registers -/

/-- The other enabled ranges. -/
def State.others (s : State) (r : Nat) : List Nat := s.ranges.filter (fun q => q != r)

def overlaps (a n b m : Nat) : Bool := decide (a < b + m) && decide (b < a + n)

/-- R350: the checks of EN = 1. -/
def State.prCheck (s : State) (r : Nat) : Option Nat :=
  let a := s.rngBase r
  let n := s.rngSize r
  let b := s.rngMeta r
  let m := s.metaSize r
  let (ks1, all1) := s.dramSpan a n
  let (ks2, all2) := s.dramSpan b m
  let ks := ks1 ++ ks2
  let o := s.others r
  if a + n > 2 ^ 41 ∨ b + m > 2 ^ 41 ∨ all1 = false ∨ all2 = false then some 0x05
  else if overlaps a n b m ∨ o.any (fun q => overlaps a n (s.rngBase q) (s.rngSize q) || overlaps a n (s.rngMeta q) (s.metaSize q)
      || overlaps b m (s.rngBase q) (s.rngSize q) || overlaps b m (s.rngMeta q) (s.metaSize q)) = true then some 0x05
  else if (o.map s.rngSize).sum + n > 65536 * 2 ^ 20 then some 0x05
  else if s.fld oDramil 31 30 ≠ 0 ∧ s.fld oDramil 20 16 < 12 then some 0x05
  else if ks.any (fun k => !s.tagged k) then some 0x05
  else if ks.any (fun k => !s.isOn (oPwrMem k)) ∨ s.bit (oIce + 8) 31 = false then some 0x03
  else none

/-- ICE_PRCFG (R350, R351). -/
def State.prcfg (s : State) (r : Nat) (v : Word) : WRes :=
  let en := decide (bitsOf v 31 31 = 1)
  if en = s.rngEn r then .ok s
  else if en then
    match s.prCheck r with
    | some c => .rej c
    | none =>
      let (key, s1) := s.drawKey
      let s2 := (s1.setRange r { key := key }).setBit (oRange r) 31 true
      let s3 := s2.setReg (oPrstat r) (BitVec.ofNat 32 (2 ^ 29 + (s.rngLevels r).length))
      .ok (((s3.setReg (oRange r + 0x28) (BitVec.ofNat 32 ((s.metaSize r + 1023) / 1024))).setReg (oRange r + 0x38) 0).setReg (oRange r + 0x3C) 0)
  else if s.rngState r = 1 ∨ s.rngState r = 4 then .rej 0x03
  else
    let s1 := ((s.setRange r {}).setBit (oRange r) 31 false).setFld (oPrstat r) 31 29 0
    .ok { s1 with ice := { s1.ice with cache := s1.ice.cache.filter (fun e => decide ((cacheParts e.1).1 ≠ r)) } }

/-- ICE_PRCTL (R359). -/
def State.prctl (s : State) (r : Nat) (v : Word) : WRes :=
  if bitsOf v 0 0 = 0 then .ok s
  else if bitsOf v 31 24 ≠ 0x96 then .rej 0x04
  else if s.rngState r = 2 ∨ s.rngState r = 3 then
    .ok ((s.setRange r { s.range r with fromRo := decide (s.rngState r = 3) }).setFld (oPrstat r) 31 29 4)
  else .rej 0x03

/-- The scrub windows in force (R344): base and size. -/
def State.swBase (s : State) (i : Nat) : Nat := s.fld (oIce + 0x400 + 0x10 * i) 20 0 * 2 ^ 20
def State.swEn (s : State) (i : Nat) : Bool := s.bit (oIce + 0x404 + 0x10 * i) 31
def State.swSize (s : State) (i : Nat) : Nat := s.fld (oIce + 0x404 + 0x10 * i) 21 0 * 2 ^ 20
def State.scrubWins (s : State) : List (Nat × Nat) := ((List.range 16).filter s.swEn).map (fun i => (s.swBase i, s.swSize i))

/-- R344: a window does not lie in the DRAM region, or overlaps another enabled one. -/
def State.swBad (s : State) (i b n : Nat) : Bool :=
  decide (b + n > 2 ^ 41) || (List.range 16).any (fun j => j != i && s.swEn j && overlaps b n (s.swBase j) (s.swSize j))

def State.swWrite (s : State) (i : Nat) (isBase : Bool) (o : Nat) (v : Word) : WRes :=
  if isBase then
    (if s.swEn i = true ∧ s.swBad i (bitsOf v 20 0 * 2 ^ 20) (s.swSize i) = true then .rej 0x05 else .ok (s.plainWrite o v))
  else if s.swEn i = true ∧ bitsOf v 31 31 = 1 ∧ bitsOf v 21 0 * 2 ^ 20 ≠ s.swSize i then .rej 0x03
  else if bitsOf v 31 31 = 1 ∧ s.swBad i (s.swBase i) (bitsOf v 21 0 * 2 ^ 20) = true then .rej 0x05
  else .ok (s.plainWrite o v)

/-- The ICE block; pairs apart. -/
def State.iceRegWrite (s : State) (off : Nat) (v : Word) : WRes :=
  let o := oIce + off
  let r := (off - 0x800) / 0x40
  if off = 0 then
    (if (List.range 8).any (fun k => decide (bitsOf v k k ≠ s.fld oIce k k) && s.pwr (oPwrMem k) != 0) then .rej 0x03
     else .ok (((List.range 8).filter (fun k => decide (bitsOf v k k ≠ s.fld oIce k k))).foldl (fun (t : State) k => t.recode k) (s.plainWrite o v)))
  else if 0x400 ≤ off ∧ off < 0x500 then s.swWrite ((off - 0x400) / 0x10) (decide (off % 0x10 = 0)) o v
  else if 0x800 ≤ off ∧ off < 0xA00 then
    match (off - 0x800) % 0x40 with
    | 0x00 => s.prcfg r v
    | 0x10 => if s.rngEn r then .rej 0x03 else .ok (s.plainWrite o v)
    | 0x20 => s.prctl r v
    | _ => .ok (s.plainWrite o v)
  else .ok (s.plainWrite o v)

/-- ICE_PRBASE and ICE_PRMETA commit as pairs (R350). -/
def State.icePairCommit (s : State) (off : Nat) (lo hi : Word) : WRes :=
  let r := (off - 0x800) / 0x40
  if bitsOf lo 19 0 ≠ 0 then .rej 0x01
  else if s.rngEn r then .rej 0x03
  else .ok ((s.setReg (oIce + off) lo).setReg (oIce + off + 4) (hi &&& 0x1FF))

/-- R349: a read of ICE_RNG; a peek takes nothing. -/
def State.rngRead (s : State) (peek : Bool) : Word × State :=
  if peek = true ∨ s.bit (oIce + 8) 31 = false then (0, s) else let (v, s1) := s.draw; (v.setWidth 32, s1)

/-! ## Commands -/

/-- R349: the random source delivers output. -/
def execRngReady (s : State) : Host.Outcome State Fault Refusal :=
  .next (if s.sys.hubOn then s.setBit (oIce + 8) 31 true else s)

def execRngHealthFail (s : State) : Host.Outcome State Fault Refusal :=
  .next (if s.sys.hubOn then
    ((((s.setBit (oIce + 8) 30 true).setBit (oIce + 8) 31 false).count (oIce + 8) 15 0 1).log (mkRec reqIce 0x0C9 0 1 reqIce)) else s)

def execPrInitDone (r : Rng) (s : State) : Host.Outcome State Fault Refusal := .next (s.prInit r.val)

def execRotationDone (r : Rng) (s : State) : Host.Outcome State Fault Refusal := .next (s.rotated r.val)

/-- R355, R360. A block is fetched for a request that waits for it; the fetch itself is the command. -/
def execCounterBlockFetch (r : Rng) (level : Fin 6) (n : Nat) (s : State) : Host.Outcome State Fault Refusal :=
  .next (s.fetchBlk r.val level.val n)

end Sys2Proof.Machine
end

