-- ==== Sys2Proof/Machine/Mbx.lean ====
section
/-! DEFINITION. Mailboxes and doorbells (ch. 15): parties, queues, doorbells, crossings and the resets of a side. -/

namespace Sys2Proof.Machine

/-- Requester ID of the mailbox block. -/
def reqMbx : Nat := 0x4007

/-- Requester IDs of management and of the debug block. -/
def reqMgmt : Nat := 0x4000
def reqDbg : Nat := 0x4003

/-- The MBX instance of a mailbox, and the registers of one of its sides (side B where `b`). -/
def oMbx (n : Nat) : Nat := 0x600000 + 0x100 * n
def oSide (n : Nat) (b : Bool) : Nat := oMbx n + if b then 0x80 else 0x40

/-- A party of a mailbox (R363). -/
inductive Party where
  | mgmt
  /-- the physical function, and the virtual function where there is one -/
  | host (vf : Option Nat)
  | fabric (t : Nat)
  | engines (c : Nat)
  deriving DecidableEq, Repr

/-- R363: the party of a side. -/
def State.mbxParty (s : State) (n : Nat) (b : Bool) : Party :=
  if n < 8 then (if b then .host none else .mgmt)
  else if n < 40 then (if b then .mgmt else .fabric ((n - 8) / 8))
  else if n < 56 then (if b then .host (some (n - 40)) else .fabric ((n - 40) / 4))
  else if b then .mgmt else .engines (s.fld (oMbx n) 21 16)

/-- The requester ID belongs to a party. -/
def Party.holds : Party → Nat → Bool
  | .mgmt, r => r == 0x4000
  | .host none, r => r == 0xF000
  | .host (some k), r => r == 0xF000 || r == 0xF001 + k
  | .fabric t, r => decide (0x1000 * t + 0x400 ≤ r) && decide (r ≤ 0x1000 * t + 0x407)
  | .engines c, r => r / 0x1000 == c / 16 && decide (r % 0x1000 < 272) && r % 0x1000 / 17 == c % 16

/-- R363: a party is DOWN. -/
def State.partyDown (s : State) : Party → Bool
  | .mgmt => !s.sys.hubOn || s.fld 0xD00000 31 30 = 0
  | .host _ => !s.sys.perstN || !s.sys.linkUp
  | .fabric t => !s.isOn (oPwrTile t) || !s.cfg.done
  | .engines c => !s.isOn (oPwrClu c) || s.schInit

def State.mbxDown (s : State) (n : Nat) (b : Bool) : Bool := s.partyDown (s.mbxParty n b)

/-! ## The queues -/

def State.mbxAt (s : State) (n : Nat) : MbxSt := SMap.get (fun _ => {}) s.mbx n
def State.setMbx (s : State) (n : Nat) (x : MbxSt) : State := { s with mbx := SMap.set (fun _ => {}) s.mbx n x }

def MbxSt.side (x : MbxSt) (b : Bool) : MbxSide := if b then x.b else x.a
def MbxSt.setSide (x : MbxSt) (b : Bool) (y : MbxSide) : MbxSt := if b then { x with b := y } else { x with a := y }

/-- The queue towards a side. -/
def State.mbxQ (s : State) (n : Nat) (b : Bool) : List (Word × Nat) := ((s.mbxAt n).side b).q
def State.setMbxQ (s : State) (n : Nat) (b : Bool) (q : List (Word × Nat)) : State :=
  s.setMbx n ((s.mbxAt n).setSide b { (s.mbxAt n).side b with q := q })

/-- The incarnation of a side. -/
def State.mbxInc (s : State) (n : Nat) (b : Bool) : Nat := ((s.mbxAt n).side b).inc

/-- R371: a crossing ends when a queue empties. -/
def State.mbxUncross (s : State) (n : Nat) : State :=
  if s.mbxQ n false = [] ∨ s.mbxQ n true = [] then s.setBit (oMbx n + 8) 31 false else s

/-! ## Doorbells and signals (R368, R369) -/

/-- A doorbell that is set and unmasked. -/
def State.mbxRings (s : State) (n : Nat) (b : Bool) : Bool :=
  !(s.reg (oSide n b + 0x14) &&& s.reg (oSide n b + 0x20) = 0)

/-- R369: the signal to the party of a side. -/
def State.mbxSignal (s : State) (n : Nat) (b : Bool) : State :=
  let o := oSide n b + 0x24
  match s.mbxParty n b with
  | .host vf =>
    let fn := match vf with
      | some k => if s.bit o 28 then k + 1 else 0
      | none => 0
    s.emit (.msix fn (s.fld o 13 0))
  | .mgmt => s.emit (.mgmtIrq n)
  | .fabric _ => s.emit (.fabricIrq n)
  | .engines _ => s.postEvent (s.fld o 13 0) (s.fld o 20 16)

/-- R369: the state after a change of a side's doorbells or mask: a transition of their conjunction from zero to non-zero signals
while EN = 1. `rang` says whether it was non-zero before. -/
def State.mbxNotice (s : State) (n : Nat) (b rang : Bool) : State :=
  if !rang && s.mbxRings n b && s.bit (oSide n b + 0x24) 31 then s.mbxSignal n b else s

/-- Doorbells of a side set. -/
def State.ring (s : State) (n : Nat) (b : Bool) (v : Word) : State :=
  (s.orReg (oSide n b + 0x14) v).mbxNotice n b (s.mbxRings n b)

/-! ## Resets of a side (R373 to R375) -/

/-- The part of a reset that the side itself sees, with the queue towards it discarded. -/
def State.mbxResetSide (s : State) (n : Nat) (b : Bool) : State :=
  let x := (s.mbxAt n).side b
  let k := x.q.length
  let s1 := s.setMbx n ((s.mbxAt n).setSide b { x with q := [], inc := (x.inc + 1) % 16 })
  let s2 := (((s1.setReg (oSide n b + 0x14) 0).setReg (oSide n b + 0x20) 0).setReg (oSide n b + 0x24) 0).mbxUncross n
  let q := oSide n (!b) + 4
  ((s2.setBit q 30 true).setFld q 28 24 k).log (mkRec reqMbx 0x0D3 0 k reqMbx)

/-- Sides are reset in the same cycle; then the peers of all of them see doorbell bit 30. -/
def State.mbxReset (s : State) (l : List (Nat × Bool)) : State :=
  let s1 := l.foldl (fun t x => t.mbxResetSide x.1 x.2) s
  l.foldl (fun t x => t.ring x.1 (!x.2) 0x40000000) s1

/-- Every side, with its mailbox. -/
def mbxSides : List (Nat × Bool) := (List.range 64).flatMap (fun n => [(n, false), (n, true)])

/-- The sides whose party meets a condition. -/
def State.mbxOf (s : State) (f : Party → Bool) : List (Nat × Bool) := mbxSides.filter (fun x => f (s.mbxParty x.1 x.2))

def Party.isMgmt : Party → Bool
  | .mgmt => true
  | _ => false

def Party.isHost : Party → Bool
  | .host _ => true
  | _ => false

def Party.isVf (k : Nat) : Party → Bool
  | .host (some j) => j == k
  | _ => false

/-- Fabric of a tile `f` holds of. -/
def Party.isFabric (f : Nat → Bool) : Party → Bool
  | .fabric t => f t
  | _ => false

/-- Engines of a cluster `f` holds of. -/
def Party.isEngines (f : Nat → Bool) : Party → Bool
  | .engines c => f c
  | _ => false

/-! ## Register accesses (R364) -/

/-- The requester is a party of the mailbox. -/
def State.mbxIsParty (s : State) (n req : Nat) : Bool := (s.mbxParty n false).holds req || (s.mbxParty n true).holds req

/-- R364: the write is permitted. -/
def State.mbxMayWrite (s : State) (n req off : Nat) : Bool :=
  if req = reqDbg then true
  else if 0x40 ≤ off ∧ off < 0xC0 then
    (s.mbxParty n (decide (0x80 ≤ off))).holds req || (req == reqMgmt && (off % 0x40 == 0x20 || off % 0x40 == 0x24))
  else if off = 0 then req == reqMgmt
  else req == reqMgmt || s.mbxIsParty n req

/-- R364: the read is permitted. -/
def State.mbxMayRead (s : State) (n req off : Nat) : Bool :=
  if req = reqDbg then true
  else if off = 0x48 ∨ off = 0x88 then (s.mbxParty n (decide (0x80 ≤ off))).holds req
  else s.mbxIsParty n req

/-- R364: an access that is not permitted. -/
def State.mbxRefuse (s : State) (n req off : Nat) : State :=
  s.log (mkRec reqMbx 0x0D1 (ctlBase + oMbx n + off) 1 req)

/-- The table of vectors of a host side reaches past a vector. -/
def State.mbxVectorOk (n : Nat) (fn : Bool) (v : Nat) : Bool :=
  if fn then decide (v < Config.vfVectors (n - 40)) else decide (v < 2048)

/-- R366: a post. -/
def State.mbxPost (s : State) (req n : Nat) (b : Bool) (v : Word) : WRes :=
  if s.mbxDown n (!b) then .err (s.log (mkRec reqMbx 0x0D0 (ctlBase + oSide n b) 1 req))
  else if 16 ≤ (s.mbxQ n (!b)).length then .ok ((s.setBit (oSide n b + 4) 29 true).reject (oMbx n) (oSide n b - oMbx n) 0x03)
  else .ok (s.setMbxQ n (!b) (s.mbxQ n (!b) ++ [(v, s.mbxInc n b)]))

/-- R368: a write of DBSET. -/
def State.mbxDbset (s : State) (req n : Nat) (b : Bool) (v : Word) : WRes :=
  if bitsOf v 31 30 ≠ 0 then .rej 0x05
  else if s.mbxDown n (!b) then .err (s.log (mkRec reqMbx 0x0D0 (ctlBase + oSide n b + 0x10) 1 req))
  else .ok (s.ring n (!b) v)

/-- A write to a defined register of mailbox `n`, after the checks of R20 and R364. -/
def State.mbxRegWrite (s : State) (req n off : Nat) (v : Word) : WRes :=
  let o := oMbx n + off
  if off = 0 then
    if 56 ≤ n then
      if s.mbxQ n false ≠ [] ∨ s.mbxQ n true ≠ [] then .rej 0x03 else .ok (s.plainWrite o v)
    else .ok (s.setFld o 13 0 (bitsOf v 13 0))
  else if off < 0x40 then .ok (s.plainWrite o v)
  else
    let b := decide (0x80 ≤ off)
    let r := off % 0x40
    if r = 0 then s.mbxPost req n b v
    else if r = 0x10 then s.mbxDbset req n b v
    else if r = 0x20 then .ok ((s.plainWrite o v).mbxNotice n b (s.mbxRings n b))
    else if r = 0x24 then
      let vf := match s.mbxParty n b with
        | .host (some _) => true
        | _ => false
      if bitsOf v 28 28 = 1 ∧ vf = false then .rej 0x05
      else if (s.mbxParty n b).isHost ∧ State.mbxVectorOk n (bitsOf v 28 28 = 1) (bitsOf v 13 0) = false then .rej 0x01
      else .ok (s.plainWrite o v)
    else .ok (s.plainWrite o v)

/-- R365, R370: a read of MBX_RXD of a side: the word, the header of its snapshot, and the state after it. -/
def State.mbxPop (s : State) (n : Nat) (b peek : Bool) : Word × Word × State :=
  match s.mbxQ n b with
  | [] =>
    let h : Word := 0
    (0, h, if peek then s else s.setReg (oSide n b + 0x0C) h)
  | (v, i) :: q =>
    let h := withBits (withBits (withBits (0 : Word) 31 31 1) 27 24 i) 20 16 q.length
    (v, h, if peek then s else ((s.setMbxQ n b q).setReg (oSide n b + 0x0C) h).mbxUncross n)

/-- The value of a register of mailbox `n` whose read has no effect. -/
def State.mbxRegRead (s : State) (n off : Nat) : Word :=
  if 0x40 ≤ off ∧ off < 0xC0 then
    let b := decide (0x80 ≤ off)
    let r := off % 0x40
    if r = 4 then
      let w := withBits (s.reg (oMbx n + off)) 31 31 (if s.mbxDown n (!b) then 1 else 0)
      let w := withBits (withBits w 20 16 (s.mbxQ n (!b)).length) 12 8 (s.mbxQ n b).length
      withBits (withBits w 7 4 (s.mbxInc n b)) 3 0 (s.mbxInc n (!b))
    else if r = 0x10 then s.reg (oSide n (!b) + 0x14)
    else if r = 0 then 0
    else s.reg (oMbx n + off)
  else s.reg (oMbx n + off)

/-! ## CROSSING (R371) -/

/-- CROSSING: both heads have stayed longer than CROSSWIN. -/
def execCrossing (n : Sys2Proof.Mbx) (s : State) : Host.Outcome State Fault Refusal :=
  let k := n.val
  if s.mbxQ k false = [] ∨ s.mbxQ k true = [] ∨ s.bit (oMbx k + 8) 31 then .next s
  else
    let s1 := ((s.setBit (oMbx k + 8) 31 true).count (oMbx k + 8) 15 0 1)
    let s2 := (s1.ring k false 0x80000000).ring k true 0x80000000
    .next (s2.logOnce (limKey 0x0D2 k) (mkRec reqMbx 0x0D2 0 k reqMbx))

end Sys2Proof.Machine
end

