-- ==== Sys2Proof/Machine/Mgm.lean ====
section
/-! DEFINITION. The management subsystem (R378 to R395): the record collector, the flash and its log, the boot ROM, sensors, power
budgets, fuses and the PMBus engine. -/

namespace Sys2Proof.Machine

def oMgm : Nat := 0xD00000
def oBoot : Nat := oMgm
def oAlarm : Nat := oMgm + 0x20

/-- A record of the management subsystem's own. -/
def State.mgmLog (s : State) (code count : Nat) : State := s.log (mkRec 0x4000 code 0 count 0x4000)

/-! ## The record collector (R385, R386, R389) -/

/-- The eight words of a record accepted at time `t`. -/
def recordWords (r : Rec) (t : Nat) : List Word :=
  let ws : List Word :=
    [BitVec.ofNat 32 (r.src * 2 ^ 16 + codeClass r.code * 2 ^ 12 + r.code), BitVec.ofNat 32 r.addr, BitVec.ofNat 32 (r.addr / 2 ^ 32),
     BitVec.ofNat 32 (timeSec t), BitVec.ofNat 32 (timeNs t), BitVec.ofNat 32 r.count, BitVec.ofNat 32 (r.req % 2 ^ 16)]
  ws ++ [BitVec.ofNat 32 (crc32c (ws.flatMap (fun w => bytesLE 4 w.toNat)))]

/-- Slot `i` of the ring. -/
def oRec (i : Nat) : Nat := oMgm + 0x10000 + 32 * i

def State.setWords (s : State) (o : Nat) : List Word → State
  | [] => s
  | w :: l => (s.setReg o w).setWords (o + 4) l

/-- R389: an accepted record goes to the queue of the log, or is counted as lost. -/
def State.toLog (s : State) (cls : Nat) (ws : List Word) : State :=
  if s.bit (oMgm + 0x4C) 31 = true ∧ s.bit (oMgm + 0x4C) cls = true then
    if 64 ≤ s.rec_.logQ.length then
      { s.count oRecCnt 21 11 1 with mgm := { s.mgm with flLost := s.mgm.flLost + 1 } }
    else { s with rec_ := { s.rec_ with logQ := s.rec_.logQ ++ [ws] } }
  else s

/-- R385, R386: the pending record of a source is accepted. -/
def State.acceptRecord (s : State) (src : Nat) : State :=
  match s.rec_.pend.find? (fun r => r.src == src) with
  | none => s
  | some r =>
    let s1 := { s with rec_ := { s.rec_ with pend := s.rec_.pend.filter (fun x => x.src ≠ src) } }
    let pi := s1.fld (oMgm + 0x40) 9 0
    let ci := s1.fld (oMgm + 0x44) 9 0
    let s2 := if (pi + 1) % 1024 = ci then (s1.setFld (oMgm + 0x44) 9 0 ((ci + 1) % 1024)).count oRecCnt 31 22 1 else s1
    let ws := recordWords r s.now
    let s3 := ((s2.setWords (oRec pi) ws).setFld (oMgm + 0x40) 9 0 ((pi + 1) % 1024)).emit (.mgmtIrq mgmtLineRecord)
    let s4 := if codeClass r.code = 2 then s3.setBit oAlarm 31 true else s3
    s4.toLog (codeClass r.code) ws

/-! ## The flash -/

def State.flashByte (s : State) (a : Nat) : Byte := SMap.get (fun _ => 0xFF) s.mgm.flash a
def State.flashBytes (s : State) (a n : Nat) : List Byte := (List.range n).map (fun i => s.flashByte (a + i))
def State.setFlash (s : State) (f : SMap Byte) : State := { s with mgm := { s.mgm with flash := f } }

/-- Programming clears bits. -/
def State.flashProgram (s : State) : Nat → List Byte → State
  | _, [] => s
  | a, b :: l => (s.setFlash (SMap.set (fun _ => 0xFF) s.mgm.flash a (s.flashByte a &&& b))).flashProgram (a + 1) l

def State.flashErase (s : State) (a n : Nat) : State := s.setFlash (SMap.dropRange s.mgm.flash a n)

/-- What is left in a region whose program or erase did not complete is not stated. -/
def State.flashTorn (s : State) (a : Nat) : Nat → State
  | 0 => s
  | n + 1 =>
    let s1 := s.flashTorn a n
    s1.setFlash (SMap.set (fun _ => 0xFF) s1.mgm.flash (a + n) ((Config.uninit s.freeCtr (a + n)).setWidth 8))

/-- A 32-bit word of the flash. -/
def State.flashWord (s : State) (a : Nat) : Nat := ofBytesLE (s.flashBytes a 4)

/-! ### The log (R389, R390) -/

def logBase : Nat := 0x200000
def logSector (i : Nat) : Nat := logBase + 4096 * i
def oLogStat : Nat := oMgm + 0x50

def logHeader (seq : Nat) : List Byte :=
  let l := bytesLE 4 0x474F4C45 ++ bytesLE 4 seq ++ List.replicate 20 0xFF
  l ++ bytesLE 4 (crc32c (l.take 28))

def crcGood (l : List Byte) : Bool := decide (crc32c (l.take 28) = ofBytesLE (l.drop 28))

/-- The sequence number of a sector whose header is valid. -/
def State.sectorSeq (s : State) (i : Nat) : Option Nat :=
  let h := s.flashBytes (logSector i) 32
  if ofBytesLE (h.take 4) = 0x474F4C45 ∧ crcGood h = true then some (ofBytesLE ((h.drop 4).take 4)) else none

def State.erased (s : State) (a n : Nat) : Bool := s.mgm.flash.all (fun e => decide (e.1 < a) || decide (a + n ≤ e.1))

/-- A sector is opened: erased where it is not, and given its header; the sector after it is erased. -/
def State.openSector (s : State) (i seq : Nat) (next : Bool) : State :=
  let s1 := if s.erased (logSector i) 4096 then s else s.flashErase (logSector i) 4096
  let s2 := s1.flashProgram (logSector i) (logHeader seq)
  let s3 := if next then s2.flashErase (logSector ((i + 1) % 256)) 4096 else s2
  { (s3.setFld oLogStat 31 24 i).setFld oLogStat 22 16 0 with mgm := { s3.mgm with logSeq := seq } }

/-- A slot that is neither erased nor valid. -/
def State.tornSlot (s : State) (i k : Nat) : Bool :=
  let a := logSector i + 32 * (k + 1)
  !s.erased a 32 && !crcGood (s.flashBytes a 32)

/-- R390: the sector of highest SEQ; of equals the first. -/
def State.currentSector (s : State) : Option (Nat × Nat) :=
  (List.range 256).foldl (fun best i =>
    match s.sectorSeq i, best with
    | some q, some (j, r) => if r < q then some (i, q) else some (j, r)
    | some q, none => some (i, q)
    | none, b => b) none

/-- R390: the scan. -/
def State.logScan (s : State) : State :=
  if s.sys.hubOn = false ∨ s.mgm.scanned = true then s
  else
    let s1 := { s with mgm := { s.mgm with scanned := true } }
    match s1.currentSector with
    | none => if s1.nvInh then s else (s1.flashErase logBase 4096).openSector 0 1 true
    | some (i, q) =>
      let torn := ((List.range 127).filter (s1.tornSlot i)).length
      let s2 := { (s1.setFld oLogStat 31 24 i).setFld oLogStat 15 0 torn with mgm := { s1.mgm with logSeq := q } }
      let slot := ((List.range 127).find? (fun k => s1.erased (logSector i + 32 * (k + 1)) 32)).getD 127
      let s3 := s2.setFld oLogStat 22 16 slot
      if torn = 0 then s3 else s3.mgmLog 0x0EB torn

/-- R389: the oldest record of the queue is programmed; a full sector is followed by the next. Nothing is written under non-volatile
inhibit, nor while the flash is busy. -/
def State.logProgram (s : State) : State :=
  match s.rec_.logQ with
  | [] => s
  | ws :: rest =>
    if s.mgm.scanned = false ∨ s.nvInh = true ∨ s.mgm.flOp.isSome = true then s
    else
      let i := s.fld oLogStat 31 24
      let s0 := if s.fld oLogStat 22 16 = 127 then s.openSector ((i + 1) % 256) (s.mgm.logSeq + 1) true else s
      let j := s0.fld oLogStat 31 24
      let k := s0.fld oLogStat 22 16
      let s1 := (s0.flashProgram (logSector j + 32 * (k + 1)) (ws.flatMap (fun w => bytesLE 4 w.toNat))).setFld oLogStat 22 16 (k + 1)
      let s2 : State := { s1 with rec_ := { s1.rec_ with logQ := rest } }
      let s3 := if k = 126 then s2.openSector ((j + 1) % 256) (s2.mgm.logSeq + 1) true else s2
      if rest.isEmpty = true ∧ 0 < s3.mgm.flLost then { s3 with mgm := { s3.mgm with flLost := 0 } }.mgmLog 0x0EE s3.mgm.flLost else s3

/-! ### The command interface (R388, R392) -/

def oFlStat : Nat := oMgm + 0x88

/-- The booted bank. -/
def State.bootedBank (s : State) : Option Nat := if s.fld oBoot 31 30 = 1 ∧ s.mgm.fromRecov = false then some (s.fld oBoot 29 29) else none

/-- The region that a program or an erase touches. -/
def flashSpan (op addr len : Nat) : Nat × Nat :=
  match op with
  | 1 => (addr, len)
  | 2 => (addr / 4096 * 4096, 4096)
  | _ => (addr / 65536 * 65536, 65536)

/-- R392: a program or an erase that is refused. -/
def State.flashProtected (s : State) (op addr len : Nat) : Bool :=
  let (a, n) := flashSpan op addr len
  overlap a n logBase 0x100000 ||
    (match s.bootedBank with
     | some b => overlap a n (b * 0x100000) 0x100000 && !(op == 1 && a == b * 0x100000 + 0x1F8 && n == 4)
     | none => false)

/-- MGM_FLCMD. -/
def State.flcmdWrite (s : State) (v : Word) : WRes :=
  let o := oMgm + 0x80
  let op := bitsOf v 30 28
  let len := bitsOf v 8 0
  let a := s.fld (oMgm + 0x84) 25 0
  if s.bit oFlStat 31 then .rej 0x03
  else if op ≤ 1 ∧ (len = 0 ∨ 256 < len ∨ 256 < a % 256 + len) then .rej 0x01
  else
    let s1 := s.plainWrite o v
    if bitsOf v 31 31 = 0 then .ok s1
    else if 1 ≤ op ∧ op ≤ 3 ∧ s.nvInh = true then .ok ((s1.setFld oFlStat 30 28 2).mgmLog 0x012 1)
    else if 1 ≤ op ∧ op ≤ 3 ∧ s.flashProtected op a len = true then .ok (s1.setFld oFlStat 30 28 3)
    else .ok (({ s1 with mgm := { s1.mgm with flOp := some ⟨op, a, len⟩ } }.setBit oFlStat 31 true).emit
      (.flash v (s.reg (oMgm + 0x84)) []))

/-- Bytes into the data registers at `o`. -/
def State.putData (s : State) (o : Nat) : Nat → List Byte → State
  | _, [] => s
  | i, b :: l =>
    let r := o + i / 4 * 4
    (s.setFld r (8 * (i % 4) + 7) (8 * (i % 4)) b.toNat).putData o (i + 1) l

/-- Bytes from the data registers at `o`. -/
def State.getData (s : State) (o n : Nat) : List Byte :=
  (List.range n).map (fun i => BitVec.ofNat 8 (s.fld (o + i / 4 * 4) (8 * (i % 4) + 7) (8 * (i % 4))))

/-- What the operation in progress does to the flash and to the data registers. -/
def State.flashEffect (s : State) (f : FlashOp) (data : List Byte) : State :=
  match f.op with
  | 0 => s.putData (oMgm + 0x1000) 0 (s.flashBytes f.addr f.len)
  | 1 => s.flashProgram f.addr (s.getData (oMgm + 0x1000) f.len)
  | 2 => s.flashErase (flashSpan 2 f.addr 0).1 4096
  | 3 => s.flashErase (flashSpan 3 f.addr 0).1 65536
  | _ => s.putData (oMgm + 0x1000) 0 (data.take 256)

/-- An operation that did not complete leaves its region as it may be. -/
def State.flashBroken (s : State) (f : FlashOp) : State :=
  let s1 := { s with freeCtr := s.freeCtr + 1 }
  if 1 ≤ f.op ∧ f.op ≤ 3 then
    { s.flashTorn (flashSpan f.op f.addr f.len).1 (flashSpan f.op f.addr f.len).2 with freeCtr := s1.freeCtr }
  else s

def State.flashEnd (s : State) (result : Nat) : State :=
  ({ s with mgm := { s.mgm with flOp := none } }.setBit oFlStat 31 false).setFld oFlStat 30 28 result

def State.flashDone (s : State) (data : List Byte) (bad : Bool) : State :=
  match s.mgm.flOp with
  | none => s
  | some f => if bad then (s.flashBroken f).flashEnd 4 else (s.flashEffect f data).flashEnd 0

def State.flashTimeout (s : State) : State :=
  match s.mgm.flOp with
  | none => s
  | some f => ((s.flashBroken f).flashEnd 1).mgmLog 0x0EA 1

/-! ## The boot ROM (R391 to R393) -/

/-- The fields of a firmware header of at most `top` body bytes. -/
def fwFields (h : List Byte) (top : Nat) : Bool :=
  let size := hdrNum h 0x008 4
  decide (hdrNum h 0 4 = 0x4C475244) && decide (hdrNum h 4 2 = 1) && decide (hdrNum h 6 2 = 0) && decide (size % 16 = 0)
    && decide (16 ≤ size) && decide (size ≤ 786432) && decide (size ≤ top) && decide (hdrNum h 0x00C 4 ≤ 63) && decide (hdrNum h 0x014 4 < 4)
    && decide (hdrNum h 0x01C 4 = 0) && decide (hdrNum h 0x050 16 = 0) && decide (hdrNum h 0x0C0 192 = 0)
    && decide (hdrNum h 0x1E0 16 = 0) && decide (hdrNum h 0x1FC 4 = 0)

/-- The reason a header gives no candidate, 0 when it does (R391). -/
def State.fwReason (s : State) (h : List Byte) (top : Nat) : Nat :=
  let slot := hdrNum h 0x014 4 % 4
  let pub := (h.drop 0x060).take 96
  if fwFields h top = false then 1
  else if s.fuses.keyHash.getD slot 0 = 0 ∨ s.fuses.revoked.testBit slot = true ∨ sha384 pub ≠ s.fuses.keyHash.getD slot 0 then 2
  else if ecdsaVerify pub ((h.drop 0x180).take 96) (sha384 (h.take 0x180)) = false then 3
  else if hdrNum h 0x00C 4 < s.fuses.fwCount then 4
  else 0

def State.bankHeader (s : State) (b : Nat) : List Byte := s.flashBytes (b * 0x100000) 512
def fwConfirmed (h : List Byte) : Bool := hdrNum h 0x1F8 4 = 0
def fwExhausted (h : List Byte) : Bool := !fwConfirmed h && decide (hdrNum h 0x1F0 4 = 0) && decide (hdrNum h 0x1F4 4 = 0)

/-- The reason of a bank before its body is looked at. -/
def State.bankReason (s : State) (b : Nat) : Nat :=
  let h := s.bankHeader b
  let r := s.fwReason h 786432
  if r ≠ 0 then r else if fwExhausted h then 6 else 0

def State.bankGen (s : State) (b : Nat) : Nat := hdrNum (s.bankHeader b) 0x010 4

/-- R391: a trial bank consumes one TRY word. -/
def State.consumeTry (s : State) (b : Nat) : State :=
  let a := b * 0x100000
  if s.flashWord (a + 0x1F0) = 0xFFFFFFFF then s.flashProgram (a + 0x1F0) [0, 0, 0, 0]
  else if s.flashWord (a + 0x1F4) = 0xFFFFFFFF then s.flashProgram (a + 0x1F4) [0, 0, 0, 0]
  else s

/-- Dergil runs: its body is in SRAM, the watchdog is reloaded, and the cores start at ENTRY. -/
def State.fwRun (s : State) (h body : List Byte) : State :=
  { s.setFld oBoot 31 30 1 with mgm := { s.mgm with
      sram := body, fromRecov := false, runSvn := hdrNum h 0x00C 4, runSlot := hdrNum h 0x014 4 % 4, wd := s.fld (oMgm + 0xC) 15 0,
      core := SMap.set (fun _ => 0) [] 32 (BitVec.ofNat 32 (hdrNum h 0x018 4)) } }

/-- Bank `b` is tried; none when its body does not match H. -/
def State.tryBank (s : State) (b : Nat) : State × Bool :=
  let h := s.bankHeader b
  let s1 := if fwConfirmed h then s else s.consumeTry b
  let body := s1.flashBytes (b * 0x100000 + 0x200) (hdrNum h 0x008 4)
  if sha384 body = ofBytesBE ((h.drop 0x020).take 48) then
    (((s1.fwRun h body).setFld oBoot 29 29 b).setBit oBoot 28 (!fwConfirmed h), true)
  else (s1, false)

/-- The banks in the order the ROM tries them: by falling GEN; under non-volatile inhibit confirmed banks only. -/
def State.bootOrder (s : State) : List Nat :=
  let ok (b : Nat) : Bool := s.bankReason b = 0 && (!s.nvInh || fwConfirmed (s.bankHeader b))
  (if s.bankGen 0 < s.bankGen 1 then [1, 0] else [0, 1]).filter ok

/-- The banks are tried in turn; the answer names the banks whose body failed. -/
def State.tryBanks : List Nat → List Nat → State → State × Option Nat × List Nat
  | [], bad, s => (s, none, bad)
  | b :: l, bad, s =>
    match s.tryBank b with
    | (s1, true) => (s1, some b, bad)
    | (s1, false) => State.tryBanks l (b :: bad) s1

/-- The reason a bank shows after the boot of `got`. -/
def State.finalReason (s : State) (got : Option Nat) (bad : List Nat) (b : Nat) : Nat :=
  if bad.contains b then 5
  else if got = some b then 0
  else if s.bankReason b ≠ 0 then s.bankReason b
  else match got with
    | some g => if s.bankGen b < s.bankGen g then 7 else 0
    | none => 0

/-- R391, R393: the ROM boots the best bank, or serves the recovery aperture. -/
def State.romBoot (s : State) : State :=
  if s.sys.hubOn = false ∨ s.fld oBoot 31 30 ≠ 0 then s
  else
    let s0 := s.setReg oBoot (s.reg oBoot &&& 0xFF)
    let (s1, got, bad) := State.tryBanks s0.bootOrder [] s0
    let ra := s.finalReason got bad 0
    let rb := s.finalReason got bad 1
    let s2 := (s1.setFld oBoot 19 16 ra).setFld oBoot 15 12 rb
    let s3 := if s2.mgm.wdogBoot then { s2 with mgm := { s2.mgm with wdogBoot := false } }.mgmLog 0x0E1 1 else s2
    match got with
    | none => (s3.setFld oBoot 31 30 2).mgmLog 0x0E3 1
    | some b =>
      let other := 1 - b
      if fwFields (s.bankHeader other) 786432 = true ∧ s.bankGen b < s.bankGen other then
        (s3.setBit oBoot 27 true).mgmLog 0x0E2 (ra * 16 + rb)
      else s3

/-- `n` bytes of the recovery aperture. -/
def State.recovBytes (s : State) (a n : Nat) : List Byte :=
  (List.range n).map (fun i => BitVec.ofNat 8 (bitsOf (SMap.get (fun _ => 0) s.mgm.recov ((a + i) / 4)) (8 * ((a + i) % 4) + 7) (8 * ((a + i) % 4))))

/-- R393: a write of MGM_BOOTCTL. -/
def State.bootctlWrite (s : State) (v : Word) : WRes :=
  if bitsOf v 31 24 ≠ 0xD7 then .rej 0x04
  else if bitsOf v 0 0 = 0 then .ok s
  else if s.fld oBoot 31 30 ≠ 2 then .rej 0x03
  else
    let h := s.recovBytes 0 512
    let r := s.fwReason h (524288 - 512)
    if r ≠ 0 then .ok (s.setFld oBoot 19 16 r)
    else
      let body := s.recovBytes 0x200 (hdrNum h 0x008 4)
      if sha384 body = ofBytesBE ((h.drop 0x020).take 48) then
        .ok { s.fwRun h body with mgm := { (s.fwRun h body).mgm with fromRecov := true } }
      else .ok (s.setFld oBoot 19 16 5)

/-- R393: a write of the recovery aperture. -/
def State.recovWrite (s : State) (i : Nat) (v : Word) : WRes :=
  if s.fld oBoot 31 30 ≠ 2 then .rej 0x03
  else .ok { s with mgm := { s.mgm with recov := SMap.set (fun _ => 0) s.mgm.recov i v } }

/-! ## Fuses (R394) -/

def State.fuseWrite (s : State) (v : Word) : WRes :=
  let slot := bitsOf v 1 0
  if bitsOf v 31 24 ≠ 0xE1 then .rej 0x04
  else if s.nvInh then .rej 0x03
  else match bitsOf v 9 8 with
    | 0 => if 63 ≤ s.fuses.imgCount ∨ s.fld (oCfg + 0x24) 31 24 < s.fuses.imgCount + 1 then .rej 0x05
           else .ok { s with fuses := { s.fuses with imgCount := s.fuses.imgCount + 1 } }
    | 1 => if 63 ≤ s.fuses.fwCount ∨ s.mgm.runSvn < s.fuses.fwCount + 1 then .rej 0x05
           else .ok { s with fuses := { s.fuses with fwCount := s.fuses.fwCount + 1 } }
    | _ => if slot = s.mgm.runSlot ∧ s.fld oBoot 31 30 = 1 ∨ s.fuses.revoked.testBit slot = true then .rej 0x05
           else .ok { s with fuses := { s.fuses with revoked := s.fuses.revoked ||| 2 ^ slot } }

/-! ## Sensors (R379 to R381) -/

def oTemp (i : Nat) : Nat := oMgm + 0x200 + 4 * i

/-- The die of a sensor: 0–3 tiles, 4 hub, 5–8 converters. -/
def sensorDie (i : Nat) : Nat := if i < 32 then i / 8 else if i < 36 then 4 else 5 + (i - 36) / 2

def State.tempOf (s : State) (i : Nat) : Option Int := if s.bit (oTemp i) 31 then some (toSigned 16 (s.fld (oTemp i) 15 0)) else none

/-- A field of MGM_TLIM in units of 0.0625 °C. -/
def State.tlim (s : State) (lo : Nat) : Int := 16 * toSigned 8 (s.fld (oMgm + 0x300) (lo + 7) lo)

/-- All sensors of a tile have failed (R379). -/
def State.tileBlind (s : State) (d : Nat) : Bool :=
  decide (d < 4) && (List.range 8).all (fun i => s.mgm.sFail.contains (8 * d + i))

/-- The highest valid reading of a die, in units of 0.0625 °C; a tile whose sensors have all failed is at THROT (R379). -/
def State.dieTemp (s : State) (d : Nat) : Option Int :=
  let top := ((List.range 44).filter (fun i => sensorDie i = d)).foldl (fun m i =>
    match s.tempOf i, m with
    | some t, some u => some (max t u)
    | some t, none => some t
    | none, u => u) none
  if s.tileBlind d then some (s.tlim 8) else top

/-- R380: a die is at or above a limit (0 WARN, 1 THROT, 2 TRIP), and stays so until it lies 3 °C below. -/
def State.atLimit (s : State) (d k : Nat) : Bool :=
  match s.dieTemp d with
  | none => false
  | some t => decide (s.tlim (8 * k) ≤ t) || (s.mgm.atLim.contains (d, k) && decide (s.tlim (8 * k) - 48 ≤ t))

/-- R380: a die is compared with its limits. -/
def State.thermCompare (s : State) (d : Nat) : State :=
  let now := ((List.range 3).filter (s.atLimit d)).map (fun k => (d, k))
  { s with mgm := { s.mgm with atLim := s.mgm.atLim.filter (fun e => e.1 ≠ d) ++ now } }

/-- R380: the records of a die at or above WARN and THROT, at most one a ms each. -/
def State.thermRecords (s : State) (d : Nat) : State :=
  let s1 := if s.mgm.atLim.contains (d, 0) then
      (s.setBit oAlarm 6 true).logOnce (limKey 0x0E4 d) (mkRec 0x4000 0x0E4 0 d 0x4000) else s
  if s.mgm.atLim.contains (d, 1) then s1.logOnce (limKey 0x0E5 d) (mkRec 0x4000 0x0E5 0 d 0x4000) else s1

/-- R379: the sensor has failed; a sensor that had not failed before is recorded. -/
def State.sensorFailed (s : State) (i : Nat) : State :=
  let s1 := { s with mgm := { s.mgm with sFail := s.mgm.sFail.filter (· ≠ i) ++ [i] } }
  let s2 := (s1.setBit (oTemp i) 31 false).setBit oAlarm 7 true
  let s3 := if s.mgm.sFail.contains i then s2 else s2.mgmLog 0x0EC (512 + i)
  (s3.thermCompare (sensorDie i)).thermRecords (sensorDie i)

/-- R379, R380: a reading of sensor `i`. -/
def State.sensorRead (s : State) (i : Nat) (t : Int) : State :=
  if t < -55 * 16 ∨ 150 * 16 < t then s.sensorFailed i
  else
    let s1 := { s with mgm := { s.mgm with sFail := s.mgm.sFail.filter (· ≠ i) } }
    ((s1.setReg (oTemp i) (BitVec.ofNat 32 (2 ^ 31 + ofSigned 16 t))).thermCompare (sensorDie i)).thermRecords (sensorDie i)

/-- R380: a die at or above TRIP. -/
def State.dieTrips (s : State) (d : Nat) : Bool := s.mgm.atLim.contains (d, 2)

/-- R381: a monitor is read. -/
def State.railRead (s : State) (i v : Nat) : State :=
  let o := oMgm + 0x380 + 4 * i
  let l := s.reg (oMgm + 0x400 + 4 * i)
  let out := decide (v < bitsOf l 15 0) || decide (bitsOf l 31 16 < v)
  let was := s.mgm.vOut.contains i
  let rest := s.mgm.vOut.filter (· ≠ i)
  let s1 := { s.setFld o 15 0 v with mgm := { s.mgm with vOut := if out then rest ++ [i] else rest } }
  if out = false then s1.setBit o 31 false
  else if was = true ∧ s.bit o 31 = false then ((s1.setBit o 31 true).setBit oAlarm 7 true).mgmLog 0x0EC i
  else s1

/-! ## Power budgets (R382 to R384) -/

def oBudget (d : Nat) : Nat := oMgm + 0x540 + 16 * d
def oThrot (d : Nat) : Nat := oBudget d + 12

def State.lpc (s : State) (d : Nat) : LpcSt := SMap.get (fun _ => {}) s.mgm.lpc d
def State.setLpc (s : State) (d : Nat) (x : LpcSt) : State :=
  { s with mgm := { s.mgm with lpc := SMap.set (fun _ => {}) s.mgm.lpc d x } }

def State.powerCap (s : State) (d : Nat) : Nat := s.fld (oBudget d + 4) 27 16
def State.powerFloor (s : State) (d : Nat) : Nat := s.fld (oBudget d + 4) 11 0
def State.sumFloor (s : State) : Nat := ((List.range 9).map s.powerFloor).sum

/-- R382: the budget of a die from the demands. -/
def allot (cap floor r e sum : Nat) : Nat := if sum = 0 then floor else min cap (floor + r * e / sum)

/-- e of a die. -/
def State.excess (s : State) (d : Nat) : Nat :=
  (if (s.lpc d).silent then s.powerCap d else s.fld (oBudget d + 8) 27 16) - s.powerFloor d

/-- R382: budgets go out. -/
def State.reallot (s : State) : State :=
  let sum := ((List.range 9).map s.excess).sum
  let r := s.fld (oMgm + 0x500) 11 0 - s.sumFloor
  (List.range 9).foldl (fun t d =>
    let b := if s.bit (oMgm + 0x504) 31 then allot (s.powerCap d) (s.powerFloor d) r (s.excess d) sum else s.fld (oBudget d) 11 0
    ((t.setFld (oBudget d) 11 0 b).setLpc d { t.lpc d with msg := some b }).emit (.budget d b)) s

/-- The die is ON: a tile, the hub, a converter die. -/
def State.dieOn (s : State) (d : Nat) : Bool :=
  if d < 4 then s.isOn (oPwrTile d) else if d = 4 then s.sys.hubOn else s.isOn (oPwrCnv (d - 5))

/-- R383: LEVEL follows the higher of the two demands; each rise is counted, and one from level 0 is logged. -/
def State.setLevel (s : State) (d : Nat) (x : LpcSt) : State :=
  let old := s.fld (oThrot d) 31 29
  let new := max x.lvl x.therm
  let s1 := (s.setLpc d x).setFld (oThrot d) 31 29 new
  if old < new then
    let s2 := s1.count (oThrot d) 15 0 1
    if old = 0 then s2.logOnce (limKey 0x0E7 d) (mkRec 0x4000 0x0E7 0 (d * 256 + new) 0x4000) else s2
  else s1

/-- The budget that an LPC applies. -/
def State.lpcBudget (s : State) (d : Nat) : Nat := (s.lpc d).budget.getD (budgetReset d)

/-- R383: a 1 µs average at an LPC. -/
def State.lpcAverage (s : State) (d p : Nat) : State :=
  let x := s.lpc d
  let b := s.lpcBudget d
  if s.dieOn d = false then s
  else if 4 ≤ d then (if b < p then s.count (oThrot d) 28 16 1 else s)
  else if b < p then s.setLevel d { x with lvl := min 6 (x.lvl + 1), low := 0 }
  else if 16 * p < 15 * b then
    (if 99 ≤ x.low then s.setLevel d { x with lvl := x.lvl - 1, low := 0 } else s.setLpc d { x with low := x.low + 1 })
  else s.setLpc d { x with low := 0 }

/-- R380: the thermal demand of a tile, each ms. -/
def State.thermMs (s : State) (d : Nat) : State :=
  let x := s.lpc d
  if s.mgm.atLim.contains (d, 1) then s.setLevel d { x with therm := min 6 (x.therm + 1), cool := 0 }
  else if x.therm = 0 then s
  else if 99 ≤ x.cool then s.setLevel d { x with therm := x.therm - 1, cool := 0 }
  else s.setLpc d { x with cool := x.cool + 1 }

/-- R383: the fabric throttle request of a tile. -/
def State.throttleReq (s : State) (t : Nat) : Bool := decide (1 ≤ s.fld (oThrot t) 31 29)

/-- A debugger is attached and WDHOLD freezes watchdogs (R410). -/
def State.wdHeld (s : State) : Bool := s.bit oDbg 30 && (s.bit oDbg 29 || s.bit oDbg 28)

/-- A ms of the management subsystem. -/
def State.mgmMs (s : State) : State :=
  let s1 := (List.range 4).foldl (fun r d => if r.isOn (oPwrTile d) then r.thermMs d else r) s
  if s1.bit oMcfg 31 = true ∨ s1.wdHeld = true then s1 else { s1 with mgm := { s1.mgm with wd := s1.mgm.wd - 1 } }

/-! ## PMBus and I²C (R395) -/

def oPmb : Nat := oMgm + 0x100
def oPmbStat : Nat := oMgm + 0x108

/-- MGM_PMBCMD. -/
def State.pmbWrite (s : State) (v : Word) : WRes :=
  if s.bit oPmbStat 31 then .rej 0x03
  else
    let s1 := s.plainWrite oPmb v
    if bitsOf v 31 31 = 0 then .ok s1
    else
      let ty := bitsOf v 29 28
      .ok (({ s1 with mgm := { s1.mgm with pmb := some v } }.setBit oPmbStat 31 true).emit
        (.pmbus v (if ty = 0 then s.getData (oMgm + 0x110) (bitsOf v 5 0) else [])))

/-- A transaction ends; every end but a good one and a lockstep restart is logged with the address and the command. -/
def State.pmbEnd (s : State) (result moved : Nat) : State :=
  match s.mgm.pmb with
  | none => s
  | some v =>
    let s1 := ((({ s with mgm := { s.mgm with pmb := none } }.setBit oPmbStat 31 false).setFld oPmbStat 30 28 result).setFld oPmbStat 5 0 moved)
    if result = 0 ∨ result = 6 then s1 else s1.mgmLog 0x0E9 (v.toNat / 256 % 2 ^ 15 * 256)

def pmbResult : Sys2Proof.PmbEnd → Nat
  | .done => 0
  | .addrNack => 1
  | .dataNack => 2
  | .pecError => 4
  | .arbLost => 5

def State.pmbDone (s : State) (how : Sys2Proof.PmbEnd) (data : List Byte) : State :=
  match s.mgm.pmb with
  | none => s
  | some v =>
    let ty := bitsOf v 29 28
    let d := if ty = 1 then data.take (bitsOf v 5 0) else data.take 32
    if how = .done ∧ (ty = 1 ∨ ty = 2) then (s.putData (oMgm + 0x110) 0 d).pmbEnd 0 d.length
    else if how = .done then s.pmbEnd 0 (if ty = 0 then bitsOf v 5 0 else 0)
    else s.pmbEnd (pmbResult how) (min 32 data.length)

/-! ## Registers -/

/-- R378: a write of MGM_WDOG. -/
def State.wdogWrite (s : State) (v : Word) : State :=
  let o := oMgm + 0x0C
  let s1 := s.plainWrite o v
  if s.bit o 31 = false ∧ bitsOf v 31 31 = 1 then { s1 with mgm := { s1.mgm with wd := bitsOf v 15 0 } } else s1

/-- R384: caps and floors after a write of die `d`. -/
def State.capCode (s : State) (d : Nat) (v : Word) : Option Nat :=
  if bitsOf v 27 16 < bitsOf v 11 0 then some 0x05
  else if s.fld (oMgm + 0x500) 11 0 < s.sumFloor - s.powerFloor d + bitsOf v 11 0 then some 0x05
  else none

/-- The MGM block; the access rule of R396 comes before. -/
def State.mgmRegWrite (s : State) (off : Nat) (v : Word) : WRes :=
  let o := oMgm + off
  if 0x80000 ≤ off then s.recovWrite ((off - 0x80000) / 4) v
  else if 0x540 ≤ off ∧ off < 0x5D0 ∧ off % 16 = 0 then
    let d := (off - 0x540) / 16
    if s.bit (oMgm + 0x504) 31 then .rej 0x03
    else if bitsOf v 11 0 < s.powerFloor d ∨ s.powerCap d < bitsOf v 11 0 then .rej 0x05
    else .ok (s.plainWrite o v)
  else if 0x540 ≤ off ∧ off < 0x5D0 ∧ off % 16 = 4 then
    match s.capCode ((off - 0x540) / 16) v with
    | some c => .rej c
    | none => .ok (s.plainWrite o v)
  else match off with
    | 0x008 => s.bootctlWrite v
    | 0x00C => .ok (s.wdogWrite v)
    | 0x010 => .ok { s with mgm := { s.mgm with wd := s.fld (oMgm + 0x0C) 15 0 } }
    | 0x080 => s.flcmdWrite v
    | 0x0C0 => s.fuseWrite v
    | 0x100 => s.pmbWrite v
    | 0x300 =>
      let w := toSigned 8 (bitsOf v 7 0)
      let t := toSigned 8 (bitsOf v 15 8)
      let p := toSigned 8 (bitsOf v 23 16)
      if p < 90 ∨ 125 < p ∨ p ≤ t ∨ t ≤ w then .rej 0x05 else .ok (s.plainWrite o v)
    | 0x500 => if bitsOf v 11 0 < s.sumFloor then .rej 0x05 else .ok (s.plainWrite o v)
    | _ => .ok (s.plainWrite o v)

/-! ## Restarts -/

/-- R377: the part of a lockstep restart that lies in this subsystem. -/
def State.lockstep (s : State) : State :=
  let s1 := ((s.mgmLog 0x0E0 1).count oBoot 7 0 1).setFld oBoot 31 30 0
  { s1.pmbEnd 6 0 with mgm := { (s1.pmbEnd 6 0).mgm with core := [], sram := [] } }

/-- A warm reset: every register but those that keep their value. -/
def State.mgmWarm (s : State) (wdog : Bool) : State :=
  let s0 := match s.mgm.flOp with | some f => s.flashEffect f [] | none => s
  let keep (o : Nat) : Bool :=
    let k := o - oMgm
    decide (o < oMgm) || decide (oMgm + 0x100000 ≤ o) || (decide (0x10000 ≤ k) && decide (k < 0x20000)) ||
      [0x040, 0x044, 0x048, 0x04C, 0x050].contains k
  let lsrst := s.fld oBoot 7 0
  let fault := s.bit oAlarm 31
  let m := s0.mgm
  let s1 := { s0 with
    regs := s0.regs.filter (fun e => keep e.1),
    mgm := { flash := m.flash, scanned := m.scanned, logSeq := m.logSeq, flLost := m.flLost, halts := m.halts, wdogBoot := m.wdogBoot || wdog } }
  (s1.setFld oBoot 7 0 lsrst).setBit oAlarm 31 fault

end Sys2Proof.Machine
end

