-- ==== Sys2Proof/Machine/Dbg.lean ====
section
/-! DEFINITION. Debug and run control (ch. 17): the two-wire port, the access channels, halts and resumes, and the trigger channels. -/

namespace Sys2Proof.Machine

def oDbgCtl : Nat := oDbg
def oPstatDbg : Nat := oDbg + 0x10

/-- DBG_ACTL of an access channel. -/
def oActl (ch : Nat) : Nat := oDbg + 0x100 + 0x40 * ch

def State.dbgChan (s : State) (ch : Nat) : DbgChan := if ch = 0 then s.dbg.ch0 else s.dbg.ch1
def State.setDbgChan (s : State) (ch : Nat) (c : DbgChan) : State :=
  { s with dbg := if ch = 0 then { s.dbg with ch0 := c } else { s.dbg with ch1 := c } }

/-- SYS_ID (R2). -/
def State.sysId (s : State) : Word := if s.fuses.grade3 then 0x102430B0 else 0x102420B0

/-- DBG_PSTAT. -/
def State.dbgPstat (s : State) : Word := withBits (s.reg oPstatDbg) 31 31 (if s.sys.hubOn then 1 else 0)

/-- DBG_STAT: DBGEN, LOCK, MHALT and the number of engines halted. -/
def State.dbgStat (s : State) : Word :=
  let b (x : Bool) (k : Nat) : Nat := if x then 2 ^ k else 0
  BitVec.ofNat 32 (b (s.bit 0x390 3) 31 + b s.fuses.dbgLock 30 + b (s.bit oMcfg 31) 29
    + (s.cfgEngines.filter (fun e => s.halted e)).length)

/-- The registers of the DBG block that show other state. -/
def State.dbgRegRead (s : State) (off : Nat) : Word :=
  if off = 8 then s.dbgStat else if off = 0x10 then s.dbgPstat else s.reg (oDbg + off)

/-- R411: the fabric's trigger output lines of a tile. -/
def State.trigOut (s : State) (t : Nat) : Nat := s.fld oTrigSt 7 0 &&& s.fld (oDbg + 0x80 + 4 * t) 15 8

/-! ## Halt and resume (R406 to R412) -/

/-- DBG_WDGRACE in ms. -/
def State.wdGrace (s : State) : Nat := s.fld (oDbg + 0x0C) 9 0

/-- R409: the management cores halt. -/
def State.haltMgmt (s : State) (cause : Nat) : State :=
  let s1 := { s with dbg := { s.dbg with mHaltDue := 0, mStepping := false }, mgm := { s.mgm with core := [], halts := s.mgm.halts + 1 } }
  let s2 := (s1.setBit oMcfg 31 true).setFld oMcfg 30 28 cause
  if cause = 3 ∨ cause = 5 then s2 else s2.fire (s2.fld oMcfg 15 8)

/-- R161, R410: a halted engine resumes; its watchdog count is at least the grace. -/
def State.resumeEngine (s : State) (e : Nat) : State :=
  let x := s.engSt e
  let s1 := s.setFld (oEcfg e) 31 28 0
  s1.setEng e (({ x with haltDue := 0 }).setCur { x.cur with wd := max x.cur.wd (s.wdGrace * 1000) })

/-- R378, R410: the management cores resume. -/
def State.resumeMgmt (s : State) : State :=
  let s1 := s.setFld oMcfg 31 28 0
  { s1 with mgm := { s1.mgm with wd := max s1.mgm.wd s.wdGrace }, dbg := { s1.dbg with mHaltDue := 0 } }

/-- R410: one bundle. An idle engine has none to issue and stays halted. -/
def State.stepEngine (s : State) (e : Nat) : State :=
  let x := s.engSt e
  if x.cur.busy then (s.setFld (oEcfg e) 31 28 0).setEng e { x with stepping := true, haltDue := 0 }
  else s.setFld (oEcfg e) 30 28 4

/-- R410: one instruction of the management cores; they halt again behind it. -/
def State.stepMgmt (s : State) : State :=
  let s1 := s.setFld oMcfg 31 28 0
  { s1 with dbg := { s1.dbg with mHaltDue := 4, mStepping := true } }

/-- A reset of a target clears its halt and the CAUSE. -/
def State.unhalt (s : State) (e : Nat) : State :=
  let s1 := s.setFld (oEcfg e) 31 28 0
  s1.setEng e { s1.engSt e with haltDue := 0, stepping := false }

def State.unhaltMgmt (s : State) : State :=
  let s1 := s.setFld oMcfg 31 28 0
  { s1 with dbg := { s1.dbg with mHaltDue := 0, mStepping := false } }

/-- R400, R407: an engine comes ON halted. -/
def State.onHalted (s : State) (e : Nat) : State := (s.setBit (oEcfg e) 31 true).setFld (oEcfg e) 30 28 5

/-- R410: the code that rejects a write of DBG_ECFG or DBG_MCFG; `on` tells whether the target can halt. -/
def haltCode (v : Word) (on halted barred : Bool) : Option Nat :=
  let n := bitsOf v 0 0 + bitsOf v 1 1 + bitsOf v 2 2
  if 2 ≤ n then some 0x05
  else if bitsOf v 0 0 = 1 ∧ (on = false ∨ halted = true ∨ barred = true) then some 0x03
  else if bitsOf v 2 1 ≠ 0 ∧ halted = false then some 0x03
  else none

/-- A write of DBG_ECFG of engine `e`. -/
def State.ecfgWrite (s : State) (e : Nat) (v : Word) : WRes :=
  match haltCode v (s.isOn (oPwrEng e)) (s.halted e) false with
  | some c => .rej c
  | none =>
    let s1 := s.plainWrite (oEcfg e) v
    if bitsOf v 0 0 = 1 then
      .ok (if (s1.engSt e).haltDue = 0 then s1.setEng e { s1.engSt e with haltDue := 1 } else s1)
    else if bitsOf v 1 1 = 1 then .ok (s1.resumeEngine e)
    else if bitsOf v 2 2 = 1 then .ok (s1.stepEngine e)
    else .ok s1

/-- A write of DBG_MCFG, through channel `via`. -/
def State.mcfgWrite (s : State) (via : Nat) (v : Word) : WRes :=
  match haltCode v true (s.bit oMcfg 31) (via == 1) with
  | some c => .rej c
  | none =>
    let s1 := s.plainWrite oMcfg v
    if bitsOf v 0 0 = 1 then .ok (if s1.dbg.mHaltDue = 0 then { s1 with dbg := { s1.dbg with mHaltDue := 1 } } else s1)
    else if bitsOf v 1 1 = 1 then .ok s1.resumeMgmt
    else if bitsOf v 2 2 = 1 then .ok s1.stepMgmt
    else .ok s1

/-- R412: the halted targets whose TRIGIN meets `m` resume, and the channels of `m` clear. -/
def State.gresume (s : State) (m : Nat) : State :=
  let s1 := s.cfgEngines.foldl (fun t e => if t.halted e = true ∧ t.fld (oEcfg e) 23 16 &&& m ≠ 0 then t.resumeEngine e else t) s
  let s2 := if s1.bit oMcfg 31 = true ∧ s1.fld oMcfg 23 16 &&& m ≠ 0 then s1.resumeMgmt else s1
  s2.setFld oTrigSt 7 0 (s2.fld oTrigSt 7 0 &&& (255 - m))

/-- R406, R407: the engine is at a bundle boundary with a halt due: a trap comes first, and a swap in progress. -/
def State.engineHalts (s : State) (e : Nat) : State :=
  let c := (s.engSt e).haltDue
  if c = 0 ∨ s.halted e = true ∨ s.isOn (oPwrEng e) = false then s
  else
    let s1 := if (s.heldTrap e).isSome then s.takeHeld e else if (s.engSt e).swapDue then s.bankSwap e else s
    s1.haltEngine e c

/-! ## The access channels (R401 to R404) -/

/-- The four data words. -/
def State.adata (s : State) (ch : Nat) : Quad :=
  BitVec.ofNat 128 ((List.range 4).foldr (fun i n => (s.reg (oActl ch + 0x10 + 4 * i)).toNat + 2 ^ 32 * n) 0)

/-- The first `n` data words take the low words of `v`. -/
def State.setAdata (s : State) (ch n : Nat) (v : Quad) : State :=
  (List.range n).foldl (fun t i => t.setReg (oActl ch + 0x10 + 4 * i) (BitVec.ofNat 32 (v.toNat / 2 ^ (32 * i)))) s

/-- An access ends with a RESULT; one that is not OK gives ERR at the next acknowledgement of the port (R399). -/
def State.endAccess (s : State) (ch result : Nat) : State :=
  let s1 := s.setDbgChan ch { s.dbgChan ch with busy := false }
  let s2 := s1.setReg (oActl ch + 4) (BitVec.ofNat 32 (result * 2 ^ 28))
  if ch = 0 ∧ result ≠ 0 then { s2 with dbg := { s2.dbg with errAck := true } } else s2

/-- The registers that OP 2 and 3 name: (value, 32-bit words), none where the address names no register. -/
def State.engRegister (s : State) (a : Nat) (eff : Bool) : Option (Quad × Nat × State) :=
  let e := a % 2048
  let i := a / 2 ^ 27 % 32
  let cls := a / 2 ^ 24 % 8
  let x := s.engSt e
  let w := if a / 2 ^ 23 % 2 = 0 then x.active else !x.active
  let b := x.bank w
  if 1088 ≤ e then none
  else match cls with
    | 0 => some ((b.getS i).setWidth 128, 1, s)
    | 1 => some (b.getV i, 4, s)
    | 2 => if i < 8 then some ((b.getA i).setWidth 128, 4, s) else none
    | 3 => if i < 8 then some ((b.getA i >>> 128).setWidth 128, 4, s) else none
    | 4 => if i < 8 then some ((b.getP i).setWidth 128, 1, s) else none
    | 5 =>
      if 14 ≤ i then none
      else
        let (v, y) := s.mfsr e { x with active := w } i
        some (v.setWidth 128, 1, if eff then s.setEng e { y with active := x.active } else s)
    | 6 => if i = 0 then some (BitVec.ofNat 128 b.pc, 1, s) else none
    | _ => none

/-- R404: a register of a halted engine is written; P0 and the read-only special registers ignore it. -/
def State.setEngRegister (s : State) (a : Nat) (v : Quad) : Option State :=
  let e := a % 2048
  let i := a / 2 ^ 27 % 32
  let x := s.engSt e
  let w := if a / 2 ^ 23 % 2 = 0 then x.active else !x.active
  let b := x.bank w
  let put (c : EBank) : Option State := some (s.setEng e (x.setBank w c))
  if 1088 ≤ e then none
  else match a / 2 ^ 24 % 8 with
    | 0 => put (b.setS i (v.setWidth 32))
    | 1 => put (b.setV i v)
    | 2 => if i < 8 then put (b.setA i (withBits (b.getA i) 127 0 v.toNat)) else none
    | 3 => if i < 8 then put (b.setA i (withBits (b.getA i) 255 128 v.toNat)) else none
    | 4 => if i = 0 then some s else if i < 8 then put (b.setP i (v.setWidth 8)) else none
    | 5 => if i = 0 then put { b with flags := v.setWidth 32 &&& 0xF0F } else if i < 14 then some s else none
    | 6 => if i = 0 then put { b with pc := v.toNat % 4096 } else none
    | _ => none

/-- A register of the halted management cores: what was written during the halt, else a free value. -/
def State.coreReg (s : State) (i : Nat) : Word := (SMap.find s.mgm.core i).getD (Config.coreReg s.mgm.halts i)

/-- OP 2 to 5 end at once. -/
def State.regAccess (s : State) (ch op : Nat) : State :=
  let a := (s.reg (oActl ch + 8)).toNat
  let v := s.adata ch
  let eff := (s.dbgChan ch).effrd
  if op < 4 then
    if s.halted (a % 2048) = false then s.endAccess ch 5
    else if op = 2 then
      match s.engRegister a eff with
      | some (d, n, t) => (t.setAdata ch n d).endAccess ch 0
      | none => s.endAccess ch 1
    else match s.setEngRegister a v with
      | some t => t.endAccess ch 0
      | none => s.endAccess ch 1
  else if s.bit oMcfg 31 = false then s.endAccess ch 5
  else if 33 < a then s.endAccess ch 1
  else if op = 4 then (s.setAdata ch 1 ((s.coreReg a).setWidth 128)).endAccess ch 0
  else { s with mgm := { s.mgm with core := SMap.insert s.mgm.core a (v.setWidth 32) } }.endAccess ch 0

/-- OP 0 and 1: a request on the network. A 4-byte access names its bytes of the 16-byte word. -/
def State.netAccess (s : State) (ch : Nat) (c : DbgChan) : State :=
  let lane := c.addr % 16 / 4
  let be : BitVec 16 := if c.size16 then 0xFFFF else BitVec.ofNat 16 (0xF * 2 ^ (4 * lane))
  let v := (s.adata ch).toNat
  let d : Quad := BitVec.ofNat 128 (if c.size16 then v else v % 2 ^ 32 * 2 ^ (32 * lane))
  let t := s.freeTag reqDbg
  let p := inlinePkt (if c.op = 1 then 1 else 0) reqDbg t 0 0 c.addr be false (if c.op = 1 then d else 0)
  let s1 := s.send (if c.op = 1 then .wr p else .rd p)
  { s1 with net := { s1.net with outst := s1.net.outst ++ [outReq reqDbg t c.addr (c.op = 1) (.debug ch)] } }

/-- R401: a write of DBG_ACTL. -/
def State.actlWrite (s : State) (ch : Nat) (v : Word) : WRes :=
  if bitsOf v 31 31 = 1 ∧ (s.dbgChan ch).busy = true then .rej 0x03
  else
    let s1 := s.plainWrite (oActl ch) v
    if bitsOf v 31 31 = 0 then .ok s1
    else
      let c : DbgChan := { busy := true, op := bitsOf v 26 24, size16 := bitsOf v 4 4 = 1, effrd := bitsOf v 30 30 = 1,
                           addr := s.fld (oActl ch + 8) 31 0 + 2 ^ 32 * s.fld (oActl ch + 0xC) 15 0 }
      let s2 := (s1.setDbgChan ch c).setReg (oActl ch + 4) 0x80000000
      .ok (if c.op < 2 then s2.netAccess ch c else s2.regAccess ch c.op)

/-- The response to an access: poison reads as 0; an error of a protected line is a refusal (R352). -/
def State.dbgAnswer (s : State) (ch : Nat) (write : Bool) (status : Nat) (poison : Bool) (data : List Byte) : State :=
  let c := s.dbgChan ch
  if c.busy = false then s
  else if status ≠ 0 then
    let line := c.addr / 128 * 128
    s.endAccess ch (if (s.rangeAt line).isSome ∨ (s.metaAt line).isSome then 3 else 1)
  else if write then s.endAccess ch 0
  else
    let n := if c.size16 then 4 else 1
    let v : Nat := ofBytesLE data / (if c.size16 then 1 else 2 ^ (32 * (c.addr % 16 / 4)))
    if poison then (s.setAdata ch n 0).endAccess ch 2 else (s.setAdata ch n (BitVec.ofNat 128 v)).endAccess ch 0

/-- R403: an access has not completed 1 ms after GO. -/
def State.dbgTimeout (s : State) (ch : Nat) : State :=
  let c := s.dbgChan ch
  if c.busy then
    let f (q : OutReq) : OutReq := if q.kind = .debug ch then { q with kind := .other } else q
    let s1 := { s with net := { s.net with outst := s.net.outst.map f } }
    (s1.log (mkRec reqDbg 0x0F2 c.addr 1 reqDbg)).endAccess ch 4
  else s

/-! ## Registers (R405) -/

/-- A channel's registers. -/
def chanOff (off : Nat) : Option Nat := if 0x100 ≤ off ∧ off < 0x180 then some ((off - 0x100) / 0x40) else none

/-- R397: a write of DBG_CTL through channel `via`; MONEN is written through channel 0 alone. -/
def State.dbgCtlWrite (s : State) (via : Nat) (v : Word) : State :=
  let w := if via = 1 then withBits v 31 31 (s.fld oDbgCtl 31 31) else v
  let s1 := s.plainWrite oDbgCtl w
  let rise (k ch : Nat) (t : State) : State :=
    if s.bit oDbgCtl k = false ∧ bitsOf v k k = 1 then t.log (mkRec reqDbg 0x0F3 0 ch reqDbg) else t
  rise 29 1 (rise 28 0 s1)

/-- A write to a defined register of the DBG block that R405 lets through. -/
def State.dbgSet (s : State) (via off : Nat) (v : Word) : WRes :=
  match chanOff off with
  | some ch => if off % 0x40 = 0 then s.actlWrite ch v else .ok (s.plainWrite (oDbg + off) v)
  | none =>
    if 0x10000 ≤ off then s.ecfgWrite ((off - 0x10000) / 4) v
    else match off with
      | 0x000 => .ok (s.dbgCtlWrite via v)
      | 0x024 => .ok (s.fire (bitsOf v 7 0))
      | 0x028 => .ok (s.gresume (bitsOf v 7 0))
      | 0x040 => s.mcfgWrite via v
      | _ => .ok (s.plainWrite (oDbg + off) v)

/-- R405: who may write the DBG block. -/
def State.dbgMayWrite (s : State) (req off : Nat) : Bool :=
  req == reqDbg || (req == reqMgmt && s.bit oDbgCtl 31 && chanOff off == some 1)

def State.dbgRefuse (s : State) (req off : Nat) : State := s.log (mkRec reqDbg 0x0F0 (ctlBase + oDbg + off) 1 req)

/-! ## The two-wire port (R398 to R400) -/

/-- Even parity of the low `n` bits. -/
def parityOf : Nat → Nat → Bool
  | 0, _ => false
  | n + 1, x => (x % 2 = 1) != parityOf n (x / 2)

/-- R398: an error of the protocol. -/
def State.portError (s : State) : State :=
  let s1 := (s.setBit oPstatDbg 30 true).emit (.debugReply 4 0)
  if s1.sys.hubOn then s1.logLim (limKey 0x0F1 0) (mkRec reqDbg 0x0F1 0 1 reqDbg) else s1

/-- The offset of a port register in the DBG block. -/
def pregOff (p : Nat) : Nat := if p < 4 then 0x100 + 4 * p else 0x110 + 4 * (p - 4)

/-- A write through the port to one of registers 0 to 9. -/
def State.portWrite (s : State) (p : Nat) (v : Word) : State :=
  if p = 8 then s
  else if p = 9 then
    let s1 := if bitsOf v 30 30 = 1 then s.setBit oPstatDbg 30 false else s
    if s.fuses.dbgLock then s1 else s1.setFld oPstatDbg 1 0 (bitsOf v 1 0)
  else
    match findReg regsDbg (pregOff p) with
    | some (r, _) => ((r.gate v (s.dbgSet 0 (pregOff p) v)).settle s oDbg (pregOff p)).1
    | none => s

/-- A transaction on the port. -/
def State.portRun (s : State) (h : Nat) (v : Word) (par : Bool) : State :=
  let p := h / 4 % 16
  let write := h / 2 % 2 = 0
  if s.bit 0x390 3 = false ∨ h % 2 = 0 then s
  else if parityOf 6 (h / 2) ≠ (h / 128 % 2 = 1) ∨ h / 64 % 2 = 1 then s.portError
  else if s.fuses.dbgLock = true ∧ p ≠ 8 ∧ p ≠ 9 then s
  else if s.sys.hubOn = false ∧ p ≠ 9 then s.emit (.debugReply 2 0)
  else if 10 ≤ p then s.portError
  else if p = 0 ∧ s.dbg.ch0.busy = true then s.emit (.debugReply 2 0)
  else if p < 2 ∧ s.dbg.errAck = true then { s with dbg := { s.dbg with errAck := false } }.emit (.debugReply 4 0)
  else if write then
    if parityOf 32 v.toNat ≠ par then s.portError else (s.portWrite p v).emit (.debugReply 1 0)
  else
    let d := if p = 8 then s.sysId else if p = 9 then s.dbgPstat else s.reg (oDbg + pregOff p)
    s.emit (.debugReply 1 d)

/-! ## Commands -/

/-- DEBUG_TRANSACTION: header, data and parity bit as sent by the debugger (R398). -/
def execDebugTransaction (header : BitVec 8) (data : Word) (parity : Bool) (s : State) : Host.Outcome State Fault Refusal :=
  .next (s.portRun header.toNat data parity)

/-- LINE_RESET: a transaction in progress ends unapplied (R398); a transaction that is a command has been applied whole. -/
def execLineReset (s : State) : Host.Outcome State Fault Refusal := .next s

/-- DBG_CK_TMO: the transaction is discarded, and PERR sets (R398). -/
def execDbgCkTmo (s : State) : Host.Outcome State Fault Refusal :=
  .next (if s.bit 0x390 3 then s.setBit oPstatDbg 30 true else s)

def execAccessTmo (ch : Fin 2) (s : State) : Host.Outcome State Fault Refusal := .next (s.dbgTimeout ch.val)

/-- ENGINE_HALT: a halt that is due takes effect (R406, R409). -/
def execEngineHalt (g : DbgTarget) (s : State) : Host.Outcome State Fault Refusal :=
  .next (match g with
    | .eng e => s.engineHalts e.val
    | .mgmt => if s.dbg.mHaltDue = 0 ∨ s.bit oMcfg 31 = true then s else s.haltMgmt s.dbg.mHaltDue)

/-- FABRIC_TRIGGER_IN: input line `i` of the fabric of a tile rises (R411). -/
def execFabricTriggerIn (t : Tile) (i : Fin 8) (s : State) : Host.Outcome State Fault Refusal :=
  .next (if s.isOn (oPwrTile t.val) = true ∧ s.bit (oDbg + 0x80 + 4 * t.val) i.val = true then s.fire (2 ^ i.val) else s)

/-- MGM_BREAKPOINT: with HEN = 1 the cores halt; with HEN = 0 they take their own exception (R409). -/
def execMgmBreakpoint (s : State) : Host.Outcome State Fault Refusal :=
  .next (if s.bit oMcfg 27 = true ∧ s.bit oMcfg 31 = false ∧ s.fld 0xD00000 31 30 ≠ 0 then s.haltMgmt 2 else s)

end Sys2Proof.Machine
end

