-- ==== Sys2Proof/Machine/Cnv.lean ====
section
/-! DEFINITION. Converter dies (ch. 10): discovery and admission, calibration, channel faults, and the CNV registers. -/

namespace Sys2Proof.Machine

def oDstat (n : Nat) : Nat := oCnv n + 8
def oChavail (n : Nat) : Nat := oCnv n + 0x10

/-- R262: a die enters STARTING and the first discovery attempt begins. -/
def State.cnvBringUp (s : State) (n : Nat) : State :=
  (s.setReg (oDstat n) (BitVec.ofNat 32 (2 ^ 26))).setReg (oChavail n) 0

/-- A bring-up is in progress and the record has not been read. -/
def State.cnvSearching (s : State) (n : Nat) : Bool :=
  decide (s.pwr (oPwrCnv n) = 1) && decide (s.fld (oDstat n) 31 29 = 0)

/-- R262: the record shows CLASS 0xC4, 16 channels each way and PROTO 1. -/
def identityOk (w : Word) : Bool :=
  decide (bitsOf w 31 24 = 0xC4) && decide (bitsOf w 23 16 = 16) && decide (bitsOf w 15 8 = 16) && decide (bitsOf w 7 4 = 1)

/-- LNK_STAT of the TC module of a die. -/
def oTcstat (n : Nat) : Nat := 0xA00008 + 0x1000 * tcModule n

/-- R262: the TC module of a die has trained. -/
def State.tcActive (s : State) (n : Nat) : Bool := decide (s.fld (oTcstat n) 31 28 = 7)

/-- R295: a module reads WAIT while one of its dies is ABSENT. -/
def State.tcWait (s : State) (n : Nat) : State :=
  ((s.setFld (oTcstat n) 31 28 0).setBit (oTcstat n) 22 false).setBit oNocstat (tcModule n) true

/-- R263: the die reads ABSENT. -/
def State.cnvAbsent (s0 : State) (n result code : Nat) : State :=
  let s := s0.tcWait n
  let s1 := (((s.setFld (oDstat n) 31 29 result).setReg (oChavail n) 0).setPwr (oPwrCnv n) 4).setBit (oPwrCnv n) 29 false
  s1.log (mkRec (cnvReq n) code 0 1 (cnvReq n))

/-- R274: the channels of a die that no foreground calibration has restored since they failed. -/
def State.cnvFailed (s : State) (n : Nat) : Nat := SMap.get (fun _ => 0) s.net.cnvBad n
def State.setCnvFailed (s : State) (n m : Nat) : State := { s with net := { s.net with cnvBad := SMap.set (fun _ => 0) s.net.cnvBad n m } }

/-- R262: the identity record of a discovery attempt is read, over a TC module that has trained. -/
def State.identity (s : State) (n : Nat) (w : Word) : State :=
  if s.cnvSearching n = true ∧ s.tcActive n = true then
    let s1 := s.setReg (oCnv n) w
    if identityOk w then (s1.setFld (oDstat n) 31 29 1).setReg (oChavail n) (BitVec.ofNat 32 (2 ^ 32 - 1 - s1.cnvFailed n)) else s1.cnvAbsent n 3 0x081
  else s

/-- R262, R263: a discovery attempt has not read the record within 8 ms. -/
def State.attemptTmo (s : State) (n : Nat) : State :=
  if s.cnvSearching n then
    let k := s.fld (oDstat n) 27 26
    if k < 3 then s.setFld (oDstat n) 27 26 (k + 1) else s.cnvAbsent n 2 0x080
  else s

/-- R264: an admitted die does not answer for 100 µs. -/
def State.cnvLost (s : State) (n : Nat) : State :=
  if s.fld (oDstat n) 31 29 = 1 ∧ (s.pwr (oPwrCnv n) = 2 ∨ s.pwr (oPwrCnv n) = 1) ∧ s.tcUp n = true then
    let s1 := ((s.setFld (oDstat n) 31 29 4).setPwr (oPwrCnv n) 3).setFld (oPwrCnv n) 23 20 4
    (s1.setBit (oPwrCnv n) 29 (s1.bit (oPwrCnv n) 31)).log (mkRec (cnvReq n) 0x082 0 1 (cnvReq n)) |>.strStopTile n
  else s

/-- R274: a channel becomes unavailable. -/
def State.chanFail (s : State) (n : Nat) (tx : Bool) (c : Nat) : State :=
  if s.chanAvail n tx c then
    let k := c + if tx then 16 else 0
    let s1 := (s.setBit (oChavail n) k false).setCnvFailed n (s.cnvFailed n ||| 2 ^ k)
    (s1.log (mkRec (cnvReq n) 0x083 0 (c + if tx then 16 else 0) (cnvReq n))).strStopChan n tx c
  else s

/-- R273, R274: the foreground calibration ends; `pass` is laid out as CNV_CHAVAIL. -/
def State.calDone (s : State) (n : Nat) (pass : Word) : State :=
  if s.isOn (oPwrCnv n) = true ∧ s.fld (oDstat n) 25 24 = 1 then
    let s1 := ((s.setFld (oDstat n) 25 24 2).setReg (oChavail n) (s.reg (oChavail n) ||| pass)).setCnvFailed n
      (s.cnvFailed n &&& (2 ^ 32 - 1 - pass.toNat))
    (List.range 32).foldl (fun r k => if bitsOf pass k k = 1 then r else r.chanFail n (decide (16 ≤ k)) (k % 16)) s1
  else s

/-- R273: a die that reached ON runs its foreground calibration. -/
def State.cnvOn (s : State) (n : Nat) : State := s.setFld (oDstat n) 25 24 1

def State.calctlWrite (s : State) (n : Nat) (v : Word) : WRes :=
  if bitsOf v 0 0 = 0 then .ok s
  else if s.cnvBusy n then .rej 0x03
  else if s.isOn (oPwrCnv n) then .ok (s.cnvOn n)
  else .ok s

/-- The CNV block; an absent die rejects every write but one to CNV_WRSTAT (R263). -/
def State.cnvRegWrite (s : State) (n off : Nat) (v : Word) : WRes :=
  let o := oCnv n + off
  if off = 4 then .ok (s.plainWrite o v)
  else if s.pwr (oPwrCnv n) = 4 then .rej 0x03
  else if off = 0x00C then s.calctlWrite n v
  else if 0x100 ≤ off ∧ off < 0x900 ∧ off % 16 ≠ 12 then
    (if s.pathBusy n (decide (0x500 ≤ off)) ((off - if 0x500 ≤ off then 0x500 else 0x100) / 16) then .rej 0x03
     else .ok (s.plainWrite o v))
  else .ok (s.plainWrite o v)

def execConverterLost (n : Conv) (s : State) : Host.Outcome State Fault Refusal := .next (s.cnvLost n.val)

def execCalibrationDone (n : Conv) (pass : Word) (s : State) : Host.Outcome State Fault Refusal := .next (s.calDone n.val pass)

/-- R273: background calibration of a channel. -/
def execBackgroundCal (n : Conv) (tx : Bool) (c : Fin 16) (pass : Bool) (s : State) : Host.Outcome State Fault Refusal :=
  .next (if s.isOn (oPwrCnv n.val) = true ∧ pass = false then s.chanFail n.val tx c.val else s)

/-- R274: a channel's monitor finds it faulty. -/
def execChannelFault (n : Conv) (tx : Bool) (c : Fin 16) (s : State) : Host.Outcome State Fault Refusal :=
  .next (if s.isOn (oPwrCnv n.val) then s.chanFail n.val tx c.val else s)

end Sys2Proof.Machine
end

