-- ==== Sys2Proof/Machine/Tim.lean ====
section
/-! DEFINITION. The time lattice and the calendar clock (R229 to R260): measurements, steps, the pattern of ticks, distribution, holdover and
learning, the calendar, and the registers of both. -/

namespace Sys2Proof.Machine

/-- TIM_SRCCOMP in units of 2^-16 ns. -/
def State.srcComp (s : State) (i : Nat) : Int := toSigned 32 (s.reg (oTim + 0xA0 + 4 * i)).toNat * 256

def State.setPred (s : State) (i : Nat) (p : Option Int) (n : Nat) : State :=
  s.setTim { s.tim with preds := SMap.set (fun _ => none) s.tim.preds i p, outl := SMap.set (fun _ => 0) s.tim.outl i n }

/-- A phase error of the selected source steers the lattice (R243): what the lattice must add to agree with the source. -/
def State.steer (s : State) (e : Int) : State :=
  let ns := rneQ e 65536
  let s1 := s.setReg (oTim + 0x40) (BitVec.ofNat 32 (ofSigned 32 (clampInt 2147483647 ns)))
  if s.lockState = 2 ∧ s.firstLock = false ∧ (s.fld (oTim + 0x38) 15 0 : Int) * 65536 < e.natAbs then
    (if s.tim.pend.isNone then s1.setTim { s1.tim with pend := some (false, e) } else s1)
  else if s.lockState = 2 ∨ s.lockState = 3 then s1.slew e
  else s1

/-- R235: a phase measurement of source `i`, compensated. Eight consecutive outliers disqualify it. -/
def State.phaseMeasure (s : State) (i : Nat) (e0 : Int) : State :=
  let e := e0 + s.srcComp i
  if s.srcEn i = false then s
  else
    let far := match SMap.get (fun _ => none) s.tim.preds i with
      | some p => decide (500 * 65536 < (e - p).natAbs)
      | none => false
    if far then
      let n := SMap.get (fun _ => 0) s.tim.outl i + 1
      let s1 := (s.srcError i).setPred i (SMap.get (fun _ => none) s.tim.preds i) n
      if n = 8 then (s1.setPred i none 0).disqualify i 2 else s1
    else
      let s1 := (s.setPred i (some e) 0).goodMeasure i
      if s1.fld oTimStat 15 12 = i then s1.steer e else s1

/-! ### GNSS (R236) -/

/-- The lattice time of an edge stamped `ns`, `frac`, near now. -/
def State.edgeTime (s : State) (ns frac : Nat) : Nat :=
  let t := timeOf (timeSec s.now) ns frac
  if s.now + unitsPerSec / 2 < t then t - unitsPerSec else if t + unitsPerSec / 2 < s.now then t + unitsPerSec else t

/-- The whole second nearest a time. -/
def nearSecond (t : Nat) : Nat := (t + unitsPerSec / 2) / unitsPerSec

/-- A PPS_IN edge: the distance to the whole second, with the seconds that ToD gives until the first lock. -/
def State.ppsEdge (s : State) (ns frac : Nat) : State :=
  let t := s.edgeTime ns frac
  let e : Int := (nearSecond t * unitsPerSec : Nat) - (t : Int)
  let whole : Int := if s.firstLock then 0 else s.tim.todOff * (unitsPerSec : Nat)
  (s.setTim { s.tim with edge := some t }).phaseMeasure 0 (e + whole)

def chr (c : Char) : Byte := BitVec.ofNat 8 c.toNat

def hexDigit (b : Byte) : Option Nat :=
  let n := b.toNat
  if 48 ≤ n ∧ n ≤ 57 then some (n - 48) else if 65 ≤ n ∧ n ≤ 70 then some (n - 55) else if 97 ≤ n ∧ n ≤ 102 then some (n - 87) else none

/-- The number that decimal digits spell. -/
def decNum : List Byte → Option Nat
  | [] => none
  | l => l.foldl (fun a b => match a with
      | some n => if 48 ≤ b.toNat ∧ b.toNat ≤ 57 then some (10 * n + (b.toNat - 48)) else none
      | none => none) (some 0)

/-- The fields of a sentence between `$` and `*`, when its checksum is right (NMEA 0183). -/
def sentenceFields (l : List Byte) : Option (List (List Byte)) :=
  match l with
  | d :: rest =>
    if d ≠ chr '$' ∨ 82 < l.length then none
    else
      let body := rest.takeWhile (· != chr '*')
      match rest.drop (body.length + 1) with
      | a :: b :: _ =>
        match hexDigit a, hexDigit b with
        | some x, some y =>
          if (body.foldl (fun c v => c ^^^ v) 0).toNat = 16 * x + y then
            some (body.foldr (fun v r => if v = chr ',' then [] :: r else match r with | f :: t => (v :: f) :: t | [] => [[v]]) [[]])
          else none
        | _, _ => none
      | _ => none
  | [] => none

/-- Days from 1970-01-01 to a date. -/
def daysOf (y m d : Nat) : Nat :=
  let y1 := if m ≤ 2 then y - 1 else y
  let m1 := if m ≤ 2 then m + 9 else m - 3
  y1 * 365 + y1 / 4 - y1 / 100 + y1 / 400 + (153 * m1 + 2) / 5 + d - 1 - 719468

/-- UTC seconds of a time of day `hhmmss` on a date. -/
def utcSeconds (hms : List Byte) (y m d : Nat) : Option Nat :=
  match decNum (hms.take 2), decNum ((hms.drop 2).take 2), decNum ((hms.drop 4).take 2) with
  | some h, some mi, some sec => if 1 ≤ m ∧ m ≤ 12 ∧ 1 ≤ d ∧ d ≤ 31 then some (daysOf y m d * 86400 + h * 3600 + mi * 60 + sec) else none
  | _, _, _ => none

/-- What an accepted sentence says: a UTC second, RMC status V, or the UTC offset. -/
inductive Tod where
  | second (utc : Nat)
  | void
  | offset (tai : Nat) (leap : Nat)

/-- The sentences $--ZDA, $--RMC and $POMVT. -/
def readTod (l : List Byte) : Option Tod :=
  match sentenceFields l with
  | none => none
  | some f =>
    let g (i : Nat) : List Byte := f.getD i []
    let name := g 0
    if name = [chr 'P', chr 'O', chr 'M', chr 'V', chr 'T'] then
      match decNum (g 1) with
      | some n =>
        if 255 < n then none
        else if g 2 = [chr '0'] then some (.offset n 0)
        else if g 2 = [chr '1'] then some (.offset n 1)
        else if g 2 = [chr '-', chr '1'] then some (.offset n 2)
        else none
      | none => none
    else if name.length = 5 ∧ name.drop 2 = [chr 'Z', chr 'D', chr 'A'] then
      match decNum (g 2), decNum (g 3), decNum (g 4) with
      | some d, some m, some y => (utcSeconds (g 1) y m d).map .second
      | _, _, _ => none
    else if name.length = 5 ∧ name.drop 2 = [chr 'R', chr 'M', chr 'C'] then
      if g 2 = [chr 'V'] then some .void
      else
        match decNum ((g 9).take 2), decNum (((g 9).drop 2).take 2), decNum ((g 9).drop 4) with
        | some d, some m, some y => (utcSeconds (g 1) (2000 + y) m d).map .second
        | _, _, _ => none
    else none

/-- A second given by ToD, on the lattice timescale. -/
def State.todSecond (s : State) (x : Nat) : State :=
  let follows := match s.tim.todPrev with | some p => decide (x = p + 1) | none => true
  let s1 := s.setTim { s.tim with todPrev := some x }
  if follows = false then s1.srcError 0
  else match s.tim.edge with
    | none => s1
    | some e =>
      let at_ := nearSecond e + s.fld (oSrcCfg 0) 15 15
      let off : Int := (x : Int) - (at_ : Int)
      if s.firstLock then (if off = 0 then s1 else s1.disqualify 0 3)
      else s1.setTim { s1.tim with todOff := off }

/-- R236: a sentence on TOD_RX. -/
def State.todSentence (s : State) (l : List Byte) (framing : Bool) : State :=
  if s.srcEn 0 = false then s
  else if framing then s.srcError 0
  else match readTod l with
    | none => s.srcError 0
    | some .void => s.disqualify 0 3
    | some (.offset n leap) => (s.setFld (oTim + 0x30) 15 0 n).setFld (oTim + 0x30) 17 16 leap
    | some (.second u) => s.todSecond (u + s.fld (oTim + 0x30) 15 0)

/-! ### SyncE (R238) -/

/-- The rank of a G.781 quality level, 0 the best; option 1, or option 2. -/
def qlRank (option2 : Bool) (ql : Nat) : Nat :=
  let l := if option2 then [1, 0, 7, 4, 13, 10, 12, 14, 15] else [2, 4, 8, 11, 15]
  (l.findIdx? (· == ql)).getD 15

/-- An ESMC PDU on the lane of SyncE source `i` (3 or 4). -/
def State.esmc (s : State) (i ql : Nat) : State :=
  if s.srcEn i = false then s
  else
    let s1 := s.setFld (oSrcSt i) 23 20 ql
    let o2 := s.bit oTim 26
    if qlRank o2 (s.fld (oSrcCfg i) 11 8) < qlRank o2 ql then s1.disqualify i 4 else s1.goodMeasure i

/-- SOURCE_QUALIFIED. -/
def State.qualify (s : State) (i : Nat) : State :=
  if s.srcEn i = true ∧ s.srcState i = 1 then ((s.setFld (oSrcSt i) 31 29 2).setFld (oSrcSt i) 27 24 0).select else s

/-! ## Steps (R243, R244) -/

/-- The pending step is applied: lattice time is at a whole µs. -/
def State.applyStep (s : State) : State :=
  match s.tim.pend with
  | none => s
  | some (set, x) =>
    let new : Int := if set then x else (s.now : Int) + x
    let d := rneQ (new - (s.now : Int)) 65536
    -- the replicas follow at their next pulse
    let reps := s.tim.reps.map (fun e => (e.1, e.2.map (fun r => { r with off := r.off - (new - (s.now : Int)) * 2 ^ 44 })))
    let y := { s.tim with pend := none, preds := [], todOff := 0, edge := none, reps := reps }
    let s1 := ({ s with now := new.toNat }.setTim y).setFld oTimStat 3 0 (satAdd 15 (s.fld oTimStat 3 0) 1)
    let s2 := (s1.setBit oTimStat 27 true).timLog 0x077 (ofSigned 32 (clampInt 2147483647 d))
    -- R272: a forward step discards the transmit blocks it skipped
    if s.now < new.toNat then s2.strStep s.now new.toNat else s2

/-! ## Ticks (R250 to R253) -/

def oSymCfg : Nat := oTim + 0x144

/-- TU of the first `n` symbols. -/
def State.symSum (s : State) (n : Nat) : Nat := ((List.range n).map (fun i => s.fld (oTim + 0x180 + 4 * i) 23 0)).sum

/-- The time of symbol `n` of slot `j`, slots counted from lattice time 0. -/
def State.symTime (s : State) (j n : Nat) : Nat :=
  let u := s.fld (oTim + 0x140) 31 16
  let d := s.fld (oTim + 0x140) 15 0
  let p := s.symSum (s.fld oSymCfg 5 0)
  s.fld (oTim + 0x148) 31 0 * 65536 + (rneQ (((j * p + s.symSum n) * u * 65536 : Nat)) d).toNat

/-- The first slot that starts at or after `t`. -/
def State.slotFrom (s : State) (t : Nat) : Nat :=
  let u := s.fld (oTim + 0x140) 31 16
  let d := s.fld (oTim + 0x140) 15 0
  let p := s.symSum (s.fld oSymCfg 5 0)
  let k := (t - s.fld (oTim + 0x148) 31 0 * 65536) * d / (p * u * 65536)
  if t ≤ s.symTime k 0 then k else if t ≤ s.symTime (k + 1) 0 then k + 1 else k + 2

/-- R252: the ADV that a tick at lattice time `t` goes by. -/
def State.advFor (s : State) (t : Nat) : Nat :=
  match s.tim.advNew with
  | some (from_, v) => if from_ ≤ t then v else s.tim.adv
  | none => s.tim.adv

/-- R253: the first USER instant at or after `t`. -/
def State.userFrom (s : State) (t : Nat) : Nat :=
  let ph := s.fld (oTim + 0x158) 31 0 * 65536
  let per := s.fld (oTim + 0x154) 31 0 * 65536
  let sec := t / unitsPerSec * unitsPerSec
  let r := t % unitsPerSec
  if r ≤ ph then sec + ph
  else
    let u := ph + (r - ph + per - 1) / per * per
    if u < unitsPerSec then sec + u else sec + unitsPerSec + ph

/-- R245: the second's reading of sensor HOSENS goes through the 60 s filter; T has a resolution of 0.0625 °C. -/
def State.sampleTemp (s : State) : State :=
  match s.tempOf (s.fld (oTim + 0x100) 31 26) with
  | none => s
  | some x =>
    let f := match s.tim.tacc with | some y => y + rneQ (x * 2 ^ 20 - y) 60 | none => x * 2 ^ 20
    s.setTim { s.tim with tacc := some f, temp := rneQ f (2 ^ 20) }

/-- There is a learned range. -/
def State.rangeKnown (s : State) : Bool := decide (s.tim.samples ≠ []) || decide (s.fld oHoStat 15 0 ≠ 0) || s.bit oHoStat 30

/-- R247: TOUT follows T and the learned range. -/
def State.touch (s : State) : State := s.setBit oHoStat 29 (s.rangeKnown && decide (s.clampTemp s.tim.temp ≠ s.tim.temp))

/-- FFO as the frequency source calls for it. -/
def State.sourceFreq (s : State) : State := let (x, s1) := s.draw; s1.setFfo (toSigned 64 x.toNat)

/-- A whole second: PPS_OUT settings take effect, FFO is kept for its means, T is sampled, and FFO follows the frequency source in FREQLOCK
and the model in FREERUN (R242). -/
def State.wholeSecond (s : State) : State :=
  let s1 := s.sampleTemp.touch
  let s2 := s1.setTim { s1.tim with
    ppsCfg := s1.reg (oTim + 0x15C), ppsOff := s1.fld (oTim + 0x160) 31 0, hist := (s1.tim.ffo :: s1.tim.hist).take 300,
    lockedSec := if s1.lockState = 3 then s1.tim.lockedSec + 1 else 0, sampleSec := s1.tim.sampleSec + 1 }
  if s2.lockState = 1 then s2.sourceFreq
  else if s2.lockState = 0 ∧ s2.modelValid = true then s2.modelFfo
  else s2

/-! ## Distribution (R232, R234) -/

def oDist : Nat := oTim + 0x200

/-- A way for time pulses joins a tile to the hub. -/
def State.pulsePath (s : State) (t : Nat) : Bool := (s.routeEnv.hubTile t 0).isSome

/-- The numbers of the dies that hold replicas: tile t, and 8 + n for Xn. -/
def timeDies : List Nat := [0, 1, 2, 3, 8, 9, 10, 11]

def oPwrDie (k : Nat) : Nat := if k < 8 then oPwrTile k else oPwrCnv (k - 8)

/-- A way for time pulses joins a die to the hub. -/
def State.diePath (s : State) (k : Nat) : Bool := s.pulsePath (k % 8) && (decide (k < 8) || inService s.routeEnv.oos (tcModule (k % 8)))

/-- The module over which a die takes its pulses, and the die whose replica sends them; none stands for the hub itself (R232, R234). -/
def State.pulseFrom (s : State) (k : Nat) : Nat × Option Nat :=
  let v := s.routeEnv
  let t := k % 8
  if 8 ≤ k then (tcModule t, some t)
  else match v.th t 0, v.hubTile t 0 with
    | some m, _ => (thModule t m, none)
    | none, some h =>
      let u := v.towards t h
      ((match ttBase t u, v.ttAny t u with | some b, some j => b + j | _, _ => thModule t 0), some u)
    | none, none => (thModule t 0, none)

/-- R232: a die's replica loads the pulse's lattice time and the delay of its link, and takes the rate. -/
def State.loadReplica (s : State) (k : Nat) : State :=
  let (m, src) := s.pulseFrom k
  let delay := s.fld (0xA00030 + 0x1000 * m) 23 0
  let off := match src with | some u => (s.replica u).off | none => 0
  let sent := s.now / unitsPerUs * unitsPerUs
  s.setReplica k (some ⟨sent + delay * 65536 / 1000, s.tim.ffo, off⟩)

/-- R234: a die that is ON and has no way to the hub is out of step. -/
def State.unsyncDie (s : State) (k : Nat) : State :=
  if s.isOn (oPwrDie k) = true ∧ s.diePath k = false ∧ s.bit oDist k = false then (s.setBit oDist k true).timLog 0x074 1 else s

def State.unsync (s : State) : State := timeDies.foldl State.unsyncDie s

/-- R234: a die that is not ON raises no UNSYNC, and its replica loads anew. -/
def State.timeDieOff (s : State) (k : Nat) : State := (s.setBit oDist k false).setReplica k none

/-- A time pulse. An admitted converter die loads its replica before it is ON (R262). -/
def State.pulse (s : State) (d : TimeDie) : State :=
  let k : Nat := match d with | .tile t => t.val | .conv n => 8 + n.val
  let starting := decide (8 ≤ k) && decide (s.pwr (oPwrDie k) = 1) && decide (s.fld (oCnv (k - 8) + 8) 31 29 = 1)
  if s.isOn (oPwrDie k) = false ∧ starting = false then s
  else
    let path := s.diePath k
    let th := (s.routeEnv.th (k % 8) 0).isSome
    let s1 := if k < 8 then s.setBit oDist (4 + k) (path && !th) else s
    if path then (s1.setBit oDist k false).loadReplica k else s1.unsyncDie k

/-! ## Holdover and learning (R246, R247) -/

/-- A second of holdover; `freq` is the frequency that a frequency source calls for. -/
def State.holdSecond (s : State) (freq : Int) : State :=
  if s.lockState ≠ 4 ∧ s.lockState ≠ 5 then s
  else
    let s1 := s.count (oTim + 0x10C) 31 0 1
    let fr := s.fld oTimStat 7 4
    if fr = 3 ∨ fr = 4 then ((s1.setBit oTimStat 25 true).setBit oTimStat 24 true).setFfo freq
    else
      let s2 := (s1.setBit oTimStat 25 false).touch
      if s.modelValid then
        (s2.setBit oTimStat 24 true).setFfo (s.tim.fe - rneQ (s.model (s.clampTemp s.tim.temp) s.modelAge - s.tim.ye) (2 ^ 24))
      else (s2.setBit oTimStat 24 false).setFfo s.tim.fe

/-- The mean frequency correction over the last `n` seconds. -/
def State.meanOver (s : State) (n : Nat) : Int :=
  let l := s.tim.hist.take n
  if l = [] then s.tim.ffo else l.sum / (l.length : Int)

/-- A coefficient after a fit of the samples: HALF weights them. -/
def State.fitCoef (s : State) (k : Nat) : State :=
  s.setReg (oTim + 0x110 + 4 * k) (Config.fit s.tim.samples (s.fld (oTim + 0x100) 7 0) (s.fld (oTim + 0x124) 15 0) (s.fld (oTim + 0x128) 15 0) k)

/-- The RMS residual of the fit, in ppt, is at most RESMAX. -/
def State.fits (s : State) : Bool :=
  decide (Config.fitResidual s.tim.samples (s.fld (oTim + 0x100) 7 0) ((List.range 7).map (fun k => s.reg (oTim + 0x110 + 4 * k)))
    ≤ s.fld (oTim + 0x104) 31 24)

/-- The samples span at least 2 °C. -/
def spanEnough (l : List (Int × Int × Nat)) : Bool := l.any (fun x => l.any (fun y => decide (32 ≤ x.1 - y.1)))

/-- R246: a sample of the model in lattice second `at_`, due every LEARNINT s once STATE has been LOCKED for 1 h. -/
def State.learnSample (s : State) (at_ : Nat) : State :=
  let int := s.fld (oTim + 0x100) 15 8
  if s.bit oTim 31 = true ∧ s.lockState = 3 ∧ 3600 ≤ s.tim.lockedSec ∧ int ≤ s.tim.sampleSec then
    let t := s.tim.temp
    let o := oTim + 0x12C
    let lo := if s.rangeKnown then min t (toSigned 16 (s.fld o 31 16)) else t
    let hi := if s.rangeKnown then max t (toSigned 16 (s.fld o 15 0)) else t
    let l := s.tim.samples ++ [(t, s.meanOver int, s.ageAt at_)]
    let sec := s.tim.learn + int
    let s1 := (s.setReg o (BitVec.ofNat 32 (ofSigned 16 lo * 65536 + ofSigned 16 hi))).setBit oHoStat 28 (spanEnough l)
    let s2 := (s1.count oHoStat 15 0 (sec / 3600)).setTim { s1.tim with learn := sec % 3600, samples := l, sampleSec := 0 }
    -- whether what was restored still predicts is judged before the fit goes on
    let old := s2.fits
    let s3 := ((s2.fitCoef 0).fitCoef 3).fitCoef 4
    let s4 := if spanEnough l then (s3.fitCoef 1).fitCoef 2 else s3
    if s4.bit oHoStat 30 = true ∧ s4.bit oHoStat 31 = false then
      -- R259: restored: VALID after 2 h of learning, else the model starts anew
      (if s4.fld oHoStat 15 0 < (s4.reg (oRtc + 0xA8)).toNat + 2 then s4
       else if old then s4.setBit oHoStat 31 true
       else
         let s5 := ([0, 1, 2, 3, 4].foldl (fun (r : State) k => r.setReg (oTim + 0x110 + 4 * k) 0) (s4.setReg oHoStat 0)).setTim
           { s4.tim with learn := 0, samples := [] }
         (s5.setReg (oTim + 0x130) (BitVec.ofNat 32 at_)).setReg (oTim + 0x134) (BitVec.ofNat 32 (at_ / 2 ^ 32)))
    else s4.setBit oHoStat 31 (s4.fits && decide (s4.fld (oTim + 0x100) 25 16 ≤ s4.fld oHoStat 15 0))
  else s

/-! ## The calendar (R254 to R259) -/

/-- The words of RTC_MODEL, in the order of R259, as registers of TIM. -/
def modelRegs : List Nat := [0x110, 0x114, 0x118, 0x11C, 0x120, 0x124, 0x128, 0x12C, 0x130, 0x134]

/-- R259: the model is copied into RTC_MODEL. -/
def State.modelCopy (s : State) : State :=
  let s1 := (List.range 10).foldl (fun r i => r.setReg (oRtc + 0x80 + 4 * i) (s.reg (oTim + modelRegs.getD i 0))) s
  s1.setReg (oRtc + 0xA8) (BitVec.ofNat 32 (s.fld oHoStat 15 0))

/-- R259: the hourly copy, while the model is VALID. -/
def State.modelBackup (s : State) : State := if s.modelValid then s.modelCopy else s

def State.modelRestore (s : State) : State :=
  let s1 := (List.range 10).foldl (fun r i => r.setReg (oTim + modelRegs.getD i 0) (s.reg (oRtc + 0x80 + 4 * i))) s
  ((s1.setFld oHoStat 15 0 (s.fld (oRtc + 0xA8) 15 0)).setBit oHoStat 30 true).setBit oHoStat 31 false

/-- The subsecond count. -/
def State.rtcSub (s : State) : Nat := s.rtc.sub

/-- R257: the lattice is seeded when the hub comes ON after a power-on reset. -/
def State.timSeed (s : State) : State :=
  if s.bit oRtcStat 31 then
    let ns := (rneQ (s.rtcSub * 30517578125 : Nat) 1000000).toNat
    let t := s.rtc.secs * unitsPerSec + ns * 65536
    (({ s with now := t }.setTim { s.tim with usecNext := t / unitsPerUs + 1 }).setBit oTimStat 27 true).modelRestore
  else ({ s with now := 0 }.setBit oRtcStat 30 true).timLog 0x076 1

/-- The calendar moves by `n` counts. -/
def State.rtcMove (s : State) (n : Int) : State :=
  let x := (s.rtc.secs * 32768 + s.rtc.sub : Nat) + n
  s.setRtc { s.rtc with secs := (x / 32768).toNat % 2 ^ 48, sub := (x % 32768).toNat }

/-- A count of the crystal; RTC_TRIM adds or drops counts once in every 2^20 (R255). -/
def State.rtcCount (s : State) : State :=
  let n := (s.rtc.cnt + 1) % 2 ^ 20
  (s.setRtc { s.rtc with cnt := n }).rtcMove (1 + if n = 0 then toSigned 8 (s.fld (oRtc + 0x28) 7 0) else 0)

/-- A µs of the 32.768 kHz crystal; `ph` counts millionths of a count. -/
def State.rtcUs (s : State) : State :=
  if s.bit oRtcStat 29 then
    (if 1000000 ≤ s.rtc.ph + 32768 then (s.setRtc { s.rtc with ph := s.rtc.ph + 32768 - 1000000 }).rtcCount
     else s.setRtc { s.rtc with ph := s.rtc.ph + 32768 })
  else s

/-- R255: the lattice writes its seconds into the calendar. -/
def State.rtcAlign (s : State) : State :=
  if s.lockState = 3 ∧ s.bit oRtc 29 = true ∧ s.nvInh = false then
    (s.setRtc { s.rtc with secs := timeSec s.now, sub := 0, ph := 0 }).setBit oRtcStat 31 true
  else s

/-- R255: the crystal has been measured over 1,024 s: `n` counts. -/
def State.rtcTrim (s : State) (n : Int) : State :=
  if s.lockState = 3 ∧ s.bit oRtc 30 = true ∧ s.nvInh = false then
    s.setFld (oRtc + 0x28) 7 0 (ofSigned 8 (clampInt 127 (-(rneQ (n - 33554432) 32))))
  else s

/-- R256: the seconds equal the alarm. -/
def State.alarmDue (s : State) : Bool :=
  s.bit oRtc 31 && decide (s.rtc.secs = (s.reg (oRtc + 0x30)).toNat + 2 ^ 32 * (s.reg (oRtc + 0x34)).toNat)

/-! ## Snapshots (R231, R254) -/

/-- R6, R231: the snapshot of a requester replaces its earlier one; four requesters hold one, the least recently used first. -/
def keepSnap (l : List (Nat × Nat)) (req v : Nat) : List (Nat × Nat) :=
  (slotFor Prod.fst req l).filter (fun e => e.1 != req) ++ [(req, v)]

def findSnap (l : List (Nat × Nat)) (req live : Nat) : Nat := ((l.find? (fun e => e.1 == req)).map (·.2)).getD live

def State.nowSnap (s : State) (req : Nat) : State := s.setTim { s.tim with snaps := keepSnap s.tim.snaps req s.now }
def State.rtcSnap (s : State) (req : Nat) : State := s.setRtc { s.rtc with snaps := keepSnap s.rtc.snaps req s.rtc.secs }

/-- R6: a read of the rest of a snapshot is a use of it. -/
def State.nowUse (s : State) (req : Nat) : State := s.setTim { s.tim with snaps := useLast Prod.fst req s.tim.snaps }
def State.rtcUse (s : State) (req : Nat) : State := s.setRtc { s.rtc with snaps := useLast Prod.fst req s.rtc.snaps }

/-- The TIM block as a requester reads it. -/
def State.timRegRead (s : State) (req off : Nat) : Word :=
  let t := findSnap s.tim.snaps req s.now
  match off with
  | 0x010 => BitVec.ofNat 32 (timeNs s.now)
  | 0x014 => BitVec.ofNat 32 (timeSec t)
  | 0x018 => BitVec.ofNat 32 (timeSec t / 2 ^ 32 % 65536)
  | 0x01C => BitVec.ofNat 32 (timeFrac t)
  | _ => s.reg (oTim + off)

def State.rtcRegRead (s : State) (req off : Nat) : Word :=
  let t := findSnap s.rtc.snaps req s.rtc.secs
  match off with
  | 0x010 => BitVec.ofNat 32 s.rtcSub
  | 0x014 => BitVec.ofNat 32 t
  | 0x018 => BitVec.ofNat 32 (t / 2 ^ 32)
  | _ => s.reg (oRtc + off)

/-! ## Register writes -/

/-- TIM_CTL (R243, the table of its fields). -/
def State.timCtl (s : State) (v : Word) : WRes :=
  let st := s.lockState
  if bitsOf v 29 29 = 1 ∧ st ≠ 3 then .rej 0x03
  else if bitsOf v 28 28 = 1 ∧ st = 3 then .rej 0x03
  else if bitsOf v 25 24 ≠ s.fld oTim 25 24 ∧ st ≠ 0 then .rej 0x03
  else
    let s1 := s.plainWrite oTim v
    let s2 := if bitsOf v 28 28 = 1 then s1.setBit oTimStat 28 false else s1
    .ok (if bitsOf v 29 29 ≠ s.fld oTim 29 29 then s2.select else s2)

/-- TIM_SRCCFG of source `i`. -/
def State.srcCfgWrite (s : State) (i : Nat) (v : Word) : WRes :=
  let en := bitsOf v 31 31 = 1
  let p := bitsOf v 11 0
  if en ∧ 6 ≤ i then .rej 0x02
  else if en ∧ ((i = 0 ∧ (p < 110 ∨ 1000 < p)) ∨ ((i = 1 ∨ i = 2) ∧ (bitsOf v 15 0 < 100 ∨ 60000 < bitsOf v 15 0))
      ∨ ((i = 3 ∨ i = 4) ∧ 47 < bitsOf v 5 0) ∨ (i = 5 ∧ bitsOf v 15 0 ≠ 0)) then .rej 0x01
  else if s.srcEn i = true ∧ bitsOf v 15 0 ≠ s.fld (oSrcCfg i) 15 0 then .rej 0x03
  else if en ∧ bitsOf v 27 16 = 0 then .rej 0x05
  else
    let was := s.srcEn i
    let s1 := s.plainWrite (oSrcCfg i) v
    if en then
      let s2 := s1.setFld (oSrcSt i) 15 0 0
      .ok (if was then s2.select else (s2.setFld (oSrcSt i) 31 29 1).setPred i none 0)
    else .ok (if was then (s1.setFld (oSrcSt i) 31 29 0).select else s1)

/-- TIM_SYMCFG (R250, R252). -/
def State.symcfgWrite (s : State) (v : Word) : WRes :=
  let was := s.bit oSymCfg 31
  let n := bitsOf v 5 0
  let u := s.fld (oTim + 0x140) 31 16
  let d := s.fld (oTim + 0x140) 15 0
  if was = true ∧ n ≠ s.fld oSymCfg 5 0 then .rej 0x03
  else if bitsOf v 31 31 = 1 ∧ (1000000000 * d) % (s.symSum n * u) ≠ 0 then .rej 0x05
  else
    let s1 := s.plainWrite oSymCfg v
    if bitsOf v 31 31 = 1 ∧ was = false then
      let j := s1.slotFrom (max (s.now + 10 * unitsPerUs) s.tim.symPast)
      .ok (s1.setTim { s1.tim with slotJ := j, symJ := j, symN := 0, adv := bitsOf v 29 16, advNew := none })
    else if bitsOf v 31 31 = 1 then
      -- R252: another ADV holds from the next slot start on
      .ok (s1.setTim { s1.tim with adv := s.advFor s.now, advNew := some (s.symTime (s.slotFrom (s.now + 1)) 0, bitsOf v 29 16) })
    else .ok s1

/-- TIM_SETGO (R243). -/
def State.setgo (s : State) (v : Word) : WRes :=
  if bitsOf v 0 0 = 0 then .ok s
  else if s.lockState ≠ 0 ∨ s.firstLock = true then .rej 0x03
  else
    let sec := (s.reg (oTim + 0x24)).toNat + 2 ^ 32 * s.fld (oTim + 0x28) 15 0
    .ok (s.setTim { s.tim with pend := some (true, (timeOf sec (s.reg (oTim + 0x20)).toNat 0 : Nat)) })

/-- R246: the model's registers are not written while it learns or steers. -/
def State.modelBusy (s : State) : Bool := s.bit oTim 31 || s.lockState = 4 || s.lockState = 5

/-- The TIM block; pairs apart. -/
def State.timRegWrite (s : State) (off : Nat) (v : Word) : WRes :=
  let o := oTim + off
  if 0x080 ≤ off ∧ off < 0x0A0 then s.srcCfgWrite ((off - 0x80) / 4) v
  else if 0x110 ≤ off ∧ off ≤ 0x128 then (if s.modelBusy then .rej 0x03 else .ok (s.plainWrite o v))
  else if (off = 0x140 ∨ off = 0x148 ∨ 0x180 ≤ off ∧ off < 0x200) ∧ s.bit oSymCfg 31 = true then .rej 0x03
  else if 0x150 ≤ off ∧ off ≤ 0x158 then
    (let s1 := s.plainWrite o v
     .ok (s1.setTim { s1.tim with user := s1.userFrom (max s.now s.tim.userPast) }))
  else match off with
    | 0x000 => s.timCtl v
    | 0x02C => s.setgo v
    | 0x144 => s.symcfgWrite v
    | 0x15C => if bitsOf v 31 31 = 1 ∧ bitsOf v 28 16 = 0 then .rej 0x05 else .ok (s.plainWrite o v)
    | _ => .ok (s.plainWrite o v)

/-- TIM_PTPOFF and TIM_HOORG commit as pairs (R237, R246). -/
def State.timPairCommit (s : State) (off : Nat) (lo hi : Word) : WRes :=
  let x := lo.toNat + 2 ^ 32 * hi.toNat
  let s1 := (s.setReg (oTim + off) lo).setReg (oTim + off + 4) hi
  if off = 0x130 then (if s.modelBusy then .rej 0x03 else .ok s1)
  else
    let e := toSigned 64 x
    if e < -(unitsPerSec : Int) ∨ (unitsPerSec : Int) < e then .rej 0x01
    else .ok (s1.phaseMeasure (1 + (off - 0xE8) / 16) (-e))

/-- The bytes of the key words. -/
def keyBytes (m : SMap Word) : List Byte := (List.range 8).flatMap (fun i => bytesLE 4 (SMap.get (fun _ => 0) m i).toNat)

/-- RTC_KEYCTL (R258). -/
def State.keyctl (s : State) (v : Word) : WRes :=
  let commit := bitsOf v 0 0 = 1
  let zero := bitsOf v 1 1 = 1
  if bitsOf v 31 24 ≠ 0x3C then .rej 0x04
  else if commit ∧ zero then .rej 0x05
  else if commit then
    if s.nvInh then .rej 0x03
    else if s.bit oRtcStat 27 then .rej 0x04
    else .ok ((s.setRtc { s.rtc with key := keyBytes s.rtc.stage, stage := [] }).setBit oRtcStat 27 true)
  else if zero then .ok ((s.setRtc { s.rtc with key := List.replicate 32 0, stage := [] }).setBit oRtcStat 27 false)
  else .ok s

/-- The RTC block (R255, R258); pairs apart. -/
def State.rtcRegWrite (s : State) (off : Nat) (v : Word) : WRes :=
  if off = 0x060 then s.keyctl v
  else if 0x040 ≤ off ∧ off < 0x060 then
    (if s.nvInh then .rej 0x03
     else .ok (s.setRtc { s.rtc with stage := SMap.set (fun _ => 0) s.rtc.stage ((off - 0x40) / 4) v }))
  else if off = 0x028 then
    (if bitsOf v 7 0 = 0x80 then .rej 0x01 else if s.nvInh then .rej 0x03 else .ok (s.plainWrite (oRtc + off) v))
  else .ok (s.plainWrite (oRtc + off) v)

/-- RTC_SETSEC and RTC_ALM commit as pairs. -/
def State.rtcPairCommit (s : State) (off : Nat) (lo hi : Word) : WRes :=
  if s.nvInh then .rej 0x03
  else
    let s1 := (s.setReg (oRtc + off) lo).setReg (oRtc + off + 4) hi
    if off = 0x020 then
      .ok ((s1.setRtc { s1.rtc with secs := (lo.toNat + 2 ^ 32 * hi.toNat) % 2 ^ 48, sub := 0, ph := 0 }).setBit oRtcStat 31 true)
    else .ok s1

/-- The conditions of R242 under which ALARM_N is asserted. -/
def State.timAlarm (s : State) : Bool :=
  let st := s.lockState
  st = 4 || st = 5 || (decide (st ≤ 1) && s.firstLock) || s.bit oTimStat 26 || decide (s.reg oDist &&& 0xF0F ≠ 0)

/-! ## Commands -/

def execTimePulse (d : TimeDie) (s : State) : Host.Outcome State Fault Refusal := .next (s.pulse d)

def execPpsInEdge (ns : Word) (frac : BitVec 16) (s : State) : Host.Outcome State Fault Refusal :=
  .next (if s.sys.hubOn = true ∧ ns.toNat < 1000000000 then s.ppsEdge ns.toNat frac.toNat else s)

def execTodSentence (x : TodSentence) (s : State) : Host.Outcome State Fault Refusal := .next (s.todSentence x.chars x.framingError)

def execEsmcPdu (i : Fin 2) (ql : BitVec 4) (s : State) : Host.Outcome State Fault Refusal := .next (s.esmc (3 + i.val) ql.toNat)

def execSourceTimeout (i : Fin 6) (reason : Fin 8) (s : State) : Host.Outcome State Fault Refusal :=
  .next (s.disqualify i.val reason.val)

def execSourceQualified (i : Fin 6) (s : State) : Host.Outcome State Fault Refusal := .next (s.qualify i.val)

def execSynceOffsetOutOfRange (i : Fin 2) (s : State) : Host.Outcome State Fault Refusal := .next (s.disqualify (3 + i.val) 6)

/-- R239: OCXO_IN fails. -/
def execOcxoFail (s : State) : Host.Outcome State Fault Refusal :=
  .next (if s.bit oTimStat 26 then s else ((s.setBit oTimStat 26 true).timLog 0x072 1).disqualify 5 1)

/-- R239, R240: OCXO_IN has been good for 10 s. -/
def execOcxoRecover (s : State) : Host.Outcome State Fault Refusal := .next ((s.setBit oTimStat 26 false).goodMeasure 5)

def execLockAchieved (s : State) : Host.Outcome State Fault Refusal :=
  .next (if s.lockState = 2 then (s.lockTo 3).setBit oTimStat 28 true else s)

def execLockLost (s : State) : Host.Outcome State Fault Refusal := .next (if s.lockState = 3 then s.lockTo 2 else s)

/-- R242: TIM_HOTIME exceeds HOTMAX. -/
def execHoldoverExpiry (s : State) : Host.Outcome State Fault Refusal :=
  .next (if s.lockState = 4 ∧ 60 * s.fld (oTim + 0x104) 19 0 < (s.reg (oTim + 0x10C)).toNat then s.lockTo 5 else s)

def execHoldoverUpdate (freq : Int) (s : State) : Host.Outcome State Fault Refusal := .next (s.holdSecond freq)

def execLearnSample (secl : Word) (sech : BitVec 16) (s : State) : Host.Outcome State Fault Refusal :=
  .next (s.learnSample (secl.toNat + 2 ^ 32 * sech.toNat))

def execRtcAlign (s : State) : Host.Outcome State Fault Refusal := .next s.rtcAlign

def execRtcTrimMeasure (counts : Int) (s : State) : Host.Outcome State Fault Refusal := .next (s.rtcTrim counts)

/-- R254: the crystal stops; the crystal starts. -/
def execRtcOscStop (s : State) : Host.Outcome State Fault Refusal :=
  .next (if s.bit oRtcStat 29 then (s.setBit oRtcStat 29 false).timLog 0x078 1 else s)

def execCrystalStart (s : State) : Host.Outcome State Fault Refusal := .next (s.setBit oRtcStat 29 true)

/-- R258: a key word written without a COMMIT is cleared after 1 ms. -/
def execKeyWordExpiry (i : Fin 8) (s : State) : Host.Outcome State Fault Refusal :=
  .next (s.setRtc { s.rtc with stage := SMap.set (fun _ => 0) s.rtc.stage i.val 0 })

def execModelBackup (s : State) : Host.Outcome State Fault Refusal := .next s.modelBackup

end Sys2Proof.Machine
end

