-- ==== Sys2Proof/Machine/Lnk.lean ====
section
/-! DEFINITION. Die-to-die links (ch. 12): training, repair, width agreement and check, retrains and narrowing, service (R206), and
the LNK registers. -/

namespace Sys2Proof.Machine

/-! ## Modules (R293) -/

def oLnk (m : Nat) : Nat := 0xA00000 + 0x1000 * m
def oLstat (m : Nat) : Nat := oLnk m + 8
def oLthr (m : Nat) : Nat := oLnk m + 0xC

def State.lnkMod (s : State) (m : Nat) : LnkMod := SMap.get (fun _ => {}) s.lnk m
def State.setLnk (s : State) (m : Nat) (x : LnkMod) : State := { s with lnk := SMap.set (fun _ => {}) s.lnk m x }

/-- LNK_STAT.LSTATE: 0 WAIT, 1 RESET, 2 SBINIT, 3 MBINIT, 4 MBTRAIN, 5 WCHK, 6 LINKINIT, 7 ACTIVE, 8 PHYRETRAIN, 9 TRAINERROR,
10 FAILED, 11 OOS. -/
def State.lstate (s : State) (m : Nat) : Nat := s.fld (oLstat m) 31 28

/-- INSVC follows LSTATE (R307). -/
def State.setLstate (s : State) (m n : Nat) : State := (s.setFld (oLstat m) 31 28 n).setBit (oLstat m) 22 (decide (n = 7))

def State.lwidth (s : State) (m : Nat) : Nat := s.fld (oLstat m) 27 26
def State.lgroup (s : State) (m : Nat) : Nat := s.fld (oLstat m) 25 24
def State.setWidth (s : State) (m w g : Nat) : State := (s.setFld (oLstat m) 27 26 w).setFld (oLstat m) 25 24 g
def State.lsafe (s : State) (m : Nat) : Bool := s.bit (oLstat m) 23

def isTc (m : Nat) : Bool := decide (24 ≤ m)

/-- The tiles of a TT module: side A, side B. -/
def ttSides (m : Nat) : Nat × Nat :=
  if m < 4 then (0, 1) else if m < 8 then (0, 2) else if m < 12 then (1, 3) else (2, 3)

/-- The power registers of the dies of a module; the hub is ON whenever a tile is. -/
def lnkDies (m : Nat) : List Nat :=
  if m < 16 then [oPwrTile (ttSides m).1, oPwrTile (ttSides m).2]
  else if m < 24 then [oPwrTile ((m - 16) / 2)]
  else [oPwrTile (m - 24), oPwrCnv (m - 24)]

/-- R295: both dies are ON or STARTING. -/
def State.lnkDiesUp (s : State) (m : Nat) : Bool := (lnkDies m).all (fun o => s.pwr o = 1 || s.pwr o = 2)

/-- The router that holds side A of a module, or its side B (hub and tile sides of R198). -/
def lnkRouter (m : Nat) (sideB : Bool) : Nat :=
  if m < 16 then
    let k := m % 4
    let (a, b) := ttSides m
    let t := if sideB then b else a
    let n := if horizontal a = b then 3 + 4 * k else k
    t * 0x1000 + 0x700 + n
  else if m < 24 then
    let n := (m - 16) / 2
    let i := m % 2
    if sideB then 0x4010 + 2 * n + i else n * 0x1000 + 0x700 + 8 + 8 * i
  else (m - 24) * 0x1000 + 0x713

def State.lnkLog (s : State) (m code w5 : Nat) (sideB : Bool) : State :=
  s.log (mkRec (lnkRouter m sideB) code m w5 (lnkRouter m sideB))

def State.lnkAlm (s : State) (m : Nat) : State := s.setBit (oLstat m) 21 true

/-! ## Maps (R297, R299) -/

/-- The usable-lane maps of the two sides: A receives direction B to A. -/
def State.mapOf (s : State) (m : Nat) (sideB : Bool) : Nat :=
  let o := oLnk m + if sideB then 0x18 else 0x10
  (s.reg o).toNat + 2 ^ 32 * (s.reg (o + 4)).toNat

def State.setMap (s : State) (m : Nat) (sideB : Bool) (n : Nat) : State :=
  let o := oLnk m + if sideB then 0x18 else 0x10
  (s.setReg o (BitVec.ofNat 32 n)).setReg (o + 4) (BitVec.ofNat 32 (n / 2 ^ 32))

/-- The repair lanes of a direction: 0 to 3 stand for lanes 64 to 67; the data lane and whether it is fused. -/
def State.fusedRepair (s : State) (m : Nat) (ba : Bool) (j : Nat) : Option Nat :=
  SMap.find s.fuses.repair (8 * m + (if ba then 4 else 0) + j)

/-- R297: the assignments of one direction: repair lane, data lane, fused. -/
def State.assignRepair (s : State) (m : Nat) (ba : Bool) (pass : BitVec 68) : List (Nat × Nat × Bool) :=
  let fused := (List.range 4).filterMap (fun j => (s.fusedRepair m ba j).map (fun d => (j, d, true)))
  (List.range 64).foldl (fun as i =>
    if pass.getLsbD i = true ∨ as.any (fun a => a.2.1 == i) then as
    else match [2 * (i / 32), 2 * (i / 32) + 1].find? (fun j => !(as.any (fun a => a.1 == j))) with
      | some j => as ++ [(j, i, false)]
      | none => as) fused

def usableMap (as : List (Nat × Nat × Bool)) (pass : BitVec 68) : Nat :=
  ((List.range 64).map (fun i =>
    let ok := match as.find? (fun a => a.2.1 == i) with | some a => pass.getLsbD (64 + a.1) | none => pass.getLsbD i
    if ok then 2 ^ i else 0)).sum

/-- LNK_REPAB or LNK_REPBA. -/
def repairWord (as : List (Nat × Nat × Bool)) : Word :=
  BitVec.ofNat 32 ((as.map (fun a => (128 + (if a.2.2 then 64 else 0) + a.2.1) * 2 ^ (8 * a.1))).sum)

/-- R297: one direction of MBINIT. -/
def State.repairDir (s : State) (m : Nat) (ba : Bool) (pass : BitVec 68) : State :=
  let as := s.assignRepair m ba pass
  let s1 := (s.setMap m (!ba) (usableMap as pass)).setReg (oLnk m + if ba then 0x24 else 0x20) (repairWord as)
  (as.filter (fun a => !a.2.2)).foldl (fun t a => (t.lnkLog m 0x0A1 (a.2.1 + if ba then 64 else 0) (!ba)).lnkAlm m) s1

def State.bothMaps (s : State) (m : Nat) : Nat := s.mapOf m false &&& s.mapOf m true

def halfOk (x h : Nat) : Bool := decide (x / 2 ^ (32 * h) % 2 ^ 32 = 2 ^ 32 - 1)
def quarterOk (x q : Nat) : Bool := decide (x / 2 ^ (16 * q) % 2 ^ 16 = 2 ^ 16 - 1)

/-- R299: the agreed width and group; none is the safe width. -/
def agreedWidth (x : Nat) : Option (Nat × Nat) :=
  if halfOk x 0 && halfOk x 1 then some (0, 0)
  else match (List.range 2).find? (halfOk x) with
    | some h => some (1, h)
    | none => ((List.range 4).find? (quarterOk x)).map (fun q => (2, q))

/-- R300: one entry down. -/
def stepDown (x w g : Nat) : Option (Nat × Nat) :=
  match w with
  | 0 =>
    match (List.range 2).find? (halfOk x) with
    | some h => some (1, h)
    | none => ((List.range 4).find? (quarterOk x)).map (fun q => (2, q))
  | 1 => ((List.range 4).find? (quarterOk x)).map (fun q => (2, q))
  | _ =>
    match ([g + 1, g + 2, g + 3].map (· % 4)).find? (quarterOk x) with
    | some q => some (2, q)
    | none => some (2, g)

/-- R300: safe width. -/
def State.enterSafe (s : State) (m : Nat) : State :=
  let q := SMap.get (fun _ => 0) s.fuses.safeq m
  (((s.setWidth m 2 q).setBit (oLstat m) 23 true).lnkAlm m).lnkLog m 0x0A3 1 false

/-! ## Attempts (R296, R301) -/

/-- R301: a side that enters RESET discards what it trained; only the fused repair map stays. -/
def State.discardTrained (s : State) (m : Nat) : State :=
  let s1 := ((s.setWidth m 0 0).setBit (oLstat m) 23 false).setFld (oLstat m) 15 14 0
  let s2 := (((s1.setMap m false 0).setMap m true 0).setReg (oLnk m + 0x20) 0).setReg (oLnk m + 0x24) 0
  let x := s2.lnkMod m
  (s2.setReg (oLnk m + 0x2C) 0).setLnk m { x with pulses := false, narrow := none, retraining := false, repAB := 0, repBA := 0, win := 0 }

/-- The module is out of service while it trains (R307). -/
def State.outOfService (s : State) (m : Nat) : State := s.setBit oNocstat m true

/-- A first attempt from RESET, or WAIT while a die is down. -/
def State.lnkRestart (s : State) (m : Nat) : State :=
  let s1 := s.discardTrained m
  if s.lnkDiesUp m then (s1.setLstate m 1).setFld (oLstat m) 17 16 1 else s1.setLstate m 0

/-- The module is FAILED (R296). -/
def State.lnkFailed (s : State) (m : Nat) : State := (((s.setLstate m 10).lnkAlm m).lnkLog m 0x0A4 1 false)

/-- R296, R303: an attempt fails, by way of TRAINERROR, or a retrain does, which full attempts follow. The attempts of a TC module are
the discovery attempts of its die while one is sought; a die that no third attempt reaches reads ABSENT (R263). -/
def State.attemptFails (s : State) (m : Nat) : State :=
  let n := s.fld (oLstat m) 17 16
  let next (k : Nat) : State := ((s.discardTrained m).setLstate m 1).setFld (oLstat m) 17 16 k
  if (s.lnkMod m).retraining then next 1
  else if n < 3 then (if isTc m then (next (n + 1)).attemptTmo (m - 24) else next (n + 1))
  else if isTc m = false then s.lnkFailed m
  else if s.cnvSearching (m - 24) then (next 3).attemptTmo (m - 24)
  else (((next 3).strStopTile (m - 24)).timeDieOff (8 + (m - 24))).cnvAbsent (m - 24) 2 0x080

/-! ## Leaving and returning to service (R206) -/

/-- The destination of a request as a head flit names it (R199, R203): die, router, unit. -/
def destOf (die router unit : Nat) : Nat := die * 0x1000 + router * 0x80 + unit

def oNocctl : Nat := 0x10000

/-- R206, R234: the hub has lost every way to a tile or a converter die that is ON. -/
def State.lostPaths (s : State) : State :=
  (List.range 4).foldl (fun t n =>
    if t.isOn (oPwrTile n) = true ∧ (t.routeEnv.hubTile n 0).isNone = true ∧ t.net.noPath.contains n = false then
      ({ t with net := { t.net with noPath := t.net.noPath ++ [n] } }).log (mkRec (n * 0x1000 + 0x700) 0x06B 0 n (n * 0x1000 + 0x700))
    else t) s.unsync

/-- Tiles whose way to the hub has returned. -/
def State.foundPaths (s : State) : State :=
  { s with net := { s.net with noPath := s.net.noPath.filter (fun n => (s.routeEnv.hubTile n 0).isNone) } }

/-! ## Retrains and narrowing (R303 to R308) -/

/-- R303: a retrain begins. -/
def State.lnkRetrain (s : State) (m cause : Nat) (sideB : Bool) : State :=
  let s1 := ((s.setLstate m 8).setFld (oLstat m) 11 8 cause).count (oLnk m + 0x3C) 31 16 1
  let s2 := (s1.setFld (oLstat m) 15 14 0).lnkLog m 0x0A0 cause sideB
  s2.setLnk m { s2.lnkMod m with retraining := true, pulses := false, repAB := 0, repBA := 0, win := 0 }

/-- The repair lanes of a half in one direction: one is unassigned. -/
def State.repairFree (s : State) (m : Nat) (ba : Bool) (half : Nat) : Bool :=
  let w := s.reg (oLnk m + if ba then 0x24 else 0x20)
  [2 * half, 2 * half + 1].any (fun j => bitsOf w (8 * j + 7) (8 * j + 7) = 0)

/-- R304: what a flagged lane leads to: 0 a retrain because no group qualifies, 1 a narrowing step and its group, 2 a repair. -/
def State.flagPlan (s : State) (m : Nat) (ba : Bool) (lane : Nat) : Nat × Nat × Nat :=
  let half := lane / 32
  let x := s.bothMaps m
  let y := if x.testBit lane then x - 2 ^ lane else x
  let group (l : List Nat) : Nat × Nat × Nat := match l.find? (quarterOk y) with | some q => (1, 2, q) | none => (0, 0, 0)
  if s.repairFree m ba half then (2, 0, 0)
  else match s.lwidth m with
    | 0 => if halfOk y (1 - half) then (1, 1, 1 - half) else group (List.range 4)
    | 1 => let h := s.lgroup m; group [2 * h, 2 * h + 1, 2 * (1 - h), 2 * (1 - h) + 1]
    | _ => (0, 0, 0)

def State.flagLane (s : State) (m : Nat) (ba : Bool) (lane : Nat) : State :=
  match s.flagPlan m ba lane with
  | (1, w, g) => s.setLnk m { s.lnkMod m with narrow := some (w, g, ba, lane) }
  | _ => s.lnkRetrain m 4 (!ba)

/-- The data lane that a physical lane carries (R297): lanes 64 to 67 are the repair lanes. -/
def State.carried (s : State) (m : Nat) (ba : Bool) (lane : Nat) : Option Nat :=
  let w := s.reg (oLnk m + if ba then 0x24 else 0x20)
  let held (j : Nat) : Option Nat := if bitsOf w (8 * j + 7) (8 * j + 7) = 1 then some (bitsOf w (8 * j + 5) (8 * j)) else none
  if 64 ≤ lane then held (lane - 64)
  else if (List.range 4).any (fun j => held j == some lane) then none
  else some lane

/-- The lanes of a width and group hold a data lane. -/
def laneInUse (w g lane : Nat) : Bool :=
  match w with
  | 0 => true
  | 1 => decide (lane / 32 = g)
  | _ => decide (lane / 16 = g)

/-- R308: held triggers are looked at once the running action has ended: a retrain before a narrowing step, and that before a repair.
A lane that no longer carries flits is dropped. -/
def State.heldTriggers (s : State) (m : Nat) : State :=
  let l := (s.lnkMod m).held.filter (fun h => laneInUse (s.lwidth m) (s.lgroup m) h.2)
  let kind (h : Bool × Nat) : Nat := (s.flagPlan m h.1 h.2).1
  match ([0, 1, 2].findSome? (fun k => l.find? (fun h => kind h == k))) with
  | none => s.setLnk m { s.lnkMod m with held := [] }
  | some h =>
    let s1 := s.flagLane m h.1 h.2
    s1.setLnk m { s1.lnkMod m with held := l.erase h }

/-- R306: streams stop that a TC module at x16 does not carry. -/
def State.lnkShed (s : State) (m : Nat) : State :=
  if isTc m = true ∧ s.lwidth m = 2 then
    (let (t, n) := s.shedStreams (m - 24)
     if n = 0 then t else t.lnkLog m 0x0A5 n false)
  else s

/-- R307, R310: the module is ACTIVE. -/
def State.lnkActive (s : State) (m : Nat) : State :=
  let x := s.lnkMod m
  let s1 := (s.setLstate m 7).setLnk m { x with retraining := false, pulses := false, repAB := 0, repBA := 0, win := 0, winUs := 0, flagged := false }
  (((s1.setBit oNocstat m false).foundPaths).lnkShed m).heldTriggers m

/-- A module taken out of use (R307). -/
def State.lnkOut (s : State) (m : Nat) : State :=
  let x := s.lnkMod m
  (s.setLstate m 11).setLnk m { x with oosDue := false, retraining := false, narrow := none, pulses := false }

/-! ## Training states (R296 to R299) -/

/-- R299: WCHK opens. -/
def State.openCheck (s : State) (m : Nat) : State :=
  let s1 := s.setFld (oLstat m) 15 14 0
  match agreedWidth (s.bothMaps m) with
  | some (w, g) => s1.setWidth m w g
  | none => s1.enterSafe m

/-- R298: the partner offers 68B flits, retry and runtime link testing. -/
def partnerOk (w : Word) : Bool := decide (bitsOf w 5 5 = 1) && decide (bitsOf w 6 6 = 1) && decide (bitsOf w 7 7 = 1)

/-- R298: capabilities have been exchanged. -/
def State.linkInit (s : State) (m : Nat) (partner : Word) : State :=
  let s1 := s.setReg (oLnk m + 0x2C) (partner &&& 0xF00001E0)
  if partnerOk partner = false then
    if isTc m then (s1.setLstate m 1).cnvAbsent (m - 24) 3 0x081 else s1.lnkFailed m
  else if bitsOf partner 8 8 = 0 ∧ s.lwidth m ≠ 0 then s1.attemptFails m
  else s1.lnkActive m

/-- A training state completes. -/
def State.trainState (s : State) (m : Nat) (r : LinkReport) : State :=
  if s.lnkDiesUp m = false then s
  else if (s.lnkMod m).oosDue = true ∧ ((1 ≤ s.lstate m ∧ s.lstate m ≤ 6) ∨ s.lstate m = 8 ∨ s.lstate m = 9) then s.lnkOut m
  else match s.lstate m with
    | 1 => s.setLstate m 2
    | 2 => s.setLstate m 3
    | 3 =>
      -- the lane test settles what was flagged before it (R308)
      let s1 := (s.repairDir m false r.passB).repairDir m true r.passA
      (s1.setLnk m { s1.lnkMod m with held := [] }).setLstate m 4
    | 4 => (s.setLstate m 5).openCheck m
    | 5 => if s.lsafe m then s.setLstate m 6 else s
    | 6 => s.linkInit m r.partner
    | 8 => (s.setBit (oLstat m) 23 false).setLstate m 3
    | 9 => s.setLstate m 1
    | _ => s

/-- WCHK ends; OOS = 1 takes effect at the boundary (R307). -/
def State.checkDone (s : State) (m : Nat) : State := if (s.lnkMod m).oosDue then s.lnkOut m else s.setLstate m 6

/-- R300: a width check has failed. -/
def State.checkFailed (s : State) (m : Nat) : State :=
  let n := s.fld (oLstat m) 15 14
  if n < 3 then
    let s1 := s.setFld (oLstat m) 15 14 (n + 1)
    match stepDown (s.bothMaps m) (s.lwidth m) (s.lgroup m) with
    | some (w, g) => s1.setWidth m w g
    | none => (s1.enterSafe m).checkDone m
  else (s.enterSafe m).checkDone m

/-! ## Resets and power (R295, R301, R39) -/

/-- A die leaves ON or is reset: its modules wait or start again; the retry buffers are discarded. -/
def State.lnkDie (s : State) (m : Nat) : State :=
  let s1 := s.lnkRestart m
  let s2 := s1.outOfService m
  s2.setLnk m { s2.lnkMod m with bufAB := 0, bufBA := 0, held := [], oosDue := false }

/-- The modules of a die's power register. -/
def modulesOf (o : Nat) : List Nat := (List.range 28).filter (fun m => (lnkDies m).contains o)

/-- The die of a power register has changed state. -/
def State.lnkDieChanged (s : State) (o : Nat) : State :=
  (modulesOf o).foldl (fun t m =>
    if t.lstate m = 11 then t
    else if t.lnkDiesUp m then (if t.lstate m = 0 then t.lnkDie m else t)
    else if t.lstate m = 0 then t else t.lnkDie m) s

/-- R39: a link module reset. -/
def State.lnkReset (s : State) (m : Nat) : State := if s.lstate m = 11 then s else s.lnkRestart m

/-- R307: the hub and a tile that is ON have no way left without module `m`. -/
def State.lastWay (s : State) (m : Nat) : Bool :=
  let v := s.routeEnv
  let w : RouteEnv := { v with oos := v.oos ||| 2 ^ m }
  (List.range 4).any (fun n => s.isOn (oPwrTile n) && (v.hubTile n 0).isSome && (w.hubTile n 0).isNone)

/-- LNK_CTL (R307). -/
def State.lnkCtl (s : State) (m : Nat) (v : Word) : WRes :=
  let oos := decide (bitsOf v 0 0 = 1)
  let rt := decide (bitsOf v 1 1 = 1)
  let was := s.bit (oLnk m) 0
  if (oos || rt) && decide (bitsOf v 31 24 ≠ 0x6B) then .rej 0x04
  else if oos && rt then .rej 0x05
  else if rt then
    if s.lstate m ≠ 7 ∨ (s.lnkMod m).narrow.isSome = true then .rej 0x03 else .ok ((s.setBit (oLnk m) 0 false).lnkRetrain m 1 false)
  else if oos then
    if s.lstate m = 7 ∧ s.lastWay m = true then .rej 0x03
    else if isTc m = true ∧ s.isOn (oPwrCnv (m - 24)) = true then .rej 0x03
    else if was then .ok s
    else
      let s1 := s.setBit (oLnk m) 0 true
      if (1 ≤ s.lstate m ∧ s.lstate m ≤ 6) ∨ 8 ≤ s.lstate m ∧ s.lstate m ≤ 9 then .ok (s1.setLnk m { s1.lnkMod m with oosDue := true })
      else .ok (s1.lnkOut m)
  else if was then .ok ((s.setBit (oLnk m) 0 false).lnkRestart m)
  else .ok s

/-- The LNK block; R309 keeps ALM of a module that is not whole. -/
def State.lnkRegWrite (s : State) (m off : Nat) (v : Word) : WRes :=
  if off = 0 then s.lnkCtl m v
  else if off = 8 ∧ bitsOf v 21 21 = 1 ∧ (s.lstate m = 10 ∨ s.lstate m = 11 ∨ s.lsafe m = true ∨ s.lwidth m ≠ 0) then .rej 0x03
  else .ok (s.plainWrite (oLnk m + off) v)

def State.lnkRegRead (s : State) (m off : Nat) : Word :=
  if off = 0x28 then BitVec.ofNat 32 (SMap.get (fun _ => 0) s.fuses.safeq m) else s.reg (oLnk m + off)

/-- TIM_LNKDLY: the lowest-numbered in-service module of each link (R310). -/
def linkModules (j : Nat) : List Nat :=
  if j < 4 then [16 + 2 * j, 17 + 2 * j] else if j < 8 then [24 + (j - 4)] else (List.range 4).map (fun k => 4 * (j - 8) + k)

def State.lnkDly (s : State) (j : Nat) : Word :=
  match (linkModules j).find? (fun m => s.lstate m = 7) with
  | some m => s.reg (oLnk m + 0x30)
  | none => 0

/-- Elapsed µs: the windows of replays and lane errors (R303, R304). -/
def State.lnkUs (s : State) (us : Nat) : State :=
  (List.range 28).foldl (fun t m =>
    let x := t.lnkMod m
    if t.lstate m ≠ 7 then t
    else if x.winUs + us ≥ t.fld (oLthr m) 11 0 then t.setLnk m { x with winUs := 0, win := 0, flagged := false }
    else t.setLnk m { x with winUs := x.winUs + us }) s

/-! ## Commands -/

def execWidthCheckReport (m : LMod) (passA passB : Bool) (s : State) : Host.Outcome State Fault Refusal :=
  .next (if s.lstate m.val = 5 ∧ s.lsafe m.val = false then (if passA && passB then s.checkDone m.val else s.checkFailed m.val) else s)

/-- R300: a side that receives no report counts the check as failed. -/
def execWidthCheckTmo (m : LMod) (s : State) : Host.Outcome State Fault Refusal :=
  .next (if s.lstate m.val = 5 ∧ s.lsafe m.val = false then s.checkFailed m.val else s)

/-- R302, R303: a receiver asks for a replay; the sender is side A in direction A to B. -/
def execReplayRequest (m : LMod) (d : Dir) (c : ReplayCause) (s : State) : Host.Outcome State Fault Refusal :=
  .next (if s.lstate m.val ≠ 7 then s
    else
      let x := s.lnkMod m.val
      let ba := decide (d = .bToA)
      let n := (if ba then x.repBA else x.repAB) + 1
      let s1 := s.count (oLnk m.val + 0x34) 31 0 1
      let s2 := match c with | .crc => s1.count (oLnk m.val + 0x38) 31 0 1 | .gap => s1
      let s3 := s2.setLnk m.val { x with win := x.win + 1, repAB := if ba then x.repAB else n, repBA := if ba then n else x.repBA }
      if x.narrow.isSome then s3
      else if 8 ≤ n then (if s.lsafe m.val then s3.lnkFailed m.val else s3.lnkRetrain m.val 2 (!ba))
      else if s.fld (oLthr m.val) 23 12 < x.win + 1 ∧ x.flagged = false then s3.lnkRetrain m.val 3 (!ba)
      else s3)

/-- R302: an acknowledgement frees flits, and the first unacknowledged flit is another. -/
def execFlitAck (m : LMod) (d : Dir) (n : Nat) (s : State) : Host.Outcome State Fault Refusal :=
  .next (let x := s.lnkMod m.val
    match d with
    | .aToB => s.setLnk m.val { x with bufAB := x.bufAB - n, repAB := if n = 0 then x.repAB else 0 }
    | .bToA => s.setLnk m.val { x with bufBA := x.bufBA - n, repBA := if n = 0 then x.repBA else 0 })

/-- R304, R308: a lane that carries flits is flagged. -/
def execLaneFlagged (m : LMod) (d : Dir) (lane : Fin 68) (s : State) : Host.Outcome State Fault Refusal :=
  .next (let n := s.lstate m.val
    let ba := decide (d = .bToA)
    match s.carried m.val ba lane.val with
    | none => s
    | some i =>
      if (n ≠ 5 ∧ n ≠ 6 ∧ n ≠ 7) ∨ laneInUse (s.lwidth m.val) (s.lgroup m.val) i = false then s
      else
        let s1 := s.setReg (oLnk m.val + 0x40) (BitVec.ofNat 32 (2 ^ 31 + (if ba then 2 ^ 30 else 0) + lane.val))
        let x := s1.lnkMod m.val
        let s2 := s1.setLnk m.val { x with flagged := true }
        if n = 7 ∧ x.narrow.isNone = true then s2.flagLane m.val ba i
        else s2.setLnk m.val { s2.lnkMod m.val with held := if x.held.contains (ba, i) then x.held else x.held ++ [(ba, i)] })

/-- R305, R306: the width changes at one flit boundary. -/
def execNarrowDone (m : LMod) (s : State) : Host.Outcome State Fault Refusal :=
  .next (match (s.lnkMod m.val).narrow with
    | none => s
    | some (w, g, ba, lane) =>
      let x := s.lnkMod m.val
      let y := s.mapOf m.val (!ba)
      let s1 := (s.setWidth m.val w g).setMap m.val (!ba) (if y.testBit lane then y - 2 ^ lane else y)
      let s2 := ((s1.count (oLnk m.val + 0x3C) 15 0 1).lnkLog m.val 0x0A2 (w * 256 + g) (!ba)).lnkAlm m.val
      let s3 := s2.setLnk m.val { x with narrow := none, pulses := false, repAB := 0, repBA := 0, win := 0 }
      (s3.lnkShed m.val).heldTriggers m.val)

/-- R301: the partner is lost; this side enters RESET too. -/
def execPartnerSilent (m : LMod) (s : State) : Host.Outcome State Fault Refusal :=
  .next (let n := s.lstate m.val
    if (2 ≤ n ∧ n ≤ 8) then s.lnkRestart m.val else s)

/-- R310: the delay by round trip, corrected by the fused asymmetry. -/
def execDelayMeasured (m : LMod) (ps : BitVec 24) (s : State) : Host.Outcome State Fault Refusal :=
  .next (if s.lstate m.val = 7 then
      let d := ((ps.toNat : Int) + SMap.get (fun _ => 0) s.fuses.asym m.val).toNat
      (s.setReg (oLnk m.val + 0x30) (BitVec.ofNat 32 (d % 2 ^ 24))).setLnk m.val { s.lnkMod m.val with pulses := true }
    else s)

end Sys2Proof.Machine
end

