-- ==== Sys2Proof/Machine/Mem.lean ====
section
/-! DEFINITION. The DRAM controllers (ch. 13): queues, forwarding and read-modify-writes, scheduling and refresh, the
row-disturbance defence, regulators, self-refresh, training, the patrol scrubber (ch. 14), and the MEM registers. -/

namespace Sys2Proof.Machine

/-! ## Registers of a channel -/

def oMemStat (k : Nat) : Nat := oMem k + 8
/-- MEM_STAT.SRSTATE: 0 ACTIVE, 1 ENTERING, 2 SELFREF, 3 EXITING, 4 REVALIDATING. -/
def State.srState (s : State) (k : Nat) : Nat := s.fld (oMemStat k) 31 29
def State.setSr (s : State) (k n : Nat) : State := s.setFld (oMemStat k) 31 29 n
def State.memFailed (s : State) (k : Nat) : Bool := s.bit (oMemStat k) 28
def State.memOn (s : State) (k : Nat) : Bool := s.isOn (oPwrMem k)
/-- The controller works: the channel is ON or completes what it accepted. -/
def State.memRuns (s : State) (k : Nat) : Bool := s.memOn k || s.pwr (oPwrMem k) = 3

/-! ## The port of a requester (R196, R324) -/

/-- Die code and router of the port through which a requester sends. -/
def State.reqPort (s : State) (q : Nat) : Nat × Nat :=
  let die := q / 0x1000
  let u := q % 0x1000
  if die < 4 then
    if u < 0x110 then (die, u / 17)
    else if 0x400 ≤ u ∧ u < 0x408 then (die, s.fld (oPgeom (8 * die + (u - 0x400))) 19 16)
    else if 0x500 ≤ u ∧ u < 0x502 then (die, 16 + (u - 0x500))
    else if 0x700 ≤ u ∧ u < 0x714 then (die, u - 0x700)
    else (die, 18)
  else if die = 4 then (4, u % 8)
  else if 8 ≤ die ∧ die < 12 then (die - 8, 18)
  else (4, 4)

/-! ## Bytes of a line -/

/-- What `n` bytes at `a` with enables put on the line at `l`. -/
def onLine (l a : Nat) (data : List Byte) (en : List Bool) : List (Option Byte) :=
  (List.range 128).map (fun i =>
    if a ≤ l + i ∧ l + i < a + data.length ∧ en.getD (l + i - a) false = true then data[l + i - a]? else none)

def layOver (new old : List (Option Byte)) : List (Option Byte) :=
  (List.range 128).map (fun i => match new.getD i none with | some b => some b | none => old.getD i none)

def noBytes : List (Option Byte) := List.replicate 128 none

/-- The bytes that an entry of the write queue holds, newest on top. -/
def WrEnt.bytes (e : WrEnt) : List (Option Byte) := e.ws.foldl (fun a w => layOver w.2 a) noBytes

def wholeLine (l : List (Option Byte)) : Bool := l.all Option.isSome

/-- R319: part of a granule in untagged mode, part of the line in tagged mode. -/
def partialBytes (tagged : Bool) (l : List (Option Byte)) : Bool :=
  if tagged then l.any Option.isSome && !wholeLine l
  else (List.range 16).any (fun g =>
    let p := (l.drop (8 * g)).take 8
    p.any Option.isSome && !p.all Option.isSome)

/-- The entry needs a read before it can be stored. -/
def WrEnt.needsRead (e : WrEnt) (tagged : Bool) : Bool := e.raw.isNone && !e.poison && partialBytes tagged e.bytes

/-! ## Requests and their answers -/

/-- A line of a request is done. -/
def State.lineDone (s : State) (k id line : Nat) (data : List Byte) (poison err : Bool) : State :=
  let x := s.chan k
  match x.reqs.find? (fun r => r.id == id) with
  | none => s
  | some r =>
    let r1 := { r with left := r.left - 1, parts := SMap.insert r.parts line data, poison := r.poison || poison, err := r.err || err }
    if r1.left = 0 then
      let s1 := s.setChan k { x with reqs := x.reqs.filter (fun q => q.id != id) }
      let all := r1.parts.flatMap Prod.snd
      let a := pktAddr r.pkt
      let d := (all.drop (a % 128)).take (pktBytes r.pkt)
      s1.answer r.pkt r.write (if r1.err then 1 else 0) r1.poison (if r.write then [] else d)
    else s.setChan k { x with reqs := x.reqs.map (fun q => if q.id = id then r1 else q) }

/-- The lines a packet touches. -/
def pktLines (p : Pkt) : List Nat :=
  let a := pktAddr p / 128 * 128
  let b := (pktAddr p + pktBytes p - 1) / 128 * 128
  if a = b then [a] else [a, b]

/-! ## Accepting (R318 to R321) -/

/-- A request ends an entry into self-refresh that has not issued SRE (R328). -/
def State.memWake (s : State) (k : Nat) : State :=
  if s.srState k = 1 then (s.setSr k 0).count (oMem k + 0x2C) 15 0 1 else s

/-- A read of one line: forwarded, or queued. -/
def State.readLine (s : State) (k id line : Nat) (want : List Bool) (now : Nat) : State :=
  let x := s.chan k
  match x.wq.find? (fun e => decide (e.line = line) && e.raw.isNone) with
  | none =>
    s.setChan k { x with seq := x.seq + 1, rq := x.rq ++ [{ seq := x.seq, req := id, line := line, laid := noBytes, at_ := now }] }
  | some e =>
    let b := e.bytes
    if e.poison then (s.count (oMem k + 0x30) 31 0 1).lineDone k id line (List.replicate 128 0) true false
    else if (List.range 128).all (fun i => !want.getD i false || (b.getD i none).isSome) then
      (s.count (oMem k + 0x30) 31 0 1).lineDone k id line (b.map (fun o => o.getD 0)) false false
    else
      s.setChan k { x with seq := x.seq + 1, rq := x.rq ++ [{ seq := x.seq, req := id, line := line, laid := b, at_ := now }] }

/-- R357: a partial write is not merged. -/
def State.partRefused (s : State) (k line req : Nat) : State :=
  let src := if (s.rangeAt line).isSome then reqIce else memReq k
  s.log (mkRec src 0x0C7 line 1 req)

/-- Requests that wait for the merge of an entry are acknowledged. -/
def State.ackEntry (s : State) (k : Nat) (e : WrEnt) : State :=
  let ids := e.ws.filterMap Prod.fst
  let x := s.chan k
  let s1 := s.setChan k { x with
    wq := x.wq.map (fun f => if f.seq = e.seq then { f with ws := f.ws.map (fun w => (none, w.2)) } else f) }
  ids.foldl (fun t id => t.lineDone k id e.line [] false false) s1

def State.setWq (s : State) (k : Nat) (e : WrEnt) : State :=
  let x := s.chan k
  s.setChan k { x with wq := x.wq.map (fun f => if f.seq = e.seq then e else f) }

/-- A write of one line: merged into the queued entry, or a new entry. -/
def State.writeLine (s : State) (k id line src : Nat) (b : List (Option Byte)) (poison : Bool) : State :=
  let x := s.chan k
  let tagged := s.tagged k
  match x.wq.find? (fun e => decide (e.line = line) && e.raw.isNone) with
  | none =>
    let e : WrEnt := { seq := x.seq, last := x.seq, line := line, ws := if poison then [] else [(some id, b)], poison := poison, src := src }
    let s1 := s.setChan k { x with seq := x.seq + 1, wq := x.wq ++ [e] }
    if poison then s1.lineDone k id line [] false false
    else if e.needsRead tagged then s1 else s1.ackEntry k e
  | some e =>
    let s1 := s.setChan k { x with seq := x.seq + 1 }
    if poison then
      let s2 := s1.ackEntry k e
      (s2.setWq k { e with ws := [], poison := true, last := x.seq, src := src }).lineDone k id line [] false false
    else if e.poison then
      if partialBytes tagged b then (s1.partRefused k line src).lineDone k id line [] false true
      else
        -- whole granules go over the marker, which stays in the rest of the line
        let ws := e.ws ++ [(none, b)]
        let whole := wholeLine (WrEnt.bytes { e with ws := ws })
        (s1.setWq k { e with ws := ws, poison := !whole, last := x.seq, src := src }).lineDone k id line [] false false
    else if partialBytes tagged b then
      let e1 := { e with ws := e.ws ++ [(some id, b)], last := x.seq, src := src }
      let s2 := s1.setWq k e1
      if e1.needsRead tagged then s2 else s2.ackEntry k e1
    else
      let e1 := { e with ws := e.ws ++ [(none, b)], last := x.seq, src := src }
      let s2 := (s1.setWq k e1).lineDone k id line [] false false
      if e1.needsRead tagged then s2 else s2.ackEntry k e1

/-- Entries a write needs that are not there yet. -/
def ChanSt.newEntries (x : ChanSt) (ls : List Nat) : Nat :=
  (ls.filter (fun l => !(x.wq.any (fun e => decide (e.line = l) && e.raw.isNone)))).length

/-- R318 to R321: a request reaches the controller; none while an entry it needs is not free. -/
def State.memAccept (s : State) (k : Nat) (write : Bool) (p : Pkt) : Option State :=
  let ls := pktLines p
  let src := p.src.toNat
  if s.memFailed k then some (s.answer p write 1 false [])
  else match ls.findSome? (fun l => s.iceGate write l src) with
    | some t => some (t.answer p write 1 false [])
    | none =>
      let x := s.chan k
      if (if write then decide (64 < x.wq.length + x.newEntries ls) else decide (64 < x.rq.length + ls.length)) then none
      else
        let s0 := s.memWake k
        let x0 := s0.chan k
        let id := x0.seq
        let s1 := s0.setChan k { x0 with seq := x0.seq + 1, reqs := x0.reqs ++ [{ id := id, pkt := p, write := write, left := ls.length }] }
        let a := pktAddr p
        if write then
          some (ls.foldl (fun t l => t.writeLine k id l src (onLine l a (pktData p) (pktEnables p)) p.poison) s1)
        else
          let want (l : Nat) : List Bool := (onLine l a (List.replicate (pktBytes p) 0) (pktEnables p)).map Option.isSome
          some (ls.foldl (fun t l => t.readLine k id l (want l) s.now) s1)

/-! ## Port regulators (R324) -/

def oRegPort (k j : Nat) : Nat := oMem k + 0x100 + 0x10 * j

/-- The enabled regulator of a channel that names a port. -/
def State.regulator (s : State) (k : Nat) (port : Nat × Nat) : Option Nat :=
  (List.range 16).find? (fun j =>
    s.bit (oRegPort k j) 31 && decide (s.fld (oRegPort k j) 15 12 = port.1) && decide (s.fld (oRegPort k j) 11 7 = port.2))

def ChanSt.heldBy (x : ChanSt) (j : Nat) : List (Bool × Pkt) := SMap.get (fun _ => []) x.held j
/-- Tokens in halves. -/
def ChanSt.tokens (x : ChanSt) (j : Nat) : Int := SMap.get (fun _ => 0) x.tok j

/-- R324: a request takes its tokens. -/
def State.takeTokens (s : State) (k j : Nat) (p : Pkt) : State :=
  let x := s.chan k
  s.setChan k { x with tok := SMap.set (fun _ => 0) x.tok j (x.tokens j - 2 * (pktLines p).length) }

/-- A request arrives at its port: held by the regulator, or on to the controller; none where it waits for credit. -/
def State.memArrive (s : State) (k : Nat) (write : Bool) (p : Pkt) : Option State :=
  match s.regulator k (s.reqPort p.src.toNat) with
  | none => s.memAccept k write p
  | some j =>
    let x := s.chan k
    if x.heldBy j = [] ∧ 2 ≤ x.tokens j then (s.takeTokens k j p).memAccept k write p
    else some (s.setChan k { x with held := SMap.set (fun _ => []) x.held j (x.heldBy j ++ [(write, p)]) })

/-! ## The row-disturbance defence (R325, R326) -/

def ChanSt.actCount (x : ChanSt) (b r : Nat) : Nat := SMap.get (fun _ => 0) x.acts (b * 2 ^ 18 + r)

/-- The row is one of the eight most-activated of its bank. -/
def ChanSt.topRow (x : ChanSt) (b r : Nat) : Bool :=
  decide ((x.acts.filter (fun e => decide (e.1 / 2 ^ 18 = b) && decide (e.2 > x.actCount b r))).length < 8)

/-- The throttle that holds a requester, or everyone, on a row. -/
def ChanSt.throttleOf (x : ChanSt) (b r q : Nat) : Option Throttle :=
  x.thr.find? (fun t => decide (t.bank = b) && (t.req == some q || (t.req.isNone && decide (t.row = r))))

/-- Throttles of a requester in force. -/
def ChanSt.nThr (x : ChanSt) : Nat := (x.thr.filter (fun t => t.req.isSome)).length

/-- R325: a row of the bank has reached HAMTH at an activate of requester `q`. -/
def State.hammer (s : State) (k b r q : Nat) : State :=
  let x := s.chan k
  if x.thr.any (fun t => decide (t.bank = b) && (t.req == some q || (t.req.isNone && decide (t.row = r)))) then s
  else if x.nThr < 32 then
    let s1 := s.setChan k { x with thr := x.thr ++ [⟨b, some q, r, s.now⟩] }
    let s2 := (s1.setFld (oMem k + 0x20) 31 16 q).count (oMem k + 0x24) 31 16 1
    s2.logLim (limKey 0x0B1 k) (mkRec (memReq k) 0x0B1 0 1 q)
  else s.setChan k { x with thr := x.thr ++ [⟨b, none, r, s.now⟩] }

/-- An activate of a row by a requester. -/
def State.activate (s : State) (k b r q : Nat) : State :=
  let x := s.chan k
  let x1 := { x with acts := SMap.set (fun _ => 0) x.acts (b * 2 ^ 18 + r) (x.actCount b r + 1),
                     thr := x.thr.map (fun t => if t.bank = b ∧ (t.req = some q ∨ (t.req = none ∧ t.row = r)) then { t with last := s.now } else t) }
  let s1 := s.setChan k x1
  let s2 := if x1.actCount b r ≥ s.fld (oMem k + 0x1C) 31 16 ∧ x1.topRow b r = true then s1.hammer k b r q else s1
  -- the second layer
  let pn := s.fld (oMem k + 0x1C) 15 12
  let s3 := if pn = 0 then s2
            else
              let (v, t) := s2.draw
              if v.toNat % 2 ^ pn = 0 then t.setChan k { t.chan k with nr := (t.chan k).nr ++ [2 * b] } else t
  -- refresh management at the devices' own threshold
  if Config.rfmRequired k then
    let y := s3.chan k
    let n := SMap.get (fun _ => 0) y.rolling b + 1
    let s4 := s3.setChan k { y with rolling := SMap.set (fun _ => 0) y.rolling b n }
    if n ≥ Config.rfmThreshold k ∧ y.nr.contains (2 * b + 1) = false then s4.setChan k { s4.chan k with nr := y.nr ++ [2 * b + 1] } else s4
  else s3

/-! ## What may issue (R322, R323) -/

/-- A command that is ready: who claims it (0 refresh management, 1 read, 2 write, 3 scrub write-back), its bank and row. -/
structure MemCmd where
  kind : Nat
  bank : Nat
  row : Nat
  req : Nat
  at_ : Nat
  hit : Bool
  /-- the number of its entry; the rank of a refresh; the neighbour refresh -/
  key : Nat
  rank : Bool := false
  deriving DecidableEq, Repr

/-- The channel address of a physical address. -/
def State.chanAddr (s : State) (a : Nat) : Nat := match s.dramPlace a with | some (_, ca) => ca | none => 0

/-- A throttle spaces the activates of a requester (R325). -/
def State.throttled (s : State) (k b r q : Nat) : Bool :=
  match (s.chan k).throttleOf b r q with
  | none => false
  | some t => decide (s.now < t.last + s.fld (oMem k + 0x1C) 7 0 * 10 * 65536)

/-- The page of a line is being re-encrypted (R358). -/
def State.pageBusy (s : State) (a : Nat) : Bool :=
  match s.rangeAt a with
  | none => false
  | some r => (s.range r).busy.contains (s.pageOf r a)

/-- The leaf block that a line of a range needs is cached. -/
def State.leafReady (s : State) (a : Nat) : Bool :=
  match s.rangeAt a with
  | none => true
  | some r => (s.cached r 0 (s.pageOf r a)).isSome || s.damaged r (s.pageOf r a)

/-- The leaf block of a line of a range is read, where it is cached. -/
def State.readLeaf (s : State) (a : Nat) : State :=
  match s.rangeAt a with
  | none => s
  | some r => s.readBlk r 0 (s.pageOf r a)

def State.mkCmd (s : State) (k kind line q at_ key : Nat) : Option MemCmd :=
  let d := s.devOf k (s.chanAddr line)
  let hit := match SMap.find (s.chan k).open_ d.bank with | some (r, _) => decide (r = d.row) | none => false
  if s.pageBusy line ∨ (hit = false ∧ s.throttled k d.bank d.row q = true) then none
  else some { kind := kind, bank := d.bank, row := d.row, req := q, at_ := at_, hit := hit, key := key }

def State.readCmds (s : State) (k : Nat) : List MemCmd :=
  let x := s.chan k
  (x.rq.filter (fun e => !e.issued)).filterMap (fun e =>
    let q := match x.reqs.find? (fun r => r.id == e.req) with | some r => r.pkt.src.toNat | none => 0
    s.mkCmd k 1 e.line q e.at_ e.seq)

def State.writeCmds (s : State) (k : Nat) : List MemCmd :=
  let x := s.chan k
  (x.wq.filter (fun e => !e.reading && !(x.rq.any (fun r => decide (r.line = e.line) && decide (r.seq < e.last)))
      && !(x.wq.any (fun f => decide (f.line = e.line) && decide (f.seq < e.seq)))
      && (e.needsRead (s.tagged k) || e.raw.isSome || e.poison || s.leafReady e.line))).filterMap
    (fun e => s.mkCmd k (if e.scrub then 3 else 2) e.line e.src e.seq e.seq)

/-- Ranks of the channel, and the banks of a rank. -/
def State.ranks (s : State) (k : Nat) : Nat := 2 ^ (s.geom k).rankB
def Geom.rankOfBank (g : Geom) (b : Nat) : Nat := b / 2 ^ (g.baB + g.bgB + g.cidB)
def Geom.banksOf (g : Geom) (r : Nat) : List Nat := (List.range (2 ^ (g.baB + g.bgB + g.cidB))).map (fun i => r * 2 ^ (g.baB + g.bgB + g.cidB) + i)

def ChanSt.owedOf (x : ChanSt) (r : Nat) : Nat := SMap.get (fun _ => 0) x.owed r

/-- Refreshes at their deadline, and refresh management that is due. -/
def State.mgmtCmds (s : State) (k : Nat) : List MemCmd :=
  let x := s.chan k
  ((List.range (s.ranks k)).filter (fun r => decide (4 < x.owedOf r))).map
      (fun r => { kind := 0, bank := 0, row := 0, req := 0, at_ := 0, hit := false, key := r, rank := true })
    ++ (x.nr.take 1).map (fun n => { kind := 0, bank := n / 2, row := 0, req := 0, at_ := 1, hit := false, key := n })

/-- The place of a claimant in the rotation of a bank. -/
def ChanSt.turn (x : ChanSt) (b kind : Nat) : Nat := (kind + 4 - SMap.get (fun _ => 0) x.ptr b) % 4

/-- R323: no other claimant of the bank comes first. -/
def State.granted (s : State) (k : Nat) (all : List MemCmd) (c : MemCmd) : Bool :=
  let x := s.chan k
  let mine (d : MemCmd) : Bool :=
    if c.rank then !d.rank && decide ((s.geom k).rankOfBank d.bank = c.key)
    else if d.rank then decide ((s.geom k).rankOfBank c.bank = d.key) else decide (d.bank = c.bank)
  all.all (fun d => !mine d || d.kind == c.kind ||
    (let b := if c.rank then d.bank else c.bank
     decide (x.turn b c.kind < x.turn b d.kind)))

/-- The least of a list by a number. -/
def leastBy (f : MemCmd → Nat) : List MemCmd → Option MemCmd
  | [] => none
  | c :: l => match leastBy f l with | none => some c | some d => if f c ≤ f d then some c else some d

/-- Row hits first, then the oldest. -/
def hitOrder (c : MemCmd) : Nat := (if c.hit then 0 else 2 ^ 96) + c.at_

/-- R322: the next command. -/
def State.chooseCmd (s : State) (k : Nat) : Option MemCmd :=
  let x := s.chan k
  let rd := s.readCmds k
  let wr0 := s.writeCmds k
  let wr := wr0.filter (fun c => decide (c.kind = 2))
  let mg := s.mgmtCmds k
  let all := mg ++ rd ++ wr0
  let ok (l : List MemCmd) : List MemCmd := l.filter (s.granted k all)
  let aged := (ok rd).filter (fun c => decide (c.at_ + s.fld (oMem k + 0x18) 7 0 * 100 * 65536 < s.now))
  let first := if x.drain || rd.isEmpty then ok wr else ok rd
  let other := if x.drain || rd.isEmpty then ok rd else ok wr
  (leastBy (·.at_) (ok mg)).or ((leastBy (·.at_) aged).or ((leastBy hitOrder first).or ((leastBy hitOrder other).or
    (leastBy (·.at_) (ok (wr0.filter (fun c => decide (c.kind = 3))))))))

/-! ## Storing (R320, R353 to R359) -/

def State.dropWq (s : State) (k seq : Nat) : State :=
  let x := s.chan k
  s.setChan k { x with wq := x.wq.filter (fun e => e.seq != seq) }

/-- The granules that the bytes of an entry replace. -/
def entryGranules (tagged : Bool) (b : List (Option Byte)) : List (Option DGran) :=
  (List.range 16).map (fun g =>
    let p := (b.drop (8 * g)).take 8
    if p.all Option.isSome then
      let d : DWord := BitVec.ofNat 64 (ofBytesLE (p.map (fun o => o.getD 0)))
      some ⟨d, dramEncode tagged d 0⟩
    else none)

/-- A ready entry is stored. -/
def State.storeEntry (s : State) (k : Nat) (e : WrEnt) : State :=
  match e.raw with
  | some l => (s.putLine e.line (l.map some)).dropWq k e.seq
  | none =>
    if e.poison then ((s.putMarker e.line).putLine e.line (entryGranules (s.tagged k) e.bytes)).dropWq k e.seq
    else
      match s.rangeAt e.line with
      | none => (s.putLine e.line (entryGranules (s.tagged k) e.bytes)).dropWq k e.seq
      | some r =>
        let page := s.pageOf r e.line
        let s := s.readBlk r 0 page
        if s.damaged r page then s.dropWq k e.seq
        else match s.cached r 0 page with
          | none => s
          | some b =>
            let i := (e.line - s.rngBase r) / 128 % 32
            if b.minor i = 127 then
              if b.major + 1 = 2 ^ 56 then s
              else (s.setRange r { s.range r with busy := (s.range r).busy ++ [page] }).count (oRange r + 0x2C) 31 0 1
            else
              let m := b.minor i + 1
              let l := sealLine (s.range r).key b.major m (32 * page + i) (e.bytes.map (fun o => o.getD 0))
              ((s.setCached r 0 page (b.setMinor i m)).putLine e.line (l.map some)).dropWq k e.seq

/-- R358: the re-encryption of a page ends, with the write that overflowed its MINOR. -/
def State.reencrypted (s : State) (r page : Nat) : State :=
  if !(s.range r).busy.contains page then s
  else match s.cached r 0 page with
    | none => s
    | some b =>
      let base := s.rngBase r + 4096 * page
      let k := match s.dramPlace base with | some (k, _) => k | none => 0
      let idx (a : Nat) : Nat := (a - base) / 128
      let trig := (s.chan k).wq.find? (fun e => decide (base ≤ e.line) && decide (e.line < base + 4096) && e.raw.isNone && !e.poison
        && wholeLine e.bytes && decide (b.minor (idx e.line) = 127))
      let key := (s.range r).key
      let skip (i : Nat) : Bool := match trig with | some e => decide (idx e.line = i) | none => false
      let s1 := (List.range 32).foldl (fun t i =>
        if skip i then t else t.recrypt r (base + 128 * i) (32 * page + i) (some (b, b.minor i)) key key (b.major + 1)) s
      let s2 := s1.setCached r 0 page { major := b.major + 1, minors := [], dirty := true }
      let s3 := s2.setRange r { s2.range r with busy := (s2.range r).busy.filter (fun p => p != page) }
      match trig with
      | none => s3
      | some e =>
        (s3.putLine e.line ((sealLine key (b.major + 1) 0 (32 * page + idx e.line) (e.bytes.map (fun o => o.getD 0))).map some)).dropWq k e.seq

/-! ## Issuing -/

/-- After an access: the row stays open while another request that is ready wants it and HITMAX allows (R322). -/
def State.afterAccess (s : State) (k : Nat) (c : MemCmd) : State :=
  let x := s.chan k
  let n := (match SMap.find x.open_ c.bank with | some (r, n) => if r = c.row then n else 0 | none => 0) + 1
  let more := (s.readCmds k ++ s.writeCmds k).any (fun d => decide (d.bank = c.bank) && decide (d.row = c.row))
  s.setChan k { x with
    open_ := if more = true ∧ n < s.fld (oMem k + 0x18) 31 28 then SMap.insert x.open_ c.bank (c.row, n) else SMap.drop x.open_ c.bank,
    ptr := SMap.set (fun _ => 0) x.ptr c.bank ((c.kind + 1) % 4) }

/-- A refresh of a rank (R331): drifts are applied, and the rolling counts fall. -/
def State.issueRefresh (s : State) (k r : Nat) : State :=
  let x := s.chan k
  let g := s.geom k
  s.setChan k { x with
    owed := SMap.set (fun _ => 0) x.owed r (x.owedOf r - 1),
    open_ := x.open_.filter (fun e => decide (g.rankOfBank e.1 ≠ r)),
    rolling := (x.rolling.map (fun e => if g.rankOfBank e.1 = r then (e.1, e.2 - Config.rfmThreshold k) else e)).filter (fun e => decide (e.2 ≠ 0)),
    -- the refresh was granted every bank of the rank (R323)
    ptr := (g.banksOf r).foldl (fun m b => SMap.set (fun _ => 0) m b 1) x.ptr,
    osc := x.osc + x.drift.getD 0, drift := none }

/-- A neighbour refresh (even keys) or a refresh-management command at the threshold (odd keys). -/
def State.issueNr (s : State) (k n : Nat) : State :=
  let x := s.chan k
  let g := s.geom k
  -- RFMab, with SBREF = 0, takes every bank of the rank
  let bs := if n % 2 = 1 ∧ s.bit (oMem k + 0x1C) 8 = false then g.banksOf (g.rankOfBank (n / 2)) else [n / 2]
  let x1 := { x with nr := (x.nr.erase n).filter (fun m => !(n % 2 == 1 && m % 2 == 1 && bs.contains (m / 2))),
                     open_ := bs.foldl (fun m b => SMap.drop m b) x.open_,
                     ptr := bs.foldl (fun m b => SMap.set (fun _ => 0) m b 1) x.ptr,
                     rolling := bs.foldl (fun m b => SMap.set (fun _ => 0) m b (SMap.get (fun _ => 0) m b - Config.rfmThreshold k)) x.rolling }
  let s1 := s.setChan k x1
  if n % 2 = 0 then s1.count (oMem k + 0x28) 31 0 1 else s1.count (oMem k + 0x24) 15 0 1

/-- Write-drain mode (R322). -/
def State.drainMode (s : State) (k : Nat) : State :=
  let x := s.chan k
  let n := x.wq.length
  let d := if s.fld (oMem k + 0x18) 22 16 ≤ n then true else if n ≤ s.fld (oMem k + 0x18) 14 8 then false else x.drain
  (s.setChan k { x with drain := d }).setBit (oMemStat k) 27 d

/-- A read, a read-modify-write's read, or a store is issued. -/
def State.issueAccess (s : State) (k : Nat) (c : MemCmd) : State :=
  let s0 := if c.hit then s else s.activate k c.bank c.row c.req
  let x := s0.chan k
  let s1 :=
    if c.kind = 1 then
      s0.setChan k { x with rq := x.rq.map (fun e => if e.seq = c.key then { e with issued := true } else e), flight := x.flight ++ [(false, c.key)] }
    else match x.wq.find? (fun e => e.seq == c.key) with
      | none => s0
      | some e =>
        if e.needsRead (s.tagged k) then
          s0.setChan k { x with wq := x.wq.map (fun f => if f.seq = e.seq then { f with reading := true } else f), flight := x.flight ++ [(true, c.key)] }
        else s0.storeEntry k e
  (s1.afterAccess k c).drainMode k

/-- R322, R327, R329, R331: one MEM cycle of the controller. A channel that returns from OFF in self-refresh is STARTING. -/
def State.memCycle (s : State) (k : Nat) : State :=
  let x := s.chan k
  if (s.memRuns k = false ∧ (s.pwr (oPwrMem k) ≠ 1 ∨ s.srState k ≠ 3)) ∨ x.alert = true then s
  else match s.srState k with
    | 0 =>
      let s0 := (s.drainMode k).setChan k { (s.drainMode k).chan k with reissue := false, reissues := 0 }
      match s0.chooseCmd k with
      | some c => if c.rank then s0.issueRefresh k c.key else if c.kind = 0 then s0.issueNr k c.key else s0.issueAccess k c
      | none =>
        match (List.range (s.ranks k)).find? (fun r => decide (0 < x.owedOf r)) with
        | some r => s0.issueRefresh k r
        | none => s0
    | 1 =>
      match (List.range (s.ranks k)).find? (fun r => decide (0 < x.owedOf r)) with
      | some r => s.issueRefresh k r
      | none => ((s.setSr k 2).count (oMem k + 0x2C) 31 16 1).setChan k { x with open_ := [], srAt := s.now }
    | 3 => (s.setSr k 4).setChan k { x with owed := [] }
    | _ => s

/-! ## Read data (R321, R336 to R341, R356) -/

/-- A corrected line enters the write queue, unless a write to it was accepted after the read (R339). -/
def State.writeBack (s : State) (k line since : Nat) (gr : List DGran) (scrub : Bool) : State :=
  let x := s.chan k
  if x.wq.any (fun e => decide (e.line = line) && decide (since < e.last)) then s
  else if 64 ≤ x.wq.length then s.putLine line (gr.map some)
  else
    let older := x.wq.filter (fun e => decide (e.line = line))
    let q := match older.head? with | some e => e.seq | none => x.seq
    let e : WrEnt := { seq := q, last := q, line := line, ws := [], raw := some gr, src := memReq k, scrub := scrub }
    if older = [] then s.setChan k { x with seq := x.seq + 1, wq := x.wq ++ [e] }
    else s.putLine line (gr.map some)

/-- The plain bytes of a line: poison, or the bytes; the state counts a tag failure. -/
def State.plainOf (s : State) (line req : Nat) (f : Found) : State × Option (List Byte) :=
  if f.poison then (s, none)
  else match s.rangeAt line with
    | none => (s, some (lineBytes f.gr))
    | some r =>
      let page := s.pageOf r line
      if s.damaged r page then (s, none)
      else match s.cached r 0 page with
        | none => (s, none)
        | some b =>
          let i := (line - s.rngBase r) / 128 % 32
          match openLine (s.range r).key b.major (b.minor i) (32 * page + i) f.gr with
          | some l => (s, some l)
          | none => (s.tagFail r line req, none)

/-- A write of the whole line waits that was accepted after a number. -/
def State.wholeSince (s : State) (k line since : Nat) : Bool :=
  (s.chan k).wq.any (fun e => decide (e.line = line) && decide (since < e.last) && (wholeLine e.bytes || e.poison))

/-- The data of a queued read arrives. -/
def State.readData (s : State) (k : Nat) (e : RdEnt) (flips : List (BitVec 64 × BitVec 16)) : State :=
  let asRead := applyFlips (s.rawLine e.line) flips
  let f := decodeLine (s.tagged k) asRead
  let x := s.chan k
  let q := match x.reqs.find? (fun r => r.id == e.req) with | some r => r.pkt.src.toNat | none => 0
  if f.bad ≠ 0 ∧ e.retry = false then
    s.setChan k { x with rq := x.rq.map (fun d => if d.seq = e.seq then { d with retry := true } else d) }
  else
    let s1 := s.setChan k { x with rq := x.rq.filter (fun d => d.seq != e.seq), flight := x.flight.drop 1 }
    if f.bad ≠ 0 then
      let mark := !s1.wholeSince k e.line e.seq
      let s2 := s1.uncorrectable k e.line f asRead mark q 0x0C1
      (if mark then s2.putMarker e.line else s2).lineDone k e.req e.line (List.replicate 128 0) true false
    else
      let s2 := if e.retry then s1.count (oDecc k + 0xC) 31 0 1 else s1
      let s3 := if f.corr = [] then s2 else (s2.corrections k e.line f asRead).writeBack k e.line e.seq f.gr false
      let (s4, d) := s3.plainOf e.line q f
      match d with
      | none => s4.lineDone k e.req e.line (List.replicate 128 0) true false
      | some l => s4.lineDone k e.req e.line ((layOver e.laid (l.map some)).map (fun o => o.getD 0)) false false

/-- R319, R357: the partial writes of an entry are refused. -/
def State.refuseParts (s : State) (k : Nat) (e : WrEnt) : State :=
  let x := s.chan k
  let keep := e.ws.filter (fun w => w.1.isNone)
  let wq1 := x.wq.map (fun f => if f.seq = e.seq then { f with ws := keep, reading := false, retry := false } else f)
  let x1 := { x with wq := wq1.filter (fun f => f.seq != e.seq || !keep.isEmpty) }
  (e.ws.filterMap Prod.fst).foldl (fun t id => (t.partRefused k e.line e.src).lineDone k id e.line [] false true) (s.setChan k x1)

/-- The data of a read-modify-write arrives. -/
def State.mergeData (s : State) (k : Nat) (e : WrEnt) (flips : List (BitVec 64 × BitVec 16)) : State :=
  let asRead := applyFlips (s.rawLine e.line) flips
  let f := decodeLine (s.tagged k) asRead
  let x := s.chan k
  if f.bad ≠ 0 ∧ e.retry = false then s.setWq k { e with retry := true }
  else
    let s1 := s.setChan k { x with flight := x.flight.drop 1 }
    -- what was accepted since has replaced the line: nothing is left to merge
    let done := e.poison || wholeLine e.bytes
    let settled (t : State) : State := t.setWq k { e with reading := false, retry := false }
    if f.bad ≠ 0 then
      if done then settled (if (s.rangeAt e.line).isSome then s1 else s1.uncorrectable k e.line f asRead false e.src 0x0C1)
      else if (s.rangeAt e.line).isSome then s1.refuseParts k e
      else ((s1.uncorrectable k e.line f asRead true e.src 0x0C1).putMarker e.line).refuseParts k e
    else
      let s2 := if e.retry then s1.count (oDecc k + 0xC) 31 0 1 else s1
      let s3 := if f.corr = [] then s2 else s2.corrections k e.line f asRead
      if done then settled s3
      else
      let (s4, d) := s3.plainOf e.line e.src f
      match d with
      | none => s4.refuseParts k e
      | some l =>
        let b := layOver e.bytes (l.map some)
        (s4.setWq k { e with ws := [(none, b)], reading := false, retry := false }) |> fun t =>
          (e.ws.filterMap Prod.fst).foldl (fun u id => u.lineDone k id e.line [] false false) t

/-- R321: the data of the oldest issued read returns; it waits while its counters are not at hand. -/
def State.memData (s : State) (k : Nat) (flips : List (BitVec 64 × BitVec 16)) : State :=
  let x := s.chan k
  match x.flight with
  | [] => s
  | (isW, n) :: _ =>
    if isW then
      match x.wq.find? (fun e => e.seq == n) with
      | none => s.setChan k { x with flight := x.flight.drop 1 }
      | some e =>
        let t := s.readLeaf e.line
        if t.leafReady e.line ∧ t.pageBusy e.line = false then t.mergeData k e flips else t
    else match x.rq.find? (fun e => e.seq == n) with
      | none => s.setChan k { x with flight := x.flight.drop 1 }
      | some e =>
        let t := s.readLeaf e.line
        if t.leafReady e.line ∧ t.pageBusy e.line = false then t.readData k e flips else t

/-! ## Self-refresh, failure and training (R314, R327 to R332) -/

/-- A channel fails: every queued request completes with an error response (R329). -/
def State.memFail (s : State) (k : Nat) : State :=
  let x := s.chan k
  let held := x.held.flatMap Prod.snd
  let s1 := s.setChan k { x with reqs := [], rq := [], wq := [], flight := [], held := [], retrain := false, reissue := false, reissues := 0 }
  let s2 := x.reqs.foldl (fun t r => t.answer r.pkt r.write 1 false []) s1
  let s3 := held.foldl (fun t h => t.answer h.2 h.1 1 false []) s2
  ((s3.setBit (oMemStat k) 28 true).setSr k 0).log (mkRec (memReq k) 0x0B2 0 1 (memReq k))

/-- R329: the revalidation of a channel ends. -/
def State.revalidated (s : State) (k : Nat) (drifted pass : Bool) : State :=
  let x := s.chan k
  if s.srState k ≠ 4 then s
  else
    let long := decide (s.now > x.srAt + s.fld (oMem k + 0x14) 15 0 * 1000000 * 65536)
    let needs := x.retrain || (long && drifted)
    if needs && !pass then s.memFail k
    else (s.setSr k 0).setChan k { x with retrain := false, reissue := false, reissues := 0, owed := [] }

/-- R315: MR4 of the ranks is read. -/
def State.mr4 (s : State) (k code : Nat) (elevated : Bool) : State :=
  let hot := s.bit (oMem k + 0x38) 31
  let s1 := s.setReg (oMem k + 0x38) (BitVec.ofNat 32 ((if elevated then 2 ^ 31 else 0) + code))
  if elevated && !hot then s1.log (mkRec (memReq k) 0x0B3 0 1 (memReq k)) else s1

def oTrain (k : Nat) : Nat := oMem k + 0x34

/-- The contents of a channel are lost (R38). -/
def State.memLose (s : State) (k : Nat) : State :=
  let x := s.chan k
  s.setChan k { x with cells := [], other := [], lost := x.lost + 1 }

/-- A channel enters STARTING: full training (R314), or the return from self-refresh (R329, R330). -/
def State.memStart (s : State) (k : Nat) : State :=
  let x := s.chan k
  let ret := x.warm || s.bit (oPwrMem k) 30 || decide (s.fld (oPwrMem k) 23 20 = 3)
  if x.kept = true ∧ ret = true ∧ s.memFailed k = false then (s.setSr k 3).setChan k { x with kept := false, warm := false }
  else
    let s1 := (s.memLose k).setFld (oTrain k) 31 29 1
    (((s1.setFld (oTrain k) 27 24 1).setSr k 0).setChan k { s1.chan k with second := false, kept := false, warm := false, trained := false })

/-- The sequence passes. -/
def State.trainPass (s : State) (k : Nat) : State :=
  let s1 := ((s.setFld (oTrain k) 31 29 2).count (oTrain k) 15 0 1).setBit (oMemStat k) 28 false
  s1.setChan k { s1.chan k with trained := true, second := false, osc := 0, drift := none, owed := [], srAt := s.now }

/-- The sequence fails at its step. -/
def State.trainFail (s : State) (k : Nat) : State :=
  let x := s.chan k
  let s := s.count (oTrain k) 15 0 1
  if x.second then
    let s1 := ((s.setFld (oTrain k) 31 29 3).setPwr (oPwrMem k) 4).setBit (oPwrMem k) 29 false
    s1.log (mkRec (memReq k) 0x0B0 0 (s.fld (oTrain k) 27 24) (memReq k))
  else (s.setFld (oTrain k) 27 24 1).setChan k { x with second := true }

/-- R314: a training step ends. -/
def State.trainStep (s : State) (k : Nat) (pass : Bool) : State :=
  if s.fld (oTrain k) 31 29 ≠ 1 ∨ s.pwr (oPwrMem k) ≠ 1 then s
  else if pass = false then s.trainFail k
  else
    let n := s.fld (oTrain k) 27 24
    if n = 9 then s.trainPass k
    else s.setFld (oTrain k) 27 24 (if n = 1 ∧ s.bit (oMem k) 28 = false then 3 else n + 1)

/-- The channel is ready to reach ON. -/
def State.memReady (s : State) (k : Nat) : Bool :=
  s.srState k = 0 && (decide (s.fld (oTrain k) 31 29 = 2) && (s.chan k).trained || (s.memFailed k && decide (s.fld (oTrain k) 31 29 ≠ 1)))

/-- Everything accepted has completed (R330). -/
def State.memIdle (s : State) (k : Nat) : Bool :=
  let x := s.chan k
  x.rq.isEmpty && x.wq.isEmpty && x.flight.isEmpty && x.reqs.isEmpty

/-- R330: a drained channel goes OFF, in self-refresh; with RET = 0 the contents are lost. -/
def State.memOff (s : State) (k : Nat) (ret : Bool) : State :=
  let x := s.chan k
  let ok := x.trained && !s.memFailed k
  let s1 := if s.srState k = 2 then s else ((s.setSr k 2).count (oMem k + 0x2C) 31 16 1).setChan k { x with srAt := s.now }
  let s2 := s1.setChan k { s1.chan k with owed := [], open_ := [], thr := [], acts := [], nr := [], rolling := [], ptr := [],
                                          kept := ret && ok, trained := ret && x.trained, pos := none, alert := false }
  if ret then s2 else s2.memLose k

/-! ## The patrol scrubber (R344 to R347) -/

def oScrpos (k : Nat) : Nat := oIce + 0x340 + 8 * k

/-- The first line at or after `a` of the windows that lies on the channel. -/
def State.scrubNext (s : State) (k a : Nat) (wins : List (Nat × Nat)) : Option Nat :=
  let cs := wins.filterMap (fun w => match s.dramNext k (max a w.1) with | some x => if x < w.1 + w.2 then some x else none | none => none)
  cs.foldl (fun m x => match m with | none => some x | some y => some (min x y)) none

/-- R347: a lap ends. -/
def State.lapEnd (s : State) (k : Nat) : State :=
  let x := s.chan k
  let ms := x.lapUs / 1000
  let s1 := (s.setReg (oIce + 0x320 + 4 * k) (BitVec.ofNat 32 ms)).setChan k { x with pos := none, wins := [], lapUs := 0 }
  if ms > s.fld (oIce + 0x300) 15 0 * 1000 then s1.log (mkRec (memReq k) 0x0C3 0 ms (memReq k)) else s1

/-- R346: the outcome of a scrubbed line; `f1` and `f2` are the errors of the two reads. -/
def State.scrubLine (s : State) (k a : Nat) (f1 f2 : List (BitVec 64 × BitVec 16)) : State :=
  let o := oIce + 0x380 + 4 * k
  let r1 := applyFlips (s.rawLine a) f1
  let d1 := decodeLine (s.tagged k) r1
  let fix (r : List DGran) (d : Found) (t : State) : State :=
    if d.corr = [] then t else ((t.corrections k a d r).writeBack k a (t.chan k).seq d.gr true).count o 15 0 1
  if d1.bad = 0 then fix r1 d1 s
  else
    let r2 := applyFlips (s.rawLine a) f2
    let d2 := decodeLine (s.tagged k) r2
    if d2.bad = 0 then fix r2 d2 s
    else
      let g := ((List.range 16).filter (fun i => d2.bad.testBit i)).getLastD 0
      let s1 := (s.noteLine k a true true g (dramSyn (s.tagged k) (r2.getD g poisonDGran))).putMarker a
      ((s1.count o 31 16 1).log (mkRec (memReq k) 0x0C2 a d2.bad (memReq k))).emit (.mgmtIrq mgmtLineIce)

/-- R345: the scrubber of a channel reads its next line. -/
def State.patrol (s : State) (k : Nat) (flips : List (BitVec 64 × BitVec 16)) : State :=
  let x := s.chan k
  if s.bit (oIce + 0x300) 31 = false ∨ s.memOn k = false ∨ s.memFailed k = true ∨ s.srState k ≠ 0 ∨ x.alert = true
      ∨ (s.chooseCmd k).isSome = true then s
  else
    let wins := match x.pos with | none => s.scrubWins | some _ => x.wins
    match s.scrubNext k (x.pos.getD 0) wins with
    | none => if x.pos.isSome then s.lapEnd k else s
    | some a =>
      let line := a / 128 * 128
      let s1 := ((s.setReg (oScrpos k) (BitVec.ofNat 32 line)).setReg (oScrpos k + 4) (BitVec.ofNat 32 (line / 2 ^ 32)))
      let s2 := if x.wq.any (fun e => decide (e.line = line)) then s1 else s1.scrubLine k line (flips.take 16) (flips.drop 16)
      let s3 := s2.setChan k { s2.chan k with pos := some (line + 128), wins := wins }
      if (s.scrubNext k (line + 128) wins).isSome then s3 else s3.lapEnd k

/-! ## Time and registers -/

/-- Elapsed µs: tokens gather (R324), and the lap clock of a channel that is ON runs (R345). -/
def State.memUs (s : State) (us : Nat) : State :=
  (List.range 8).foldl (fun t k =>
    let x := t.chan k
    let tok := (List.range 16).foldl (fun m j =>
      if t.bit (oRegPort k j) 31 then
        let top : Int := 2 * (t.fld (oRegPort k j + 4) 11 0 : Nat)
        SMap.set (fun _ => 0) m j (min top (x.tokens j + ((us * t.fld (oRegPort k j + 4) 31 22 : Nat) : Int)))
      else m) x.tok
    t.setChan k { x with tok := tok, lapUs := if x.pos.isSome ∧ t.memOn k = true then x.lapUs + us else x.lapUs }) s

/-- The widths of JESD79-5 devices: row, line-column, bank-group and bank bits by device width and density. -/
def jedecGeom (width dens : Nat) (g : Geom) : Bool :=
  decide (g.rowB = if dens = 2 then 17 else 16) && decide (g.colB = if width = 0 then 7 else 6)
    && decide (g.bgB = if width = 2 then 2 else 3) && decide (g.baB = 2)

def State.regWrite (s : State) (k j : Nat) (isPort : Bool) (o : Nat) (v : Word) : WRes :=
  let en := s.bit (oRegPort k j) 31
  if isPort then
    if bitsOf v 15 12 = 4 ∧ bitsOf v 11 7 > 7 then .rej 0x01
    else if bitsOf v 31 31 = 1 ∧ s.fld (oRegPort k j + 4) 31 22 = 0 then .rej 0x01
    else if en = true ∧ bitsOf v 31 31 = 1 ∧ (bitsOf v 15 12 ≠ s.fld (oRegPort k j) 15 12 ∨ bitsOf v 11 7 ≠ s.fld (oRegPort k j) 11 7) then .rej 0x03
    else if bitsOf v 31 31 = 1 ∧ (match s.regulator k (bitsOf v 15 12, bitsOf v 11 7) with | some i => i != j | none => false) = true then .rej 0x05
    else .ok (s.plainWrite o v)
  else if en then .rej 0x03
  else .ok (s.plainWrite o v)

/-- The MEM block of a channel. -/
def State.memRegWrite (s : State) (k off : Nat) (v : Word) : WRes :=
  let o := oMem k + off
  let notOff := s.pwr (oPwrMem k) ≠ 0
  if 0x100 ≤ off ∧ off < 0x200 then s.regWrite k ((off - 0x100) / 0x10) (decide (off % 0x10 = 0)) o v
  else match off with
    | 0x000 =>
      if bitsOf v 23 16 % 2 = 1 then .rej 0x01
      else if notOff then .rej 0x03
      else if (bitsOf v 27 26 = 2 ∧ bitsOf v 28 28 = 1) ∨ (bitsOf v 27 26 = 0 ∧ bitsOf v 28 28 = 0) then .rej 0x05
      else
        let other := if k % 2 = 0 then k + 1 else k - 1
        if s.pwr (oPwrMem other) ≠ 0 ∧ bitsOf v 31 29 ≠ s.fld (oMem other) 31 29 then .rej 0x05 else .ok (s.plainWrite o v)
    | 0x00C =>
      if notOff then .rej 0x03
      else if jedecGeom (s.fld (oMem k) 27 26) (s.fld (oMem k) 25 24) (geomOf v) = false ∨ (geomOf v).bits > 31 then .rej 0x05
      else .ok (s.plainWrite o v)
    | 0x010 => if notOff then .rej 0x03 else .ok (s.plainWrite o v)
    | 0x018 => if bitsOf v 14 8 ≥ bitsOf v 22 16 then .rej 0x05 else .ok (s.plainWrite o v)
    | 0x01C => if 1 ≤ bitsOf v 15 12 ∧ bitsOf v 15 12 ≤ 3 then .rej 0x01 else .ok (s.plainWrite o v)
    | _ => .ok (s.plainWrite o v)

/-- SYS_DRAMIL (R316). -/
def State.dramilWrite (s : State) (v : Word) : WRes :=
  let n := ((List.range 8).filter (fun k => decide (bitsOf v k k = 1))).length
  if (List.range 8).any (fun k => s.pwr (oPwrMem k) != 0) then .rej 0x03
  else if bitsOf v 31 30 = 1 ∧ ([1, 2, 4, 8].contains n) = false then .rej 0x05
  else .ok (s.plainWrite oDramil v)

/-- What refuses EN = 1 and EN = 0 of a channel (R316, R361, MEM_CTL). -/
def State.memEnCheck (s : State) (k : Nat) : Option Nat :=
  if s.fld (oMem k) 23 16 = 0 ∨ s.fld (oMem k) 15 8 = 0 ∨ s.fld (oMem k) 7 0 = 0 then some 0x05
  else if (s.partners k).any (fun j => s.dramCap j != s.dramCap k) then some 0x05
  else none

def State.memDisCheck (s : State) (k : Nat) : Option Nat :=
  if s.ranges.any (fun r => (s.dramSpan (s.rngBase r) (s.rngSize r)).1.contains k || (s.dramSpan (s.rngMeta r) (s.metaSize r)).1.contains k) then
    some 0x03
  else none

/-- Reads of the MEM block: queues, throttles and regulators as they stand. -/
def State.memRegRead (s : State) (k off : Nat) : Word :=
  let x := s.chan k
  let w := s.reg (oMem k + off)
  if off = 0x008 then withBits (withBits w 22 16 x.rq.length) 14 8 x.wq.length
  else if off = 0x020 then withBits w 5 0 x.nThr
  else if 0x100 ≤ off ∧ off < 0x200 ∧ off % 0x10 = 8 then
    let j := (off - 0x100) / 0x10
    BitVec.ofNat 32 ((if x.heldBy j = [] then 0 else 2 ^ 31) + (x.tokens j / 2).toNat)
  else w

/-! ## Commands -/

/-- R315, R329 step 2. -/
def execMr4Poll (k : Chan) (code : BitVec 5) (elevated : Bool) (s : State) : Host.Outcome State Fault Refusal :=
  .next (if s.memRuns k.val ∨ s.pwr (oPwrMem k.val) = 1 then
    (if s.srState k.val = 0 ∨ s.srState k.val = 4 then s.mr4 k.val code.toNat elevated else s) else s)

/-- R315: the drift is applied at the next refresh. -/
def execDqsOscCheck (k : Chan) (drift : Int) (s : State) : Host.Outcome State Fault Refusal :=
  .next (if s.memOn k.val = true ∧ s.srState k.val = 0 then s.setChan k.val { s.chan k.val with drift := some drift } else s)

def execDramCommandIssue (k : Chan) (s : State) : Host.Outcome State Fault Refusal := .next (s.memCycle k.val)

def execDramReadData (k : Chan) (flips : List (BitVec 64 × BitVec 16)) (s : State) : Host.Outcome State Fault Refusal :=
  .next (s.memData k.val flips)

/-- R331: outside self-refresh a refresh of the rank becomes owed. -/
def execRefreshDue (k : Chan) (rank : Fin 2) (s : State) : Host.Outcome State Fault Refusal :=
  .next (let x := s.chan k.val
    if s.memRuns k.val = true ∧ s.srState k.val ≤ 1 ∧ rank.val < s.ranks k.val then
      s.setChan k.val { x with owed := SMap.set (fun _ => 0) x.owed rank.val (x.owedOf rank.val + 1) }
    else s)

/-- R325: the window ends. -/
def execHammerWindowEnd (k : Chan) (s : State) : Host.Outcome State Fault Refusal :=
  .next (s.setChan k.val { s.chan k.val with acts := [], thr := [] })

/-- R324: a held request goes on, if the controller has room for it. -/
def execRegulatorRelease (k : Chan) (j : Fin 16) (s : State) : Host.Outcome State Fault Refusal :=
  .next (let x := s.chan k.val
    match x.heldBy j.val with
    | [] => s
    | (w, p) :: rest =>
      if 2 ≤ x.tokens j.val then
        let s1 := (s.setChan k.val { x with held := SMap.set (fun _ => []) x.held j.val rest }).takeTokens k.val j.val p
        if s.memOn k.val then
          match s1.memAccept k.val w p with
          | some t => t
          | none => s
        else (s1.log (mkRec (routerReq (20 * (k.val / 2) + 16 + k.val % 2)) 0x014 (pktAddr p) 1 p.src.toNat)).answer p w 1 false []
      else s)

/-- R327. -/
def execSelfRefreshIdle (k : Chan) (s : State) : Host.Outcome State Fault Refusal :=
  .next (if s.memOn k.val = true ∧ s.srState k.val = 0 ∧ s.memFailed k.val = false ∧ s.fld (oMem k.val + 0x14) 31 16 ≠ 0
      ∧ s.memIdle k.val = true ∧ (s.chan k.val).alert = false then s.setSr k.val 1 else s)

/-- R328: a request waits in self-refresh, and SRX is issued. -/
def execSelfRefreshExit (k : Chan) (s : State) : Host.Outcome State Fault Refusal :=
  .next (if s.memRuns k.val = true ∧ s.srState k.val = 2 ∧ s.memIdle k.val = false then s.setSr k.val 3 else s)

def execRevalidationDone (k : Chan) (drifted pass : Bool) (s : State) : Host.Outcome State Fault Refusal :=
  .next (s.revalidated k.val drifted pass)

/-- R332: command parity, on an RDIMM. -/
def execAlertN (k : Chan) (s : State) : Host.Outcome State Fault Refusal :=
  .next (let x := s.chan k.val
    if s.memRuns k.val = true ∧ s.bit (oMem k.val) 28 = true ∧ s.memFailed k.val = false ∧ x.alert = false ∧ s.srState k.val ≤ 1 then
      let n := if x.reissue then x.reissues + 1 else 0
      let s1 := (s.count (oMem k.val + 0x3C) 31 0 1).log (mkRec (memReq k.val) 0x0B4 0 1 (memReq k.val))
      if n = 4 then
        ((s1.setChan k.val { x with alert := true, reissue := false, reissues := 0, retrain := true }).setSr k.val 4).log
          (mkRec (memReq k.val) 0x0B5 0 1 (memReq k.val))
      else s1.setChan k.val { x with alert := true, reissues := n }
    else s)

/-- R332: ALERT_N releases, and the commands are issued again. -/
def execAlertNRelease (k : Chan) (s : State) : Host.Outcome State Fault Refusal :=
  .next (if (s.chan k.val).alert then s.setChan k.val { s.chan k.val with alert := false, reissue := true } else s)

def execPatrolScrubRead (k : Chan) (flips : List (BitVec 64 × BitVec 16)) (s : State) : Host.Outcome State Fault Refusal :=
  .next (s.patrol k.val flips)

def execReencryptDone (r : Rng) (page : Nat) (s : State) : Host.Outcome State Fault Refusal := .next (s.reencrypted r.val page)

end Sys2Proof.Machine
end

