-- ==== Sys2Proof/Machine/Net.lean ====
section
/-! DEFINITION. Requests and responses on the network (R195 to R206): the destination of an address, the way there, the external port of
an engine (R133 to R141, R146 to R152), and what a response means to its requester. -/

namespace Sys2Proof.Machine

/-! ## Destinations (R203) -/

/-- The router and the unit of a destination. -/
structure Dest where
  router : Nat
  unit : Nat
  deriving DecidableEq, Repr

/-- The die, router and unit of DEST (R199). -/
def Dest.code (d : Dest) : Nat :=
  if d.router < 80 then destOf (d.router / 20) (d.router % 20) d.unit else destOf 4 (d.router - 80) d.unit

/-- The unit that holds a register block. -/
def blkDest (l : RegLoc) : Dest :=
  match l.blk with
  | .sys | .mgm | .lnk => ⟨80, 0⟩
  | .cfg | .pld => ⟨81, 0⟩
  | .sch => ⟨82, 0⟩
  | .dbg => ⟨83, 0⟩
  | .tim | .rtc => ⟨85, 0⟩
  | .ice => ⟨86, 0⟩
  | .mbx => ⟨87, 0⟩
  | .mem => ⟨20 * (l.inst / 2) + 16 + l.inst % 2, 0⟩
  | .ser => ⟨20 * (l.inst / 12) + 18, 1⟩
  | .cnv => ⟨20 * l.inst + 19, 1⟩
  | .eng => ⟨20 * (l.inst / 272) + l.inst % 272 / 17, 0⟩

def oNocfab (u : Nat) : Nat := 0x10100 + 4 * u

/-- The destination of an address; none is a decode miss. -/
def State.addrDest (s : State) (a : Nat) : Option Dest :=
  match regionOf a with
  | none => none
  | some .dram => (s.dramPlace a).map (fun p => ⟨20 * (p.1 / 2) + 16 + p.1 % 2, 0⟩)
  | some .engine =>
    let l := (a - engBase) / 0x40000
    some ⟨20 * (l / 256) + l % 256 / 16, 0⟩
  | some .fabric =>
    let o := oNocfab ((a - fabBase) / 2 ^ 26)
    if s.bit o 31 then some ⟨20 * s.fld o 5 4 + s.fld o 3 0, 1⟩ else none
  | some .control => (locate (a - ctlBase)).map blkDest

/-- The router at which the requests of a requester enter (R15, R196, R197). -/
def State.srcRouter (s : State) (q : Nat) : Nat :=
  let (die, n) := s.reqPort q
  if die < 4 then (if q / 0x1000 ≥ 8 ∧ q % 0x1000 = 0 then 20 * die + 19 else 20 * die + n)
  else 80 + n % 8

/-- The number of a router on its die. -/
def routerNo (r : Nat) : Nat := if r < 80 then r % 20 else r - 80

/-- The routers from a requester to a destination. -/
def State.wayTo (s : State) (v : RouteEnv) (q : Nat) (d : Dest) : List Nat :=
  let r := s.srcRouter q
  v.path d.router (routerNo r + routerNo d.router) r

/-- The tile of a destination is ON; the hub always is. -/
def State.destOn (s : State) (d : Dest) : Bool :=
  match routerTile d.router with
  | some t => s.isOn (oPwrTile t)
  | none => true

/-- The last router on a path that is ON (R205). -/
def State.lastOn (s : State) (l : List Nat) : Nat :=
  ((l.filter (fun r => s.destOn ⟨r, 0⟩)).getLast?).getD 80

/-- R205: the router that answers a request of `q` to a destination that is not ON. -/
def State.offRouter (s : State) (q : Nat) (d : Dest) : Nat :=
  s.lastOn (s.wayTo (match routerTile d.router with | some t => s.routeEnv.towardsOff t | none => s.routeEnv) q d)

/-- R200, R201: a TYPE that is not the packet's own, LEN outside the listed values, a misaligned body, a reserved bit, or a body of another
length. -/
def malformed (write : Bool) (p : Pkt) : Bool :=
  let n := p.len.toNat
  decide (p.typ ≠ if write then 1 else 0) || !([0, 1, 2, 4, 8].contains n) || p.zeroBit || decide (n ≠ 0 ∧ pktAddr p % (32 * n) ≠ 0)
    || (write && decide (p.body.length ≠ 32 * n)) || (!write && decide (p.body ≠ []))

/-- R201: a packet is discarded at the first router that receives it. -/
def State.discardPkt (s : State) (p : Pkt) : State :=
  let r := routerReq (s.srcRouter p.src.toNat)
  (s.count 0x10008 31 0 1).log (mkRec r 0x060 (pktAddr p) 1 p.src.toNat)

/-- R201 of a response: the bytes it carries are those of its LEN, none where it reports an error or acknowledges a write. -/
def malformedRsp (write : Bool) (r : Rsp) : Bool :=
  let n := r.len.toNat
  decide (r.typ ≠ if write then 3 else 2) || r.zeroBit || !([0, 1, 2, 4, 8].contains n) || (write && decide (n ≠ 0))
    || decide (r.data.length ≠ if write then 0 else if n ≠ 0 then 32 * n else if r.data = [] then 0 else 16)

/-- R148: a request of an engine whose epoch is not the one a port holds. -/
def State.oldEpoch (s : State) (port : Nat) (p : Pkt) : Bool :=
  (engOfReq p.src.toNat).isSome && decide (p.epoch.toNat ≠ s.portEpoch port p.lid.toNat)

/-- R148: the stale acknowledgement. -/
def State.staleAck (s : State) (write : Bool) (p : Pkt) : State := (s.countStale p.lid.toNat).answer p write 2 false []

/-- An error response, with a record of a code at `src`. -/
def State.refusePkt (s : State) (write : Bool) (p : Pkt) (src code : Nat) : State :=
  (s.answer p write 1 false []).log (mkRec src code (pktAddr p) 1 p.src.toNat)

/-! ## Waiting pairs (R206) -/

/-- A packet of a pair that waits for its new route, and that was not outstanding on the old one. -/
def State.pairHeld (s : State) (p : Pkt) (d : Dest) : Bool :=
  s.net.waits.any (fun (a, b, tags) => a == p.src.toNat && b == d.code && !tags.contains p.tag.toNat)

/-- R206: a pair whose packets are outstanding on another way than the one it would take now waits. -/
def State.noteMoved (s : State) (p : Pkt) (d : Dest) : State :=
  let way := s.wayTo s.routeEnv p.src.toNat d
  let old := s.net.outst.filter (fun q => q.src == p.src.toNat && !q.way.isEmpty && q.way != way
    && (s.addrDest q.addr).any (fun e => e.code == d.code))
  if old = [] ∨ s.net.waits.any (fun w => w.1 == p.src.toNat && w.2.1 == d.code) = true then s
  else { s with net := { s.net with waits := s.net.waits ++ [(p.src.toNat, d.code, old.map OutReq.tag)] } }

/-- The way a request takes is kept with it until it has been answered. -/
def State.onWay (s : State) (p : Pkt) (write : Bool) (way : List Nat) : State :=
  { s with net := { s.net with outst := s.net.outst.map (fun q =>
      if q.src = p.src.toNat ∧ q.tag = p.tag.toNat ∧ q.write = write then { q with way := way } else q) } }

/-- The pairs with requests outstanding over module `m`: source, destination, tags. -/
def State.pairsOver (s : State) (m : Nat) : List (Nat × Nat × List Nat) :=
  let uses (q : OutReq) : Option (Nat × Nat) :=
    (s.addrDest q.addr).bind (fun d =>
      if (stepsOf (s.wayTo s.routeEnv q.src d)).any (fun (a, b) => (stepModule a b).any (fun x => x.1 == m)) then some (q.src, d.code) else none)
  let prs := (s.net.outst.filterMap uses).dedup
  prs.map (fun (a, b) => (a, b, (s.net.outst.filter (fun q => uses q == some (a, b))).map OutReq.tag))

/-- R206: a module leaves service: its bit sets, and its pairs wait or move. -/
def State.leavesService (s : State) (m : Nat) : State :=
  if s.lstate m = 7 ∨ s.bit oNocstat m = true then s
  else
    let w := s.pairsOver m
    let s1 := (s.setBit oNocstat m true).log (mkRec (lnkRouter m false) 0x061 m m (lnkRouter m false))
    let s2 := { s1 with net := { s1.net with waits := s1.net.waits ++ w } }
    (if 24 ≤ m then s2.strStopTile (m - 24) else s2).lostPaths

/-- R206: every packet of a pair on its old route has been answered. -/
def State.pairMoves (s : State) (q d : Nat) : State :=
  let busy (e : Nat × Nat × List Nat) : Bool := e.2.2.any (fun t => s.net.outst.any (fun o => o.src == q && o.tag == t))
  { s with net := { s.net with waits := s.net.waits.filter (fun e => !(e.1 == q && e.2.1 == d && !busy e)) } }

/-! ## The external port of an engine -/

/-- The granules a packet touches: the 16-byte words in order, each with the byte enables of its two granules. -/
def pktWords (p : Pkt) : List (Nat × Nat × Nat) :=
  (List.range (pktBytes p / 16)).map (fun i =>
    let be := if p.len = 0 then p.be.toNat else 0xFFFF
    (i, be % 256, be / 256))

/-- A read of one granule through the external port: data, unusable, the granules corrected, and whether it is uncorrectable. -/
def EngSt.portRead (x : EngSt) (e : Nat) (im : Bool) (k be : Nat) : DWord × Bool × List Nat × Bool :=
  if be = 0 then (0, false, [], false)
  else
    let (d, c) := x.readGran e im k
    (d, eccBad c, if c = .corrected then [k] else [], c == .uncorrectable)

/-- R135: a read of the window of an engine at local offset `o`. -/
def State.engPortRead (s : State) (e o : Nat) (p : Pkt) : State :=
  let im := decide (0x30000 ≤ o)
  let k0 := (if im then o - 0x30000 else o) / 8
  let x := s.engSt e
  let gs := (pktWords p).flatMap (fun (i, b0, b1) => [x.portRead e im (k0 + 2 * i) b0, x.portRead e im (k0 + 2 * i + 1) b1])
  let s1 := s.engCorrectAll e im (gs.flatMap (fun g => g.2.2.1))
  let bad := gs.any (fun g => g.2.1)
  let s2 := if gs.any (fun g => g.2.2.2) then s1.log (mkRec reqSch 0x04B (pktAddr p) 1 p.src.toNat) else s1
  s2.answer p false 0 bad (gs.flatMap (fun g => bytesLE 8 g.1.toNat))

/-- R136, R137: a write of the window. A refused granule refuses the whole packet. -/
def State.engPortWrite (s : State) (e o : Nat) (p : Pkt) : State :=
  let im := decide (0x30000 ≤ o)
  let k0 := (if im then o - 0x30000 else o) / 8
  let x := s.engSt e
  let data := pktData p
  let ws := pktWords p
  let word (i : Nat) : Quad := BitVec.ofNat 128 (ofBytesLE ((data.drop (16 * i)).take 16))
  if im then
    -- R122: an engine cannot write its own instruction memory
    if (p.len = 0 ∧ p.be ≠ 0xFFFF) ∨ p.src.toNat = engReq e then s.refusePkt true p (engReq e) 0x048
    else
      let y := ws.foldl (fun z (i, _, _) => if p.poison then z.poisonWord true (k0 / 2 + i) else z.writeWord true (k0 / 2 + i) (word i)) x
      (s.setEng e y).answer p true 0 false []
  else
    let step (z : EngSt × Bool × List Nat) (w : Nat × Nat × Nat) : EngSt × Bool × List Nat :=
      let (i, b0, b1) := w
      let (z1, r1, f1) := z.1.writeGran e (k0 + 2 * i) ((word i).setWidth 64) b0 p.poison
      let (z2, r2, f2) := z1.writeGran e (k0 + 2 * i + 1) ((word i >>> 64).setWidth 64) b1 p.poison
      (z2, z.2.1 || r1 || r2, z.2.2 ++ f1 ++ f2)
    let (y, refused, fx) := ws.foldl step (x, false, [])
    if refused then s.refusePkt true p reqSch 0x04B
    else ((s.setEng e y).engCorrectAll e false fx).answer p true 0 false []

/-- A request to the window of a logical engine. -/
def State.engServe (s : State) (write : Bool) (p : Pkt) : State :=
  let o := (pktAddr p - engBase) % 0x40000
  let l := (pktAddr p - engBase) / 0x40000
  let x := s.le l
  if x.takeover.isSome then s.setLe l { x with held := x.held ++ [(write, p)] }
  else if x.pstate = 3 then s.refusePkt write p reqSch 0x049
  else if s.isOn (oPwrEng x.phys) = false then s.refusePkt write p (routerReq (routerOfEng x.phys)) 0x014
  else if s.oldEpoch 1 p then s.staleAck write p
  else
    let s1 := if p.src.toNat = reqDbg then s.count (oEng x.phys + 0x30) 31 0 (pktBytes p / 16) else s
    if write then s1.engPortWrite x.phys o p else s1.engPortRead x.phys o p

/-! ## The fabric's windows -/

/-- The polder whose window holds an address. -/
def State.windowOf (s : State) (a : Nat) : Option Nat :=
  let u := (a - fabBase) / 2 ^ 26
  (List.range 32).find? (fun p =>
    let w := s.reg (oPgeom p + 8)
    s.bit (oPgeom p) 31 && decide (bitsOf w 9 0 ≤ u) && decide (u < bitsOf w 9 0 + bitsOf w 25 16))

/-- R69, R70, R71: the sluices of polder `x`'s tile have been opened. -/
def State.fabLive (s : State) (x : Nat) : Bool := s.cfg.done && (s.fab (x / 8)).released

/-- A request to fabric user space: the sluice ports of an inert fabric give the error flag (R69); refused by a closed polder, else handed to the fabric, which answers in its own time. -/
def State.fabServe (s : State) (write : Bool) (p : Pkt) : State :=
  if s.oldEpoch 11 p then s.staleAck write p
  else if (match s.addrDest (pktAddr p) with | some d => s.fabLive (8 * (d.router / 20)) | none => false) = false then
    s.answer p write 1 false []
  else match s.windowOf (pktAddr p) with
    | some x => if s.pstate x = 6 then s.emit (.fabricReq write p) else (s.pldRefuse x (pktAddr p) p.src.toNat).answer p write 1 false []
    | none => s.emit (.fabricReq write p)

/-- The polder that a requester ID names. -/
def polderOf (q : Nat) : Option Nat :=
  if q / 0x1000 < 4 ∧ 0x400 ≤ q % 0x1000 ∧ q % 0x1000 < 0x408 then some (8 * (q / 0x1000) + (q % 0x1000 - 0x400)) else none

/-- R69, R87: a sluice port that does not let its polder's request out. -/
def State.sluiceShut (s : State) (q : Nat) : Bool :=
  match polderOf q with
  | none => false
  | some x => !s.fabLive x || s.bit (oPgeom x) 31 && (s.pstate x ≠ 6 || bitsOf (s.pldFlags x) 0 0 = 0)

/-- R69, R87: a port that is not let out gives the error flag: the fabric is inert, or the polder runs with MASTER = 0. -/
def State.sluiceFlag (s : State) (q : Nat) : Bool :=
  match polderOf q with
  | none => false
  | some x => !s.fabLive x || decide (s.pstate x = 6)

/-! ## Responses (R202) -/

/-- A remote access of the task `g` in bank `w` is answered: an error raises BUSERR, poison POISON, both imprecise. -/
def State.remoteEnds (s : State) (e : Nat) (w : Bool) (g addr : Nat) (status : Nat) (poison : Bool) : State :=
  if status = 1 then s.impreciseCause e w g causeBuserr false addr
  else if poison then s.impreciseCause e w g causePoison false addr
  else s

/-- The data of one piece of a GETB is written locally; poison writes the marker. -/
def State.getbData (s : State) (e loc : Nat) (poison : Bool) (data : List Byte) : State :=
  let y := (List.range (data.length / 16)).foldl (fun (z : EngSt) i =>
    let k := loc / 16 + i
    if poison then z.poisonWord false k else z.writeWord false k (BitVec.ofNat 128 (ofBytesLE ((data.drop (16 * i)).take 16)))) (s.engSt e)
  s.setEng e y

/-- A host read that has failed is over: the answers to its other packets are ignored. -/
def State.hostOver (s : State) (q tag : Nat) : State :=
  let mine (o : OutReq) : Bool := o.src == q && !o.write && (match o.kind with | .host t .. => t == tag | _ => false)
  { s with net := { s.net with outst := s.net.outst.map (fun o => if mine o then { o with kind := .other } else o) } }

/-- What a response means to the unit that asked. -/
def State.respond (s : State) (o : OutReq) (r : Rsp) : State :=
  let st := r.status.toNat
  let ok := decide (st = 0)
  let live (e : Nat) (w : Bool) (g : Nat) : Bool := ((s.engSt e).bank w).busy && decide (((s.engSt e).bank w).gen = g)
  match o.kind with
  | .getw e w g dr =>
    let s1 := if ok = true ∧ r.poison = false ∧ live e w g = true then
        s.setEng e ((s.engSt e).setBank w (arrived (((s.engSt e).bank w).setV dr (BitVec.ofNat 128 (ofBytesLE r.data))) dr))
      else s
    s1.remoteEnds e w g o.addr st r.poison
  | .putw e w g | .rsend e w g => s.remoteEnds e w g o.addr st false
  | .getb e w g loc rem left =>
    let n := pieceBytes (pieceLen rem left)
    let s1 := if ok = true ∧ live e w g = true then s.getbData e loc r.poison r.data else s
    let s2 := if ok = true ∧ live e w g = true ∧ n < left then s1.issuePiece e w g false (loc + n) (rem + n) (left - n) else s1
    s2.remoteEnds e w g o.addr st false
  | .putb e w g loc rem left =>
    let n := pieceBytes (pieceLen rem left)
    let s1 := if ok = true ∧ n < left then s.issuePiece e w g true (loc + n) (rem + n) (left - n) else s
    s1.remoteEnds e w g o.addr st false
  | .pairWrite _ | .other => s
  | .cqRecord q => s.cqAnswer q ok
  | .strSample c b | .strRecord c b => s.strAck c b o.addr ok
  | .strFetch c q => s.txData c q (ok && !r.poison) r.data
  | .redResult g n w rc => s.redAck g n w rc
  | .clsSlot t k => s.clsAck t k ok
  | .laneFetch l k i => s.laneData l k i (ok && !r.poison) r.data
  | .host tag wr k n =>
    if wr then s
    else if ok then s.emit (.hostCpl tag 0 r.poison (((quadWords r.data).drop k).take n))
    else (s.hostOver o.src tag).emit (.hostCpl tag 1 false [])
  | .debug ch => s.dbgAnswer ch o.write st r.poison r.data
where
  /-- GETW data has come. -/
  arrived (b : EBank) (dr : Nat) : EBank := { b with got := b.got ++ [keyV dr] }
  /-- Bytes as 32-bit words. -/
  quadWords (l : List Byte) : List Word := (List.range (l.length / 4)).map (fun i => BitVec.ofNat 32 (ofBytesLE ((l.drop (4 * i)).take 4)))

/-- R123: an engine that stalled with 16 accesses outstanding goes on. -/
def State.markLate (s : State) (o : OutReq) : State :=
  match o.kind.owner with
  | none => s
  | some (e, _, _) =>
    if 16 ≤ s.engOut e then s.setEng e ((s.engSt e).setCur { (s.engSt e).cur with late := true }) else s

/-- A response reaches its requester. One that nothing here asked for goes to the fabric or to another unit outside. -/
def State.deliver (s : State) (write : Bool) (r : Rsp) : State :=
  let q := r.dst.toNat
  match s.net.outst.find? (fun o => o.src == q && o.tag == r.tag.toNat && o.write == write) with
  | some o =>
    let s1 := s.markLate o
    ({ s1 with net := { s1.net with outst := s1.net.outst.erase o } }).respond o r
  | none =>
    match polderOf q with
    | some x => if s.bit (oPgeom x) 31 = true ∧ s.pstate x ≠ 6 then s.count (oIsocnt x) 31 0 1 else s.emit (.response r write)
    | none => s.emit (.response r write)

end Sys2Proof.Machine
end

