-- ==== Sys2Proof/Machine/Power.lean ====
section
/-! DEFINITION. Unit power states (R34 to R38): starts, stops and what each brings to the unit, its children and its contents; the
write of a power register. -/

namespace Sys2Proof.Machine

/-! ## The units -/

def uTile (t : Nat) : Sys2Proof.PUnit := .tile (Fin.ofNat 4 t)
def uConv (n : Nat) : Sys2Proof.PUnit := .conv (Fin.ofNat 4 n)
def uDram (k : Nat) : Sys2Proof.PUnit := .dram (Fin.ofNat 8 k)
def uLane (l : Nat) : Sys2Proof.PUnit := .lane (Fin.ofNat 48 l)
def uClu (c : Nat) : Sys2Proof.PUnit := .clu (Fin.ofNat 64 c)
def uPld (p : Nat) : Sys2Proof.PUnit := .pld (Fin.ofNat 32 p)
def uEng (e : Nat) : Sys2Proof.PUnit := .eng (Fin.ofNat 1088 e)

def tileUnits : List Sys2Proof.PUnit := (List.range 4).map uTile
def convUnits : List Sys2Proof.PUnit := (List.range 4).map uConv
def dramUnits : List Sys2Proof.PUnit := (List.range 8).map uDram
def laneUnits : List Sys2Proof.PUnit := (List.range 48).map uLane
def cluUnits : List Sys2Proof.PUnit := (List.range 64).map uClu
def pldUnits : List Sys2Proof.PUnit := (List.range 32).map uPld
def engUnits : List Sys2Proof.PUnit := (List.range 1088).map uEng

/-- The engines of cluster instance `c`. -/
def cluEngs (c : Nat) : List Sys2Proof.PUnit := (List.range 17).map (fun i => uEng (272 * (c / 16) + 17 * (c % 16) + i))

/-- The children of a tile, its engines apart. -/
def tileDirect (t : Nat) : List Sys2Proof.PUnit :=
  [uConv t] ++ (List.range 12).map (fun i => uLane (12 * t + i)) ++ (List.range 16).map (fun i => uClu (16 * t + i)) ++
    [uDram (2 * t), uDram (2 * t + 1)] ++ (List.range 8).map (fun i => uPld (8 * t + i))

/-- The children of a unit (R37). -/
def childUnits : Sys2Proof.PUnit → List Sys2Proof.PUnit
  | .tile t => tileDirect t.val
  | .clu c => cluEngs c.val
  | _ => []

/-- The units below a tile: engines, then its direct children. -/
def belowTile (t : Nat) : List Sys2Proof.PUnit := (List.range 272).map (fun i => uEng (272 * t + i)) ++ tileDirect t

def State.pwrEn (s : State) (u : Sys2Proof.PUnit) : Bool := s.bit (pwrOff u) 31

/-- Engines whose power register reads ON. -/
def State.onEngines (s : State) : List Nat :=
  (s.regs.filter (fun e => decide (oEng 0 ≤ e.1) && decide (e.1 < oEng 1088) && decide ((e.1 - oEng 0) % 0x1000 = 8) &&
    decide (bitsOf e.2 26 24 = 2))).map (fun e => (e.1 - oEng 0) / 0x1000)

/-- A tile that stops keeps its configuration cells: RET, or deep-night mode (R35, R41). -/
def State.tileKeeps (s : State) (t : Nat) : Bool := s.bit (oPwrTile t) 30 || decide (s.fld (oPwrTile t) 23 20 = 3)

/-! ## Starting -/

/-- R35, R38, R156: a unit leaves OFF: what it has kept so far is lost unless RET asks for it now. -/
def State.leaveOff (s : State) (u : Sys2Proof.PUnit) : State :=
  let o := pwrOff u
  match u with
  | .tile t =>
    if s.sys.kept.contains o then
      let s1 := { s with sys := { s.sys with kept := s.sys.kept.filter (· ≠ o) } }
      if s.tileKeeps t.val then s1 else s1.loseFrames t.val
    else s
  | .eng e =>
    let cause := s.fld o 23 20
    let ret := s.bit o 30 || decide (cause = 3) || (decide (cause = 1) && s.bit (oPwrClu (engClu e.val)) 30)
    if s.bit (oEng e.val + 0x10) 1 = true ∧ ret = false then
      (s.setEng e.val (s.engSt e.val).lose).setBit (oEng e.val + 0x10) 1 false
    else s
  | _ => s

/-- A unit enters STARTING. -/
def State.startUnit (s0 : State) (u : Sys2Proof.PUnit) : State :=
  let s := s0.leaveOff u
  let s1 := (s.setPwr (pwrOff u) 1).setBit (pwrOff u) 29 false
  match u with
  | .tile t => s1.lnkDieChanged (oPwrTile t.val)
  | .conv n => (s1.cnvBringUp n.val).lnkDieChanged (oPwrCnv n.val)
  | .dram k => s1.memStart k.val
  | _ => s1

/-- Units of a list that hold EN = 1 and may start do so. -/
def State.startAll (s : State) (l : List Sys2Proof.PUnit) : State :=
  l.foldl (fun r u => if r.pwrEn u = true ∧ r.mayStart u = true then r.startUnit u else r) s

/-- A unit held at EN = 0, forced off or ABSENT. -/
def State.barred (s : State) (u : Sys2Proof.PUnit) : Bool :=
  !s.pwrEn u || s.sys.forced.contains (pwrOff u) || decide (s.pwr (pwrOff u) = 4)

/-- A unit that cannot come ON, for itself or for a parent. -/
def State.hopeless (s : State) (u : Sys2Proof.PUnit) : Bool :=
  s.barred u || (match parentUnit u with
    | none => false
    | some p => s.barred p || (match parentUnit p with | none => false | some q => s.barred q))

/-- R42: the order of the restart. Polders, which the order does not name, come with the DRAM channels. -/
def nightOrder : List (List Sys2Proof.PUnit) :=
  [tileUnits, dramUnits ++ pldUnits, cluUnits ++ engUnits, convUnits, laneUnits]

def State.recorded (s : State) (l : List Sys2Proof.PUnit) : List Sys2Proof.PUnit :=
  l.filter (fun u => s.sys.nightUnits.contains (pwrOff u))

/-- Every recorded unit of a list has restarted, as far as it can. -/
def State.restarted (s : State) (l : List Sys2Proof.PUnit) : Bool := (s.recorded l).all (fun u => s.isOn (pwrOff u) || s.hopeless u)

/-- R42: the recorded units whose turn has come start. -/
def State.exitPump (s : State) : State :=
  (nightOrder.foldl (fun (p : State × Bool) l =>
    if p.2 then
      let r := p.1.startAll (p.1.recorded l)
      (r, r.restarted l)
    else p) (s, true)).1

/-- R42: the exit goes on where a unit that it waited for has come to rest. -/
def State.exitNext (s : State) : State := if s.nightState = 3 then s.exitPump else s

/-- Units that wait in OFF with EN = 1 start; in deep-night mode the exit decides which. -/
def State.startWaiting (s : State) (l : List Sys2Proof.PUnit) : State :=
  if s.nightState = 0 then s.startAll l else if s.nightState = 3 then s.exitPump else s

/-! ## Stopping -/

/-- What a unit does as it enters STOPPING. -/
def State.stopHook (s : State) (u : Sys2Proof.PUnit) (cause : Nat) : State :=
  match u with
  | .eng e => s.revokeEngine e.val true
  | .conv n => (s.strStopTile n.val).timeDieOff (8 + n.val)
  | .lane l => s.laneOff l.val
  | .pld p => s.pldOff p.val (decide (cause = 1) && s.tileKeeps (p.val / 8))
  | .tile t =>
    ((((((s.strStopTile t.val).redTileOff t.val).scrubAbandon t.val).fabShut t.val).timeDieOff t.val).lnkDieChanged (oPwrTile t.val)).lostPaths
  | _ => s

/-- A unit that is ON enters STOPPING with a CAUSE. -/
def State.stopOne (s : State) (cause : Nat) (u : Sys2Proof.PUnit) : State :=
  let o := pwrOff u
  if s.pwr o = 2 then (((s.setPwr o 3).setFld o 23 20 cause).setBit o 29 false).stopHook u cause else s

/-- R37, R11: a unit stops, its children that are ON before it. A tile's counter caches are written back first (R361). -/
def State.stopUnit (s : State) (u : Sys2Proof.PUnit) (cause : Nat) : State :=
  if s.pwr (pwrOff u) ≠ 2 then s
  else match u with
    | .clu c => ((cluEngs c.val).foldl (State.stopOne · 1 ·) s).stopOne cause u
    | .tile t =>
      let s1 := ((s.iceFlush t.val).laneSources (some t.val)).setFld (oPwrTile t.val) 23 20 cause
      ((belowTile t.val).foldl (State.stopOne · 1 ·) s1).stopOne cause u
    | _ => s.stopOne cause u

/-- The contents of a unit that goes OFF (R35, R38). -/
def State.offHook (s : State) (u : Sys2Proof.PUnit) : State :=
  match u with
  | .eng e => (s.engineMem e.val).unhalt e.val
  | .dram k => s.memOff k.val (s.bit (oPwrMem k.val) 30 || decide (s.fld (oPwrMem k.val) 23 20 = 3))
  | .tile t => if s.tileKeeps t.val then { s with sys := { s.sys with kept := s.sys.kept ++ [pwrOff u] } } else s.loseFrames t.val
  | .conv n => s.lnkDieChanged (oPwrCnv n.val)
  | _ => s

/-- Everything the unit accepted has completed, and its children are OFF. -/
def State.stopReady (s : State) (u : Sys2Proof.PUnit) : Bool :=
  (childUnits u).all (fun v => decide (s.pwr (pwrOff v) = 0) || decide (s.pwr (pwrOff v) = 4)) &&
    (match u with | .dram k => s.memIdle k.val | _ => true)

def State.addOffMin (s : State) (o : Nat) : State :=
  if s.sys.offMin.contains o then s else { s with sys := { s.sys with offMin := s.sys.offMin ++ [o] } }

/-- UNIT_STOP_DONE. -/
def State.stopDone (s : State) (u : Sys2Proof.PUnit) : State :=
  if s.pwr (pwrOff u) = 3 ∧ s.stopReady u = true then ((s.setPwr (pwrOff u) 0).addOffMin (pwrOff u)).offHook u else s

/-- UNIT_OFF_MIN_EXPIRY. -/
def State.offMinOver (s : State) (u : Sys2Proof.PUnit) : State :=
  if s.offMinRuns (pwrOff u) then
    ({ s with sys := { s.sys with offMin := s.sys.offMin.filter (· ≠ pwrOff u) } }).startWaiting [u]
  else s

/-! ## Reaching ON -/

/-- What completes a start. -/
def State.startReady (s : State) (u : Sys2Proof.PUnit) : Bool :=
  match u with
  | .conv n => decide (s.fld (oDstat n.val) 31 29 = 1) && (SMap.get (fun _ => none) s.tim.reps (8 + n.val)).isSome
  | .dram k => s.memReady k.val
  | _ => true

/-- A unit that has come ON. An engine with HOR, or caught, comes ON halted (R400, R407). -/
def State.onHook (s : State) (u : Sys2Proof.PUnit) : State :=
  match u with
  | .tile t => (if s.cfg.done then s.fabOpen t.val else s).lnkDieChanged (oPwrTile t.val)
  | .conv n => (s.cnvOn n.val).lnkDieChanged (oPwrCnv n.val)
  | .lane l => s.laneOn l.val
  | .pld p => s.pldOn p.val
  | .eng e =>
    let s1 := s.engineStale e.val (s.bit (oEng e.val + 0x10) 1)
    if s1.bit (oEcfg e.val) 26 = true ∨ s1.dbg.caught.contains e.val = true then
      ({ s1 with dbg := { s1.dbg with caught := s1.dbg.caught.filter (· ≠ e.val) } }).onHalted e.val
    else s1
  | _ => s

/-- The CAUSE of a stop that became due while a unit was STARTING: a recorded unit follows its step of R41, else a forced stop, the
parent's (R37), or its own EN (R36). -/
def State.dueCause (s : State) (u : Sys2Proof.PUnit) : Option Nat :=
  let o := pwrOff u
  if s.nightState = 1 ∧ s.sys.nightStops = true ∧ s.sys.nightUnits.contains o = true then some 3
  else if (SMap.find s.sys.due o).isSome then SMap.find s.sys.due o
  else if s.parentOn u = false then some 1
  else if s.pwrEn u = false then some 0
  else if s.nightState = 1 ∧ s.sys.nightStops = true then some 3
  else none

/-- UNIT_START_DONE: the unit is ON; a stop that became due while it was starting follows at once (R36, R37, R41). -/
def State.startDone (s : State) (u : Sys2Proof.PUnit) : State :=
  let o := pwrOff u
  if s.pwr o = 1 ∧ s.startReady u = true then
    let s1 := ((s.setPwr o 2).setBit o 29 false).onHook u
    match s1.dueCause u with
    | some c => ({ s1 with sys := { s1.sys with due := SMap.drop s1.sys.due o } }).stopUnit u c
    | none => s1.startWaiting (childUnits u)
  else s

/-! ## Forced off (R43) -/

/-- A DRAM channel loses its supply: what it holds and what it accepted is lost. -/
def State.memForced (s : State) (k : Nat) : State := (s.setChan k { lost := (s.chan k).lost }).memLose k

/-- A child of a tile that fails stops before it. A DRAM channel loses what it had accepted. -/
def State.forceChild (s : State) (u : Sys2Proof.PUnit) : State :=
  let o := pwrOff u
  match u with
  | .eng e => if s.pwr o = 2 then (s.forceStop o 1).revokeEngine e.val false else s
  | .dram k => if s.pwr o = 2 ∨ s.pwr o = 3 then (s.forceStop o 1).memForced k.val else s
  | _ => if s.pwr o = 2 then (s.forceStop o 1).stopHook u 1 else s

/-- A unit forced off stays OFF until software writes EN = 0. -/
def State.addForced (s : State) (o : Nat) : State :=
  if s.sys.forced.contains o then s else { s with sys := { s.sys with forced := s.sys.forced ++ [o] } }

/-- R43: tile `t` is forced OFF with CAUSE = 2, through STOPPING and after its children (R34, R37). -/
def State.tileTrip (s : State) (t : Nat) : State :=
  let o := oPwrTile t
  match s.pwr o with
  | 1 => (s.addForced o).forceStop o 2
  | 2 => ((((belowTile t).foldl State.forceChild ((s.iceLost t).setFld o 23 20 2)).addForced o).forceStop o 2).stopHook (uTile t) 2
  | _ => s

/-- A die is forced to STOPPING with CAUSE = 4 at its thermal limit; it stays OFF until software writes EN = 0 and then EN = 1. -/
def State.thermTrip (s : State) (u : Sys2Proof.PUnit) : State :=
  let o := pwrOff u
  let st := s.pwr o
  if st = 1 then (s.addForced o).forceStop o 4
  else if st = 2 then (s.addForced o).stopUnit u 4
  else s

/-! ## The power register (R34, R36, R37) -/

/-- RET = 1 is accepted for tiles, clusters, engines and DRAM channels. -/
def retAllowed : Sys2Proof.PUnit → Bool
  | .tile _ | .clu _ | .eng _ | .dram _ => true
  | _ => false

/-- R69, R78, R96, R316: what a unit asks of EN = 1 beyond its parent. -/
def State.enCheck (s : State) (u : Sys2Proof.PUnit) : Option Nat :=
  match u with
  | .clu c => if s.cfg.done = false ∨ s.bit (oEngclk (c.val / 16)) 31 = false then some 0x03 else none
  | .pld p => if s.cfg.done = false ∨ s.pstate p.val = 0 then some 0x03 else none
  | .dram k => s.memEnCheck k.val
  | _ => none

/-- R89, R361: what a unit asks of EN = 0. -/
def State.disCheck (s : State) (u : Sys2Proof.PUnit) : Option Nat :=
  match u with
  | .dram k => s.memDisCheck k.val
  | .pld p => if [3, 4, 7].contains (s.pstate p.val) then some 0x03 else none
  | _ => none

/-- The code that rejects a write of a power register. -/
def State.pwrCode (s : State) (u : Sys2Proof.PUnit) (v : Word) : Option Nat :=
  if bitsOf v 30 30 = 1 ∧ retAllowed u = false then some 0x05
  else if bitsOf v 31 31 = 1 then
    if s.pwr (pwrOff u) = 4 then some 0x03
    else if s.parentOn u = false then some 0x03
    else s.enCheck u
  else s.disCheck u

/-- EN = 0 is requested of a unit (R36). -/
def State.disableUnit (s : State) (u : Sys2Proof.PUnit) : State :=
  let o := pwrOff u
  let s1 := s.setBit o 31 false
  let s2 := { s1 with sys := { s1.sys with forced := s1.sys.forced.filter (· ≠ o) } }
  match s.pwr o with
  | 2 => s2.stopUnit u 0
  | 1 => s2.setBit o 29 true
  | _ => s2.setBit o 29 false

/-- EN = 1 is requested of a unit: as `enableUnit`, with what a start brings. -/
def State.requestOn (s : State) (u : Sys2Proof.PUnit) : State :=
  let s1 := s.enableUnit u
  if s.pwr (pwrOff u) = 0 ∧ s1.pwr (pwrOff u) = 1 then s1.startUnit u else s1

/-- A write of a unit power register. -/
def State.pwrWrite (s : State) (u : Sys2Proof.PUnit) (v : Word) : WRes :=
  match s.pwrCode u v with
  | some c => .rej c
  | none =>
    let s1 := s.setFld (pwrOff u) 30 30 (bitsOf v 30 30)
    if bitsOf v 31 31 = 1 then .ok (s1.requestOn u) else .ok (s1.disableUnit u)

/-- The unit whose power register lies at an offset of the SYS block. -/
def pwrUnitAt (off : Nat) : Option Sys2Proof.PUnit :=
  if off % 4 ≠ 0 then none
  else if 0x100 ≤ off ∧ off < 0x110 then some (uTile ((off - 0x100) / 4))
  else if 0x110 ≤ off ∧ off < 0x120 then some (uConv ((off - 0x110) / 4))
  else if 0x120 ≤ off ∧ off < 0x140 then some (uDram ((off - 0x120) / 4))
  else if 0x140 ≤ off ∧ off < 0x200 then some (uLane ((off - 0x140) / 4))
  else if 0x200 ≤ off ∧ off < 0x300 then some (uClu ((off - 0x200) / 4))
  else if 0x300 ≤ off ∧ off < 0x380 then some (uPld ((off - 0x300) / 4))
  else none

/-! ## Commands -/

def execUnitStopDone (u : Sys2Proof.PUnit) (s : State) : Host.Outcome State Fault Refusal := .next (s.stopDone u)

def execUnitOffMinExpiry (u : Sys2Proof.PUnit) (s : State) : Host.Outcome State Fault Refusal := .next (s.offMinOver u)

def execUnitStartDone (u : Sys2Proof.PUnit) (s : State) : Host.Outcome State Fault Refusal := .next (s.startDone u)

/-! ## Starts that may end ABSENT (R34, R262, R263, R298, R314): a deep-night exit goes on past such a unit (R42) -/

def execIdentityRecord (n : Conv) (record : Word) (s : State) : Host.Outcome State Fault Refusal := .next (s.identity n.val record).exitNext

/-- R262, R296: a discovery attempt has not read the record within 8 ms; the module is reset. -/
def execDiscoveryAttemptTmo (n : Conv) (s : State) : Host.Outcome State Fault Refusal :=
  .next (if s.cnvSearching n.val then 
      let s1 := (s.attemptTmo n.val).lnkReset (tcModule n.val)
      (if s1.cnvSearching n.val then s1.setFld (oTcstat n.val) 17 16 (s1.fld (oDstat n.val) 27 26) else s1).exitNext
    else s)

def execTrainingStateDone (m : LMod) (r : LinkReport) (s : State) : Host.Outcome State Fault Refusal := .next (s.trainState m.val r).exitNext

/-- R296: a state has not completed in 8 ms. -/
def execTrainingStateTmo (m : LMod) (s : State) : Host.Outcome State Fault Refusal :=
  .next (let n := s.lstate m.val
    if s.lnkDiesUp m.val = true ∧ ((1 ≤ n ∧ n ≤ 6) ∨ n = 8) then (s.attemptFails m.val).exitNext else s)

def execTrainingStepDone (k : Chan) (pass : Bool) (s : State) : Host.Outcome State Fault Refusal := .next (s.trainStep k.val pass).exitNext

def execTrainingStepTmo (k : Chan) (s : State) : Host.Outcome State Fault Refusal := .next (s.trainStep k.val false).exitNext

end Sys2Proof.Machine
end

