-- ==== Sys2Proof/Machine/Reset.lean ====
section
/-! DEFINITION. The power-on sequence, the resets (R28 to R33, R39, R40) and the pins and links that cause them. -/

namespace Sys2Proof.Machine

def oRstCause : Nat := 0x38C
def oRstStat : Nat := 0x388
def oStrap : Nat := 0x390
def oPstate : Nat := 0x394

/-! ## Engines and the scheduler under a reset -/

/-- R39: an engine reset, in place. It leaves the trap registers as they are (R132). -/
def State.engineReset (s : State) (e : Nat) : State :=
  if s.isOn (oPwrEng e) then (((s.revokeEngine e false).engineStale e true).unhalt e) else s

/-- R39, R194: a soft reset of an engine that is ON: its banks are empty and its memories unowned. -/
def State.softEngine (s : State) (e : Nat) : State :=
  let s1 := (s.clearBank e false).clearBank e true
  let x := s1.engSt e
  let s2 := s1.setEng e { x with b0 := { gen := x.b0.gen }, b1 := { gen := x.b1.gen }, active := false, shocc := false, swapDue := false,
                                 resv := none, wdogRaised := false }
  (s2.setFld (oEng e + 0x10) 1 0 3).unhalt e

/-- Requests of some kinds mean nothing to their source any more. -/
def State.orphan (s : State) (f : ReqKind → Bool) : State :=
  { s with net := { s.net with outst := s.net.outst.map (fun o => if f o.kind then { o with kind := .other } else o) } }

def ReqKind.ofSched : ReqKind → Bool
  | .pairWrite _ | .cqRecord _ => true
  | _ => false

def ReqKind.ofHost : ReqKind → Bool
  | .host .. => true
  | _ => false

def ReqKind.ofDebug : ReqKind → Bool
  | .debug _ => true
  | _ => false

/-- R194: every task ends without a record, every flow is unlocked. -/
def State.schSoft (s : State) : State :=
  let s1 := { s with sch := { s.sch with ctx := [], flow := [], delay := [], cqWait := [] } }.orphan ReqKind.ofSched
  (List.range 17).foldl (fun r i =>
    r.setInput i ((r.input i).filter (fun x => match x.src with | .engine _ => false | _ => true))) s1

/-- Offsets of the trap and performance registers of the engines (R132). -/
def isTrapReg (o : Nat) : Bool := decide (oEng 0 ≤ o) && decide (o < oEng 1088) && decide (0x100 ≤ (o - oEng 0) % 0x1000)

/-- R39: the soft reset. -/
def State.softReset (s : State) : State :=
  let s1 := s.onEngines.foldl State.softEngine s
  let s2 := { s1 with regs := s1.regs.filter (fun e => !isTrapReg e.1) }
  let s3 := (List.range 4).foldl (fun r t => if (r.fab t).released then r.fabReset t else r) s2.schSoft.strSoftReset.redSoftReset
  (s3.mbxReset (s3.mbxOf (Party.isFabric (fun _ => true)) ++ s3.mbxOf (Party.isEngines (fun _ => true)))).setBit oRstCause 4 true

/-- R39: the reset of tile `t`, which is ON. Its counter caches are written back first (R361). -/
def State.tileReset (s : State) (t : Nat) : State :=
  if s.isOn (oPwrTile t) = false then s
  else
    let s1 := (s.onEngines.filter (fun e => decide (engTile e = t))).foldl State.engineReset (s.iceFlush t)
    let s2 := (List.range 12).foldl (fun r i => r.laneRetrain (12 * t + i)) s1
    let s3 := (modulesOf (oPwrTile t)).foldl (fun r m => (r.lnkReset m).leavesService m) s2
    let s4 := (((s3.strStopTile t).scrubAbandon t).fabReset t).fabShut t
    s4.mbxReset (s4.mbxOf (Party.isFabric (fun n => decide (n = t))) ++ s4.mbxOf (Party.isEngines (fun c => decide (c / 16 = t))))

/-! ## The warm reset -/

/-- What a channel accepted completes, with nothing to hold it back (R330). -/
def State.memFinish (k : Nat) : Nat → State → State
  | 0, s => s
  | n + 1, s =>
    if s.memIdle k then s
    else State.memFinish k n (((s.setChan k { s.chan k with thr := [], alert := false, reissue := false }).memCycle k).memData k [])

/-- R330: the channel returns as it was, whatever its RET. -/
def State.warmKept (s : State) (k : Nat) : State := s.setChan k { s.chan k with warm := true }

/-- R330: a channel through a warm reset: one that was ON goes through self-refresh, with EN and RET kept. -/
def State.warmDram (s : State) (k : Nat) : State :=
  let o := oPwrMem k
  let s1 := match s.pwr o with
    | 2 => (((State.memFinish k 1024 s).memOff k true).warmKept k).setFld o 23 20 1
    | 3 => (State.memFinish k 1024 s).memOff k (s.bit o 30 || decide (s.fld o 23 20 = 3))
    | 1 => s.memForced k
    | _ => s
  (s1.setPwr o 0).setBit o 29 false

/-- Registers that a warm reset leaves as they are. CFG, PLD and MGM have rules of their own. -/
def warmKeeps (o : Nat) : Bool :=
  decide (o < 0x100) || (decide (0x120 ≤ o) && decide (o < 0x140)) || (decide (0x380 ≤ o) && decide (o < 0x10000)) || decide (o = oDramil) ||
    (decide (0x100000 ≤ o) && decide (o < 0x300000)) || (decide (0x500000 ≤ o) && decide (o < 0xA00000)) ||
    (decide (0xD00000 ≤ o) && decide (o < 0x1000000))

/-- Engines whose position is ISOLATED. -/
def State.isolatedEngines (s : State) : List Nat :=
  (s.regs.filter (fun e => decide (oEng 0 ≤ e.1) && decide (e.1 < oEng 1088) && decide ((e.1 - oEng 0) % 0x1000 = 0x0C) &&
    decide (bitsOf e.2 31 29 = 4))).map (fun e => (e.1 - oEng 0) / 0x1000)

/-- Every engine that has had power loses its memories. -/
def State.engLose (s : State) : State :=
  let ks := s.eng.map Prod.fst ++ ((s.regs.filter (fun e => decide (oEng 0 ≤ e.1) && decide (e.1 < oEng 1088) &&
    decide ((e.1 - oEng 0) % 0x1000 = 8))).map (fun e => (e.1 - oEng 0) / 0x1000)).filter (fun e => !(s.eng.map Prod.fst).contains e)
  ks.foldl (fun r e => r.setEng e { lost := (s.engSt e).lost + 1 }) { s with eng := [] }

/-- R158: isolations survive; the logical engine of an isolated position takes the lowest SPARE of its cluster. -/
def State.replace (s : State) (e : Nat) : State :=
  let i := e % 272 % 17
  let l := 256 * (e / 272) + 16 * (e % 272 / 17) + i
  if i = 16 then s
  else match s.sparesOf (engClu e) with
    | n :: _ => (s.setReg (oPlace n) (BitVec.ofNat 32 (0x40000100 + l * 65536))).setLe l { lengReset l with phys := n }
    | [] => s.setLe l { lengReset l with pstate := 3 }

/-- R400: what DBG_PSTAT.CATCH selects halts; CATCH clears. -/
def State.catchHalts (s : State) : State :=
  let c := s.fld oPstatDbg 1 0
  let s1 := s.setFld oPstatDbg 1 0 0
  let s2 := if c % 2 = 1 then s1.haltMgmt 5 else s1
  { s2 with dbg := { s2.dbg with caught := if 2 ≤ c then List.range 1088 else [] } }

/-- R35: the power registers of the units that a warm reset takes to OFF: each stays there for its t_off_min. -/
def State.warmOffMin (s : State) : List Nat :=
  s.sys.offMin ++ ((nightOrder.flatten.map pwrOff).filter (fun o => decide (1 ≤ s.pwr o) && decide (s.pwr o ≤ 3) && !s.sys.offMin.contains o))

/-- R39: the warm reset; `wdog` when the management watchdog causes it. -/
def State.warmReset (s : State) (wdog : Bool) : State :=
  -- what is completed before anything stops
  let s1 := (List.range 4).foldl (fun r t => if r.isOn (oPwrTile t) then r.iceFlush t else r) s
  let s2 := ((List.range 8).foldl State.warmDram s1).laneSources none
  let s3 := (s2.cfgEngines.foldl State.unhalt s2).unhaltMgmt
  let iso := s3.isolatedEngines
  let isoRegs := iso.map (fun e => (oPlace e, withBits (s3.reg (oPlace e)) 7 0 0))
  -- registers, then the state behind them
  let s4 := ((s3.engLose).cfgWarm).mgmWarm wdog
  let s5 := { s4 with
    regs := s4.regs.filter (fun e => warmKeeps e.1),
    pairs := s4.pairs.filter (fun e => warmKeeps e.1),
    sys := { s4.sys with offMin := s4.warmOffMin, forced := [], due := [], kept := [], nightUnits := [], nightStops := false, nightLatch := none },
    leng := [], sch := {}, ser := {}, lnk := [],
    net := { outst := s4.net.outst.filter (fun o => o.kind.ofHost || o.kind.ofDebug) } }
  let s6 := (isoRegs.foldl (fun r p => r.setReg p.1 p.2) s5)
  let s7 := iso.foldl State.replace s6
  let s8 := s7.mbxReset (s7.mbxOf Party.isMgmt ++ s7.mbxOf (Party.isFabric (fun _ => true)) ++ s7.mbxOf (Party.isEngines (fun _ => true)))
  let s9 := (((s8.setBit oRstStat 31 false).setFld oPstate 9 8 0).setBit oPstate 0 false).setBit oRstCause (if wdog then 3 else 2) true
  s9.catchHalts.startWaiting tileUnits

/-! ## The power-on reset (R29, R39) -/

/-- The internal power-on reset is asserted; `trip` when a G1 or G2 rail fell below its trip threshold. -/
def State.porReset (s : State) (trip : Bool) : State :=
  let s0 := match s.mgm.flOp with
    | some f => s.flashEffect f []
    | none => s
  let s1 := s0.engLose
  let r : State := { State.reset with
    pending := s.pending, fuses := s.fuses, rtc := { s.rtc with snaps := [] }, out := s.out, freeCtr := s1.freeCtr, eng := s1.eng,
    regs := s0.regs.filter (fun e => decide (0xE00000 ≤ e.1) && decide (e.1 < 0xF00000)),
    mgm := { flash := s0.mgm.flash },
    sys := { porN := s.sys.porN, g1 := s.sys.g1, g2 := s.sys.g2, g3 := s.sys.g3, g4 := s.sys.g4, perstN := s.sys.perstN, warn := s.sys.warn, low := s.sys.low } }
  let r1 := (List.range 8).foldl (fun t k => t.setChan k { lost := (s.chan k).lost + 1 }) r
  let r2 := r1.setBit 0x39C 31 (!s.sys.warn.isEmpty)
  -- R96: the reset frequency by grade
  let r3 := if s.fuses.grade3 then r2 else (List.range 4).foldl (fun t k => t.setReg (oEngclk k) 0x800003E8#32) r2
  if trip then r3.setReg oRstCause 3 else r3

/-- R29: POR_N is high and every monitor reports its rail good. -/
def State.porClear (s : State) : Bool := s.sys.porN && s.sys.g1 && s.sys.g2 && s.sys.g3 && s.sys.g4 && s.sys.low.isEmpty

/-! ## SYS_RSTCTL and SYS_RSTUNIT (R40) -/

def State.rstctlWrite (s : State) (v : Word) : WRes :=
  let warm := decide (bitsOf v 1 1 = 1)
  let soft := decide (bitsOf v 0 0 = 1)
  if bitsOf v 31 24 ≠ 0xA5 then .rej 0x04
  else if warm && soft then .rej 0x05
  else if warm then .ok (s.warmReset false)
  else if soft then .ok s.softReset
  else .ok s

/-- Units of each TYPE. -/
def rstCount (ty : Nat) : Nat := [4, 1088, 32, 28].getD ty 0

/-- The reset that SYS_RSTUNIT asks of a unit. -/
def State.unitReset (s : State) (ty i : Nat) : State :=
  match ty with
  | 0 => s.tileReset i
  | 1 => s.engineReset i
  | 2 => s.pldReset i
  | 3 => (s.lnkReset i).leavesService i
  | _ => s

/-- The code that rejects a write of SYS_RSTUNIT (R40, R73, R89). -/
def State.rstunitCode (s : State) (v : Word) : Option Nat :=
  let ty := bitsOf v 18 16
  let i := bitsOf v 10 0
  if bitsOf v 31 24 ≠ 0x5A then some 0x04
  else if 4 ≤ ty then some 0x02
  else if rstCount ty ≤ i then some 0x01
  else if s.bit oRstStat 31 then some 0x03
  else if ty = 0 ∧ [1, 2, 4].contains s.cfgState = true then some 0x03
  else if ty = 2 ∧ [2, 3, 4, 7].contains (s.pstate i) = true then some 0x03
  else none

def State.rstunitWrite (s : State) (v : Word) : WRes :=
  match s.rstunitCode v with
  | some c => .rej c
  | none =>
    let ty := bitsOf v 18 16
    let i := bitsOf v 10 0
    .ok ((s.unitReset ty i).setReg oRstStat (BitVec.ofNat 32 (2 ^ 31 + ty * 2 ^ 16 + i)))

/-! ## Commands -/

/-- The unit reset ends: the fabric of a tile is released again (R71), the sluices of a polder that runs pass again (R39). -/
def State.unitResetDone (s : State) : State :=
  let i := s.fld oRstStat 10 0
  let s1 := s.setBit oRstStat 31 false
  if s.bit oRstStat 31 = false then s
  else match s.fld oRstStat 18 16 with
    | 0 => if s.cfg.done = true ∧ s.isOn (oPwrTile i) = true then s1.fabOpen i else s1
    | 2 => s1.pldResetDone i
    | _ => s1

/-- UNIT_RESET_DONE. -/
def execUnitResetDone (s : State) : Host.Outcome State Fault Refusal := .next s.unitResetDone

/-- R29: POR_N is low. -/
def execPorNAssert (s : State) : Host.Outcome State Fault Refusal :=
  .next (if s.sys.porN then ({ s with sys := { s.sys with porN := false } }).porReset false else s)

def execPorNRelease (s : State) : Host.Outcome State Fault Refusal := .next { s with sys := { s.sys with porN := true } }

/-- The group of a monitor's rail (R43). -/
def borGroup : BorMon → RailGroup
  | .g1 => .g1
  | .g2core | .flashIo => .g2
  | .tile _ => .g3

/-- R29: every rail of a group is within tolerance. -/
def execRailGood (g : RailGroup) (s : State) : Host.Outcome State Fault Refusal :=
  let y := { s.sys with low := s.sys.low.filter (fun m => borGroup m ≠ g) }
  match g with
  | .g1 => .next { s with sys := { y with g1 := true } }
  | .g2 => .next { s with sys := { y with g2 := true } }
  | .g3 => .next { s with sys := { y with g3 := true } }
  | .g4 => .next { s with sys := { y with g4 := true } }

/-- R29, R400: the internal power-on reset is released. -/
def execPorInternalRelease (s : State) : Host.Outcome State Fault Refusal :=
  .next (if s.sys.porActive = true ∧ s.porClear = true then ({ s with sys := { s.sys with porActive := false } }).catchHalts else s)

/-- R30: the straps are sampled once. A reserved MODE holds CFG_ERR_N low. -/
def execStrapSample (mode : BitVec 3) (dbgEn : Bool) (s : State) : Host.Outcome State Fault Refusal :=
  if s.sys.porActive = false ∧ s.sys.strapped = false then
    let bad := decide (2 < mode.toNat)
    let s1 := s.setReg oStrap (BitVec.ofNat 32 ((if bad then 2 ^ 31 else 0) + (if dbgEn then 8 else 0) + mode.toNat))
    .next { s1 with sys := { s1.sys with strapped := true }, cfg := { s1.cfg with err := s1.cfg.err || bad } }
  else .next s

/-- The hub comes ON: the lattice is seeded (R257), and tiles with EN = 1 start (R37). -/
def execHubOn (s : State) : Host.Outcome State Fault Refusal :=
  .next (if s.sys.porActive = false ∧ s.sys.strapped = true ∧ s.sys.hubOn = false then
    (({ s with sys := { s.sys with hubOn := true } }).timSeed).startWaiting tileUnits
  else s)

/-- R417: FL_RST_N rises after the hub is ON. -/
def execFlRstNRelease (s : State) : Host.Outcome State Fault Refusal :=
  .next (if s.sys.hubOn then { s with sys := { s.sys with flRstN := true } } else s)

/-- R39, R63: the host reset. -/
def execPerstNFall (s : State) : Host.Outcome State Fault Refusal :=
  if s.sys.perstN then
    let s1 := (({ s with sys := { s.sys with perstN := false, linkUp := false, epReady := false, l1 := false, aerPoisoned := false, epRegs := [] } }).cfgPerst).orphan ReqKind.ofHost
    .next ((s1.mbxReset (s1.mbxOf Party.isHost)).setBit oRstCause 5 true)
  else .next s

def execPerstNRelease (s : State) : Host.Outcome State Fault Refusal := .next { s with sys := { s.sys with perstN := true } }

/-- R31: the link trains up once PERST_N is high and the hub is ON. -/
def execPcieLinkUp (s : State) : Host.Outcome State Fault Refusal :=
  .next (if s.sys.perstN = true ∧ s.sys.hubOn = true then { s with sys := { s.sys with linkUp := true } } else s)

/-- R363: the link goes down. What the host had asked for is not completed. -/
def execPcieLinkDown (s : State) : Host.Outcome State Fault Refusal :=
  .next (if s.sys.linkUp then ({ s with sys := { s.sys with linkUp := false, l1 := false } }).orphan ReqKind.ofHost else s)

/-- R31: a configuration request. Between link-up and the bound the manual leaves open when the endpoint becomes ready: a free value
says whether it is; once ready, it stays so. -/
def execPcieConfigRequest (tag : BitVec 8) (s : State) : Host.Outcome State Fault Refusal :=
  if s.sys.linkUp = false then .next s
  else if s.sys.epReady then .next (s.emit (.hostCfgCpl tag.toNat false))
  else
    let (d, s1) := s.draw
    if d.getLsbD 0 then .next (({ s1 with sys := { s1.sys with epReady := true } }).emit (.hostCfgCpl tag.toNat false))
    else .next (s1.emit (.hostCfgCpl tag.toNat true))

/-- R33: no state outside the endpoint changes. -/
def execL1Entry (s : State) : Host.Outcome State Fault Refusal :=
  .next (if s.sys.linkUp then { s with sys := { s.sys with l1 := true } } else s)

def execL1Exit (s : State) : Host.Outcome State Fault Refusal := .next { s with sys := { s.sys with l1 := false } }

/-- R373: a Function Level Reset of the physical function, or of a virtual function. -/
def execFunctionLevelReset (fn : Fin 17) (s : State) : Host.Outcome State Fault Refusal :=
  .next (if s.sys.linkUp then
    ({ s with sys := { s.sys with epRegs := if fn.val = 0 then [] else SMap.dropRange s.sys.epRegs (1024 * fn.val) 1024 } }).mbxReset (s.mbxOf (if fn.val = 0 then Party.isHost else Party.isVf (fn.val - 1)))
  else s)

end Sys2Proof.Machine
end

