-- ==== Sys2Proof/Machine/Night.lean ====
section
/-! DEFINITION. Deep-night mode (R41, R42) and brown-out (R43, R44). -/

namespace Sys2Proof.Machine

/-! ## Deep-night mode -/

/-- R41: the device records the units whose EN reads 1 and enters ENTERING. The model of the oscillator is saved (R259). -/
def State.nightEnter (s : State) : State :=
  let us := (nightOrder.flatten.filter s.pwrEn).map pwrOff
  (({ s with sys := { s.sys with nightUnits := us, nightStops := false, nightLatch := none } }).setFld oPstate 9 8 1).modelCopy

/-- R42: the device leaves NIGHT, with the source that woke it. -/
def State.nightLeave (s : State) (wake : Nat) : State :=
  let s1 := { s with sys := { s.sys with nightLatch := none } }
  ((s1.setFld oPstate 9 8 3).setFld oPstate 15 12 wake).exitPump

/-- A write of SYS_PSTATE; NIGHT that reverses a transition is latched (R42). -/
def State.pstateWrite (s : State) (v : Word) : WRes :=
  let night := decide (bitsOf v 0 0 = 1)
  if night && [1, 2, 4].contains s.cfgState then .rej 0x03
  else
    let s1 := s.setBit oPstate 0 night
    let latch (x : Option Nat) : State := { s1 with sys := { s1.sys with nightLatch := x } }
    match s.nightState with
    | 0 => .ok (if night then s1.nightEnter else s1)
    | 1 =>
      if night then .ok (if s.sys.nightLatch = some 1 then latch none else s1)
      else .ok (if s.sys.nightLatch = none then latch (some 1) else s1)
    | 2 => .ok (if night then s1 else s1.nightLeave 1)
    | _ => .ok (latch (if night then some 0 else none))

/-- SYS_NIGHTCFG changes only while the device is ACTIVE. -/
def State.nightcfgWrite (s : State) (v : Word) : WRes :=
  let t := s.plainWrite 0x398 v
  if s.nightState ≠ 0 ∧ t.reg 0x398 ≠ s.reg 0x398 then .rej 0x03 else .ok t

/-- The banks of an engine that hold a task. -/
def State.busyBanks (s : State) (e : Nat) : List Bool := [false, true].filter (fun w => ((s.engSt e).bank w).busy)

/-- The engine's tasks leave it at the drain limit: the engine is empty, and the answer lists their contexts with their cycles. -/
def State.drainEngine (s : State) (e : Nat) : State × List (Nat × Nat) :=
  let bs := s.busyBanks e
  let ts := bs.map (fun w => let b := (s.engSt e).bank w; (b.tid, b.cyc))
  let s1 := bs.foldl (fun r w =>
    let r1 := if ((r.engSt e).bank w).wait = EWait.enqOffered then r.withdrawEng e else r
    r1.clearBank e w) s
  (s1.setEng e { s1.engSt e with shocc := false, swapDue := false, resv := none, wdogRaised := false }, ts)

/-- R41 step 1: a task in service at the drain limit: it returns to its queue, uncounted, or is aborted. The answer counts the latter. -/
def State.drainTask (s : State) (x cyc : Nat) : State × Nat :=
  let c := s.ctx x
  if dPaired c.desc then ((s.clearPair x).makeRestart x, 0)
  else if dRestart c.desc then (s.makeRestart x, 0)
  else (s.toCompleting x ⟨3, 0, cyc, false⟩, 1)

/-- R41 step 1: the drain limit. -/
def State.drainAll (s : State) : State :=
  let (s1, ts) := s.onEngines.foldl (fun (p : State × List (Nat × Nat)) e =>
    let (r, l) := p.1.drainEngine e
    (r, p.2 ++ l.filter (fun y => !(p.2.map Prod.fst).contains y.1))) (s, [])
  let (s2, n) := ts.foldl (fun (p : State × Nat) y =>
    let (r, k) := p.1.drainTask y.1 y.2
    (r, p.2 + k)) (s1, 0)
  if n = 0 then s2 else s2.log (mkRec reqSch 0x013 0 n reqSch)

/-- R41 steps 2 to 5: everything stops, in order; the counter caches are written back before the DRAM channels stop (R361). -/
def State.nightStop (s : State) : State :=
  let s1 := ({ s with sys := { s.sys with nightStops := true } }).nightSources
  let s2 := (convUnits ++ laneUnits ++ engUnits ++ cluUnits).foldl (State.stopOne · 3 ·) s1
  let s3 := (List.range 4).foldl (fun r t => if r.isOn (oPwrTile t) then r.iceFlush t else r) s2
  let s4 := dramUnits.foldl (State.stopOne · 3 ·) s3
  tileUnits.foldl (State.stopUnit · · 3) s4

/-- NIGHT_DRAIN_EXPIRY. -/
def execNightDrainExpiry (s : State) : Host.Outcome State Fault Refusal :=
  .next (if s.nightState = 1 ∧ s.sys.nightStops = false then s.drainAll.nightStop else s)

/-- NIGHT_ENTRY_DONE: every tile is OFF; a latched exit begins at once. -/
def execNightEntryDone (s : State) : Host.Outcome State Fault Refusal :=
  if s.nightState = 1 ∧ s.sys.nightStops = true ∧ tileUnits.all (fun u => decide (s.pwr (pwrOff u) = 0)) = true then
    let s1 := (s.setFld oPstate 9 8 2)
    let s2 := { s1 with sys := { s1.sys with nightStops := false } }
    match s.sys.nightLatch with
    | some w => .next (s2.nightLeave w)
    | none => .next s2
  else .next s

/-- NIGHT_EXIT_DONE: the recorded units have restarted; a latched entry begins at once. -/
def execNightExitDone (s : State) : Host.Outcome State Fault Refusal :=
  if s.nightState = 3 ∧ nightOrder.all s.restarted = true then
    let s1 := (s.setFld oPstate 9 8 0)
    let s2 := { s1 with sys := { s1.sys with nightUnits := [], nightLatch := none } }
    .next (if s.sys.nightLatch = some 0 then s2.nightEnter else s2.startWaiting nightOrder.flatten)
  else .next s

/-- R42: the WAKE code of a source that is enabled and present. -/
def State.wakeCode (s : State) (w : WakeSrc) : Option Nat :=
  match w with
  | .alarm => if s.bit 0x398 30 = true ∧ s.bit oRtcStat 28 = true then some 2 else none
  | .pin => if s.bit 0x398 29 then some 3 else none
  | .mailbox n => if s.bit 0x398 28 = true ∧ s.reg (oSide n.val false + 0x14) ≠ 0 then some 4 else none

/-- WAKE_SOURCE (R42). -/
def execWakeSource (w : WakeSrc) (s : State) : Host.Outcome State Fault Refusal :=
  match s.wakeCode w with
  | none => .next s
  | some c =>
    if s.nightState = 2 then .next (s.nightLeave c)
    else if s.nightState = 1 ∧ s.sys.nightLatch = none then .next { s with sys := { s.sys with nightLatch := some c } }
    else .next s

/-! ## Brown-out -/

/-- The sticky WARN bit of a monitor. -/
def warnBit : BorMon → Nat
  | .g1 => 4
  | .g2core => 5
  | .flashIo => 6
  | .tile _ => 7

/-- R29: the monitor does not report its rail good. -/
def State.addLow (s : State) (m : BorMon) : State :=
  if s.sys.low.contains m then s else { s with sys := { s.sys with low := s.sys.low ++ [m] } }

/-- A warning is active: non-volatile inhibit (R44). -/
def State.addWarn (s : State) (m : BorMon) : State :=
  if s.sys.warn.contains m then s.addLow m
  else (({ s with sys := { s.sys with warn := s.sys.warn ++ [m] } }.addLow m).setBit 0x39C 31 true).setBit 0x39C (warnBit m) true

/-- R43: a warning. -/
def execBorWarning (m : BorMon) (s : State) : Host.Outcome State Fault Refusal :=
  .next (if s.sys.warn.contains m then s.addLow m else (s.addWarn m).log (mkRec 0x4000 0x010 0 1 0x4000))

/-- R43: a warned rail is back. -/
def execBorWarnClear (m : BorMon) (s : State) : Host.Outcome State Fault Refusal :=
  let w := s.sys.warn.filter (· ≠ m)
  .next (({ s with sys := { s.sys with warn := w, low := s.sys.low.filter (· ≠ m) } }).setBit 0x39C 31 (!w.isEmpty))

/-- R43: a trip. -/
def execBorTrip (m : BorMon) (s : State) : Host.Outcome State Fault Refusal :=
  let s1 := s.addWarn m
  match m with
  | .g1 => .next (({ s1 with sys := { s1.sys with g1 := false } }).porReset true)
  | .g2core => .next (({ s1 with sys := { s1.sys with g2 := false } }).porReset true)
  | .flashIo => .next s1
  | .tile t => .next (((s1.tileTrip t.val).setBit 0x39C (8 + t.val) true).log (mkRec 0x4000 0x011 0 1 0x4000))

end Sys2Proof.Machine
end

