-- ==== Sys2Proof/Machine/MgmEvents.lean ====
section
/-! DEFINITION. The events of the management subsystem (ch. 16): lockstep and watchdog, sensors and rails, power budgets, records and
the log, flash, secure boot, PMBus. -/

namespace Sys2Proof.Machine

/-! ## Lockstep and watchdog (R377, R378) -/

/-- LOCKSTEP_MISMATCH: both cores restart; the management sides of the mailboxes are reset. -/
def execLockstepMismatch (s : State) : Host.Outcome State Fault Refusal :=
  if s.sys.hubOn then
    let s1 := s.lockstep.unhaltMgmt
    .next (s1.mbxReset (s1.mbxOf Party.isMgmt))
  else .next s

/-- MGM_WDOG_EXPIRY: the count is 0 with EN = 1. -/
def execMgmWdogExpiry (s : State) : Host.Outcome State Fault Refusal :=
  .next (if s.sys.hubOn = true ∧ s.bit (oMgm + 0x0C) 31 = true ∧ s.mgm.wd = 0 ∧ s.bit oMcfg 31 = false ∧ s.wdHeld = false then
    s.warmReset true
  else s)

/-! ## Sensors and rails (R379 to R381) -/

/-- The units that a die at TRIP forces to STOPPING. -/
def tripUnits (d : Nat) : List Sys2Proof.PUnit :=
  if d < 4 then [uTile d] else if d = 4 then tileUnits ++ convUnits else [uConv (d - 5)]

/-- A unit that a trip still has to stop. -/
def State.tripable (s : State) (u : Sys2Proof.PUnit) : Bool :=
  decide (s.pwr (pwrOff u) = 2) || (decide (s.pwr (pwrOff u) = 1) && !s.sys.forced.contains (pwrOff u))

/-- R380: the die is compared with TRIP. -/
def State.checkTrip (s : State) (d : Nat) : State :=
  let us := (tripUnits d).filter s.tripable
  if s.dieTrips d = true ∧ us ≠ [] then
    us.foldl State.thermTrip (s.log (mkRec 0x4000 0x0E6 0 1 0x4000))
  else s

/-- SENSOR_CONVERSION: the reading in units of 0.0625 °C. -/
def execSensorConversion (i : Fin 44) (t : Int) (s : State) : Host.Outcome State Fault Refusal :=
  let d := sensorDie i.val
  .next (if s.dieOn d then (s.sensorRead i.val t).checkTrip d else s)

def execSensorFail (i : Fin 44) (s : State) : Host.Outcome State Fault Refusal :=
  .next (if s.dieOn (sensorDie i.val) then s.sensorFailed i.val else s)

/-- RAIL_MONITOR_READ: a current, or a voltage with its limits. -/
def execRailMonitorRead (current : Bool) (i : Fin 24) (v : BitVec 16) (s : State) : Host.Outcome State Fault Refusal :=
  if s.sys.hubOn = false then .next s
  else if current then .next (if i.val < 12 then s.setReg (oMgm + 0x480 + 4 * i.val) (BitVec.ofNat 32 v.toNat) else s)
  else .next (s.railRead i.val v.toNat)

/-! ## Power budgets (R382 to R384) -/

def execPowerReport (d : PDie) (avg peak : BitVec 12) (s : State) : Host.Outcome State Fault Refusal :=
  let n := d.val
  .next (if s.dieOn n then
    ((s.setLpc n { s.lpc n with silent := false }).setFld (oBudget n + 8) 27 16 peak.toNat).setFld (oBudget n + 8) 11 0 avg.toNat
  else s)

def execPowerReportTmo (d : PDie) (s : State) : Host.Outcome State Fault Refusal :=
  let n := d.val
  .next (if s.dieOn n then (s.setLpc n { s.lpc n with silent := true }).mgmLog 0x0E8 1 else s)

def execBudgetReallot (s : State) : Host.Outcome State Fault Refusal := .next (if s.sys.hubOn then s.reallot else s)

def execBudgetMessage (d : PDie) (s : State) : Host.Outcome State Fault Refusal :=
  let x := s.lpc d.val
  match x.msg with
  | some b => .next (if s.dieOn d.val then s.setLpc d.val { x with budget := some b, msg := none } else s)
  | none => .next s

def execBudgetMessageTmo (d : PDie) (s : State) : Host.Outcome State Fault Refusal :=
  .next (if s.dieOn d.val then s.setLpc d.val { s.lpc d.val with budget := some (s.powerFloor d.val) } else s)

def execLpcAverage (d : PDie) (p : BitVec 12) (s : State) : Host.Outcome State Fault Refusal := .next (s.lpcAverage d.val p.toNat)

/-! ## Records and the log (R385 to R390) -/

def execErrorRecord (src : Req) (s : State) : Host.Outcome State Fault Refusal :=
  .next (if s.sys.hubOn then s.acceptRecord src.toNat else s)

def execLogRecordProgram (s : State) : Host.Outcome State Fault Refusal := .next s.logProgram

def execLogScan (s : State) : Host.Outcome State Fault Refusal := .next s.logScan

/-! ## Flash (R388) -/

/-- FLASH_OP_DONE: the operation of the command interface completes; `data` is what a read moved. -/
def execFlashOpDone (data : List Byte) (deviceError : Bool) (s : State) : Host.Outcome State Fault Refusal :=
  .next (s.flashDone data deviceError)

def execFlashTmo (s : State) : Host.Outcome State Fault Refusal := .next s.flashTimeout

/-! ## Secure boot (R391 to R393) -/

/-- ROM_BOOT: the cores run the ROM, unless they are halted before its first instruction (R400). -/
def execRomBoot (s : State) : Host.Outcome State Fault Refusal := .next (if s.bit oMcfg 31 then s else s.romBoot)

/-! ## PMBus and I²C (R395) -/

def execPmbDone (how : Sys2Proof.PmbEnd) (data : List Byte) (s : State) : Host.Outcome State Fault Refusal := .next (s.pmbDone how data)

/-- PMB_TMO: the transaction is not complete within TMO. -/
def execPmbTmo (s : State) : Host.Outcome State Fault Refusal := .next (s.pmbEnd 3 0)

/-- PMB_ALERT_N falls. -/
def execPmbAlertN (s : State) : Host.Outcome State Fault Refusal := .next (if s.sys.hubOn then s.mgmLog 0x0EF 1 else s)

/-! ## Loss of every supply (R260) -/

/-- POWER_LOSS: VBAT and G1 are both absent. What a flash operation under way leaves in its page is open (R391). -/
def execPowerLoss (s : State) : Host.Outcome State Fault Refusal :=
  let s0 := match s.mgm.flOp with
    | some f => { s.flashBroken f with mgm := { (s.flashBroken f).mgm with flOp := none } }
    | none => s
  let s1 := ({ s0 with sys := { s0.sys with porN := false, g1 := false, g2 := false, g3 := false, g4 := false } }).porReset false
  let s2 := { s1 with rtc := {}, regs := s1.regs.filter (fun e => !(decide (0xE00000 ≤ e.1) && decide (e.1 < 0xF00000))) }
  .next ((s2.setBit oRtcStat 31 false).setBit oRtcStat 30 true)

end Sys2Proof.Machine
end

