-- ==== Sys2Proof/Machine/Control.lean ====
section
/-! DEFINITION. Accesses to the control region (R5 to R9, R13, R14, R20, R21, R429): one word at a time, and as the lanes of a packet.
Every command that is a register write goes through `State.writeReg`. -/

namespace Sys2Proof.Machine

/-! ## Where a register answers (R14) -/

/-- The tile whose logic holds the registers of a block instance. -/
def regTile (l : RegLoc) : Option Nat :=
  match l.blk with
  | .mem => some (l.inst / 2)
  | .ser => some (l.inst / 12)
  | .cnv => some l.inst
  | .eng => if l.off = 8 then none else some (l.inst / 272)
  | _ => none

/-- The registers of a unit that is not ON do not answer. -/
def State.regOff (s : State) (l : RegLoc) : Bool :=
  match regTile l with
  | some t => !s.isOn (oPwrTile t)
  | none => false

/-- R14, R205: an access to a unit that is not ON ends at the last router on its way that is. -/
def State.unitOff (s : State) (req : Nat) (l : RegLoc) : State :=
  s.log (mkRec (routerReq (s.offRouter req (blkDest l))) 0x003 (ctlBase + l.base + l.off) 1 req)

/-- R364, R396, R405: the write is permitted. -/
def State.mayWrite (s : State) (req : Nat) (l : RegLoc) : Bool :=
  match l.blk with
  | .mbx => s.mbxMayWrite l.inst req l.off
  | .dbg => s.dbgMayWrite req l.off
  | .mgm => req == reqMgmt || req == reqDbg || (req == 0xF000 && (l.off == 0x008 || decide (0x80000 ≤ l.off)))
  | _ => true

/-- The record of an access that is not permitted. -/
def State.refuseReg (s : State) (req : Nat) (l : RegLoc) : State :=
  match l.blk with
  | .mbx => s.mbxRefuse l.inst req l.off
  | .dbg => s.dbgRefuse req l.off
  | _ => s.log (mkRec reqMgmt 0x0ED (ctlBase + l.base + l.off) 1 req)

/-! ## The SYS block -/

/-- SYS_ENGCLK of a tile (R96). -/
def State.engclkWrite (s : State) (t : Nat) (v : Word) : WRes :=
  let f := bitsOf v 11 0
  let top := if s.fuses.grade3 then 1250 else 1000
  if top < f ∨ f < 200 ∨ f % 25 ≠ 0 then .rej 0x01
  else if (List.range 16).any (fun c => s.pwr (oPwrClu (16 * t + c)) != 0) then .rej 0x03
  else .ok ((s.setFld (oEngclk t) 11 0 f).setBit (oEngclk t) 31 false)

/-- The SYS block; pairs and posts apart. -/
def State.sysRegWrite (s : State) (off : Nat) (v : Word) : WRes :=
  match pwrUnitAt off with
  | some u => s.pwrWrite u v
  | none =>
    if 0x0C0 ≤ off ∧ off < 0x100 then (if mwinBases (bitsOf v 15 0) then .ok (s.plainWrite off v) else .rej 0x01)
    else if 0x3A0 ≤ off ∧ off < 0x3B0 then s.engclkWrite ((off - 0x3A0) / 4) v
    else if 0x20000 ≤ off ∧ off < 0x30000 then s.strRegWrite off v
    else if (0x40000 ≤ off ∧ off < 0x50000) ∨ (0x80000 ≤ off ∧ off < 0xA0000) then s.redRegWrite off v
    else if 0xC0000 ≤ off then s.clsRegWrite off v
    else match off with
      | 0x380 => s.rstctlWrite v
      | 0x384 => s.rstunitWrite v
      | 0x394 => s.pstateWrite v
      | 0x398 => s.nightcfgWrite v
      | 0x50000 => s.dramilWrite v
      | 0xB0000 => s.chctlWrite v
      | _ => .ok (s.plainWrite off v)

/-- R2, R215: the SYS block as it reads. -/
def State.sysRegRead (s : State) (off : Nat) : Word :=
  if off = 0 then s.sysId
  else if off = 0xB0004 then s.chstatWord
  else if 0x40000 ≤ off ∧ off < 0x48000 ∧ off % 0x40 = 0x24 then s.redStWord ((off - 0x40000) / 0x40)
  else s.reg off

/-! ## The MGM block as it reads -/

/-- MGM_ALARM [5:0]: the conditions that other blocks hold. -/
def State.alarmBits (s : State) : Nat :=
  let ice := s.ranges.any (fun r => s.bit (oPrstat r) 28 || s.bit (oPrstat r) 27)
  let mem := (List.range 8).any (fun k => decide (s.pwr (oPwrMem k) = 4) || s.memFailed k)
  let cnv := (List.range 4).any (fun n => decide (s.pwr (oPwrCnv n) = 4) ||
    (decide (s.fld (oDstat n) 31 29 = 1) && decide (s.reg (oChavail n) ≠ 0xFFFFFFFF)))
  let lnk := (List.range 28).any (fun m => s.bit (oLstat m) 21)
  let eng := !s.isolatedEngines.isEmpty || s.leng.any (fun e => decide (e.2.pstate = 3))
  [eng, lnk, s.timAlarm, cnv, mem, ice].foldr (fun b n => 2 * n + if b then 1 else 0) 0

def State.mgmRegRead (s : State) (off : Nat) : Word :=
  let w := s.reg (oMgm + off)
  match off with
  | 0x020 => withBits w 5 0 s.alarmBits
  | 0x088 => withBits w 27 27 (if s.nvInh then 1 else 0)
  | 0x0C4 => withBits (withBits (withBits w 29 24 s.fuses.imgCount) 21 16 s.fuses.fwCount) 3 0 s.fuses.revoked
  | _ => w

/-! ## One word -/

/-- The value a register shows to a requester. -/
def State.showReg (s : State) (req : Nat) (l : RegLoc) : Word :=
  match l.blk with
  | .sys => s.sysRegRead l.off
  | .cfg => s.cfgRegRead l.off
  | .sch => s.schRegRead l.off
  | .tim => if 0x210 ≤ l.off ∧ l.off < 0x240 then s.lnkDly ((l.off - 0x210) / 4) else s.timRegRead req l.off
  | .mbx => s.mbxRegRead l.inst l.off
  | .dbg => s.dbgRegRead l.off
  | .mem => s.memRegRead l.inst l.off
  | .lnk => s.lnkRegRead l.inst l.off
  | .ser => s.serRegRead l.inst l.off
  | .mgm => s.mgmRegRead l.off
  | .rtc => s.rtcRegRead req l.off
  | .eng =>
    if l.off = 8 then (let w := s.reg (l.base + 8); if s.isOn (oPwrTile (l.inst / 272)) then w else withBits w 26 24 0)
    else s.engRegRead l.inst l.off
  | .pld | .ice | .cnv => s.reg (l.base + l.off)

/-- The meaning of a write of one register, its fields checked (R20). -/
def State.setRegister (s : State) (req via : Nat) (l : RegLoc) (v : Word) : WRes :=
  if l.off = 4 then .ok (s.plainWrite (l.base + 4) v)
  else match l.blk with
  | .sys => s.sysRegWrite l.off v
  | .cfg => s.cfgRegWrite l.off v
  | .pld => s.pldRegWrite l.off v
  | .sch => s.schRegWrite req l.off v
  | .tim => s.timRegWrite l.off v
  | .mbx => s.mbxRegWrite req l.inst l.off v
  | .dbg => s.dbgSet via l.off v
  | .mem => s.memRegWrite l.inst l.off v
  | .ice => s.iceRegWrite l.off v
  | .lnk => s.lnkRegWrite l.inst l.off v
  | .ser => s.serRegWrite l.inst l.off v
  | .cnv => s.cnvRegWrite l.inst l.off v
  | .mgm => s.mgmRegWrite l.off v
  | .rtc => s.rtcRegWrite l.off v
  | .eng => if l.off = 8 then s.pwrWrite (uEng l.inst) v else s.engRegWrite l.inst l.off v

/-- The commit of a 64-bit register (R21); `off` is the offset of its low half in the block. -/
def State.commitPair (s : State) (l : RegLoc) (off : Nat) (lo hi : Word) : WRes :=
  match l.blk with
  | .sys =>
    if 0xC0000 ≤ off then s.ringCommit off lo hi
    else if 0x40000 ≤ off then s.redPairCommit off lo hi
    else s.strPairCommit off lo hi
  | .sch => s.cqbaseCommit ((off - 0x100) / 16) lo hi
  | .tim => s.timPairCommit off lo hi
  | .rtc => s.rtcPairCommit off lo hi
  | .ice => s.icePairCommit off lo hi
  | _ => .ok s

/-! ## Pairs (R6, R21) -/

def State.pairsOf (s : State) (base : Nat) : Pairs := SMap.get (fun _ => {}) s.pairs base
def State.setPairs (s : State) (base : Nat) (p : Pairs) : State := { s with pairs := SMap.set (fun _ => {}) s.pairs base p }

/-- R6: the high half is kept for the requester that reads the low half. -/
def State.takeSnap (s : State) (req : Nat) (l : RegLoc) (hi : Word) : State :=
  let p := s.pairsOf l.base
  let kept := (slotFor Snap.req req p.snaps).filter (fun x => !(x.req == req && x.off == l.off + 4))
  s.setPairs l.base { p with snaps := useLast Snap.req req kept ++ [⟨req, l.off + 4, hi⟩] }

/-- R6: what the requester reads of a high half; its snapshots become the ones used last. -/
def State.useSnap (s : State) (req : Nat) (l : RegLoc) (live : Word) : Word × State :=
  let p := s.pairsOf l.base
  match p.snaps.find? (fun x => x.req == req && x.off == l.off) with
  | none => (live, s)
  | some x => (x.val, s.setPairs l.base { p with snaps := useLast Snap.req req p.snaps })

/-- R21: a low half is held for its requester, in place of one it held; a fifth requester's takes the place of the oldest. -/
def State.holdLow (s : State) (req : Nat) (l : RegLoc) (v : Word) : State :=
  let p := s.pairsOf l.base
  s.setPairs l.base { p with held := (slotFor Snap.req req p.held).filter (fun x => x.req != req) ++ [⟨req, l.off, v⟩] }

/-- R21: the high half commits the pair whose low half the requester holds; both halves are checked first. -/
def State.writeHigh (s : State) (req : Nat) (l : RegLoc) (rh : RegDef) (v : Word) : WRes :=
  let p := s.pairsOf l.base
  let o := l.base + l.off
  match p.held.find? (fun x => x.req == req && x.off == l.off - 4), regAt (o - 4) with
  | some x, some (_, rl, _) =>
    let s1 := s.setPairs l.base { p with held := p.held.filter (fun y => !(y.req == req)) }
    match (rh.gate v (rl.gate x.val (s1.commitPair l (l.off - 4) (rl.merge x.val (s.reg (o - 4))) (rh.merge v (s.reg o))))) with
    | .ok t => .ok t
    | .rej c => .err (s1.reject l.base l.off c)
    | .err t => .err t
  | _, _ => .rej 0x05

/-- Some field of the register can be written. -/
def RegDef.writable (r : RegDef) : Bool :=
  r.flds.any (fun f => match f.kind with | .ro | .rc => false | _ => true)

/-! ## Reads and writes of one word -/

/-- The effects that a read has (R7, R231, R254, R285, R349); a peek has none (R8). The answer is the value read. -/
def State.readEffect (s : State) (req : Nat) (peek : Bool) (l : RegLoc) (r : RegDef) : Word × State :=
  let o := l.base + l.off
  let v := s.showReg req l
  match l.blk with
  | .mbx =>
    if l.off = 0x48 ∨ l.off = 0x88 then
      (let (w, h, s1) := s.mbxPop l.inst (decide (0x80 ≤ l.off)) peek; (w, s1.takeSnap req l h))
    else if l.off = 0x4C ∨ l.off = 0x8C then s.useSnap req l v
    else (v, s)
  | .ice => if l.off = 0x00C then s.rngRead peek else plain o v
  | .tim =>
    if peek = true ∨ l.off < 0x010 ∨ 0x01C < l.off then plain o v else if l.off = 0x010 then (v, s.nowSnap req) else (v, s.nowUse req)
  | .rtc =>
    if peek = true ∨ l.off < 0x010 ∨ 0x018 < l.off then plain o v else if l.off = 0x010 then (v, s.rtcSnap req) else (v, s.rtcUse req)
  | .ser => if l.off = 0x120 ∧ peek = false then (v, s.popStamp l.inst) else plain o v
  | _ => plain o v
where
  /-- Pairs, and fields that a read clears. -/
  plain (o : Nat) (v : Word) : Word × State :=
    if peek then (v, s)
    else if r.pair then (v, s.takeSnap req l (s.showReg req { l with off := l.off + 4 }))
    else if isHighHalf o then s.useSnap req l v
    else if r.flds.any (fun f => f.kind == .rc) then (v, s.setReg o (r.afterRead (s.reg o)))
    else (v, s)

/-- A read of one word: the value, the state after it, and whether it completes with an error response. -/
def State.readReg (s : State) (req : Nat) (peek : Bool) (o : Nat) : Word × State × Bool :=
  match locate o with
  | none => (0, s.log (mkRec (routerReq (s.srcRouter req)) 0x001 (ctlBase + o) 1 req), true)
  | some l =>
    if s.regOff l then (0, s.unitOff req l, true)
    else if l.blk = .mbx ∧ s.mbxMayRead l.inst req l.off = false then (0, s.refuseReg req l, true)
    else match regAt o with
      | none => (0, s, false)
      | some (_, r, _) => let (v, s1) := s.readEffect req peek l r; (v, s1, false)

/-- R216, R290: a write of part of a transmit post is refused as a post; R169: the enqueue addresses take whole requests only. -/
def State.badPost (s : State) (req : Nat) (l : RegLoc) : Option State :=
  let refused : PostOut → Option State := fun x => match x with
    | .refused t => some t
    | _ => none
  if l.blk = .sys ∧ 0x30000 ≤ l.off ∧ l.off < 0x31000 then refused (s.txPost ((l.off - 0x30000) / 16) req false 0)
  else if l.blk = .ser ∧ 0x110 ≤ l.off ∧ l.off < 0x120 then refused (s.serPost l.inst req false 0)
  else if l.blk = .sch ∧ 0x800 ≤ l.off ∧ l.off < 0x860 then some s
  else none

/-- A write of one word: the state after it, and whether it completes with an error response. `via` is the access channel of the
debugger it came through. -/
def State.writeReg (s : State) (req via o : Nat) (v : Word) : State × Bool :=
  match locate o with
  | none => (s.log (mkRec (routerReq (s.srcRouter req)) 0x001 (ctlBase + o) 1 req), true)
  | some l =>
    if s.regOff l then (s.unitOff req l, true)
    else match s.badPost req l, regAt o with
      | some t, _ => (t, true)
      | none, none => (s, false)
      | none, some (_, r, _) =>
        if s.mayWrite req l = false then (s.refuseReg req l, true)
        else if r.pair then ((if r.writable then s.holdLow req l v else s), false)
        else if isHighHalf o then
          (if r.writable then
            (match s.writeHigh req l r v with
             | .ok t => (t, false)
             | .rej c => (s.reject l.base l.off c, false)
             | .err t => (t, false))
           else (s, false))
        else (r.gate v (s.setRegister req via l v)).settle s l.base l.off

/-! ## Commands that are one access -/

/-- R8: the debugger has set EFFRD: in DBG_ACTL of either channel, since a command does not name the channel it came through. -/
def State.debugReads (s : State) : Bool := s.bit (oActl 0) 30 || s.bit (oActl 1) 30

/-- A write command reaches the control region while the hub is ON. An error response is an output. -/
def State.cmdWrite (s : State) (req : Req) (o : Nat) (v : Word) : State :=
  if s.sys.hubOn = false then s
  else if reservedDie req.toNat then s.discardReserved (ctlBase + o) req.toNat
  else
    let (t, e) := s.writeReg req.toNat 0 o v
    if e then t.emit (.regErr req.toNat o) else t

/-- A read command. -/
def State.cmdRead (s : State) (req : Req) (o : Nat) : State :=
  if s.sys.hubOn = false then s
  else if reservedDie req.toNat then s.discardReserved (ctlBase + o) req.toNat
  else
    let (v, t, e) := s.readReg req.toNat (decide (req.toNat = reqDbg) && !s.debugReads) o
    if e then t.emit (.regErr req.toNat o) else t.emit (.regRead req.toNat o v)

/-! ## The lanes of a packet (R429) -/

/-- The byte enables of a lane: none, some or all. -/
def laneEnables (en : List Bool) (i : Nat) : Bool × Bool :=
  let l := (en.drop (4 * i)).take 4
  (l.any id, l.all id)

/-- R429: a lane with some of its enables set. -/
def State.partLane (s : State) (req o : Nat) : State × Bool :=
  match regAt o with
  | none => s.writeReg req 0 o 0
  | some (l, _, _) =>
    if s.regOff l then (s.unitOff req l, true)
    else if s.mayWrite req l = false then (s.refuseReg req l, true)
    else (s.reject l.base l.off 0x05, false)

/-- A write packet to the control region: its lanes in ascending order. A mailbox takes the lowest lane only (R370). -/
def State.writeLanes (s : State) (via : Nat) (p : Pkt) : State × Bool :=
  let req := p.src.toNat
  let o := pktAddr p - ctlBase
  let en := pktEnables p
  let data := pktData p
  let used := (List.range (pktBytes p / 4)).filter (fun i => (laneEnables en i).1)
  let mbx : Bool := match locate o with | some l => l.blk == .mbx | none => false
  (if mbx then used.take 1 else used).foldl (fun (x : State × Bool) i =>
    let (t, e) := if (laneEnables en i).2 then
        x.1.writeReg req via (o + 4 * i) (BitVec.ofNat 32 (ofBytesLE ((data.drop (4 * i)).take 4)))
      else x.1.partLane req (o + 4 * i)
    (t, x.2 || e)) (s, false)

/-- A read packet: each lane in ascending order. -/
def State.readLanes (s : State) (peek : Bool) (p : Pkt) : State × Bool × List Byte :=
  let req := p.src.toNat
  let o := pktAddr p - ctlBase
  let en := pktEnables p
  (List.range (pktBytes p / 4)).foldl (fun (x : State × Bool × List Byte) i =>
    if (laneEnables en i).1 then
      let (v, t, e) := x.1.readReg req peek (o + 4 * i)
      (t, x.2.1 || e, x.2.2 ++ bytesLE 4 v.toNat)
    else (x.1, x.2.1, x.2.2 ++ bytesLE 4 0)) (s, false, [])

end Sys2Proof.Machine
end

