-- ==== Sys2Proof/Machine/NetServe.lean ====
section
/-! DEFINITION. What becomes of a request on the network (R14, R38, R147, R148, R195 to R206, R215, R290): the tests on its way, and the unit that serves
it; and the requests of the host (R17, R18). -/

namespace Sys2Proof.Machine

/-! ## Registers of the control region -/

/-- The enqueue input of a requester (R168). -/
def enqInputOf (q : Nat) : Nat :=
  let t := q / 0x1000
  if 4 ≤ t then 0 else if q % 0x1000 < 0x110 then 2 + 4 * t else if 0x400 ≤ q % 0x1000 ∧ q % 0x1000 < 0x408 then 1 + 4 * t else 0

/-- R169: a write to SCH_ENQADDR (64 bytes) or SCH_TENQADDR (32 bytes). A write of another form gets an error response. -/
def State.enqServe (s : State) (o : Nat) (p : Pkt) : Option State :=
  let tmpl := decide (0x300840 ≤ o)
  if o ≠ (if tmpl then 0x300840 else 0x300800) ∨ p.len.toNat ≠ (if tmpl then 1 else 2) ∨ p.poison = true then
    some ((s.answer p true 1 false []).log (mkRec reqSch 0x050 0 11 p.src.toNat))
  else if s.inputRoom (enqInputOf p.src.toNat) = false then none
  else
    let ws := (List.range (if tmpl then 8 else 16)).map (fun i => BitVec.ofNat 32 (ofBytesLE ((p.body.drop (4 * i)).take 4)))
    some (s.pushInput (enqInputOf p.src.toNat)
      (enqItem (.noc p.src.toNat p.tag.toNat) p.src.toNat p.epoch.toNat p.lid.toNat tmpl ws))

/-- What becomes of a write to a post address. -/
def State.postServe (s : State) (p : Pkt) (x : PostOut) : Option State :=
  match x with
  | .taken t => some (t.answer p true 0 false [])
  | .refused t => some (t.answer p true 1 false [])
  | .waits => if p.poison then some (s.answer p true 1 false []) else none

/-- A post is one whole aligned word without poison (R216, R290). -/
def wholePost (p : Pkt) : Bool := decide (p.len = 0) && decide (p.be = 0xFFFF) && !p.poison

/-- A request to the control region, at its block (R148, R429). None while it waits for room. -/
def State.ctlServe (s : State) (write : Bool) (p : Pkt) : Option State :=
  let q := p.src.toNat
  let o := pktAddr p - ctlBase
  let strm := decide (0x30000 ≤ o) && decide (o < 0x31000)
  if s.oldEpoch (if write && strm then 12 else if write && decide (0x300800 ≤ o) && decide (o < 0x300880) then 0 else 13) p then some (s.staleAck write p)
  else
    let ch := match (s.net.outst.find? (fun x => x.src == q && x.tag == p.tag.toNat && x.write == write)).map OutReq.kind with
      | some (.debug c) => c
      | _ => 0
    if write then
      if strm then s.postServe p (s.txPost ((o - 0x30000) / 16) q (wholePost p) p.inl)
      else if 0x300800 ≤ o ∧ o < 0x300880 then s.enqServe o p
      else match locate o with
        | some ⟨.ser, l, _, 0x110⟩ =>
          if s.isOn (oPwrTile (l / 12)) then s.postServe p (s.serPost l q (wholePost p) p.inl)
          else some ((s.unitOff q ⟨.ser, l, oSer l, 0x110⟩).answer p true 1 false [])
        | _ =>
          if p.poison then some (s.answer p true 1 false [])
          else
            let (t, e) := s.writeLanes ch p
            some (t.answer p true (if e then 1 else 0) false [])
    else
      let (t, e, d) := s.readLanes (decide (q = reqDbg) && !(s.dbgChan ch).effrd) p
      some (t.answer p false (if e then 1 else 0) false d)

/-! ## Other units -/

/-- A request to a DRAM channel (R38, R148). -/
def State.dramServe (s : State) (write : Bool) (p : Pkt) (d : Dest) : Option State :=
  match s.dramPlace (pktAddr p) with
  | none => some (s.refusePkt write p (routerReq (s.srcRouter p.src.toNat)) 0x001)
  | some (k, _) =>
    if s.memOn k = false then some (s.refusePkt write p (routerReq d.router) 0x014)
    else if s.oldEpoch (3 + k) p then some (s.staleAck write p)
    else s.memArrive k write p

/-- The flits of a request and of a response (R199, R200). -/
def reqFlits (write : Bool) (p : Pkt) : Nat := if write then 1 + p.len.toNat else 1
def rspFlits (r : Rsp) : Nat := 1 + r.len.toNat

/-! ## A request is routed and served -/

/-- What becomes of a request. None while it waits for a route, for room on its path or at its destination. -/
def State.serve (s : State) (write : Bool) (p : Pkt) : Option State :=
  let q := p.src.toNat
  let a := pktAddr p
  if reservedDie q then some (s.discardReserved a q)
  else if malformed write p then some (s.discardPkt p)
  else if s.sluiceShut q then
    some (if s.sluiceFlag q then s.answer p write 1 false [] else s)
  else match s.addrDest a with
    | none => some (s.refusePkt write p (routerReq (s.srcRouter q)) 0x001)
    | some d =>
      if s.pairHeld p d then none
      else if s.destOn d = false then
        (if ctlBase ≤ a then s.ctlServe write p
         else some (s.refusePkt write p (routerReq (s.offRouter q d)) 0x014))
      else
        let way := s.wayTo s.routeEnv q d
        if way.getLast? ≠ some d.router then some ((s.answer p write 1 false []).lostPaths)
        else if s.pathRoom way (reqFlits write p) = false then none
        else
          let s1 := (s.pathFlits way (reqFlits write p)).onWay p write way
          match regionOf a with
          | some .dram => s1.dramServe write p d
          | some .engine => some (s1.engServe write p)
          | some .fabric => some (s1.fabServe write p)
          | some .control => s1.ctlServe write p
          | none => some s

/-- The virtual channels (R200). -/
inductive VC where
  | ctl
  | rsp
  | red
  | req
  deriving DecidableEq, Repr

/-- The virtual channel, the source unit and the destination unit between which R210 keeps a message in order. None for a read response,
which returns in any order, and for a response that nothing here waits for. -/
def State.flowOf (s : State) : NetMsg → Option (VC × Nat × Nat)
  | .rd p | .wr p => some (.req, p.src.toNat, match s.addrDest (pktAddr p) with | some d => d.code | none => 2 ^ 16)
  | .rcon p => some (.req, p.src.toNat, destOf (p.src.toNat / 0x1000) (routerNo (s.srcRouter p.src.toNat)) 2)
  | .rdrsp _ => none
  | .wrack r =>
    match s.net.outst.find? (fun o => o.src == r.dst.toNat && o.tag == r.tag.toNat && o.write) with
    | some o => some (.rsp, match s.addrDest o.addr with | some d => d.code | none => 2 ^ 16, r.dst.toNat)
    | none => none
  | .rwide w => some (.red, w.at_, rootRouter (s.redRoot w.group))

/-- R210: an older message of the same virtual channel, source and destination is still on its way. -/
def State.behind (s : State) (m : NetMsg) : Bool :=
  match s.flowOf m with
  | none => false
  | some k => (s.net.msgs.takeWhile (fun x => x != m)).any (fun x => s.flowOf x == some k)

/-- A message leaves the network. -/
def State.unsend (s : State) (m : NetMsg) : State := { s with net := { s.net with msgs := s.net.msgs.erase m } }

/-- A message that waits is in the network. -/
def State.keep (s : State) (m : NetMsg) : State := if s.net.msgs.contains m then s else s.send m

/-- A request packet: one on the network, or one that arrives from outside. -/
def State.request (s : State) (write : Bool) (p : Pkt) : State :=
  let m : NetMsg := if write then .wr p else .rd p
  if s.sys.hubOn = false then s
  else if s.behind m then s.keep m
  else
    let s1 := match s.addrDest (pktAddr p) with | some d => s.noteMoved p d | none => s
    match (s1.unsend m).serve write p with
    | some t => t
    | none => s1.keep m

/-- The routers that a response passes, by R204 from the unit that answers to the requester; none where nothing here asked for it. -/
def State.rspWay (s : State) (write : Bool) (r : Rsp) : List Nat :=
  match s.net.outst.find? (fun o => o.src == r.dst.toNat && o.tag == r.tag.toNat && o.write == write) with
  | none => []
  | some o => match s.addrDest o.addr with
    | none => []
    | some d =>
      let r := s.srcRouter o.src
      s.routeEnv.path r (routerNo d.router + routerNo r) d.router

/-- R201: a response is discarded at the first router that receives it, and the time-out of its source answers. -/
def State.discardRsp (s : State) (write : Bool) (r : Rsp) : State :=
  let at_ := (s.rspWay write r).headD (s.srcRouter r.dst.toNat)
  (s.count 0x10008 31 0 1).log (mkRec (routerReq at_) 0x060 0 1 r.dst.toNat)

/-- A response packet (R202); one on the network, or one that comes from the fabric. Where no way is left to its requester it waits for one
(R206). -/
def State.response (s : State) (write : Bool) (r : Rsp) : State :=
  let m : NetMsg := if write then .wrack r else .rdrsp r
  if s.sys.hubOn = false then s
  else if malformedRsp write r then (s.unsend m).discardRsp write r
  else if s.behind m then s.keep m
  else if (s.rspWay write r).getLast?.any (fun x => x ≠ s.srcRouter r.dst.toNat) ∨ s.pathRoom (s.rspWay write r) (rspFlits r) = false then s.keep m
  else ((s.unsend m).pathFlits (s.rspWay write r) (rspFlits r)).deliver write r

/-- A contribution at its entry node, after the older ones of its source (R210, R221). -/
def State.rconServe (s : State) (p : Pkt) : State :=
  let m : NetMsg := .rcon p
  if s.sys.hubOn = false then s
  else if s.behind m then s.keep m
  else
    let s1 := s.unsend m
    if reservedDie p.src.toNat then s1.discardReserved (pktAddr p) p.src.toNat
    else if p.typ ≠ 4 ∨ p.len ≠ 0 ∨ p.zeroBit = true ∨ p.body ≠ [] then s1.discardPkt p
    else s1.contribute p

/-- R210, R223: the `i`-th wide packet moves on, after the older ones of its router to the same root. -/
def State.moveWide (s : State) (i : Nat) : State :=
  match nthWide i s.net.msgs with
  | some w => if s.behind (.rwide w) then s else ({ s with net := { s.net with msgs := dropWide i s.net.msgs } }).wideAt w
  | none => s

/-! ## The host (R17, R18) -/

def hostReq (fn : Fin 17) : Nat := 0xF000 + fn.val
def reqHostUnit : Nat := 0x4004

/-- The address an access of the host reaches; none is a decode miss. -/
def State.hostAddr (s : State) (t : Tlp) : Option Nat :=
  match t.bar with
  | .config => none
  | .control =>
    let o := t.off.toNat / 4 * 4
    if t.fn = 0 then some (ctlBase + o % 0x2000000)
    else if o % 0x1000 < 0x100 then some (ctlBase + 0x600000 + 0x100 * (39 + t.fn.val) + o % 0x1000) else none
  | .memory =>
    let o := t.off.toNat / 4 * 4
    let j := if t.fn = 0 then o / 2 ^ 32 else t.fn.val - 1
    let w := s.reg (0xC0 + 4 * j)
    if bitsOf w 31 31 = 1 then some (bitsOf w 15 0 * 2 ^ 32 + o % 2 ^ 32) else none

/-- A packet's worth of a host access: address, LEN, byte enables, bytes. -/
structure HostPiece where
  addr : Nat
  len : Nat
  be : BitVec 16
  data : List Byte

/-- Bytes with their enables from a multiple of 16 on, cut into packets (R201): the largest aligned body whose bytes are all enabled, else
one word; words without an enabled byte are left out. -/
def hostPieces : Nat → Nat → List (Bool × Byte) → List HostPiece
  | 0, _, _ => []
  | n + 1, a, l =>
    if l = [] then []
    else
      let len := pieceLen a ((l.takeWhile Prod.fst).length / 16 * 16)
      let k := pieceBytes len
      let cur := l.take k
      let be := (cur.take 16).foldr (fun x n => 2 * n + if x.1 then 1 else 0) 0
      let rest := hostPieces n (a + k) (l.drop k)
      if cur.any Prod.fst then ⟨a, len, BitVec.ofNat 16 be, cur.map Prod.snd⟩ :: rest else rest

/-- The bytes of dwords at `a`, from the 16-byte word that holds the first. -/
def padded (a : Nat) (l : List (Bool × Byte)) : List (Bool × Byte) :=
  let l1 := List.replicate (a % 16) (false, 0) ++ l
  l1 ++ List.replicate ((16 - l1.length % 16) % 16) (false, 0)

def dwordBytes (x : BitVec 4 × Word) : List (Bool × Byte) := (List.range 4).map (fun i => (x.1.getLsbD i, byteOf x.2 i))
where
  byteOf (w : Word) (i : Nat) : Byte := BitVec.ofNat 8 (w.toNat / 256 ^ i)

/-- One packet of a host read. -/
def State.hostRead (s : State) (fn : Fin 17) (tag : Nat) (h : HostPiece) : State :=
  let q := hostReq fn
  let t := s.freeTag q
  let p := if h.len = 0 then inlinePkt 0 q t 0 0 h.addr h.be false 0 else bodyPkt 0 q t 0 0 h.addr h.len false []
  let lanes := (List.range 4).map (fun i => h.be.getLsbD (4 * i))
  let k : ReqKind := if h.len = 0 then .host tag false (lanes.takeWhile (fun b => !b)).length (lanes.filter id).length else .host tag false 0 (8 * h.len)
  let s1 := s.send (.rd p)
  { s1 with net := { s1.net with outst := s1.net.outst ++ [outReq q t h.addr false k] } }

/-- A host request through a window. -/
def State.hostTlp (s : State) (t : Tlp) : State :=
  if s.sys.linkUp = false ∨ s.sys.hubOn = false then s
  else
    let tag := t.tag.toNat
    let s0 := if t.write = true ∧ t.ep = true then { s with sys := { s.sys with aerPoisoned := true } } else s
    if t.bar = Bar.config then
      if t.fn ≠ 0 then s
      else if t.write then s0.windowData t.data
      else s.emit (.hostCpl tag 0 false (List.replicate t.dwords 0))
    else match s.hostAddr t with
      | none =>
        let s1 := s0.log (mkRec reqHostUnit 0x001 t.off.toNat 1 (hostReq t.fn))
        if t.write then s1 else s1.emit (.hostCpl tag 1 false [])
      | some a =>
        let l := if t.write then t.data.flatMap dwordBytes else List.replicate (4 * t.dwords) (true, 0)
        let ps := hostPieces (l.length + 2) (a / 16 * 16) (padded a l)
        if t.write then ps.foldl (fun r h => r.issueWr (hostReq t.fn) 0 0 h.addr h.len h.be t.ep h.data (.host tag true 0 0)) s0
        else ps.foldl (fun r h => r.hostRead t.fn tag h) s0

/-- R18: a responder has not answered a host request for 1 ms. A read completes with Completer Abort; answers that come later are ignored. -/
def State.rspTmo (s : State) (tag : Nat) : State :=
  let mine (o : OutReq) : Bool := match o.kind with | .host t .. => t == tag | _ => false
  match s.net.outst.find? mine with
  | none => s
  | some o =>
    let s1 := { s with net := { s.net with outst := s.net.outst.map (fun x => if mine x && x.src == o.src && x.write == o.write then { x with kind := .other } else x) } }
    let s2 := s1.log (mkRec reqHostUnit 0x004 o.addr 1 o.src)
    if o.write then s2 else s2.emit (.hostCpl tag 1 false [])

end Sys2Proof.Machine
end

