-- ==== Sys2Proof/Machine/NetEvents.lean ====
section
/-! DEFINITION. Commands of the network, the streams, the reduction groups and the host windows (ch. 01, 08). -/

namespace Sys2Proof.Machine

/-! ## Host windows -/

def execHostTlp (t : Tlp) (s : State) : Host.Outcome State Fault Refusal := .next (s.hostTlp t)
def execRspTmo (tag : BitVec 8) (s : State) : Host.Outcome State Fault Refusal := .next (s.rspTmo tag.toNat)

/-! ## Packets (R200) -/

def execRd (p : Pkt) (s : State) : Host.Outcome State Fault Refusal := .next (s.request false p)
def execWr (p : Pkt) (s : State) : Host.Outcome State Fault Refusal := .next (s.request true p)
def execRdrsp (r : Rsp) (s : State) : Host.Outcome State Fault Refusal := .next (s.response false r)
def execWrack (r : Rsp) (s : State) : Host.Outcome State Fault Refusal := .next (s.response true r)
def execRcon (p : Pkt) (s : State) : Host.Outcome State Fault Refusal := .next (s.rconServe p)
def execRwide (i : Nat) (s : State) : Host.Outcome State Fault Refusal := .next (s.moveWide i)

/-- The number of a port that checks the epoch. -/
def epochPort : EpochPort → Nat
  | .sched => 0
  | .engMem => 1
  | .reduction => 2
  | .dram k => 3 + k.val
  | .fabric => 11
  | .stream => 12
  | .control => 13

/-- R147: a port takes the new epoch and acknowledges it. -/
def State.epochTo (s : State) (p l : Nat) : State :=
  let x := s.le l
  if x.waiting.contains p then
    ((s.setPortEpoch p l x.epoch).setLe l { x with waiting := x.waiting.filter (fun y => y ≠ p) }).placeIfReady l
  else s

def execEpoch (p : EpochPort) (l : LEng) (s : State) : Host.Outcome State Fault Refusal := .next (s.epochTo (epochPort p) l.val)

/-! ## Routes (R206) -/

def execModuleLeavesService (m : LMod) (s : State) : Host.Outcome State Fault Refusal := .next (s.leavesService m.val)
def execPairReroute (src dst : Req) (s : State) : Host.Outcome State Fault Refusal := .next (s.pairMoves src.toNat dst.toNat)

/-! ## Streams (R211 to R218) -/

def execStreamSamples (c : Strm) (sec : BitVec 48) (ns : Word) (frac : BitVec 16) (first : List Int) (rest : List (List Int))
    (s : State) : Host.Outcome State Fault Refusal :=
  .next (s.strSamples c.val (timeOf sec.toNat ns.toNat frac.toNat) (first :: rest))

def execRxBlockLand (c : Strm) (s : State) : Host.Outcome State Fault Refusal := .next (s.strLand c.val)

/-- A write of a post that came from outside the network waits in it when its queue is full. -/
def State.postCmd (s : State) (req : Req) (epoch : BitVec 8) (lid : BitVec 10) (o : Nat) (data : Quad) (x : PostOut) : State :=
  match x with
  | .taken t => t
  | .refused t => t.emit (.regErr req.toNat o)
  | .waits => s.issueWr req.toNat epoch.toNat lid.toNat (ctlBase + o) 0 0xFFFF false (bytesLE 16 data.toNat) .other

/-- R148, R215. -/
def execStrtxpost (req : Req) (epoch : BitVec 8) (lid : BitVec 10) (c : Strm) (whole : Bool) (data : Quad) (s : State) :
    Host.Outcome State Fault Refusal :=
  if s.sys.hubOn = false then .next s
  else if reservedDie req.toNat then .next (s.discardReserved (ctlBase + 0x30000 + 0x10 * c.val) req.toNat)
  else if (engOfReq req.toNat).isSome = true ∧ epoch.toNat ≠ s.portEpoch 12 lid.toNat then .next (s.countStale lid.toNat)
  else .next (s.postCmd req epoch lid (0x30000 + 0x10 * c.val) data (s.txPost c.val req.toNat whole data))

def execTxBlockFetch (c : Strm) (s : State) : Host.Outcome State Fault Refusal := .next (s.txFetch c.val)
def execTxFetchLate (c : Strm) (s : State) : Host.Outcome State Fault Refusal := .next (s.txLate c.val)
def execTxBlockEmit (c : Strm) (sums : List Int) (s : State) : Host.Outcome State Fault Refusal := .next (s.txEmit c.val sums)
def execStreamResume (c : Strm) (s : State) : Host.Outcome State Fault Refusal := .next (s.strResume c.val)

/-- R290. -/
def execSerTxpost (req : Req) (l : Lane) (whole : Bool) (data : Quad) (s : State) : Host.Outcome State Fault Refusal :=
  if s.sys.hubOn = false then .next s
  else if reservedDie req.toNat then .next (s.discardReserved (ctlBase + oSer l.val + 0x110) req.toNat)
  else if s.isOn (oPwrTile (l.val / 12)) = false then
    .next ((s.unitOff req.toNat ⟨.ser, l.val, oSer l.val, 0x110⟩).emit (.regErr req.toNat (oSer l.val + 0x110)))
  else .next (s.postCmd req 0 0 (oSer l.val + 0x110) data (s.serPost l.val req.toNat whole data))

/-! ## Reduction groups (R220 to R225) -/

def execGroupReady (g : Grp) (s : State) : Host.Outcome State Fault Refusal := .next (s.groupReady g.val)
def execRedEntryHoldExpiry (r : Router) (i : Nat) (s : State) : Host.Outcome State Fault Refusal := .next (s.entryExpiry r.val i)

/-- R225: a slot that is open TMO × 100 ns after it opened. -/
def execRedSlotTimeout (g : Grp) (word : Fin 2048) (parity : Fin 2) (s : State) : Host.Outcome State Fault Refusal :=
  .next (if (s.slot g.val (slotKey word.val parity.val)).isOpen then s.closeTimeout g.val (slotKey word.val parity.val) else s)

end Sys2Proof.Machine
end

