-- ==== Sys2Proof/Machine/RegCommands.lean ====
section
/-! DEFINITION. Commands that are one write or one read of a control register: each reaches its register as any access does, so the fields the
word spells decide what happens. -/

namespace Sys2Proof.Machine

def mbxSideOff (n : Mbx) (x : Side) : Nat := oSide n.val (match x with | .a => false | .b => true)

/-- DBG_ECFG of an engine; DBG_MCFG. -/
def targetOff : DbgTarget → Nat
  | .eng e => oEcfg e.val
  | .mgmt => oMcfg

/-! ## Windows, power and resets (ch. 01, 02) -/

/-- R20: a register that has no row of its own. -/
def execRegisterWrite (req : Req) (off : COff) (val : Word) (s : State) : Host.Outcome State Fault Refusal := .next (s.cmdWrite req off.toNat val)

/-- R6. -/
def execPairLowRead (req : Req) (off : COff) (s : State) : Host.Outcome State Fault Refusal := .next (s.cmdRead req off.toNat)

/-- R6. -/
def execPairHighRead (req : Req) (off : COff) (s : State) : Host.Outcome State Fault Refusal := .next (s.cmdRead req off.toNat)

/-- R21. -/
def execPairLowWrite (req : Req) (off : COff) (val : Word) (s : State) : Host.Outcome State Fault Refusal := .next (s.cmdWrite req off.toNat val)

/-- R21. -/
def execPairHighWrite (req : Req) (off : COff) (val : Word) (s : State) : Host.Outcome State Fault Refusal := .next (s.cmdWrite req off.toNat val)

/-- R36. -/
def execUnitPwrWrite (req : Req) (u : Sys2Proof.PUnit) (val : Word) (s : State) : Host.Outcome State Fault Refusal := .next (s.cmdWrite req (pwrOff u) val)

/-- R39: SYS_RSTCTL. -/
def execWarmReset (req : Req) (val : Word) (s : State) : Host.Outcome State Fault Refusal := .next (s.cmdWrite req 0x380 val)

/-- R39: SYS_RSTCTL. -/
def execSoftReset (req : Req) (val : Word) (s : State) : Host.Outcome State Fault Refusal := .next (s.cmdWrite req 0x380 val)

/-- R39: SYS_RSTUNIT. -/
def execTileReset (req : Req) (val : Word) (s : State) : Host.Outcome State Fault Refusal := .next (s.cmdWrite req 0x384 val)

/-- R39: SYS_RSTUNIT. -/
def execEngineReset (req : Req) (val : Word) (s : State) : Host.Outcome State Fault Refusal := .next (s.cmdWrite req 0x384 val)

/-- R39: SYS_RSTUNIT. -/
def execPolderReset (req : Req) (val : Word) (s : State) : Host.Outcome State Fault Refusal := .next (s.cmdWrite req 0x384 val)

/-- R39: SYS_RSTUNIT. -/
def execLinkModuleReset (req : Req) (val : Word) (s : State) : Host.Outcome State Fault Refusal := .next (s.cmdWrite req 0x384 val)

/-- R41: SYS_PSTATE. -/
def execNightEnter (req : Req) (val : Word) (s : State) : Host.Outcome State Fault Refusal := .next (s.cmdWrite req oPstate val)

/-- R42: SYS_PSTATE. -/
def execNightExit (req : Req) (val : Word) (s : State) : Host.Outcome State Fault Refusal := .next (s.cmdWrite req oPstate val)

/-! ## Configuration, polders, engines (ch. 03 to 06) -/

/-- R72: CFG_CTL. -/
def execClear (req : Req) (val : Word) (s : State) : Host.Outcome State Fault Refusal := .next (s.cmdWrite req oCfg val)

/-- R73: CFG_CTL. -/
def execAbort (req : Req) (val : Word) (s : State) : Host.Outcome State Fault Refusal := .next (s.cmdWrite req oCfg val)

/-- R88: PLD_CTL. -/
def execRun (req : Req) (p : Pld) (val : Word) (s : State) : Host.Outcome State Fault Refusal := .next (s.cmdWrite req (oPgeom p.val + 0xC) val)

/-- R88: PLD_CTL. -/
def execHold (req : Req) (p : Pld) (val : Word) (s : State) : Host.Outcome State Fault Refusal := .next (s.cmdWrite req (oPgeom p.val + 0xC) val)

/-- R96: SYS_ENGCLK. -/
def execEngclkWrite (req : Req) (t : Tile) (val : Word) (s : State) : Host.Outcome State Fault Refusal := .next (s.cmdWrite req (oEngclk t.val) val)

/-- R149: ENG_CTL. -/
def execIsolate (req : Req) (e : Eng) (val : Word) (s : State) : Host.Outcome State Fault Refusal := .next (s.cmdWrite req (oEng e.val) val)

/-- R157: ENG_CTL. -/
def execRelease (req : Req) (e : Eng) (val : Word) (s : State) : Host.Outcome State Fault Refusal := .next (s.cmdWrite req (oEng e.val) val)

/-- R159: ENG_STEST. -/
def execStestStart (req : Req) (e : Eng) (val : Word) (s : State) : Host.Outcome State Fault Refusal := .next (s.cmdWrite req (oEng e.val + 0x20) val)

/-! ## The scheduler (ch. 07) -/

/-- R170: SCH_PGO. -/
def execPortalGo (req : Req) (p : Fin 4) (val : Word) (s : State) : Host.Outcome State Fault Refusal := .next (s.cmdWrite req (oPstat p.val - 4) val)

/-- R170: SCH_PGO. -/
def execPortalAbort (req : Req) (p : Fin 4) (val : Word) (s : State) : Host.Outcome State Fault Refusal := .next (s.cmdWrite req (oPstat p.val - 4) val)

/-- R173: SCH_EVPOST. -/
def execSchEvpost (req : Req) (val : Word) (s : State) : Host.Outcome State Fault Refusal := .next (s.cmdWrite req (oSch + 0x58) val)

/-- R178: SCH_CANCEL. -/
def execSchCancel (req : Req) (val : Word) (s : State) : Host.Outcome State Fault Refusal := .next (s.cmdWrite req (oSch + 0x5C) val)

/-- R193: SCH_CANCEL. -/
def execQclr (req : Req) (val : Word) (s : State) : Host.Outcome State Fault Refusal := .next (s.cmdWrite req (oSch + 0x5C) val)

/-- R188: SCH_CQCTL. -/
def execSchCqctlWrite (req : Req) (q : CQ) (val : Word) (s : State) : Host.Outcome State Fault Refusal := .next (s.cmdWrite req (oCqctl q.val) val)

/-! ## Streams and reduction groups (ch. 08) -/

/-- R217: SYS_STRCFG. -/
def execStrcfgEnable (req : Req) (c : Strm) (val : Word) (s : State) : Host.Outcome State Fault Refusal := .next (s.cmdWrite req (oStr c.val) val)

/-- R217: SYS_STRCFG. -/
def execStrcfgDisable (req : Req) (c : Strm) (val : Word) (s : State) : Host.Outcome State Fault Refusal := .next (s.cmdWrite req (oStr c.val) val)

/-- R220: SYS_REDCFG. -/
def execRedcfgEnable (req : Req) (g : Grp) (val : Word) (s : State) : Host.Outcome State Fault Refusal := .next (s.cmdWrite req (oRed g.val) val)

/-- R228: SYS_REDCFG. -/
def execRedcfgDisable (req : Req) (g : Grp) (val : Word) (s : State) : Host.Outcome State Fault Refusal := .next (s.cmdWrite req (oRed g.val) val)

/-! ## Time (ch. 09) -/

/-- R231. -/
def execTimNownsRead (req : Req) (s : State) : Host.Outcome State Fault Refusal := .next (s.cmdRead req (oTim + 0x10))

/-- R237: the high half of TIM_PTPOFF. -/
def execPtpMeasurement (req : Req) (i : Fin 2) (val : Word) (s : State) : Host.Outcome State Fault Refusal := .next (s.cmdWrite req (oTim + 0xEC + 0x10 * i.val) val)

/-- R243. -/
def execTimSetgo (req : Req) (val : Word) (s : State) : Host.Outcome State Fault Refusal := .next (s.cmdWrite req (oTim + 0x2C) val)

/-- R243: TIM_CTL. -/
def execRearm (req : Req) (val : Word) (s : State) : Host.Outcome State Fault Refusal := .next (s.cmdWrite req oTim val)

/-- R242: TIM_CTL. -/
def execForceho (req : Req) (val : Word) (s : State) : Host.Outcome State Fault Refusal := .next (s.cmdWrite req oTim val)

/-- R252: TIM_SYMCFG. -/
def execSymcfgEnable (req : Req) (val : Word) (s : State) : Host.Outcome State Fault Refusal := .next (s.cmdWrite req oSymCfg val)

/-- R255: the high half of RTC_SETSEC. -/
def execRtcSet (req : Req) (val : Word) (s : State) : Host.Outcome State Fault Refusal := .next (s.cmdWrite req (oRtc + 0x24) val)

/-- R254. -/
def execRtcSubRead (req : Req) (s : State) : Host.Outcome State Fault Refusal := .next (s.cmdRead req (oRtc + 0x10))

/-- R258: RTC_KEYCTL. -/
def execCommit (req : Req) (val : Word) (s : State) : Host.Outcome State Fault Refusal := .next (s.cmdWrite req (oRtc + 0x60) val)

/-- R258: RTC_KEYCTL. -/
def execZero (req : Req) (val : Word) (s : State) : Host.Outcome State Fault Refusal := .next (s.cmdWrite req (oRtc + 0x60) val)

/-! ## Converters, lanes, links, protected ranges (ch. 10 to 14) -/

/-- R273: CNV_CALCTL. -/
def execCnvCalctlRun (req : Req) (n : Conv) (val : Word) (s : State) : Host.Outcome State Fault Refusal := .next (s.cmdWrite req (oCnv n.val + 0xC) val)

/-- R281: SER_PCFG. -/
def execPortEnable (req : Req) (l : Lane) (val : Word) (s : State) : Host.Outcome State Fault Refusal := .next (s.cmdWrite req (oPcfg l.val) val)

/-- R291: SER_PCFG. -/
def execPortDisable (req : Req) (l : Lane) (val : Word) (s : State) : Host.Outcome State Fault Refusal := .next (s.cmdWrite req (oPcfg l.val) val)

/-- R285. -/
def execSerTxtsRead (req : Req) (l : Lane) (s : State) : Host.Outcome State Fault Refusal := .next (s.cmdRead req (oSer l.val + 0x120))

/-- R292: SYS_CHCTL. -/
def execChctlWrite (req : Req) (val : Word) (s : State) : Host.Outcome State Fault Refusal := .next (s.cmdWrite req oChctl val)

/-- R307: LNK_CTL. -/
def execLnkOos (req : Req) (m : LMod) (val : Word) (s : State) : Host.Outcome State Fault Refusal := .next (s.cmdWrite req (oLnk m.val) val)

/-- R307: LNK_CTL. -/
def execLnkRetrain (req : Req) (m : LMod) (val : Word) (s : State) : Host.Outcome State Fault Refusal := .next (s.cmdWrite req (oLnk m.val) val)

/-- R349. -/
def execIceRngRead (req : Req) (s : State) : Host.Outcome State Fault Refusal := .next (s.cmdRead req (oIce + 0xC))

/-- R350: ICE_PRCFG. -/
def execPrEnable (req : Req) (r : Rng) (val : Word) (s : State) : Host.Outcome State Fault Refusal := .next (s.cmdWrite req (oRange r.val) val)

/-- R351: ICE_PRCFG. -/
def execPrDisable (req : Req) (r : Rng) (val : Word) (s : State) : Host.Outcome State Fault Refusal := .next (s.cmdWrite req (oRange r.val) val)

/-- R359: ICE_PRCTL. -/
def execRotate (req : Req) (r : Rng) (val : Word) (s : State) : Host.Outcome State Fault Refusal := .next (s.cmdWrite req (oRange r.val + 0x20) val)

/-! ## Mailboxes (ch. 15) -/

/-- R365: MBX_TXD. -/
def execMbxTxd (req : Req) (n : Mbx) (x : Side) (val : Word) (s : State) : Host.Outcome State Fault Refusal := .next (s.cmdWrite req (mbxSideOff n x) val)

/-- R365: MBX_RXD. -/
def execMbxRxd (req : Req) (n : Mbx) (x : Side) (s : State) : Host.Outcome State Fault Refusal := .next (s.cmdRead req (mbxSideOff n x + 0x8))

/-- R368: MBX_DBSET. -/
def execMbxDbset (req : Req) (n : Mbx) (x : Side) (val : Word) (s : State) : Host.Outcome State Fault Refusal := .next (s.cmdWrite req (mbxSideOff n x + 0x10) val)

/-- R369: MBX_DBMASK. -/
def execMbxDbmask (req : Req) (n : Mbx) (x : Side) (val : Word) (s : State) : Host.Outcome State Fault Refusal := .next (s.cmdWrite req (mbxSideOff n x + 0x20) val)

/-! ## Management (ch. 16) -/

/-- R378. -/
def execMgmWdkick (req : Req) (val : Word) (s : State) : Host.Outcome State Fault Refusal := .next (s.cmdWrite req (oMgm + 0x10) val)

/-- R388: MGM_FLCMD. -/
def execFlashRead (req : Req) (val : Word) (s : State) : Host.Outcome State Fault Refusal := .next (s.cmdWrite req (oMgm + 0x80) val)

/-- R388: MGM_FLCMD. -/
def execPageProgram (req : Req) (val : Word) (s : State) : Host.Outcome State Fault Refusal := .next (s.cmdWrite req (oMgm + 0x80) val)

/-- R388: MGM_FLCMD. -/
def execErase4KiB (req : Req) (val : Word) (s : State) : Host.Outcome State Fault Refusal := .next (s.cmdWrite req (oMgm + 0x80) val)

/-- R388: MGM_FLCMD. -/
def execErase64KiB (req : Req) (val : Word) (s : State) : Host.Outcome State Fault Refusal := .next (s.cmdWrite req (oMgm + 0x80) val)

/-- R388: MGM_FLCMD. -/
def execReadSfdp (req : Req) (val : Word) (s : State) : Host.Outcome State Fault Refusal := .next (s.cmdWrite req (oMgm + 0x80) val)

/-- R388: MGM_FLCMD. -/
def execReadStatus (req : Req) (val : Word) (s : State) : Host.Outcome State Fault Refusal := .next (s.cmdWrite req (oMgm + 0x80) val)

/-- R393: MGM_BOOTCTL. -/
def execRunrec (req : Req) (val : Word) (s : State) : Host.Outcome State Fault Refusal := .next (s.cmdWrite req (oMgm + 0x8) val)

/-- R394: MGM_FUSE. -/
def execFuseBlow (req : Req) (val : Word) (s : State) : Host.Outcome State Fault Refusal := .next (s.cmdWrite req (oMgm + 0xC0) val)

/-- R395: MGM_PMBCMD. -/
def execPmbWrite (req : Req) (val : Word) (s : State) : Host.Outcome State Fault Refusal := .next (s.cmdWrite req oPmb val)

/-- R395: MGM_PMBCMD. -/
def execPmbRead (req : Req) (val : Word) (s : State) : Host.Outcome State Fault Refusal := .next (s.cmdWrite req oPmb val)

/-- R395: MGM_PMBCMD. -/
def execBlockRead (req : Req) (val : Word) (s : State) : Host.Outcome State Fault Refusal := .next (s.cmdWrite req oPmb val)

/-- R395: MGM_PMBCMD. -/
def execSendByte (req : Req) (val : Word) (s : State) : Host.Outcome State Fault Refusal := .next (s.cmdWrite req oPmb val)

/-! ## Debug (ch. 17) -/

/-- R397: DBG_CTL. -/
def execAttach (req : Req) (val : Word) (s : State) : Host.Outcome State Fault Refusal := .next (s.cmdWrite req oDbgCtl val)

/-- R401: DBG_ACTL. -/
def execDbgRead (req : Req) (ch : Fin 2) (val : Word) (s : State) : Host.Outcome State Fault Refusal := .next (s.cmdWrite req (oActl ch.val) val)

/-- R401: DBG_ACTL. -/
def execDbgWrite (req : Req) (ch : Fin 2) (val : Word) (s : State) : Host.Outcome State Fault Refusal := .next (s.cmdWrite req (oActl ch.val) val)

/-- R404: DBG_ACTL. -/
def execEngineRegisterRead (req : Req) (ch : Fin 2) (val : Word) (s : State) : Host.Outcome State Fault Refusal := .next (s.cmdWrite req (oActl ch.val) val)

/-- R404: DBG_ACTL. -/
def execEngineRegisterWrite (req : Req) (ch : Fin 2) (val : Word) (s : State) : Host.Outcome State Fault Refusal := .next (s.cmdWrite req (oActl ch.val) val)

/-- R404: DBG_ACTL. -/
def execManagementRegisterRead (req : Req) (ch : Fin 2) (val : Word) (s : State) : Host.Outcome State Fault Refusal := .next (s.cmdWrite req (oActl ch.val) val)

/-- R404: DBG_ACTL. -/
def execManagementRegisterWrite (req : Req) (ch : Fin 2) (val : Word) (s : State) : Host.Outcome State Fault Refusal := .next (s.cmdWrite req (oActl ch.val) val)

/-- R406: DBG_ECFG or DBG_MCFG. -/
def execHaltreq (req : Req) (g : DbgTarget) (val : Word) (s : State) : Host.Outcome State Fault Refusal := .next (s.cmdWrite req (targetOff g) val)

/-- R410: DBG_ECFG or DBG_MCFG. -/
def execResume (req : Req) (g : DbgTarget) (val : Word) (s : State) : Host.Outcome State Fault Refusal := .next (s.cmdWrite req (targetOff g) val)

/-- R410: DBG_ECFG or DBG_MCFG. -/
def execStep (req : Req) (g : DbgTarget) (val : Word) (s : State) : Host.Outcome State Fault Refusal := .next (s.cmdWrite req (targetOff g) val)

/-- R411: DBG_TRIGSET. -/
def execDbgTrigset (req : Req) (val : Word) (s : State) : Host.Outcome State Fault Refusal := .next (s.cmdWrite req (oDbg + 0x24) val)

/-- R412: DBG_GRESUME. -/
def execDbgGresume (req : Req) (val : Word) (s : State) : Host.Outcome State Fault Refusal := .next (s.cmdWrite req (oDbg + 0x28) val)

end Sys2Proof.Machine
end

