-- ==== Sys2Proof/Machine/Clock.lean ====
section
/-! DEFINITION. The passing of time (R230, R243, R244, R250 to R253, R256): the cycles of the master counter, elapsed time, ticks in their order, PPS_OUT and
steps of the lattice. -/

namespace Sys2Proof.Machine

/-- R160, R161: at a USEC tick the watchdog of the task in service counts unless the engine is halted or the watchdogs are held. -/
def State.engUs (s : State) : State :=
  if s.wdHeld then s
  else (s.eng.map Prod.fst).foldl (fun r e =>
    let x := r.engSt e
    if x.cur.busy = true ∧ r.halted e = false then r.setEng e (x.setCur { x.cur with wd := x.cur.wd - 1 }) else r) s

/-! ## Elapsed time -/

/-- A ms of elapsed time. -/
def State.msPasses (s : State) : State := (s.endMs).mgmMs

/-- A µs of elapsed time: 1,600 cycles of the TIM domain. -/
def State.usPasses (s : State) : State :=
  let s1 := ((((s.cfgUs).scrubUs).rtcUs).memUs 1).lnkUs 1
  let s2 := s1.setTim { s1.tim with us := (s1.tim.us + 1) % 1000 }
  if s2.tim.us = 0 then s2.msPasses else s2

/-- R230: what the master counter adds in a cycle, in units of 2^-60 ns: 0.625 ns × (1 + FFO). -/
def cycleAdds (ffo : Int) : Nat := (40960 * (2 ^ 44 + ffo)).toNat

/-- R230, R232: lattice time runs on to `t`; the cycles that takes pass, the remainder is carried, and each replica runs at its own rate. -/
def State.runTo (s : State) (t : Nat) : State :=
  let x := s.tim
  let a := x.acc + (t - s.now) * 2 ^ 44
  let n := a / cycleAdds x.ffo
  let c := x.cyc + n
  let reps := x.reps.map (fun e => (e.1, e.2.map (fun r => { r with off := r.off + (n : Int) * 40960 * (r.rate - x.ffo) })))
  let s1 := ({ s with now := t }).setTim { x with acc := a % cycleAdds x.ffo, cyc := c % 1600, ppsLeft := x.ppsLeft - n, reps := reps }
  (List.range (c / 1600)).foldl (fun (r : State) _ => r.usPasses) s1

/-- The next whole µs of lattice time. -/
def State.nextUs (s : State) : Nat := (s.now / unitsPerUs + 1) * unitsPerUs

/-- Lattice time runs on to `t` where that lies before the next whole µs; none where it does not. -/
def State.dueTo (s : State) (t : Nat) : Option State :=
  if t ≤ s.now then some s else if t < s.nextUs then some (s.runTo t) else none

/-- Lattice time runs on to the next whole µs. -/
def State.toNextUs (s : State) : State :=
  let s1 := s.runTo s.nextUs
  if s1.now % unitsPerSec = 0 then s1.wholeSecond else s1

/-! ## Ticks (R244, R250 to R253) -/

/-- The delivery time of the next tick of a kind: 0 SLOT, 1 SYM, 2 USEC, 3 USER. -/
def State.tickDue (s : State) (k : Nat) : Option Nat :=
  let pat (t : Nat) : Option Nat := if s.bit oSymCfg 31 then some (t - s.advFor t * 65536) else none
  match k with
  | 0 => pat (s.symTime s.tim.slotJ 0)
  | 1 => pat (s.symTime s.tim.symJ s.tim.symN)
  | 2 => some (s.tim.usecNext * unitsPerUs)
  | _ => if s.bit (oTim + 0x150) 31 then some s.tim.user else none

/-- A tick of a kind is issued. -/
def State.issueTick (s : State) (k : Nat) : State :=
  let x := s.tim
  match k with
  | 0 =>
    let t := s.symTime x.slotJ 0
    ((s.setTim { x with slotJ := x.slotJ + 1, symPast := max x.symPast (t + 1) }).delayTick 1).strTick 2 t x.slotJ
  | 1 =>
    let t := s.symTime x.symJ x.symN
    let last := decide (s.fld oSymCfg 5 0 ≤ x.symN + 1)
    let y := { x with symJ := if last then x.symJ + 1 else x.symJ, symN := if last then 0 else x.symN + 1, symPast := max x.symPast (t + 1) }
    ((s.setTim y).delayTick 0).strTick 1 t x.symN
  | 2 => ((s.setTim { x with usecNext := x.usecNext + 1 }).delayTick 2).engUs
  | _ => (s.setTim { x with user := s.userFrom (x.user + 1), userPast := x.user + 1 }).delayTick 3

/-- An instant and the kind of a tick there come before another (R251). -/
def tickBefore (a b : Nat × Nat) : Bool := decide (a.1 < b.1) || decide (a.1 = b.1) && decide (a.2 < b.2)

/-- The first tick of all: its delivery time and its kind. -/
def State.firstTick (s : State) : Option (Nat × Nat) :=
  (List.range 4).foldl (fun (b : Option (Nat × Nat)) k =>
    match s.tickDue k, b with
    | some t, some c => if tickBefore (t, k) c then some (t, k) else b
    | some t, none => some (t, k)
    | none, _ => b) none

/-- R244, R251: every tick before (t, k) is issued, in order of time and of kind; `n` bounds their number. -/
def State.ticksBefore (t k : Nat) : Nat → State → State
  | 0, s => s
  | n + 1, s =>
    match s.firstTick with
    | some (a, b) => if tickBefore (a, b) (t, k) then State.ticksBefore t k n (s.issueTick b) else s
    | none => s

/-- No more ticks than this are issued in one command: one for each unit of time that they lie back. -/
def State.tickBound (s : State) (t : Nat) : Nat :=
  match s.firstTick with | some (a, _) => 4 * (t + 1 - a) | none => 0

/-- The next tick of a kind, and every tick that comes before it; nothing where it lies past this µs. -/
def State.tickOf (s : State) (k : Nat) : State :=
  match s.tickDue k with
  | none => s
  | some t =>
    match s.dueTo t with
    | none => s
    | some s1 => (State.ticksBefore t k (s1.tickBound t) s1).issueTick k

/-- The next USEC tick is owed: lattice time has reached or passed it (R244). -/
def State.usecOwed (s : State) : Bool := decide (s.tim.usecNext * unitsPerUs ≤ s.now)

def execSlotTick (s : State) : Host.Outcome State Fault Refusal := .next (s.tickOf 0)

def execSymTick (s : State) : Host.Outcome State Fault Refusal := .next (s.tickOf 1)

def execUserTick (s : State) : Host.Outcome State Fault Refusal := .next (s.tickOf 3)

/-- R244, R253: a tick that a forward step skipped is issued at once; else the next whole µs comes, after the ticks before it, with the step that
waits for it, and its tick unless a backward step withholds it. While the hub is not ON, only the calendar counts. -/
def execUsecTick (s : State) : Host.Outcome State Fault Refusal :=
  .next (if s.sys.hubOn = false then s.rtcUs
    else if s.usecOwed then s.tickOf 2
    else
      let s1 := ((State.ticksBefore s.nextUs 0 (s.tickBound s.nextUs) s).toNextUs).applyStep
      if s1.usecOwed then s1.tickOf 2 else s1)

/-- R243: the step that waits is applied at the next whole µs. -/
def execTimeStep (s : State) : Host.Outcome State Fault Refusal :=
  .next (if s.sys.hubOn = true ∧ s.tim.pend.isSome = true then s.toNextUs.applyStep else s)

/-! ## PPS_OUT (R253) -/

/-- PPS_OUT rises. -/
def State.ppsRise (s : State) : State :=
  let x := s.tim
  let t0 := s.now / unitsPerSec * unitsPerSec + x.ppsOff * 65536
  let t := if t0 < s.now then t0 + unitsPerSec else t0
  let gate := bitsOf x.ppsCfg 30 30 = 0 ∨ s.lockState = 3 ∨ s.lockState = 4
  if bitsOf x.ppsCfg 31 31 = 1 ∧ gate ∧ x.ppsHigh = false ∧ (match x.ppsLast with | some l => decide (l < t) | none => true) = true then
    match s.dueTo t with
    | none => s
    | some s1 =>
      (s1.setTim { s1.tim with ppsLast := some t, ppsHigh := true, ppsLeft := 160000 * bitsOf x.ppsCfg 28 16 }).emit (.pps true)
  else s

/-- The lattice time at which the pulse in progress has been high for all its cycles. -/
def State.ppsEnd (s : State) : Nat :=
  s.now + (s.tim.ppsLeft * cycleAdds s.tim.ffo - s.tim.acc + 2 ^ 44 - 1) / 2 ^ 44

/-- PPS_OUT falls WIDTH × 100 µs of elapsed time after it rose. -/
def State.ppsFall (s : State) : State :=
  if s.tim.ppsHigh = false then s
  else
    let s1 := if s.tim.ppsLeft = 0 then some s else s.dueTo s.ppsEnd
    match s1 with
    | none => s
    | some r => (r.setTim { r.tim with ppsHigh := false }).emit (.pps false)

def execPpsOutPulse (s : State) : Host.Outcome State Fault Refusal := .next s.ppsRise

def execPpsOutEnd (s : State) : Host.Outcome State Fault Refusal := .next s.ppsFall

/-- R256. -/
def execAlarmMatch (s : State) : Host.Outcome State Fault Refusal :=
  .next (if s.alarmDue then s.setBit oRtcStat 28 true else s)

end Sys2Proof.Machine
end

