-- ==== Sys2Proof/Machine/EngineControl.lean ====
section
/-! DEFINITION. The commands of the control slot (R115): each issues the bundle that holds it. -/

namespace Sys2Proof.Machine

/-- The bundle whose control slot holds this NOP issues. -/
def execNop (e : Eng) (q : Pred) (x : CArgs) (s : State) : Host.Outcome State Fault Refusal :=
  .next (s.issueCtl e 0x00 q x)

/-- The bundle whose control slot holds this ADD issues. -/
def execAdd (e : Eng) (q : Pred) (x : CArgs) (s : State) : Host.Outcome State Fault Refusal :=
  .next (s.issueCtl e 0x01 q x)

/-- The bundle whose control slot holds this SUB issues. -/
def execSub (e : Eng) (q : Pred) (x : CArgs) (s : State) : Host.Outcome State Fault Refusal :=
  .next (s.issueCtl e 0x02 q x)

/-- The bundle whose control slot holds this AND issues. -/
def execAnd (e : Eng) (q : Pred) (x : CArgs) (s : State) : Host.Outcome State Fault Refusal :=
  .next (s.issueCtl e 0x03 q x)

/-- The bundle whose control slot holds this OR issues. -/
def execOr (e : Eng) (q : Pred) (x : CArgs) (s : State) : Host.Outcome State Fault Refusal :=
  .next (s.issueCtl e 0x04 q x)

/-- The bundle whose control slot holds this XOR issues. -/
def execXor (e : Eng) (q : Pred) (x : CArgs) (s : State) : Host.Outcome State Fault Refusal :=
  .next (s.issueCtl e 0x05 q x)

/-- The bundle whose control slot holds this SHL issues. -/
def execShl (e : Eng) (q : Pred) (x : CArgs) (s : State) : Host.Outcome State Fault Refusal :=
  .next (s.issueCtl e 0x06 q x)

/-- The bundle whose control slot holds this SHR issues. -/
def execShr (e : Eng) (q : Pred) (x : CArgs) (s : State) : Host.Outcome State Fault Refusal :=
  .next (s.issueCtl e 0x07 q x)

/-- The bundle whose control slot holds this SRA issues. -/
def execSra (e : Eng) (q : Pred) (x : CArgs) (s : State) : Host.Outcome State Fault Refusal :=
  .next (s.issueCtl e 0x08 q x)

/-- The bundle whose control slot holds this MUL issues. -/
def execMul (e : Eng) (q : Pred) (x : CArgs) (s : State) : Host.Outcome State Fault Refusal :=
  .next (s.issueCtl e 0x09 q x)

/-- The bundle whose control slot holds this MIN issues. -/
def execMin (e : Eng) (q : Pred) (x : CArgs) (s : State) : Host.Outcome State Fault Refusal :=
  .next (s.issueCtl e 0x0A q x)

/-- The bundle whose control slot holds this MAX issues. -/
def execMax (e : Eng) (q : Pred) (x : CArgs) (s : State) : Host.Outcome State Fault Refusal :=
  .next (s.issueCtl e 0x0B q x)

/-- The bundle whose control slot holds this ADDI issues. -/
def execAddi (e : Eng) (q : Pred) (x : CArgs) (s : State) : Host.Outcome State Fault Refusal :=
  .next (s.issueCtl e 0x11 q x)

/-- The bundle whose control slot holds this ANDI issues. -/
def execAndi (e : Eng) (q : Pred) (x : CArgs) (s : State) : Host.Outcome State Fault Refusal :=
  .next (s.issueCtl e 0x13 q x)

/-- The bundle whose control slot holds this ORI issues. -/
def execOri (e : Eng) (q : Pred) (x : CArgs) (s : State) : Host.Outcome State Fault Refusal :=
  .next (s.issueCtl e 0x14 q x)

/-- The bundle whose control slot holds this XORI issues. -/
def execXori (e : Eng) (q : Pred) (x : CArgs) (s : State) : Host.Outcome State Fault Refusal :=
  .next (s.issueCtl e 0x15 q x)

/-- The bundle whose control slot holds this SHLI issues. -/
def execShli (e : Eng) (q : Pred) (x : CArgs) (s : State) : Host.Outcome State Fault Refusal :=
  .next (s.issueCtl e 0x16 q x)

/-- The bundle whose control slot holds this SHRI issues. -/
def execShri (e : Eng) (q : Pred) (x : CArgs) (s : State) : Host.Outcome State Fault Refusal :=
  .next (s.issueCtl e 0x17 q x)

/-- The bundle whose control slot holds this SRAI issues. -/
def execSrai (e : Eng) (q : Pred) (x : CArgs) (s : State) : Host.Outcome State Fault Refusal :=
  .next (s.issueCtl e 0x18 q x)

/-- The bundle whose control slot holds this LUI issues. -/
def execLui (e : Eng) (q : Pred) (x : CArgs) (s : State) : Host.Outcome State Fault Refusal :=
  .next (s.issueCtl e 0x1C q x)

/-- The bundle whose control slot holds this CMPEQ issues. -/
def execCmpeq (e : Eng) (q : Pred) (x : CArgs) (s : State) : Host.Outcome State Fault Refusal :=
  .next (s.issueCtl e 0x20 q x)

/-- The bundle whose control slot holds this CMPNE issues. -/
def execCmpne (e : Eng) (q : Pred) (x : CArgs) (s : State) : Host.Outcome State Fault Refusal :=
  .next (s.issueCtl e 0x21 q x)

/-- The bundle whose control slot holds this CMPLT issues. -/
def execCmplt (e : Eng) (q : Pred) (x : CArgs) (s : State) : Host.Outcome State Fault Refusal :=
  .next (s.issueCtl e 0x22 q x)

/-- The bundle whose control slot holds this CMPLTU issues. -/
def execCmpltu (e : Eng) (q : Pred) (x : CArgs) (s : State) : Host.Outcome State Fault Refusal :=
  .next (s.issueCtl e 0x23 q x)

/-- The bundle whose control slot holds this CMPGE issues. -/
def execCmpge (e : Eng) (q : Pred) (x : CArgs) (s : State) : Host.Outcome State Fault Refusal :=
  .next (s.issueCtl e 0x24 q x)

/-- The bundle whose control slot holds this CMPGEU issues. -/
def execCmpgeu (e : Eng) (q : Pred) (x : CArgs) (s : State) : Host.Outcome State Fault Refusal :=
  .next (s.issueCtl e 0x25 q x)

/-- The bundle whose control slot holds this CMPEQI issues. -/
def execCmpeqi (e : Eng) (q : Pred) (x : CArgs) (s : State) : Host.Outcome State Fault Refusal :=
  .next (s.issueCtl e 0x28 q x)

/-- The bundle whose control slot holds this CMPLTI issues. -/
def execCmplti (e : Eng) (q : Pred) (x : CArgs) (s : State) : Host.Outcome State Fault Refusal :=
  .next (s.issueCtl e 0x29 q x)

/-- The bundle whose control slot holds this PAND issues. -/
def execPand (e : Eng) (q : Pred) (x : CArgs) (s : State) : Host.Outcome State Fault Refusal :=
  .next (s.issueCtl e 0x30 q x)

/-- The bundle whose control slot holds this POR issues. -/
def execPor (e : Eng) (q : Pred) (x : CArgs) (s : State) : Host.Outcome State Fault Refusal :=
  .next (s.issueCtl e 0x31 q x)

/-- The bundle whose control slot holds this PXOR issues. -/
def execPxor (e : Eng) (q : Pred) (x : CArgs) (s : State) : Host.Outcome State Fault Refusal :=
  .next (s.issueCtl e 0x32 q x)

/-- The bundle whose control slot holds this PNOT issues. -/
def execPnot (e : Eng) (q : Pred) (x : CArgs) (s : State) : Host.Outcome State Fault Refusal :=
  .next (s.issueCtl e 0x33 q x)

/-- The bundle whose control slot holds this PSET issues. -/
def execPset (e : Eng) (q : Pred) (x : CArgs) (s : State) : Host.Outcome State Fault Refusal :=
  .next (s.issueCtl e 0x34 q x)

/-- The bundle whose control slot holds this PGET issues. -/
def execPget (e : Eng) (q : Pred) (x : CArgs) (s : State) : Host.Outcome State Fault Refusal :=
  .next (s.issueCtl e 0x35 q x)

/-- The bundle whose control slot holds this BR issues. -/
def execBr (e : Eng) (q : Pred) (x : CArgs) (s : State) : Host.Outcome State Fault Refusal :=
  .next (s.issueCtl e 0x40 q x)

/-- The bundle whose control slot holds this JMP issues. -/
def execJmp (e : Eng) (q : Pred) (x : CArgs) (s : State) : Host.Outcome State Fault Refusal :=
  .next (s.issueCtl e 0x41 q x)

/-- The bundle whose control slot holds this CALL issues. -/
def execCall (e : Eng) (q : Pred) (x : CArgs) (s : State) : Host.Outcome State Fault Refusal :=
  .next (s.issueCtl e 0x42 q x)

/-- The bundle whose control slot holds this RET issues. -/
def execRet (e : Eng) (q : Pred) (x : CArgs) (s : State) : Host.Outcome State Fault Refusal :=
  .next (s.issueCtl e 0x43 q x)

/-- The bundle whose control slot holds this LOOP issues. -/
def execLoop (e : Eng) (q : Pred) (x : CArgs) (s : State) : Host.Outcome State Fault Refusal :=
  .next (s.issueCtl e 0x44 q x)

/-- The bundle whose control slot holds this DONE issues. -/
def execDone (e : Eng) (q : Pred) (x : CArgs) (s : State) : Host.Outcome State Fault Refusal :=
  .next (s.issueCtl e 0x48 q x)

/-- The bundle whose control slot holds this ENQ issues. -/
def execEnq (e : Eng) (q : Pred) (x : CArgs) (s : State) : Host.Outcome State Fault Refusal :=
  .next (s.issueCtl e 0x49 q x)

/-- The bundle whose control slot holds this EVPOST issues. -/
def execEvpost (e : Eng) (q : Pred) (x : CArgs) (s : State) : Host.Outcome State Fault Refusal :=
  .next (s.issueCtl e 0x4A q x)

/-- The bundle whose control slot holds this TRAP issues. -/
def execTrap (e : Eng) (q : Pred) (x : CArgs) (s : State) : Host.Outcome State Fault Refusal :=
  .next (s.issueCtl e 0x4C q x)

/-- The bundle whose control slot holds this FENCE issues. -/
def execFence (e : Eng) (q : Pred) (x : CArgs) (s : State) : Host.Outcome State Fault Refusal :=
  .next (s.issueCtl e 0x4D q x)

/-- The bundle whose control slot holds this BRK issues. -/
def execBrk (e : Eng) (q : Pred) (x : CArgs) (s : State) : Host.Outcome State Fault Refusal :=
  .next (s.issueCtl e 0x4E q x)

/-- The bundle whose control slot holds this MFSR issues. -/
def execMfsr (e : Eng) (q : Pred) (x : CArgs) (s : State) : Host.Outcome State Fault Refusal :=
  .next (s.issueCtl e 0x50 q x)

/-- The bundle whose control slot holds this MTSR issues. -/
def execMtsr (e : Eng) (q : Pred) (x : CArgs) (s : State) : Host.Outcome State Fault Refusal :=
  .next (s.issueCtl e 0x51 q x)

end Sys2Proof.Machine
end

