-- ==== Sys2Proof/Machine/EngineLoadStore.lean ====
section
/-! DEFINITION. The commands of the load-store slot (R118): each issues the bundle that holds it. -/

namespace Sys2Proof.Machine

/-- The bundle whose load-store slot holds this LSNOP issues. -/
def execLsNop (e : Eng) (q : Pred) (x : LArgs) (s : State) : Host.Outcome State Fault Refusal :=
  .next (s.issueLs e 0x0 q x)

/-- The bundle whose load-store slot holds this LDV issues. -/
def execLdv (e : Eng) (q : Pred) (x : LArgs) (s : State) : Host.Outcome State Fault Refusal :=
  .next (s.issueLs e 0x1 q x)

/-- The bundle whose load-store slot holds this STV issues. -/
def execStv (e : Eng) (q : Pred) (x : LArgs) (s : State) : Host.Outcome State Fault Refusal :=
  .next (s.issueLs e 0x2 q x)

/-- The bundle whose load-store slot holds this LDS issues. -/
def execLds (e : Eng) (q : Pred) (x : LArgs) (s : State) : Host.Outcome State Fault Refusal :=
  .next (s.issueLs e 0x3 q x)

/-- The bundle whose load-store slot holds this STS issues. -/
def execSts (e : Eng) (q : Pred) (x : LArgs) (s : State) : Host.Outcome State Fault Refusal :=
  .next (s.issueLs e 0x4 q x)

/-- The bundle whose load-store slot holds this LDR issues. -/
def execLdr (e : Eng) (q : Pred) (x : LArgs) (s : State) : Host.Outcome State Fault Refusal :=
  .next (s.issueLs e 0x5 q x)

/-- The bundle whose load-store slot holds this STC issues. -/
def execStc (e : Eng) (q : Pred) (x : LArgs) (s : State) : Host.Outcome State Fault Refusal :=
  .next (s.issueLs e 0x6 q x)

/-- The bundle whose load-store slot holds this GETW issues. -/
def execGetw (e : Eng) (q : Pred) (x : LArgs) (s : State) : Host.Outcome State Fault Refusal :=
  .next (s.issueLs e 0x7 q x)

/-- The bundle whose load-store slot holds this PUTW issues. -/
def execPutw (e : Eng) (q : Pred) (x : LArgs) (s : State) : Host.Outcome State Fault Refusal :=
  .next (s.issueLs e 0x8 q x)

/-- The bundle whose load-store slot holds this GETB issues. -/
def execGetb (e : Eng) (q : Pred) (x : LArgs) (s : State) : Host.Outcome State Fault Refusal :=
  .next (s.issueLs e 0x9 q x)

/-- The bundle whose load-store slot holds this PUTB issues. -/
def execPutb (e : Eng) (q : Pred) (x : LArgs) (s : State) : Host.Outcome State Fault Refusal :=
  .next (s.issueLs e 0xA q x)

/-- The bundle whose load-store slot holds this RSEND issues. -/
def execRsend (e : Eng) (q : Pred) (x : LArgs) (s : State) : Host.Outcome State Fault Refusal :=
  .next (s.issueLs e 0xB q x)

end Sys2Proof.Machine
end

