-- ==== Sys2Proof/Machine/EngineVector.lean ====
section
/-! DEFINITION. The commands of the vector slot (R116): each issues the bundle that holds it. -/

namespace Sys2Proof.Machine

/-- The bundle whose vector slot holds this VNOP issues. -/
def execVnop (e : Eng) (q : Pred) (x : VArgs) (s : State) : Host.Outcome State Fault Refusal :=
  .next (s.issueVec e 0x00 q x)

/-- The bundle whose vector slot holds this VADD issues. -/
def execVadd (e : Eng) (q : Pred) (x : VArgs) (s : State) : Host.Outcome State Fault Refusal :=
  .next (s.issueVec e 0x01 q x)

/-- The bundle whose vector slot holds this VSUB issues. -/
def execVsub (e : Eng) (q : Pred) (x : VArgs) (s : State) : Host.Outcome State Fault Refusal :=
  .next (s.issueVec e 0x02 q x)

/-- The bundle whose vector slot holds this VNEG issues. -/
def execVneg (e : Eng) (q : Pred) (x : VArgs) (s : State) : Host.Outcome State Fault Refusal :=
  .next (s.issueVec e 0x03 q x)

/-- The bundle whose vector slot holds this VCONJ issues. -/
def execVconj (e : Eng) (q : Pred) (x : VArgs) (s : State) : Host.Outcome State Fault Refusal :=
  .next (s.issueVec e 0x04 q x)

/-- The bundle whose vector slot holds this VMOV issues. -/
def execVmov (e : Eng) (q : Pred) (x : VArgs) (s : State) : Host.Outcome State Fault Refusal :=
  .next (s.issueVec e 0x05 q x)

/-- The bundle whose vector slot holds this VSEL issues. -/
def execVsel (e : Eng) (q : Pred) (x : VArgs) (s : State) : Host.Outcome State Fault Refusal :=
  .next (s.issueVec e 0x06 q x)

/-- The bundle whose vector slot holds this VAND issues. -/
def execVand (e : Eng) (q : Pred) (x : VArgs) (s : State) : Host.Outcome State Fault Refusal :=
  .next (s.issueVec e 0x07 q x)

/-- The bundle whose vector slot holds this VOR issues. -/
def execVor (e : Eng) (q : Pred) (x : VArgs) (s : State) : Host.Outcome State Fault Refusal :=
  .next (s.issueVec e 0x08 q x)

/-- The bundle whose vector slot holds this VXOR issues. -/
def execVxor (e : Eng) (q : Pred) (x : VArgs) (s : State) : Host.Outcome State Fault Refusal :=
  .next (s.issueVec e 0x09 q x)

/-- The bundle whose vector slot holds this VSPLAT issues. -/
def execVsplat (e : Eng) (q : Pred) (x : VArgs) (s : State) : Host.Outcome State Fault Refusal :=
  .next (s.issueVec e 0x0A q x)

/-- The bundle whose vector slot holds this VBCAST issues. -/
def execVbcast (e : Eng) (q : Pred) (x : VArgs) (s : State) : Host.Outcome State Fault Refusal :=
  .next (s.issueVec e 0x0B q x)

/-- The bundle whose vector slot holds this VPERM issues. -/
def execVperm (e : Eng) (q : Pred) (x : VArgs) (s : State) : Host.Outcome State Fault Refusal :=
  .next (s.issueVec e 0x0C q x)

/-- The bundle whose vector slot holds this VINS issues. -/
def execVins (e : Eng) (q : Pred) (x : VArgs) (s : State) : Host.Outcome State Fault Refusal :=
  .next (s.issueVec e 0x0D q x)

/-- The bundle whose vector slot holds this VEXT issues. -/
def execVext (e : Eng) (q : Pred) (x : VArgs) (s : State) : Host.Outcome State Fault Refusal :=
  .next (s.issueVec e 0x0E q x)

/-- The bundle whose vector slot holds this VCMPEQ issues. -/
def execVcmpeq (e : Eng) (q : Pred) (x : VArgs) (s : State) : Host.Outcome State Fault Refusal :=
  .next (s.issueVec e 0x10 q x)

/-- The bundle whose vector slot holds this VCMPGT issues. -/
def execVcmpgt (e : Eng) (q : Pred) (x : VArgs) (s : State) : Host.Outcome State Fault Refusal :=
  .next (s.issueVec e 0x11 q x)

/-- The bundle whose vector slot holds this VSHR issues. -/
def execVshr (e : Eng) (q : Pred) (x : VArgs) (s : State) : Host.Outcome State Fault Refusal :=
  .next (s.issueVec e 0x12 q x)

/-- The bundle whose vector slot holds this VSHL issues. -/
def execVshl (e : Eng) (q : Pred) (x : VArgs) (s : State) : Host.Outcome State Fault Refusal :=
  .next (s.issueVec e 0x13 q x)

/-- The bundle whose vector slot holds this VCMUL issues. -/
def execVcmul (e : Eng) (q : Pred) (x : VArgs) (s : State) : Host.Outcome State Fault Refusal :=
  .next (s.issueVec e 0x18 q x)

/-- The bundle whose vector slot holds this VCMAC issues. -/
def execVcmac (e : Eng) (q : Pred) (x : VArgs) (s : State) : Host.Outcome State Fault Refusal :=
  .next (s.issueVec e 0x19 q x)

/-- The bundle whose vector slot holds this VCMULB issues. -/
def execVcmulb (e : Eng) (q : Pred) (x : VArgs) (s : State) : Host.Outcome State Fault Refusal :=
  .next (s.issueVec e 0x1A q x)

/-- The bundle whose vector slot holds this VCMACB issues. -/
def execVcmacb (e : Eng) (q : Pred) (x : VArgs) (s : State) : Host.Outcome State Fault Refusal :=
  .next (s.issueVec e 0x1B q x)

/-- The bundle whose vector slot holds this VCMACJ issues. -/
def execVcmacj (e : Eng) (q : Pred) (x : VArgs) (s : State) : Host.Outcome State Fault Refusal :=
  .next (s.issueVec e 0x1C q x)

/-- The bundle whose vector slot holds this VMAC issues. -/
def execVmac (e : Eng) (q : Pred) (x : VArgs) (s : State) : Host.Outcome State Fault Refusal :=
  .next (s.issueVec e 0x1D q x)

/-- The bundle whose vector slot holds this VMUL issues. -/
def execVmul (e : Eng) (q : Pred) (x : VArgs) (s : State) : Host.Outcome State Fault Refusal :=
  .next (s.issueVec e 0x1E q x)

/-- The bundle whose vector slot holds this VPWR issues. -/
def execVpwr (e : Eng) (q : Pred) (x : VArgs) (s : State) : Host.Outcome State Fault Refusal :=
  .next (s.issueVec e 0x1F q x)

/-- The bundle whose vector slot holds this VCMULV issues. -/
def execVcmulv (e : Eng) (q : Pred) (x : VArgs) (s : State) : Host.Outcome State Fault Refusal :=
  .next (s.issueVec e 0x20 q x)

/-- The bundle whose vector slot holds this VCMACV issues. -/
def execVcmacv (e : Eng) (q : Pred) (x : VArgs) (s : State) : Host.Outcome State Fault Refusal :=
  .next (s.issueVec e 0x21 q x)

/-- The bundle whose vector slot holds this VBFLY issues. -/
def execVbfly (e : Eng) (q : Pred) (x : VArgs) (s : State) : Host.Outcome State Fault Refusal :=
  .next (s.issueVec e 0x22 q x)

/-- The bundle whose vector slot holds this AZERO issues. -/
def execAzero (e : Eng) (q : Pred) (x : VArgs) (s : State) : Host.Outcome State Fault Refusal :=
  .next (s.issueVec e 0x28 q x)

/-- The bundle whose vector slot holds this ARND issues. -/
def execArnd (e : Eng) (q : Pred) (x : VArgs) (s : State) : Host.Outcome State Fault Refusal :=
  .next (s.issueVec e 0x29 q x)

/-- The bundle whose vector slot holds this AGET issues. -/
def execAget (e : Eng) (q : Pred) (x : VArgs) (s : State) : Host.Outcome State Fault Refusal :=
  .next (s.issueVec e 0x2A q x)

/-- The bundle whose vector slot holds this APUT issues. -/
def execAput (e : Eng) (q : Pred) (x : VArgs) (s : State) : Host.Outcome State Fault Refusal :=
  .next (s.issueVec e 0x2B q x)

/-- The bundle whose vector slot holds this AADD issues. -/
def execAadd (e : Eng) (q : Pred) (x : VArgs) (s : State) : Host.Outcome State Fault Refusal :=
  .next (s.issueVec e 0x2C q x)

/-- The bundle whose vector slot holds this VCVT issues. -/
def execVcvt (e : Eng) (q : Pred) (x : VArgs) (s : State) : Host.Outcome State Fault Refusal :=
  .next (s.issueVec e 0x30 q x)

/-- The bundle whose vector slot holds this VUNPK issues. -/
def execVunpk (e : Eng) (q : Pred) (x : VArgs) (s : State) : Host.Outcome State Fault Refusal :=
  .next (s.issueVec e 0x31 q x)

/-- The bundle whose vector slot holds this VPACK issues. -/
def execVpack (e : Eng) (q : Pred) (x : VArgs) (s : State) : Host.Outcome State Fault Refusal :=
  .next (s.issueVec e 0x32 q x)

/-- The bundle whose vector slot holds this VSETE issues. -/
def execVsete (e : Eng) (q : Pred) (x : VArgs) (s : State) : Host.Outcome State Fault Refusal :=
  .next (s.issueVec e 0x33 q x)

/-- The bundle whose vector slot holds this VTAG issues. -/
def execVtag (e : Eng) (q : Pred) (x : VArgs) (s : State) : Host.Outcome State Fault Refusal :=
  .next (s.issueVec e 0x34 q x)

/-- The bundle whose vector slot holds this VGETE issues. -/
def execVgete (e : Eng) (q : Pred) (x : VArgs) (s : State) : Host.Outcome State Fault Refusal :=
  .next (s.issueVec e 0x35 q x)

end Sys2Proof.Machine
end

