-- ==== Sys2Proof/Machine/SchedEvents.lean ====
section
/-! DEFINITION. The commands of the scheduler that are not register writes (ch. 07). -/

namespace Sys2Proof.Machine

/-- R165: initialisation is over; the event posts held meanwhile act. -/
def State.schInitDone (s : State) : State :=
  if s.schInit then
    let s1 := s.setBit (oSch + 8) 31 false
    let s2 : State := { s1 with sch := { s1.sch with evq := [] } }
    let s3 := s.sch.evq.foldl (fun (t : State) (e : Nat × Nat) => t.setFlag e.1 e.2) s2
    s3.inputsGo
  else s

def execSchInitDone (s : State) : Host.Outcome State Fault Refusal := .next s.schInitDone

/-- R166 to R168: a descriptor reaches the enqueue input. -/
def execDescriptor (i : EnqIn) (req : Req) (epoch : BitVec 8) (lid : BitVec 10) (words : List Word) (s : State) :
    Host.Outcome State Fault Refusal :=
  .next (s.descriptorAt i.val (enqItem (.noc req.toNat noTag) req.toNat epoch.toNat lid.toNat false words))

/-- R169: a template request reaches the enqueue input. -/
def execTemplateRequest (i : EnqIn) (req : Req) (words : List Word) (s : State) : Host.Outcome State Fault Refusal :=
  .next (s.descriptorAt i.val (enqItem (.noc req.toNat noTag) req.toNat 0 0 true words))

def execHeldDescriptorAccept (s : State) : Host.Outcome State Fault Refusal := .next s.acceptHeld

def execEnqTmo (i : EnqIn) (s : State) : Host.Outcome State Fault Refusal := .next (s.enqTimeout i.val)

def execEventPost (x : Ctx) (f : Fin 32) (s : State) : Host.Outcome State Fault Refusal := .next (s.postEvent x.val f.val)

def execDelayRelease (s : State) : Host.Outcome State Fault Refusal := .next (s.ctxReads ((List.range 4).filterMap (fun i => (s.delayList i).head?.map Prod.snd))).delayRelease

def execDispatch (t : Tile) (s : State) : Host.Outcome State Fault Refusal := .next (s.readyReads.dispatch t.val)

def execTaskEnd (x : Ctx) (s : State) : Host.Outcome State Fault Refusal := .next ((s.ctxReads [x.val]).taskEnd x.val)

def execCompletionRecordWrite (q : CQ) (s : State) : Host.Outcome State Fault Refusal := .next (s.cqWrite q.val)

/-- R187: the sweep visits every context that is not FREE. -/
def execDeadlineSweep (s : State) : Host.Outcome State Fault Refusal :=
  .next ((s.sch.ctx.map Prod.fst).foldl (fun t x => t.findMiss x) (s.ctxReads (s.sch.ctx.map Prod.fst)))

def execPairTimeout (x : Ctx) (s : State) : Host.Outcome State Fault Refusal := .next (s.pairTimeout x.val)

def execControlMismatch (f : CopyFault) (s : State) : Host.Outcome State Fault Refusal := .next (s.dupMismatch f)

/-- R192: the retired copy rejoins. -/
def execShadowRejoin (s : State) : Host.Outcome State Fault Refusal := .next (s.setBit oDup 30 false)

end Sys2Proof.Machine
end

