-- ==== Sys2Proof/Machine/Dispatch.lean ====
section
/-! DEFINITION. The meaning of every command: one arm per constructor, one direct call per arm. -/

namespace Sys2Proof.Machine

def exec (i : Instr) (s : State) : Host.Outcome State Fault Refusal :=
  match i with
  | .registerWrite a0 a1 a2 => Sys2Proof.Machine.execRegisterWrite a0 a1 a2 s
  | .pairLowRead a0 a1 => Sys2Proof.Machine.execPairLowRead a0 a1 s
  | .pairHighRead a0 a1 => Sys2Proof.Machine.execPairHighRead a0 a1 s
  | .pairLowWrite a0 a1 a2 => Sys2Proof.Machine.execPairLowWrite a0 a1 a2 s
  | .pairHighWrite a0 a1 a2 => Sys2Proof.Machine.execPairHighWrite a0 a1 a2 s
  | .unitPwrWrite a0 a1 a2 => Sys2Proof.Machine.execUnitPwrWrite a0 a1 a2 s
  | .unitStopDone a0 => Sys2Proof.Machine.execUnitStopDone a0 s
  | .unitOffMinExpiry a0 => Sys2Proof.Machine.execUnitOffMinExpiry a0 s
  | .unitStartDone a0 => Sys2Proof.Machine.execUnitStartDone a0 s
  | .hostTlp a0 => Sys2Proof.Machine.execHostTlp a0 s
  | .rspTmo a0 => Sys2Proof.Machine.execRspTmo a0 s
  | .pcieConfigRequest a0 => Sys2Proof.Machine.execPcieConfigRequest a0 s
  | .l1Entry => Sys2Proof.Machine.execL1Entry s
  | .l1Exit => Sys2Proof.Machine.execL1Exit s
  | .porNAssert => Sys2Proof.Machine.execPorNAssert s
  | .porNRelease => Sys2Proof.Machine.execPorNRelease s
  | .porInternalRelease => Sys2Proof.Machine.execPorInternalRelease s
  | .strapSample a0 a1 => Sys2Proof.Machine.execStrapSample a0 a1 s
  | .hubOn => Sys2Proof.Machine.execHubOn s
  | .perstNFall => Sys2Proof.Machine.execPerstNFall s
  | .perstNRelease => Sys2Proof.Machine.execPerstNRelease s
  | .functionLevelReset a0 => Sys2Proof.Machine.execFunctionLevelReset a0 s
  | .warmReset a0 a1 => Sys2Proof.Machine.execWarmReset a0 a1 s
  | .softReset a0 a1 => Sys2Proof.Machine.execSoftReset a0 a1 s
  | .tileReset a0 a1 => Sys2Proof.Machine.execTileReset a0 a1 s
  | .engineReset a0 a1 => Sys2Proof.Machine.execEngineReset a0 a1 s
  | .polderReset a0 a1 => Sys2Proof.Machine.execPolderReset a0 a1 s
  | .linkModuleReset a0 a1 => Sys2Proof.Machine.execLinkModuleReset a0 a1 s
  | .unitResetDone => Sys2Proof.Machine.execUnitResetDone s
  | .nightEnter a0 a1 => Sys2Proof.Machine.execNightEnter a0 a1 s
  | .nightDrainExpiry => Sys2Proof.Machine.execNightDrainExpiry s
  | .nightEntryDone => Sys2Proof.Machine.execNightEntryDone s
  | .nightExit a0 a1 => Sys2Proof.Machine.execNightExit a0 a1 s
  | .wakeSource a0 => Sys2Proof.Machine.execWakeSource a0 s
  | .nightExitDone => Sys2Proof.Machine.execNightExitDone s
  | .borWarning a0 => Sys2Proof.Machine.execBorWarning a0 s
  | .borTrip a0 => Sys2Proof.Machine.execBorTrip a0 s
  | .borWarnClear a0 => Sys2Proof.Machine.execBorWarnClear a0 s
  | .intakeData a0 => Sys2Proof.Machine.execIntakeData a0 s
  | .sectionHeader => Sys2Proof.Machine.execSectionHeader s
  | .imageBlock => Sys2Proof.Machine.execImageBlock s
  | .cmdNop => Sys2Proof.Machine.execCmdNop s
  | .far => Sys2Proof.Machine.execFar s
  | .wfr => Sys2Proof.Machine.execWfr s
  | .sfr => Sys2Proof.Machine.execSfr s
  | .zfr => Sys2Proof.Machine.execZfr s
  | .mfw => Sys2Proof.Machine.execMfw s
  | .pdecl => Sys2Proof.Machine.execPdecl s
  | .imgEnd => Sys2Proof.Machine.execImgEnd s
  | .frameWritten a0 => Sys2Proof.Machine.execFrameWritten a0 s
  | .intakeTmo => Sys2Proof.Machine.execIntakeTmo s
  | .cfgRelease => Sys2Proof.Machine.execCfgRelease s
  | .wipeDone => Sys2Proof.Machine.execWipeDone s
  | .clear a0 a1 => Sys2Proof.Machine.execClear a0 a1 s
  | .abort a0 a1 => Sys2Proof.Machine.execAbort a0 a1 s
  | .chainPacket a0 => Sys2Proof.Machine.execChainPacket a0 s
  | .chainAck a0 => Sys2Proof.Machine.execChainAck a0 s
  | .chainAckTmo => Sys2Proof.Machine.execChainAckTmo s
  | .chainAbortPacket => Sys2Proof.Machine.execChainAbortPacket s
  | .chainStatusPacket a0 a1 => Sys2Proof.Machine.execChainStatusPacket a0 a1 s
  | .chainPortTmo => Sys2Proof.Machine.execChainPortTmo s
  | .completionCheckDone a0 => Sys2Proof.Machine.execCompletionCheckDone a0 s
  | .polderRunStart a0 => Sys2Proof.Machine.execPolderRunStart a0 s
  | .polderWipeDone a0 => Sys2Proof.Machine.execPolderWipeDone a0 s
  | .run a0 a1 a2 => Sys2Proof.Machine.execRun a0 a1 a2 s
  | .hold a0 a1 a2 => Sys2Proof.Machine.execHold a0 a1 a2 s
  | .scrubFrameCheck a0 => Sys2Proof.Machine.execScrubFrameCheck a0 s
  | .engclkWrite a0 a1 a2 => Sys2Proof.Machine.execEngclkWrite a0 a1 a2 s
  | .engclkLock a0 => Sys2Proof.Machine.execEngclkLock a0 s
  | .nop a0 a1 a2 => Sys2Proof.Machine.execNop a0 a1 a2 s
  | .add a0 a1 a2 => Sys2Proof.Machine.execAdd a0 a1 a2 s
  | .sub a0 a1 a2 => Sys2Proof.Machine.execSub a0 a1 a2 s
  | .and a0 a1 a2 => Sys2Proof.Machine.execAnd a0 a1 a2 s
  | .or a0 a1 a2 => Sys2Proof.Machine.execOr a0 a1 a2 s
  | .xor a0 a1 a2 => Sys2Proof.Machine.execXor a0 a1 a2 s
  | .shl a0 a1 a2 => Sys2Proof.Machine.execShl a0 a1 a2 s
  | .shr a0 a1 a2 => Sys2Proof.Machine.execShr a0 a1 a2 s
  | .sra a0 a1 a2 => Sys2Proof.Machine.execSra a0 a1 a2 s
  | .mul a0 a1 a2 => Sys2Proof.Machine.execMul a0 a1 a2 s
  | .min a0 a1 a2 => Sys2Proof.Machine.execMin a0 a1 a2 s
  | .max a0 a1 a2 => Sys2Proof.Machine.execMax a0 a1 a2 s
  | .addi a0 a1 a2 => Sys2Proof.Machine.execAddi a0 a1 a2 s
  | .andi a0 a1 a2 => Sys2Proof.Machine.execAndi a0 a1 a2 s
  | .ori a0 a1 a2 => Sys2Proof.Machine.execOri a0 a1 a2 s
  | .xori a0 a1 a2 => Sys2Proof.Machine.execXori a0 a1 a2 s
  | .shli a0 a1 a2 => Sys2Proof.Machine.execShli a0 a1 a2 s
  | .shri a0 a1 a2 => Sys2Proof.Machine.execShri a0 a1 a2 s
  | .srai a0 a1 a2 => Sys2Proof.Machine.execSrai a0 a1 a2 s
  | .lui a0 a1 a2 => Sys2Proof.Machine.execLui a0 a1 a2 s
  | .cmpeq a0 a1 a2 => Sys2Proof.Machine.execCmpeq a0 a1 a2 s
  | .cmpne a0 a1 a2 => Sys2Proof.Machine.execCmpne a0 a1 a2 s
  | .cmplt a0 a1 a2 => Sys2Proof.Machine.execCmplt a0 a1 a2 s
  | .cmpltu a0 a1 a2 => Sys2Proof.Machine.execCmpltu a0 a1 a2 s
  | .cmpge a0 a1 a2 => Sys2Proof.Machine.execCmpge a0 a1 a2 s
  | .cmpgeu a0 a1 a2 => Sys2Proof.Machine.execCmpgeu a0 a1 a2 s
  | .cmpeqi a0 a1 a2 => Sys2Proof.Machine.execCmpeqi a0 a1 a2 s
  | .cmplti a0 a1 a2 => Sys2Proof.Machine.execCmplti a0 a1 a2 s
  | .pand a0 a1 a2 => Sys2Proof.Machine.execPand a0 a1 a2 s
  | .por a0 a1 a2 => Sys2Proof.Machine.execPor a0 a1 a2 s
  | .pxor a0 a1 a2 => Sys2Proof.Machine.execPxor a0 a1 a2 s
  | .pnot a0 a1 a2 => Sys2Proof.Machine.execPnot a0 a1 a2 s
  | .pset a0 a1 a2 => Sys2Proof.Machine.execPset a0 a1 a2 s
  | .pget a0 a1 a2 => Sys2Proof.Machine.execPget a0 a1 a2 s
  | .br a0 a1 a2 => Sys2Proof.Machine.execBr a0 a1 a2 s
  | .jmp a0 a1 a2 => Sys2Proof.Machine.execJmp a0 a1 a2 s
  | .call a0 a1 a2 => Sys2Proof.Machine.execCall a0 a1 a2 s
  | .ret a0 a1 a2 => Sys2Proof.Machine.execRet a0 a1 a2 s
  | .loop a0 a1 a2 => Sys2Proof.Machine.execLoop a0 a1 a2 s
  | .done a0 a1 a2 => Sys2Proof.Machine.execDone a0 a1 a2 s
  | .doneComplete a0 => Sys2Proof.Machine.execDoneComplete a0 s
  | .enq a0 a1 a2 => Sys2Proof.Machine.execEnq a0 a1 a2 s
  | .evpost a0 a1 a2 => Sys2Proof.Machine.execEvpost a0 a1 a2 s
  | .trap a0 a1 a2 => Sys2Proof.Machine.execTrap a0 a1 a2 s
  | .fence a0 a1 a2 => Sys2Proof.Machine.execFence a0 a1 a2 s
  | .brk a0 a1 a2 => Sys2Proof.Machine.execBrk a0 a1 a2 s
  | .mfsr a0 a1 a2 => Sys2Proof.Machine.execMfsr a0 a1 a2 s
  | .mtsr a0 a1 a2 => Sys2Proof.Machine.execMtsr a0 a1 a2 s
  | .vnop a0 a1 a2 => Sys2Proof.Machine.execVnop a0 a1 a2 s
  | .vadd a0 a1 a2 => Sys2Proof.Machine.execVadd a0 a1 a2 s
  | .vsub a0 a1 a2 => Sys2Proof.Machine.execVsub a0 a1 a2 s
  | .vneg a0 a1 a2 => Sys2Proof.Machine.execVneg a0 a1 a2 s
  | .vconj a0 a1 a2 => Sys2Proof.Machine.execVconj a0 a1 a2 s
  | .vmov a0 a1 a2 => Sys2Proof.Machine.execVmov a0 a1 a2 s
  | .vsel a0 a1 a2 => Sys2Proof.Machine.execVsel a0 a1 a2 s
  | .vand a0 a1 a2 => Sys2Proof.Machine.execVand a0 a1 a2 s
  | .vor a0 a1 a2 => Sys2Proof.Machine.execVor a0 a1 a2 s
  | .vxor a0 a1 a2 => Sys2Proof.Machine.execVxor a0 a1 a2 s
  | .vsplat a0 a1 a2 => Sys2Proof.Machine.execVsplat a0 a1 a2 s
  | .vbcast a0 a1 a2 => Sys2Proof.Machine.execVbcast a0 a1 a2 s
  | .vperm a0 a1 a2 => Sys2Proof.Machine.execVperm a0 a1 a2 s
  | .vins a0 a1 a2 => Sys2Proof.Machine.execVins a0 a1 a2 s
  | .vext a0 a1 a2 => Sys2Proof.Machine.execVext a0 a1 a2 s
  | .vcmpeq a0 a1 a2 => Sys2Proof.Machine.execVcmpeq a0 a1 a2 s
  | .vcmpgt a0 a1 a2 => Sys2Proof.Machine.execVcmpgt a0 a1 a2 s
  | .vshr a0 a1 a2 => Sys2Proof.Machine.execVshr a0 a1 a2 s
  | .vshl a0 a1 a2 => Sys2Proof.Machine.execVshl a0 a1 a2 s
  | .vcmul a0 a1 a2 => Sys2Proof.Machine.execVcmul a0 a1 a2 s
  | .vcmac a0 a1 a2 => Sys2Proof.Machine.execVcmac a0 a1 a2 s
  | .vcmulb a0 a1 a2 => Sys2Proof.Machine.execVcmulb a0 a1 a2 s
  | .vcmacb a0 a1 a2 => Sys2Proof.Machine.execVcmacb a0 a1 a2 s
  | .vcmacj a0 a1 a2 => Sys2Proof.Machine.execVcmacj a0 a1 a2 s
  | .vmac a0 a1 a2 => Sys2Proof.Machine.execVmac a0 a1 a2 s
  | .vmul a0 a1 a2 => Sys2Proof.Machine.execVmul a0 a1 a2 s
  | .vpwr a0 a1 a2 => Sys2Proof.Machine.execVpwr a0 a1 a2 s
  | .vcmulv a0 a1 a2 => Sys2Proof.Machine.execVcmulv a0 a1 a2 s
  | .vcmacv a0 a1 a2 => Sys2Proof.Machine.execVcmacv a0 a1 a2 s
  | .vbfly a0 a1 a2 => Sys2Proof.Machine.execVbfly a0 a1 a2 s
  | .azero a0 a1 a2 => Sys2Proof.Machine.execAzero a0 a1 a2 s
  | .arnd a0 a1 a2 => Sys2Proof.Machine.execArnd a0 a1 a2 s
  | .aget a0 a1 a2 => Sys2Proof.Machine.execAget a0 a1 a2 s
  | .aput a0 a1 a2 => Sys2Proof.Machine.execAput a0 a1 a2 s
  | .aadd a0 a1 a2 => Sys2Proof.Machine.execAadd a0 a1 a2 s
  | .vcvt a0 a1 a2 => Sys2Proof.Machine.execVcvt a0 a1 a2 s
  | .vunpk a0 a1 a2 => Sys2Proof.Machine.execVunpk a0 a1 a2 s
  | .vpack a0 a1 a2 => Sys2Proof.Machine.execVpack a0 a1 a2 s
  | .vsete a0 a1 a2 => Sys2Proof.Machine.execVsete a0 a1 a2 s
  | .vtag a0 a1 a2 => Sys2Proof.Machine.execVtag a0 a1 a2 s
  | .vgete a0 a1 a2 => Sys2Proof.Machine.execVgete a0 a1 a2 s
  | .lsNop a0 a1 a2 => Sys2Proof.Machine.execLsNop a0 a1 a2 s
  | .ldv a0 a1 a2 => Sys2Proof.Machine.execLdv a0 a1 a2 s
  | .stv a0 a1 a2 => Sys2Proof.Machine.execStv a0 a1 a2 s
  | .lds a0 a1 a2 => Sys2Proof.Machine.execLds a0 a1 a2 s
  | .sts a0 a1 a2 => Sys2Proof.Machine.execSts a0 a1 a2 s
  | .ldr a0 a1 a2 => Sys2Proof.Machine.execLdr a0 a1 a2 s
  | .stc a0 a1 a2 => Sys2Proof.Machine.execStc a0 a1 a2 s
  | .getw a0 a1 a2 => Sys2Proof.Machine.execGetw a0 a1 a2 s
  | .putw a0 a1 a2 => Sys2Proof.Machine.execPutw a0 a1 a2 s
  | .getb a0 a1 a2 => Sys2Proof.Machine.execGetb a0 a1 a2 s
  | .putb a0 a1 a2 => Sys2Proof.Machine.execPutb a0 a1 a2 s
  | .rsend a0 a1 a2 => Sys2Proof.Machine.execRsend a0 a1 a2 s
  | .remoteAccessTmo a0 a1 => Sys2Proof.Machine.execRemoteAccessTmo a0 a1 s
  | .bucketLeak a0 => Sys2Proof.Machine.execBucketLeak a0 s
  | .bankSwap a0 => Sys2Proof.Machine.execBankSwap a0 s
  | .regfileParityError a0 => Sys2Proof.Machine.execRegfileParityError a0 s
  | .wdogReportTmo a0 => Sys2Proof.Machine.execWdogReportTmo a0 s
  | .islandNoAnswer a0 => Sys2Proof.Machine.execIslandNoAnswer a0 s
  | .migrationCopyDone a0 => Sys2Proof.Machine.execMigrationCopyDone a0 s
  | .copySourceTmo a0 => Sys2Proof.Machine.execCopySourceTmo a0 s
  | .oldEpochReport a0 => Sys2Proof.Machine.execOldEpochReport a0 s
  | .engineAdmission a0 => Sys2Proof.Machine.execEngineAdmission a0 s
  | .isolate a0 a1 a2 => Sys2Proof.Machine.execIsolate a0 a1 a2 s
  | .release a0 a1 a2 => Sys2Proof.Machine.execRelease a0 a1 a2 s
  | .stestStart a0 a1 a2 => Sys2Proof.Machine.execStestStart a0 a1 a2 s
  | .stestDone a0 a1 => Sys2Proof.Machine.execStestDone a0 a1 s
  | .engineWdogExpiry a0 => Sys2Proof.Machine.execEngineWdogExpiry a0 s
  | .schInitDone => Sys2Proof.Machine.execSchInitDone s
  | .descriptor a0 a1 a2 a3 a4 => Sys2Proof.Machine.execDescriptor a0 a1 a2 a3 a4 s
  | .templateRequest a0 a1 a2 => Sys2Proof.Machine.execTemplateRequest a0 a1 a2 s
  | .heldDescriptorAccept => Sys2Proof.Machine.execHeldDescriptorAccept s
  | .enqTmo a0 => Sys2Proof.Machine.execEnqTmo a0 s
  | .portalGo a0 a1 a2 => Sys2Proof.Machine.execPortalGo a0 a1 a2 s
  | .portalAbort a0 a1 a2 => Sys2Proof.Machine.execPortalAbort a0 a1 a2 s
  | .eventPost a0 a1 => Sys2Proof.Machine.execEventPost a0 a1 s
  | .schEvpost a0 a1 => Sys2Proof.Machine.execSchEvpost a0 a1 s
  | .delayRelease => Sys2Proof.Machine.execDelayRelease s
  | .dispatch a0 => Sys2Proof.Machine.execDispatch a0 s
  | .schCancel a0 a1 => Sys2Proof.Machine.execSchCancel a0 a1 s
  | .qclr a0 a1 => Sys2Proof.Machine.execQclr a0 a1 s
  | .taskEnd a0 => Sys2Proof.Machine.execTaskEnd a0 s
  | .completionRecordWrite a0 => Sys2Proof.Machine.execCompletionRecordWrite a0 s
  | .schCqctlWrite a0 a1 a2 => Sys2Proof.Machine.execSchCqctlWrite a0 a1 a2 s
  | .deadlineSweep => Sys2Proof.Machine.execDeadlineSweep s
  | .pairTimeout a0 => Sys2Proof.Machine.execPairTimeout a0 s
  | .controlMismatch a0 => Sys2Proof.Machine.execControlMismatch a0 s
  | .shadowRejoin => Sys2Proof.Machine.execShadowRejoin s
  | .rd a0 => Sys2Proof.Machine.execRd a0 s
  | .wr a0 => Sys2Proof.Machine.execWr a0 s
  | .rdrsp a0 => Sys2Proof.Machine.execRdrsp a0 s
  | .wrack a0 => Sys2Proof.Machine.execWrack a0 s
  | .rcon a0 => Sys2Proof.Machine.execRcon a0 s
  | .rwide a0 => Sys2Proof.Machine.execRwide a0 s
  | .epoch a0 a1 => Sys2Proof.Machine.execEpoch a0 a1 s
  | .moduleLeavesService a0 => Sys2Proof.Machine.execModuleLeavesService a0 s
  | .pairReroute a0 a1 => Sys2Proof.Machine.execPairReroute a0 a1 s
  | .streamSamples a0 a1 a2 a3 a4 a5 => Sys2Proof.Machine.execStreamSamples a0 a1 a2 a3 a4 a5 s
  | .rxBlockLand a0 => Sys2Proof.Machine.execRxBlockLand a0 s
  | .strtxpost a0 a1 a2 a3 a4 a5 => Sys2Proof.Machine.execStrtxpost a0 a1 a2 a3 a4 a5 s
  | .txBlockFetch a0 => Sys2Proof.Machine.execTxBlockFetch a0 s
  | .txFetchLate a0 => Sys2Proof.Machine.execTxFetchLate a0 s
  | .txBlockEmit a0 a1 => Sys2Proof.Machine.execTxBlockEmit a0 a1 s
  | .strcfgEnable a0 a1 a2 => Sys2Proof.Machine.execStrcfgEnable a0 a1 a2 s
  | .strcfgDisable a0 a1 a2 => Sys2Proof.Machine.execStrcfgDisable a0 a1 a2 s
  | .streamResume a0 => Sys2Proof.Machine.execStreamResume a0 s
  | .redcfgEnable a0 a1 a2 => Sys2Proof.Machine.execRedcfgEnable a0 a1 a2 s
  | .groupReady a0 => Sys2Proof.Machine.execGroupReady a0 s
  | .redcfgDisable a0 a1 a2 => Sys2Proof.Machine.execRedcfgDisable a0 a1 a2 s
  | .redEntryHoldExpiry a0 a1 => Sys2Proof.Machine.execRedEntryHoldExpiry a0 a1 s
  | .redSlotTimeout a0 a1 a2 => Sys2Proof.Machine.execRedSlotTimeout a0 a1 a2 s
  | .timePulse a0 => Sys2Proof.Machine.execTimePulse a0 s
  | .timNownsRead a0 => Sys2Proof.Machine.execTimNownsRead a0 s
  | .ppsInEdge a0 a1 => Sys2Proof.Machine.execPpsInEdge a0 a1 s
  | .todSentence a0 => Sys2Proof.Machine.execTodSentence a0 s
  | .ptpMeasurement a0 a1 a2 => Sys2Proof.Machine.execPtpMeasurement a0 a1 a2 s
  | .esmcPdu a0 a1 => Sys2Proof.Machine.execEsmcPdu a0 a1 s
  | .sourceTimeout a0 a1 => Sys2Proof.Machine.execSourceTimeout a0 a1 s
  | .sourceQualified a0 => Sys2Proof.Machine.execSourceQualified a0 s
  | .ocxoFail => Sys2Proof.Machine.execOcxoFail s
  | .ocxoRecover => Sys2Proof.Machine.execOcxoRecover s
  | .lockAchieved => Sys2Proof.Machine.execLockAchieved s
  | .lockLost => Sys2Proof.Machine.execLockLost s
  | .holdoverExpiry => Sys2Proof.Machine.execHoldoverExpiry s
  | .holdoverUpdate a0 => Sys2Proof.Machine.execHoldoverUpdate a0 s
  | .learnSample a0 a1 => Sys2Proof.Machine.execLearnSample a0 a1 s
  | .timeStep => Sys2Proof.Machine.execTimeStep s
  | .timSetgo a0 a1 => Sys2Proof.Machine.execTimSetgo a0 a1 s
  | .rearm a0 a1 => Sys2Proof.Machine.execRearm a0 a1 s
  | .forceho a0 a1 => Sys2Proof.Machine.execForceho a0 a1 s
  | .symcfgEnable a0 a1 => Sys2Proof.Machine.execSymcfgEnable a0 a1 s
  | .slotTick => Sys2Proof.Machine.execSlotTick s
  | .symTick => Sys2Proof.Machine.execSymTick s
  | .usecTick => Sys2Proof.Machine.execUsecTick s
  | .userTick => Sys2Proof.Machine.execUserTick s
  | .ppsOutPulse => Sys2Proof.Machine.execPpsOutPulse s
  | .ppsOutEnd => Sys2Proof.Machine.execPpsOutEnd s
  | .rtcSet a0 a1 => Sys2Proof.Machine.execRtcSet a0 a1 s
  | .rtcAlign => Sys2Proof.Machine.execRtcAlign s
  | .rtcTrimMeasure a0 => Sys2Proof.Machine.execRtcTrimMeasure a0 s
  | .rtcSubRead a0 => Sys2Proof.Machine.execRtcSubRead a0 s
  | .alarmMatch => Sys2Proof.Machine.execAlarmMatch s
  | .rtcOscStop => Sys2Proof.Machine.execRtcOscStop s
  | .commit a0 a1 => Sys2Proof.Machine.execCommit a0 a1 s
  | .zero a0 a1 => Sys2Proof.Machine.execZero a0 a1 s
  | .keyWordExpiry a0 => Sys2Proof.Machine.execKeyWordExpiry a0 s
  | .modelBackup => Sys2Proof.Machine.execModelBackup s
  | .identityRecord a0 a1 => Sys2Proof.Machine.execIdentityRecord a0 a1 s
  | .discoveryAttemptTmo a0 => Sys2Proof.Machine.execDiscoveryAttemptTmo a0 s
  | .converterLost a0 => Sys2Proof.Machine.execConverterLost a0 s
  | .calibrationDone a0 a1 => Sys2Proof.Machine.execCalibrationDone a0 a1 s
  | .cnvCalctlRun a0 a1 a2 => Sys2Proof.Machine.execCnvCalctlRun a0 a1 a2 s
  | .backgroundCal a0 a1 a2 a3 => Sys2Proof.Machine.execBackgroundCal a0 a1 a2 a3 s
  | .channelFault a0 a1 a2 => Sys2Proof.Machine.execChannelFault a0 a1 a2 s
  | .cdrLock a0 => Sys2Proof.Machine.execCdrLock a0 s
  | .blockLock a0 a1 => Sys2Proof.Machine.execBlockLock a0 a1 s
  | .trainingTmo a0 a1 => Sys2Proof.Machine.execTrainingTmo a0 a1 s
  | .backoffExpiry a0 => Sys2Proof.Machine.execBackoffExpiry a0 s
  | .signalLost a0 => Sys2Proof.Machine.execSignalLost a0 s
  | .blockLockLost a0 => Sys2Proof.Machine.execBlockLockLost a0 s
  | .fomLow a0 a1 => Sys2Proof.Machine.execFomLow a0 a1 s
  | .portEnable a0 a1 a2 => Sys2Proof.Machine.execPortEnable a0 a1 a2 s
  | .portDisable a0 a1 a2 => Sys2Proof.Machine.execPortDisable a0 a1 a2 s
  | .rxFrame a0 a1 => Sys2Proof.Machine.execRxFrame a0 a1 s
  | .clsSlotLanded a0 => Sys2Proof.Machine.execClsSlotLanded a0 s
  | .pauseFrame a0 a1 => Sys2Proof.Machine.execPauseFrame a0 a1 s
  | .serTxpost a0 a1 a2 a3 => Sys2Proof.Machine.execSerTxpost a0 a1 a2 a3 s
  | .txFrameSend a0 a1 a2 a3 => Sys2Proof.Machine.execTxFrameSend a0 a1 a2 a3 s
  | .serTxtsRead a0 a1 => Sys2Proof.Machine.execSerTxtsRead a0 a1 s
  | .chainSideDown a0 => Sys2Proof.Machine.execChainSideDown a0 s
  | .chctlWrite a0 a1 => Sys2Proof.Machine.execChctlWrite a0 a1 s
  | .trainingStateDone a0 a1 => Sys2Proof.Machine.execTrainingStateDone a0 a1 s
  | .trainingStateTmo a0 => Sys2Proof.Machine.execTrainingStateTmo a0 s
  | .widthCheckReport a0 a1 a2 => Sys2Proof.Machine.execWidthCheckReport a0 a1 a2 s
  | .widthCheckTmo a0 => Sys2Proof.Machine.execWidthCheckTmo a0 s
  | .replayRequest a0 a1 a2 => Sys2Proof.Machine.execReplayRequest a0 a1 a2 s
  | .flitAck a0 a1 a2 => Sys2Proof.Machine.execFlitAck a0 a1 a2 s
  | .laneFlagged a0 a1 a2 => Sys2Proof.Machine.execLaneFlagged a0 a1 a2 s
  | .narrowDone a0 => Sys2Proof.Machine.execNarrowDone a0 s
  | .partnerSilent a0 => Sys2Proof.Machine.execPartnerSilent a0 s
  | .lnkOos a0 a1 a2 => Sys2Proof.Machine.execLnkOos a0 a1 a2 s
  | .lnkRetrain a0 a1 a2 => Sys2Proof.Machine.execLnkRetrain a0 a1 a2 s
  | .delayMeasured a0 a1 => Sys2Proof.Machine.execDelayMeasured a0 a1 s
  | .trainingStepDone a0 a1 => Sys2Proof.Machine.execTrainingStepDone a0 a1 s
  | .trainingStepTmo a0 => Sys2Proof.Machine.execTrainingStepTmo a0 s
  | .mr4Poll a0 a1 a2 => Sys2Proof.Machine.execMr4Poll a0 a1 a2 s
  | .dqsOscCheck a0 a1 => Sys2Proof.Machine.execDqsOscCheck a0 a1 s
  | .dramCommandIssue a0 => Sys2Proof.Machine.execDramCommandIssue a0 s
  | .dramReadData a0 a1 => Sys2Proof.Machine.execDramReadData a0 a1 s
  | .refreshDue a0 a1 => Sys2Proof.Machine.execRefreshDue a0 a1 s
  | .hammerWindowEnd a0 => Sys2Proof.Machine.execHammerWindowEnd a0 s
  | .regulatorRelease a0 a1 => Sys2Proof.Machine.execRegulatorRelease a0 a1 s
  | .selfRefreshIdle a0 => Sys2Proof.Machine.execSelfRefreshIdle a0 s
  | .selfRefreshExit a0 => Sys2Proof.Machine.execSelfRefreshExit a0 s
  | .revalidationDone a0 a1 a2 => Sys2Proof.Machine.execRevalidationDone a0 a1 a2 s
  | .alertN a0 => Sys2Proof.Machine.execAlertN a0 s
  | .patrolScrubRead a0 a1 => Sys2Proof.Machine.execPatrolScrubRead a0 a1 s
  | .rngReady => Sys2Proof.Machine.execRngReady s
  | .rngHealthFail => Sys2Proof.Machine.execRngHealthFail s
  | .iceRngRead a0 => Sys2Proof.Machine.execIceRngRead a0 s
  | .prEnable a0 a1 a2 => Sys2Proof.Machine.execPrEnable a0 a1 a2 s
  | .prInitDone a0 => Sys2Proof.Machine.execPrInitDone a0 s
  | .prDisable a0 a1 a2 => Sys2Proof.Machine.execPrDisable a0 a1 a2 s
  | .rotate a0 a1 a2 => Sys2Proof.Machine.execRotate a0 a1 a2 s
  | .rotationDone a0 => Sys2Proof.Machine.execRotationDone a0 s
  | .reencryptDone a0 a1 => Sys2Proof.Machine.execReencryptDone a0 a1 s
  | .counterBlockFetch a0 a1 a2 => Sys2Proof.Machine.execCounterBlockFetch a0 a1 a2 s
  | .mbxTxd a0 a1 a2 a3 => Sys2Proof.Machine.execMbxTxd a0 a1 a2 a3 s
  | .mbxRxd a0 a1 a2 => Sys2Proof.Machine.execMbxRxd a0 a1 a2 s
  | .mbxDbset a0 a1 a2 a3 => Sys2Proof.Machine.execMbxDbset a0 a1 a2 a3 s
  | .mbxDbmask a0 a1 a2 a3 => Sys2Proof.Machine.execMbxDbmask a0 a1 a2 a3 s
  | .crossing a0 => Sys2Proof.Machine.execCrossing a0 s
  | .lockstepMismatch => Sys2Proof.Machine.execLockstepMismatch s
  | .mgmWdkick a0 a1 => Sys2Proof.Machine.execMgmWdkick a0 a1 s
  | .mgmWdogExpiry => Sys2Proof.Machine.execMgmWdogExpiry s
  | .sensorConversion a0 a1 => Sys2Proof.Machine.execSensorConversion a0 a1 s
  | .sensorFail a0 => Sys2Proof.Machine.execSensorFail a0 s
  | .railMonitorRead a0 a1 a2 => Sys2Proof.Machine.execRailMonitorRead a0 a1 a2 s
  | .powerReport a0 a1 a2 => Sys2Proof.Machine.execPowerReport a0 a1 a2 s
  | .powerReportTmo a0 => Sys2Proof.Machine.execPowerReportTmo a0 s
  | .budgetReallot => Sys2Proof.Machine.execBudgetReallot s
  | .budgetMessage a0 => Sys2Proof.Machine.execBudgetMessage a0 s
  | .budgetMessageTmo a0 => Sys2Proof.Machine.execBudgetMessageTmo a0 s
  | .lpcAverage a0 a1 => Sys2Proof.Machine.execLpcAverage a0 a1 s
  | .errorRecord a0 => Sys2Proof.Machine.execErrorRecord a0 s
  | .logRecordProgram => Sys2Proof.Machine.execLogRecordProgram s
  | .logScan => Sys2Proof.Machine.execLogScan s
  | .flashRead a0 a1 => Sys2Proof.Machine.execFlashRead a0 a1 s
  | .pageProgram a0 a1 => Sys2Proof.Machine.execPageProgram a0 a1 s
  | .erase4KiB a0 a1 => Sys2Proof.Machine.execErase4KiB a0 a1 s
  | .erase64KiB a0 a1 => Sys2Proof.Machine.execErase64KiB a0 a1 s
  | .readSfdp a0 a1 => Sys2Proof.Machine.execReadSfdp a0 a1 s
  | .readStatus a0 a1 => Sys2Proof.Machine.execReadStatus a0 a1 s
  | .flashOpDone a0 a1 => Sys2Proof.Machine.execFlashOpDone a0 a1 s
  | .flashTmo => Sys2Proof.Machine.execFlashTmo s
  | .romBoot => Sys2Proof.Machine.execRomBoot s
  | .runrec a0 a1 => Sys2Proof.Machine.execRunrec a0 a1 s
  | .fuseBlow a0 a1 => Sys2Proof.Machine.execFuseBlow a0 a1 s
  | .pmbWrite a0 a1 => Sys2Proof.Machine.execPmbWrite a0 a1 s
  | .pmbRead a0 a1 => Sys2Proof.Machine.execPmbRead a0 a1 s
  | .blockRead a0 a1 => Sys2Proof.Machine.execBlockRead a0 a1 s
  | .sendByte a0 a1 => Sys2Proof.Machine.execSendByte a0 a1 s
  | .pmbDone a0 a1 => Sys2Proof.Machine.execPmbDone a0 a1 s
  | .pmbTmo => Sys2Proof.Machine.execPmbTmo s
  | .pmbAlertN => Sys2Proof.Machine.execPmbAlertN s
  | .debugTransaction a0 a1 a2 => Sys2Proof.Machine.execDebugTransaction a0 a1 a2 s
  | .lineReset => Sys2Proof.Machine.execLineReset s
  | .dbgCkTmo => Sys2Proof.Machine.execDbgCkTmo s
  | .attach a0 a1 => Sys2Proof.Machine.execAttach a0 a1 s
  | .dbgRead a0 a1 a2 => Sys2Proof.Machine.execDbgRead a0 a1 a2 s
  | .dbgWrite a0 a1 a2 => Sys2Proof.Machine.execDbgWrite a0 a1 a2 s
  | .engineRegisterRead a0 a1 a2 => Sys2Proof.Machine.execEngineRegisterRead a0 a1 a2 s
  | .engineRegisterWrite a0 a1 a2 => Sys2Proof.Machine.execEngineRegisterWrite a0 a1 a2 s
  | .managementRegisterRead a0 a1 a2 => Sys2Proof.Machine.execManagementRegisterRead a0 a1 a2 s
  | .managementRegisterWrite a0 a1 a2 => Sys2Proof.Machine.execManagementRegisterWrite a0 a1 a2 s
  | .accessTmo a0 => Sys2Proof.Machine.execAccessTmo a0 s
  | .haltreq a0 a1 a2 => Sys2Proof.Machine.execHaltreq a0 a1 a2 s
  | .engineHalt a0 => Sys2Proof.Machine.execEngineHalt a0 s
  | .resume a0 a1 a2 => Sys2Proof.Machine.execResume a0 a1 a2 s
  | .step a0 a1 a2 => Sys2Proof.Machine.execStep a0 a1 a2 s
  | .dbgTrigset a0 a1 => Sys2Proof.Machine.execDbgTrigset a0 a1 s
  | .fabricTriggerIn a0 a1 => Sys2Proof.Machine.execFabricTriggerIn a0 a1 s
  | .dbgGresume a0 a1 => Sys2Proof.Machine.execDbgGresume a0 a1 s
  | .railGood a0 => Sys2Proof.Machine.execRailGood a0 s
  | .powerLoss => Sys2Proof.Machine.execPowerLoss s
  | .crystalStart => Sys2Proof.Machine.execCrystalStart s
  | .pcieLinkDown => Sys2Proof.Machine.execPcieLinkDown s
  | .pcieLinkUp => Sys2Proof.Machine.execPcieLinkUp s
  | .alertNRelease a0 => Sys2Proof.Machine.execAlertNRelease a0 s
  | .synceOffsetOutOfRange a0 => Sys2Proof.Machine.execSynceOffsetOutOfRange a0 s
  | .mgmBreakpoint => Sys2Proof.Machine.execMgmBreakpoint s
  | .flRstNRelease => Sys2Proof.Machine.execFlRstNRelease s

end Sys2Proof.Machine
end

