-- ==== Sys2Proof/Safety.lean ====
section
/-! DEFINITION. What holds of a state that a run can be in: every table of numbered data in its canonical form, the addressed memories among
them. -/

namespace Sys2Proof.Machine

/-- The memories in canonical form: rising addresses, and no entry equal to what an unlisted one reads as. What an unwritten granule of DRAM or of an
engine holds is a free value, so every entry of theirs differs from it. -/
def Memory.wf (s : State) : Bool :=
  SMap.wf (fun _ => (0xFF : Byte)) s.mgm.flash
    && s.eng.all (fun e => SMap.rising 0 e.2.dmem && SMap.rising 0 e.2.imem)
    && s.mem.all (fun c => SMap.rising 0 c.2.cells && SMap.rising 0 c.2.other)

/-- The control registers in canonical form. -/
def State.regsWf (s : State) : Bool := SMap.wf regReset s.regs

/-- A step that a run goes on from. -/
def State.goes (s : State) : Prop := ∃ t, step s = .next t

end Sys2Proof.Machine
end

