-- ==== Sys2Proof/WellFormed.lean ====
section
/-! DEFINITION. Which commands can be sent: accesses to whole words, packets and frames within the sizes the manual gives, times with fewer than
10^9 ns. The machine is total all the same: what the manual says of a malformed packet or a reserved requester is part of its meanings. -/

namespace Sys2Proof

/-- R7: a control register is reached at a multiple of 4. -/
def COff.wf (o : COff) : Bool := o.toNat % 4 = 0

/-- R230: nanoseconds of a second. -/
def nsWf (ns : Word) : Bool := ns.toNat < 1000000000

/-- R199, R200: at most 8 body flits. -/
def Pkt.wf (p : Pkt) : Bool := p.body.length ≤ 256

/-- R17: a dword-aligned access of 1 to 1,024 dwords; a virtual function has no configuration window. -/
def Tlp.wf (t : Tlp) : Bool :=
  decide (t.off.toNat % 4 = 0) && !(decide (t.bar = Bar.config) && decide (t.fn ≠ 0))
    && (if t.write then decide (1 ≤ t.data.length) && decide (t.data.length ≤ 1024) else decide (1 ≤ t.dwords) && decide (t.dwords ≤ 1024))

/-- R333: a DRAM line has 16 granules. -/
def flipsWf (l : List (BitVec 64 × BitVec 16)) : Bool := l.length ≤ 16

/-- The checks of a command. -/
def Instr.wf (i : Instr) : Bool :=
  match i with
  | .registerWrite _ o _ | .pairLowRead _ o | .pairHighRead _ o | .pairLowWrite _ o _ | .pairHighWrite _ o _ => o.wf
  | .hostTlp t => t.wf
  | .rd p | .wr p | .rcon p => p.wf
  | .rdrsp r | .wrack r => decide (r.data.length ≤ 256)
  | .streamSamples _ _ ns _ _ _ => nsWf ns
  | .ppsInEdge ns _ => nsWf ns
  | .rxFrame _ f => nsWf f.ns
  | .txFrameSend _ _ ns _ => nsWf ns
  | .dramReadData _ l | .patrolScrubRead _ l => flipsWf l
  | .flashOpDone l _ => decide (l.length ≤ 256)
  | .pmbDone _ l => decide (l.length ≤ 255)
  | .flitAck _ _ n => decide (n ≤ 256)
  | _ => true

end Sys2Proof
end

