-- ==== Sys2Proof/Certificates/Slice0/Obligations.lean ====
section
/-! DEFINITION. The statements about the GN1024, for the provers. The definitions before the first statement are shapes that several
statements share. -/

open Sys2Proof Sys2Proof.Machine

namespace Sys2Proof.Stated

/-- The registers of a bank stand in their canonical form: one entry a register, none that is zero. -/
def bankWf (b : EBank) : Bool :=
  SMap.wf (fun _ => (0 : Word)) b.s && SMap.wf (fun _ => (0 : Quad)) b.v && SMap.wf (fun _ => (0 : Acc256)) b.a && SMap.wf (fun _ => (0 : Byte)) b.p

/-- What a step keeps: the register bank, the memories, and the tables of engines, logical engines, mailboxes, DRAM channels and die-link modules
stand in their one canonical form, the registers of every bank of an engine too, and every epoch is a byte (R147). -/
def Inv (s : State) : Prop :=
  State.regsWf s = true ∧ Memory.wf s = true ∧ SMap.wf engReset s.eng = true ∧ s.eng.all (fun e => bankWf e.2.b0 && bankWf e.2.b1) = true ∧
  SMap.wf lengReset s.leng = true ∧ SMap.wf (fun _ => ({} : MbxSt)) s.mbx = true ∧
  SMap.wf (fun _ => ({} : ChanSt)) s.mem = true ∧ SMap.wf (fun _ => ({} : LnkMod)) s.lnk = true ∧
  s.leng.all (fun e => decide (e.2.epoch < 256)) = true

/-- The fuses of `s` are blown in `t` too (R55, R394): counts and revocations only grow. -/
def FusesKept (s t : State) : Prop :=
  s.fuses.imgCount ≤ t.fuses.imgCount ∧ s.fuses.fwCount ≤ t.fuses.fwCount ∧ s.fuses.revoked &&& t.fuses.revoked = s.fuses.revoked

/-- The engine of a command. -/
abbrev eng (s : State) (e : Eng) : EngSt := s.engSt e.val

/-- The bank its task runs in. -/
abbrev bank (s : State) (e : Eng) : EBank := (s.engSt e.val).cur

/-- What the load-store slot of the engine sees. -/
abbrev lsEnv (s : State) (e : Eng) : LsEnv := ⟨s.engSt e.val, e.val, (s.engSt e.val).cur, s.engStale e.val⟩

/-- The bundle `u` stands at the PC of engine `e` and can issue: the engine is ON and runs a task that waits for nothing, the fetch reads
clean, no operand is awaited and nothing stalls. -/
abbrev Fetches (s : State) (e : Eng) (u : Bundle) : Prop :=
  s.isOn (oPwrEng e.val) = true ∧ (s.heldTrap e.val).isNone = true ∧ s.mayIssue e.val = true ∧ bankWf (bank s e) = true ∧
  ((eng s e).readWord e.val true (bank s e).pc).2 = (false, []) ∧
  bundleOf ((eng s e).readWord e.val true (bank s e).pc).1 = u ∧
  (s.pendingV e.val (eng s e).active (bank s e).gen).any (fun k => (u.waitKeys (bank s e)).contains k) = false ∧
  s.stalled e.val (eng s e) (ctlRun u (bank s e)) (lsRun (lsEnv s e) u) = false

/-- The causes of a trap that the bundle has (R128). -/
abbrev causesOf (s : State) (e : Eng) (u : Bundle) : List Cause := u.causes (lsEnv s e) (s.bit (oEcfg e.val) 27)

/-- It issues without a trap, in a task that is no paired copy, and the PC after it lies in the instruction memory. -/
abbrev Issues (s : State) (e : Eng) (u : Bundle) : Prop :=
  Fetches s e u ∧ causesOf s e u = [] ∧ (bank s e).copy = 0 ∧ (nextPc (bank s e) (ctlRun u (bank s e)).act).1 ≤ 4095

abbrev noPred : Pred := ⟨false, 0⟩
abbrev ctlNopSlot : CtlSlot := ⟨noPred, 0, ⟨0, 0, 0⟩⟩
abbrev vecNopSlot : VecSlot := ⟨noPred, 0, ⟨0, 0, 0, 0, 0, 0⟩⟩
abbrev lsNopSlot : LsSlot := ⟨noPred, 0, ⟨0, 0, 0, 0, 0, 0⟩⟩

/-- The bundle that holds one instruction and two NOPs. -/
abbrev ctlBundle (q : Pred) (opc : Nat) (x : CArgs) : Bundle := ⟨⟨q, opc, x⟩, vecNopSlot, lsNopSlot⟩
abbrev vecBundle (q : Pred) (opc : Nat) (x : VArgs) : Bundle := ⟨ctlNopSlot, ⟨q, opc, x⟩, lsNopSlot⟩
abbrev lsBundle (q : Pred) (opc : Nat) (x : LArgs) : Bundle := ⟨ctlNopSlot, vecNopSlot, ⟨q, opc, x⟩⟩

/-- A function changed at one place. -/
def upd {α : Type} (f : Nat → α) (k : Nat) (v : α) : Nat → α := fun i => if i = k then v else f i

/-- The registers of a bank, its FLAGS included, are these. -/
def RegsAre (c : EBank) (S : Nat → Word) (V : Nat → Quad) (A : Nat → Acc256) (P : Nat → Byte) (fl : Word) : Prop :=
  (∀ i, c.getS i = S i) ∧ (∀ i, c.getV i = V i) ∧ (∀ i, c.getA i = A i) ∧ (∀ i, c.getP i = P i) ∧ c.flags = fl

/-- What a bundle without a store and without a request leaves alone: every other engine, both local memories, the identity of the task,
every control register, and everything else but the number of the next free value. -/
def OnlyBank (s t : State) (e : Eng) : Prop :=
  { t with eng := s.eng, freeCtr := s.freeCtr } = s ∧ (∀ f, f ≠ e.val → t.engSt f = s.engSt f) ∧
  (eng t e).dmem = (eng s e).dmem ∧ (eng t e).imem = (eng s e).imem ∧ (eng t e).resv = (eng s e).resv ∧
  (bank t e).tid = (bank s e).tid ∧ (bank t e).flow = (bank s e).flow ∧ (bank t e).arg = (bank s e).arg ∧ (bank t e).busy = (bank s e).busy

/-- PC and loop levels after a bundle whose control slot does `a` (R120, R121). -/
def Advances (s t : State) (e : Eng) (a : EngAct) : Prop :=
  ((bank t e).pc, (bank t e).loops) = nextPc (bank s e) a

/-- A control instruction that writes S[RD]: executed, it writes `f` of the bank and its operands; predicated off it writes nothing (R114). -/
def CtlWritesS (i : Eng → Pred → CArgs → Instr) (opc : Nat) (f : EBank → CArgs → Word) : Prop :=
  ∀ (e : Eng) (q : Pred) (x : CArgs) (s : State), Issues s e (ctlBundle q opc x) →
    ∃ t, exec (i e q x) s = .next t ∧ OnlyBank s t e ∧ Advances s t e .none ∧
      RegsAre (bank t e)
        (if predOn q (bank s e) then upd (bank s e).getS x.rd.toNat (f (bank s e) x) else (bank s e).getS)
        (bank s e).getV (bank s e).getA (bank s e).getP (bank s e).flags

/-- A control instruction that writes a predicate register. -/
def CtlWritesP (i : Eng → Pred → CArgs → Instr) (opc : Nat) (f : EBank → CArgs → Byte) : Prop :=
  ∀ (e : Eng) (q : Pred) (x : CArgs) (s : State), Issues s e (ctlBundle q opc x) →
    ∃ t, exec (i e q x) s = .next t ∧ OnlyBank s t e ∧ Advances s t e .none ∧
      RegsAre (bank t e) (bank s e).getS (bank s e).getV (bank s e).getA
        (if predOn q (bank s e) then upd (bank s e).getP x.rd.toNat (f (bank s e) x) else (bank s e).getP) (bank s e).flags

/-- S[RA] and S[RB] of a control slot. -/
abbrev ra (b : EBank) (x : CArgs) : Word := b.getS x.ra.toNat
abbrev rb (b : EBank) (x : CArgs) : Word := b.getS (bitsOf x.imm 17 13)
/-- The immediate, sign-extended and zero-extended. -/
abbrev simm (x : CArgs) : Word := x.imm.signExtend 32
abbrev uimm (x : CArgs) : Word := x.imm.setWidth 32
/-- All ones or all zeros. -/
abbrev allBits (c : Bool) : Byte := if c then 0xFF else 0

/-- A control instruction that moves the PC, and writes S31 where `link` says so; predicated off it is a NOP (R114). -/
def CtlMoves (i : Eng → Pred → CArgs → Instr) (opc : Nat) (link : Bool) (a : EBank → CArgs → EngAct) : Prop :=
  ∀ (e : Eng) (q : Pred) (x : CArgs) (s : State), Issues s e (ctlBundle q opc x) →
    ∃ t, exec (i e q x) s = .next t ∧ OnlyBank s t e ∧ Advances s t e (if predOn q (bank s e) then a (bank s e) x else .none) ∧
      RegsAre (bank t e)
        (if link = true ∧ predOn q (bank s e) = true then upd (bank s e).getS 31 (BitVec.ofNat 32 ((bank s e).pc + 1)) else (bank s e).getS)
        (bank s e).getV (bank s e).getA (bank s e).getP (bank s e).flags

/-- The bundle issues and does nothing but go on to the next: the form of an instruction that is predicated off (R114). -/
def GoesOn (i : Instr) (s : State) (e : Eng) : Prop :=
  ∃ t, exec i s = .next t ∧ OnlyBank s t e ∧ Advances s t e .none ∧
    RegsAre (bank t e) (bank s e).getS (bank s e).getV (bank s e).getA (bank s e).getP (bank s e).flags

def CtlOff (i : Eng → Pred → CArgs → Instr) (opc : Nat) : Prop :=
  ∀ (e : Eng) (q : Pred) (x : CArgs) (s : State), Issues s e (ctlBundle q opc x) → predOn q (bank s e) = false → GoesOn (i e q x) s e

def LsOff (i : Eng → Pred → LArgs → Instr) (opc : Nat) : Prop :=
  ∀ (e : Eng) (q : Pred) (x : LArgs) (s : State), Issues s e (lsBundle q opc x) → predOn q (bank s e) = false → GoesOn (i e q x) s e

/-- The bank and the flags that the lanes of a vector instruction make of it. -/
def lanes (q : Pred) (b : EBank) (on : Bool) (l : List VDst) : EBank × FlagSet :=
  if on then applyDsts (predMask q b).toNat b l else (b, 0)

/-- A vector instruction: it writes its destinations, merged under its predicate, and ORs into FLAGS what the enabled lanes set (R103,
R114); with no lane enabled it does nothing. No enabled flag trap is set. -/
def VecCompletes (i : Eng → Pred → VArgs → Instr) (opc : Nat) (f : EBank → VArgs → List VDst) : Prop :=
  ∀ (e : Eng) (q : Pred) (x : VArgs) (s : State) (on : Bool), Issues s e (vecBundle q opc x) → vecOn (vecBundle q opc x) (bank s e) = on →
    (lanes q (bank s e) on (f (bank s e) x)).2 &&& bitsOf (bank s e).flags 11 8 = 0 →
    ∃ t, exec (i e q x) s = .next t ∧ OnlyBank s t e ∧ Advances s t e .none ∧
      let r := lanes q (bank s e) on (f (bank s e) x)
      RegsAre (bank t e) r.1.getS r.1.getV r.1.getA r.1.getP ((bank s e).flags ||| BitVec.ofNat 32 r.2)

/-- A vector instruction that writes one V register, executed on all lanes. -/
def VecWritesV (i : Eng → Pred → VArgs → Instr) (opc : Nat) (ok : VArgs → Prop) (f : EBank → VArgs → Quad) : Prop :=
  ∀ (e : Eng) (x : VArgs) (s : State), Issues s e (vecBundle noPred opc x) → ok x →
    ∃ t, exec (i e noPred x) s = .next t ∧ OnlyBank s t e ∧ Advances s t e .none ∧
      RegsAre (bank t e) (bank s e).getS (upd (bank s e).getV x.d.toNat (f (bank s e) x)) (bank s e).getA (bank s e).getP (bank s e).flags

/-- A value moved into a word of a format: bits [119:112] of a B8 word are 0 (R104, log 67). -/
def moved (x : VArgs) (v : Quad) : Quad := if x.fmt = 5 then v &&& ~~~(0xFF#128 <<< 112) else v

/-- The registers after a post-increment of the addressing mode (R118). -/
def afterInc (b : EBank) (l : List (Nat × Word)) : Nat → Word := l.foldl (fun f p => upd f p.1 p.2) b.getS

/-- Byte `a` of the data memory of an engine as a read finds it, with the state its granule is in. -/
def dmByte (x : EngSt) (e a : Nat) : Byte × EccState :=
  (((x.readGran e false (a / 8)).1 >>> (8 * (a % 8))).setWidth 8, (x.readGran e false (a / 8)).2)

/-- What a local store leaves alone: everything but the bank and the data memory of the engine. -/
def OnlyEngine (s t : State) (e : Eng) : Prop :=
  { t with eng := s.eng, freeCtr := s.freeCtr, regs := s.regs, rec_ := s.rec_ } = s ∧ (∀ f, f ≠ e.val → t.engSt f = s.engSt f) ∧
  (eng t e).imem = (eng s e).imem ∧ Advances s t e .none ∧ (∀ i, (bank t e).getA i = (bank s e).getA i) ∧
  (bank t e).flags = (bank s e).flags

/-- A request of the engine for the 16-byte word at `a` has joined those it has outstanding. -/
def Requests (s t : State) (e : Eng) (a : Nat) (write : Bool) (k : ReqKind) : Prop :=
  ∃ tag, t.net.outst = s.net.outst ++ [outReq (engReq e.val) tag a write k]

end Sys2Proof.Stated

open Sys2Proof.Stated

/-! ## The step and its invariant -/

/-- A step takes the command that has waited longest and is its meaning on the state whose queue is the rest. With no command waiting the block idles,
which is the model's choice (log 5). -/
def Obligations.StepRunsTheFrontCommand : Prop :=
  (∀ (c : Instr) (rest : List Instr) (s : State), step { s with pending := c :: rest } = exec c { s with pending := rest }) ∧
  (∀ s : State, s.pending = [] → step s = .next s)

/-- The invariant holds of the reset state. -/
def Obligations.InvariantHoldsAtReset : Prop := Inv State.reset

/-- Every step keeps the invariant, takes exactly the front command from the queue, and unblows no fuse. -/
def Obligations.StepKeepsInvariant : Prop :=
  ∀ s t : State, Inv s → step s = .next t → Inv t ∧ t.pending = s.pending.tail ∧ FusesKept s t

/-- No command is refused and none ends in a fault. -/
def Obligations.EveryCommandAnswersANextState : Prop := ∀ (c : Instr) (s : State), ∃ t, exec c s = .next t

/-! ## Engine instructions -/

/-- R115: the arithmetic, logic, shift and move instructions of the control slot; compares and predicate operations write all eight bits of one
predicate register. -/
def Obligations.ControlArithmeticCompletes : Prop :=
  CtlWritesS .add 0x01 (fun b x => ra b x + rb b x) ∧
  CtlWritesS .sub 0x02 (fun b x => ra b x - rb b x) ∧
  CtlWritesS .and 0x03 (fun b x => ra b x &&& rb b x) ∧
  CtlWritesS .or 0x04 (fun b x => ra b x ||| rb b x) ∧
  CtlWritesS .xor 0x05 (fun b x => ra b x ^^^ rb b x) ∧
  CtlWritesS .shl 0x06 (fun b x => ra b x <<< (bitsOf (rb b x) 4 0)) ∧
  CtlWritesS .shr 0x07 (fun b x => ra b x >>> (bitsOf (rb b x) 4 0)) ∧
  CtlWritesS .sra 0x08 (fun b x => (ra b x).sshiftRight (bitsOf (rb b x) 4 0)) ∧
  CtlWritesS .mul 0x09 (fun b x => ra b x * rb b x) ∧
  CtlWritesS .min 0x0A (fun b x => if (ra b x).slt (rb b x) then ra b x else rb b x) ∧
  CtlWritesS .max 0x0B (fun b x => if (ra b x).slt (rb b x) then rb b x else ra b x) ∧
  CtlWritesS .addi 0x11 (fun b x => ra b x + simm x) ∧
  CtlWritesS .andi 0x13 (fun b x => ra b x &&& uimm x) ∧
  CtlWritesS .ori 0x14 (fun b x => ra b x ||| uimm x) ∧
  CtlWritesS .xori 0x15 (fun b x => ra b x ^^^ uimm x) ∧
  CtlWritesS .shli 0x16 (fun b x => ra b x <<< (bitsOf x.imm 4 0)) ∧
  CtlWritesS .shri 0x17 (fun b x => ra b x >>> (bitsOf x.imm 4 0)) ∧
  CtlWritesS .srai 0x18 (fun b x => (ra b x).sshiftRight (bitsOf x.imm 4 0)) ∧
  CtlWritesS .lui 0x1C (fun _ x => x.imm ++ (0 : BitVec 14)) ∧
  CtlWritesS .pget 0x35 (fun b x => (b.getP (x.ra.toNat % 8)).setWidth 32) ∧
  CtlWritesP .cmpeq 0x20 (fun b x => allBits (ra b x == rb b x)) ∧
  CtlWritesP .cmpne 0x21 (fun b x => allBits (ra b x != rb b x)) ∧
  CtlWritesP .cmplt 0x22 (fun b x => allBits ((ra b x).slt (rb b x))) ∧
  CtlWritesP .cmpltu 0x23 (fun b x => allBits ((ra b x).ult (rb b x))) ∧
  CtlWritesP .cmpge 0x24 (fun b x => allBits (!(ra b x).slt (rb b x))) ∧
  CtlWritesP .cmpgeu 0x25 (fun b x => allBits (!(ra b x).ult (rb b x))) ∧
  CtlWritesP .cmpeqi 0x28 (fun b x => allBits (ra b x == simm x)) ∧
  CtlWritesP .cmplti 0x29 (fun b x => allBits ((ra b x).slt (simm x))) ∧
  CtlWritesP .pand 0x30 (fun b x => b.getP (x.ra.toNat % 8) &&& b.getP (bitsOf x.imm 15 13)) ∧
  CtlWritesP .por 0x31 (fun b x => b.getP (x.ra.toNat % 8) ||| b.getP (bitsOf x.imm 15 13)) ∧
  CtlWritesP .pxor 0x32 (fun b x => b.getP (x.ra.toNat % 8) ^^^ b.getP (bitsOf x.imm 15 13)) ∧
  CtlWritesP .pnot 0x33 (fun b x => ~~~(b.getP (x.ra.toNat % 8))) ∧
  CtlWritesP .pset 0x34 (fun b x => (ra b x).setWidth 8)

/-- R120, R121: transfers and loops; NOP and FENCE advance the PC. A FENCE with accesses outstanding stalls, so `Issues` excludes it. Where the PC
goes: a transfer to its target, a LOOP into its body or past it, anything else to the next bundle unless a loop level ends there. -/
def Obligations.ControlTransfersComplete : Prop :=
  CtlMoves .nop 0x00 false (fun _ _ => .none) ∧
  CtlMoves .br 0x40 false (fun b x => .goto (b.pc + x.imm.toInt) true) ∧
  CtlMoves .jmp 0x41 false (fun b x => .goto (ra b x).toNat true) ∧
  CtlMoves .call 0x42 true (fun b x => .goto (b.pc + x.imm.toInt) false) ∧
  CtlMoves .ret 0x43 false (fun b _ => .goto (b.getS 31).toNat false) ∧
  CtlMoves .loop 0x44 false (fun b x => .loop (ra b x).toNat (b.pc + x.imm.toNat)) ∧
  CtlMoves .fence 0x4D false (fun _ _ => .fence) ∧
  (∀ b : EBank,
     (∀ (t : Nat) (k : Bool), (nextPc b (.goto t k)).1 = t) ∧
     (∀ t : Nat, (nextPc b (.goto t false)).2 = b.loops) ∧
     (b.loops = [] → nextPc b .none = (b.pc + 1, [])) ∧
     (∀ (k last : Nat), 0 < k → nextPc b (.loop k last) = (b.pc + 1, b.loops ++ [⟨b.pc + 1, last, k⟩])) ∧
     (∀ (f n : Nat), 1 < n → b.loops = [⟨f, b.pc, n⟩] → nextPc b .none = (f, [⟨f, b.pc, n - 1⟩])) ∧
     (∀ f : Nat, b.loops = [⟨f, b.pc, 1⟩] → nextPc b .none = (b.pc + 1, [])))
/-- R125, R126, R128, R130, R173, R406: the control instructions that end, stop, offer or post. -/
def Obligations.ControlEndsComplete : Prop :=
  -- DONE: the bundle issues and the task waits for its acknowledgements
  (∀ (e : Eng) (q : Pred) (x : CArgs) (s : State), Issues s e (ctlBundle q 0x48 x) → predOn q (bank s e) = true →
    ∃ t, exec (.done e q x) s = .next t ∧ (bank t e).wait = .done ∧ (bank t e).pc = (nextPc (bank s e) .none).1 % 4096 ∧
      (eng t e).resv = none ∧
      RegsAre (bank t e) (bank s e).getS (bank s e).getV (bank s e).getA (bank s e).getP (bank s e).flags) ∧
  -- ENQ: the descriptor in local memory is offered at the engine input of the tile
  (∀ (e : Eng) (q : Pred) (x : CArgs) (s : State), Issues s e (ctlBundle q 0x49 x) → predOn q (bank s e) = true →
    (bank s e).wait = .none → s.inputRoom (2 + 4 * engTile e.val) = true →
    ∃ t, exec (.enq e q x) s = .next t ∧ (bank t e).wait = .enqOffered ∧ (bank t e).pc = (bank s e).pc ∧
      t.input (2 + 4 * engTile e.val) = s.input (2 + 4 * engTile e.val) ++
        [enqItem (.engine e.val) (engReq e.val) (s.engEpoch e.val) (s.engLid e.val) false (enqWords (eng s e) e.val (ra (bank s e) x).toNat)]) ∧
  -- once it has been accepted, the bundle issues
  (∀ (e : Eng) (q : Pred) (x : CArgs) (s : State), Issues s e (ctlBundle q 0x49 x) → predOn q (bank s e) = true →
    (bank s e).wait = .enqTaken → GoesOn (.enq e q x) s e) ∧
  -- EVPOST: the flag of the context is set
  (∀ (e : Eng) (q : Pred) (x : CArgs) (s : State), Issues s e (ctlBundle q 0x4A x) → predOn q (bank s e) = true → s.schInit = false →
    ∃ t, exec (.evpost e q x) s = .next t ∧ Advances s t e .none ∧
      (t.ctx (bitsOf (ra (bank s e) x) 13 0)).flags = (s.ctx (bitsOf (ra (bank s e) x) 13 0)).flags ||| (1#32 <<< bitsOf x.imm 4 0)) ∧
  -- TRAP: the task ends with cause SOFT and the software code of the instruction
  (∀ (e : Eng) (q : Pred) (x : CArgs) (s : State), Inv s → Fetches s e (ctlBundle q 0x4C x) → predOn q (bank s e) = true →
    causesOf s e (ctlBundle q 0x4C x) = [(causeSoft, 0, 0)] → (bank s e).copy = 0 → ((eng s e).bank (!(eng s e).active)).cause = none →
    ∃ t, exec (.trap e q x) s = .next t ∧ ((eng t e).bank (eng s e).active).busy = false ∧
      t.reg (oEng e.val + 0x100) = BitVec.ofNat 32 (0xA0000000 + bitsOf x.imm 7 0 * 0x10000 + 10) ∧
      t.reg (oEng e.val + 0x104) = BitVec.ofNat 32 ((bank s e).pc % 4096) ∧
      ((s.ctx (bank s e).tid).st ≠ .free → (t.ctx (bank s e).tid).report = some ⟨1, 10, (bank s e).cyc, true⟩)) ∧
  -- BRK with halts enabled: the bundle issues and the engine halts with CAUSE 2
  (∀ (e : Eng) (q : Pred) (x : CArgs) (s : State), Inv s → Issues s e (ctlBundle q 0x4E x) → predOn q (bank s e) = true →
    s.bit (oEcfg e.val) 27 = true →
    ∃ t, exec (.brk e q x) s = .next t ∧ t.halted e.val = true ∧ t.fld (oEcfg e.val) 30 28 = 2 ∧ (eng t e).resv = none) ∧
  -- predicated off, each of them goes on to the next bundle
  CtlOff .done 0x48 ∧ CtlOff .enq 0x49 ∧ CtlOff .evpost 0x4A ∧ CtlOff .trap 0x4C ∧ CtlOff .brk 0x4E

/-- R100: what MFSR reads; CYC (index 8) counts cycles and is left out. -/
def Stated.special (s : State) (e : Eng) (k : Nat) : Option Word :=
  let b := bank s e
  let left (i : Nat) : Word := BitVec.ofNat 32 ((b.loops[i]?.map LoopLvl.left).getD 0)
  match k with
  | 0 => some b.flags
  | 1 => some (left 0)
  | 2 => some (left 1)
  | 3 => some (BitVec.ofNat 32 b.tid)
  | 4 => some (BitVec.ofNat 32 b.flow)
  | 5 => some (BitVec.ofNat 32 (s.engLid e.val))
  | 6 => some (BitVec.ofNat 32 e.val)
  | 7 => some (BitVec.ofNat 32 (s.engEpoch e.val + if s.engStale e.val then 256 else 0))
  | 9 => some (BitVec.ofNat 32 (timeNs (s.dieNow (engTile e.val))))
  | 10 => some b.tsec
  | 11 => some b.tfrac
  | 12 => some (b.arg.setWidth 32)
  | 13 => some ((b.arg >>> 32).setWidth 32)
  | _ => none

/-- R100, R101: MFSR reads a special register into S[RD], and a read of TNS takes the snapshot of the seconds and the fraction; MTSR writes FLAGS
from S[RA]. -/
def Obligations.SpecialRegistersComplete : Prop :=
  (∀ (e : Eng) (q : Pred) (x : CArgs) (s : State), Issues s e (ctlBundle q 0x50 x) → predOn q (bank s e) = true →
    ∃ t, exec (.mfsr e q x) s = .next t ∧ OnlyBank s t e ∧ Advances s t e .none ∧
      RegsAre (bank t e) (upd (bank s e).getS x.rd.toNat ((bank t e).getS x.rd.toNat)) (bank s e).getV (bank s e).getA (bank s e).getP
        (bank s e).flags ∧
      (∀ v, Stated.special s e x.ra.toNat = some v → (bank t e).getS x.rd.toNat = v)) ∧
  (∀ (e : Eng) (q : Pred) (x : CArgs) (s : State), Issues s e (ctlBundle q 0x51 x) →
    ∃ t, exec (.mtsr e q x) s = .next t ∧ OnlyBank s t e ∧ Advances s t e .none ∧
      RegsAre (bank t e) (bank s e).getS (bank s e).getV (bank s e).getA (bank s e).getP
        (if predOn q (bank s e) then ra (bank s e) x else (bank s e).flags)) ∧
  (∀ (e : Eng) (q : Pred) (x : CArgs) (s : State), Issues s e (ctlBundle q 0x50 x) → predOn q (bank s e) = true → x.ra = 9 →
     ∃ t, exec (.mfsr e q x) s = .next t ∧ (bank t e).tsec = BitVec.ofNat 32 (timeSec (s.dieNow (engTile e.val))) ∧
       (bank t e).tfrac = BitVec.ofNat 32 (timeFrac (s.dieNow (engTile e.val)))) ∧
  CtlOff .mfsr 0x50

/-- R116, R117: the vector instructions on V registers and on predicates, and those on accumulators. -/
def Obligations.VectorInstructionsComplete : Prop :=
  VecCompletes .vnop 0x00 vecVnop ∧ VecCompletes .vadd 0x01 vecVadd ∧ VecCompletes .vsub 0x02 vecVsub ∧
  VecCompletes .vneg 0x03 vecVneg ∧ VecCompletes .vconj 0x04 vecVconj ∧ VecCompletes .vmov 0x05 vecVmov ∧
  VecCompletes .vsel 0x06 vecVsel ∧ VecCompletes .vand 0x07 vecVand ∧ VecCompletes .vor 0x08 vecVor ∧
  VecCompletes .vxor 0x09 vecVxor ∧ VecCompletes .vsplat 0x0A vecVsplat ∧ VecCompletes .vbcast 0x0B vecVbcast ∧
  VecCompletes .vperm 0x0C vecVperm ∧ VecCompletes .vins 0x0D vecVins ∧ VecCompletes .vext 0x0E vecVext ∧
  VecCompletes .vcmpeq 0x10 vecVcmpeq ∧ VecCompletes .vcmpgt 0x11 vecVcmpgt ∧ VecCompletes .vshr 0x12 vecVshr ∧
  VecCompletes .vshl 0x13 vecVshl ∧ VecCompletes .vcmulv 0x20 vecVcmulv ∧ VecCompletes .vcmacv 0x21 vecVcmacv ∧
  VecCompletes .vbfly 0x22 vecVbfly ∧ VecCompletes .vcvt 0x30 vecVcvt ∧ VecCompletes .vunpk 0x31 vecVunpk ∧
  VecCompletes .vpack 0x32 vecVpack ∧ VecCompletes .vsete 0x33 vecVsete ∧ VecCompletes .vtag 0x34 vecVtag ∧
  VecCompletes .vgete 0x35 vecVgete ∧
  VecCompletes .vcmul 0x18 vecVcmul ∧ VecCompletes .vcmac 0x19 vecVcmac ∧ VecCompletes .vcmulb 0x1A vecVcmulb ∧
  VecCompletes .vcmacb 0x1B vecVcmacb ∧ VecCompletes .vcmacj 0x1C vecVcmacj ∧ VecCompletes .vmac 0x1D vecVmac ∧
  VecCompletes .vmul 0x1E vecVmul ∧ VecCompletes .vpwr 0x1F vecVpwr ∧ VecCompletes .azero 0x28 vecAzero ∧
  VecCompletes .arnd 0x29 vecArnd ∧ VecCompletes .aget 0x2A vecAget ∧ VecCompletes .aput 0x2B vecAput ∧ VecCompletes .aadd 0x2C vecAadd

/-- The exact sum of component `i` of two C16 words. -/
def Stated.sum16 (b : EBank) (x : VArgs) (i : Nat) : Int :=
  toSigned 16 (bitsOf (b.getV x.a.toNat) (16 * i + 15) (16 * i)) + toSigned 16 (bitsOf (b.getV x.b.toNat) (16 * i + 15) (16 * i))

/-- R105, R116: moves and bitwise instructions act on all lanes, whatever the format; a C16 sum is exact and saturates at plus or minus 32,767, and
a saturation sets a flag. -/
def Obligations.VectorResults : Prop :=
  VecWritesV .vmov 0x05 (fun _ => True) (fun b x => moved x (b.getV x.a.toNat)) ∧
  VecWritesV .vand 0x07 (fun _ => True) (fun b x => moved x (b.getV x.a.toNat &&& b.getV x.b.toNat)) ∧
  VecWritesV .vor 0x08 (fun _ => True) (fun b x => moved x (b.getV x.a.toNat ||| b.getV x.b.toNat)) ∧
  VecWritesV .vxor 0x09 (fun _ => True) (fun b x => moved x (b.getV x.a.toNat ^^^ b.getV x.b.toNat)) ∧
  VecWritesV .vsplat 0x0A (fun _ => True)
    (fun b x => moved x (b.getS x.a.toNat ++ b.getS x.a.toNat ++ b.getS x.a.toNat ++ b.getS x.a.toNat)) ∧
  (∀ (b : EBank) (x : VArgs) (i : Nat), x.fmt = 0 → i < 8 →
     ∃ l, vecVadd b x = [.v16 x.d.toNat l] ∧ ∃ g, l[i]? = some (ofSigned 16 (max (-32767) (min 32767 (Stated.sum16 b x i))), g) ∧
       (g = 0 ↔ -32767 ≤ Stated.sum16 b x i ∧ Stated.sum16 b x i ≤ 32767))

/-! ## Load-store instructions -/

/-- R118, R122, R135: LSNOP and the local loads. A corrected granule is written back; no data byte changes. -/
def Obligations.LocalLoadsComplete : Prop :=
  (∀ (e : Eng) (q : Pred) (x : LArgs) (s : State), Issues s e (lsBundle q 0x0 x) →
    ∃ t, exec (.lsNop e q x) s = .next t ∧ OnlyBank s t e ∧ Advances s t e .none ∧
      RegsAre (bank t e) (bank s e).getS (bank s e).getV (bank s e).getA (bank s e).getP (bank s e).flags) ∧
  (∀ (e : Eng) (q : Pred) (x : LArgs) (s : State), Issues s e (lsBundle q 0x1 x) → predOn q (bank s e) = true →
    ∃ t, exec (.ldv e q x) s = .next t ∧ OnlyEngine s t e ∧
      RegsAre (bank t e) (afterInc (bank s e) (lsInc (bank s e) x 16))
        (upd (bank s e).getV x.dr.toNat ((eng s e).readWord e.val false (lsEa (bank s e) x 16 / 16)).1)
        (bank s e).getA (bank s e).getP (bank s e).flags ∧
      (∀ a, (dmByte (eng t e) e.val a).1 = (dmByte (eng s e) e.val a).1)) ∧
  (∀ (e : Eng) (q : Pred) (x : LArgs) (s : State), Issues s e (lsBundle q 0x3 x) → predOn q (bank s e) = true →
    ∃ t, exec (.lds e q x) s = .next t ∧ OnlyEngine s t e ∧ (eng t e).resv = (eng s e).resv ∧
      RegsAre (bank t e) (afterInc (bank s e) ((x.dr.toNat, (loadWord (lsEnv s e) (lsEa (bank s e) x 4)).1) :: lsInc (bank s e) x 4))
        (bank s e).getV (bank s e).getA (bank s e).getP (bank s e).flags ∧
      (∀ a, (dmByte (eng t e) e.val a).1 = (dmByte (eng s e) e.val a).1)) ∧
  (∀ (e : Eng) (q : Pred) (x : LArgs) (s : State), Issues s e (lsBundle q 0x5 x) → predOn q (bank s e) = true →
    ∃ t, exec (.ldr e q x) s = .next t ∧ OnlyEngine s t e ∧ (eng t e).resv = some (lsEa (bank s e) x 4 / 16) ∧
      RegsAre (bank t e) (afterInc (bank s e) ((x.dr.toNat, (loadWord (lsEnv s e) (lsEa (bank s e) x 4)).1) :: lsInc (bank s e) x 4))
        (bank s e).getV (bank s e).getA (bank s e).getP (bank s e).flags ∧
      (∀ a, (dmByte (eng t e) e.val a).1 = (dmByte (eng s e) e.val a).1)) ∧
  LsOff .ldv 0x1 ∧ LsOff .lds 0x3 ∧ LsOff .ldr 0x5

/-- R118, R122, R124, R136: the local stores; every byte outside those stored keeps its value, and the stored bytes read back clean. -/
def Obligations.LocalStoresComplete : Prop :=
  (∀ (e : Eng) (q : Pred) (x : LArgs) (s : State), Issues s e (lsBundle q 0x2 x) → predOn q (bank s e) = true →
    ∃ t, exec (.stv e q x) s = .next t ∧ OnlyEngine s t e ∧
      (∀ i, (bank t e).getS i = afterInc (bank s e) (lsInc (bank s e) x 16) i) ∧ (∀ i, (bank t e).getP i = (bank s e).getP i) ∧
      (∀ i, (bank t e).getV i = (bank s e).getV i) ∧
      (∀ i, i < 16 → dmByte (eng t e) e.val (lsEa (bank s e) x 16 + i) = (((bank s e).getV x.dr.toNat >>> (8 * i)).setWidth 8, .clean)) ∧
      (∀ a, a < lsEa (bank s e) x 16 ∨ lsEa (bank s e) x 16 + 16 ≤ a → dmByte (eng t e) e.val a = dmByte (eng s e) e.val a)) ∧
  (∀ (e : Eng) (q : Pred) (x : LArgs) (s : State), Issues s e (lsBundle q 0x4 x) → predOn q (bank s e) = true →
    ∃ t, exec (.sts e q x) s = .next t ∧ OnlyEngine s t e ∧
      (∀ i, (bank t e).getS i = afterInc (bank s e) (lsInc (bank s e) x 4) i) ∧ (∀ i, (bank t e).getP i = (bank s e).getP i) ∧
      (∀ i, (bank t e).getV i = (bank s e).getV i) ∧
      (∀ i, i < 4 → (dmByte (eng t e) e.val (lsEa (bank s e) x 4 + i)).1 = ((bank s e).getS x.dr.toNat >>> (8 * i)).setWidth 8) ∧
      (∀ a, a < lsEa (bank s e) x 4 ∨ lsEa (bank s e) x 4 + 4 ≤ a → (dmByte (eng t e) e.val a).1 = (dmByte (eng s e) e.val a).1)) ∧
  (∀ (e : Eng) (q : Pred) (x : LArgs) (s : State), Issues s e (lsBundle q 0x6 x) → predOn q (bank s e) = true →
    ∃ t, exec (.stc e q x) s = .next t ∧ OnlyEngine s t e ∧ (eng t e).resv = none ∧
      (∀ i, (bank t e).getS i = afterInc (bank s e) (lsInc (bank s e) x 4) i) ∧ (∀ i, (bank t e).getV i = (bank s e).getV i) ∧
      (∀ i, i ≠ x.pd.toNat → (bank t e).getP i = (bank s e).getP i) ∧
      (if (eng s e).resv = some (lsEa (bank s e) x 4 / 16) then
        (bank t e).getP x.pd.toNat = 0xFF ∧
        (∀ i, i < 4 → (dmByte (eng t e) e.val (lsEa (bank s e) x 4 + i)).1 = ((bank s e).getS x.dr.toNat >>> (8 * i)).setWidth 8) ∧
        (∀ a, a < lsEa (bank s e) x 4 ∨ lsEa (bank s e) x 4 + 4 ≤ a → (dmByte (eng t e) e.val a).1 = (dmByte (eng s e) e.val a).1)
      else (bank t e).getP x.pd.toNat = 0 ∧ ∀ a, dmByte (eng t e) e.val a = dmByte (eng s e) e.val a)) ∧
  LsOff .stv 0x2 ∧ LsOff .sts 0x4 ∧ LsOff .stc 0x6

/-- R118, R123, R221: the remote instructions issue their request; the data of a GETW comes with its response. -/
def Obligations.RemoteAccessesIssue : Prop :=
  (∀ (e : Eng) (q : Pred) (x : LArgs) (s : State), Issues s e (lsBundle q 0x7 x) → predOn q (bank s e) = true →
    ∃ t, exec (.getw e q x) s = .next t ∧ Advances s t e .none ∧
      (∀ i, (bank t e).getS i = afterInc (bank s e) (lsIncPair (bank s e) x 16) i) ∧ (∀ i, (bank t e).getV i = (bank s e).getV i) ∧
      Requests s t e (lsRemote (bank s e) x 16) false (.getw e.val (eng s e).active (bank s e).gen x.dr.toNat)) ∧
  (∀ (e : Eng) (q : Pred) (x : LArgs) (s : State), Issues s e (lsBundle q 0x8 x) → predOn q (bank s e) = true →
    ∃ t, exec (.putw e q x) s = .next t ∧ Advances s t e .none ∧
      (∀ i, (bank t e).getS i = afterInc (bank s e) (lsIncPair (bank s e) x 16) i) ∧ (∀ i, (bank t e).getV i = (bank s e).getV i) ∧
      Requests s t e (lsRemote (bank s e) x 16) true (.putw e.val (eng s e).active (bank s e).gen)) ∧
  (∀ (e : Eng) (q : Pred) (x : LArgs) (s : State), Issues s e (lsBundle q 0x9 x) → predOn q (bank s e) = true →
    ∃ t, exec (.getb e q x) s = .next t ∧ Advances s t e .none ∧
      Requests s t e (blockRemote (bank s e) x) false
        (.getb e.val (eng s e).active (bank s e).gen ((bank s e).getS x.dr.toNat).toNat (blockRemote (bank s e) x) (16 * x.off.toNat))) ∧
  (∀ (e : Eng) (q : Pred) (x : LArgs) (s : State), Issues s e (lsBundle q 0xA x) → predOn q (bank s e) = true →
    ∃ t, exec (.putb e q x) s = .next t ∧ Advances s t e .none ∧
      Requests s t e (blockRemote (bank s e) x) true
        (.putb e.val (eng s e).active (bank s e).gen ((bank s e).getS x.dr.toNat).toNat (blockRemote (bank s e) x) (16 * x.off.toNat))) ∧
  (∀ (e : Eng) (q : Pred) (x : LArgs) (s : State), Issues s e (lsBundle q 0xB x) → predOn q (bank s e) = true →
    ∃ t, exec (.rsend e q x) s = .next t ∧ Advances s t e .none ∧
      Requests s t e ((bank s e).getS x.sb.toNat).toNat true (.rsend e.val (eng s e).active (bank s e).gen)) ∧
  LsOff .getw 0x7 ∧ LsOff .putw 0x8 ∧ LsOff .getb 0x9 ∧ LsOff .putb 0xA ∧ LsOff .rsend 0xB

/-- What a trap with cause `c`, at slot `k` of the bundle, leaves (R127, R128): the trap registers record it, the task has left its bank and
is reported as trapped, and the data memory is as it was. -/
def Stated.Trapped (s t : State) (e : Eng) (c k : Nat) : Prop :=
  ((eng t e).bank (eng s e).active).busy = false ∧ (eng t e).dmem = (eng s e).dmem ∧
  t.fld (oEng e.val + 0x100) 31 31 = 1 ∧ t.fld (oEng e.val + 0x100) 29 29 = 1 ∧ t.fld (oEng e.val + 0x100) 4 0 = c ∧
  t.fld (oEng e.val + 0x104) 11 0 = (bank s e).pc % 4096 ∧ t.fld (oEng e.val + 0x104) 17 16 = k ∧
  ((s.ctx (bank s e).tid).st ≠ .free → (t.ctx (bank s e).tid).report = some ⟨1, c, (bank s e).cyc, true⟩)

/-- R127 to R129: a bundle with a cause issues nothing, and the lowest cause is the one the trap records: a load with a bad address or bad data, an
illegal instruction, a branch outside the instruction memory. -/
def Obligations.TrapsEndTheTask : Prop :=
  (∀ l : List Cause, (lowest l = none ↔ l = []) ∧ ∀ c, lowest l = some c → c ∈ l ∧ ∀ d ∈ l, c.1 ≤ d.1) ∧
  (∀ (e : Eng) (q : Pred) (x : LArgs) (s : State) (c a k : Nat), Inv s → Fetches s e (lsBundle q 0x1 x) →
    lowest (causesOf s e (lsBundle q 0x1 x)) = some (c, a, k) → (bank s e).copy = 0 → ((eng s e).bank (!(eng s e).active)).cause = none →
    ∃ t, exec (.ldv e q x) s = .next t ∧ Stated.Trapped s t e c (slotOf (causesOf s e (lsBundle q 0x1 x)) c)) ∧
  (∀ (e : Eng) (q : Pred) (x : CArgs) (s : State), Inv s → Fetches s e (ctlBundle q 0x01 x) → bitsOf x.imm 12 0 ≠ 0 →
    (bank s e).copy = 0 → ((eng s e).bank (!(eng s e).active)).cause = none →
    ∃ t, exec (.add e q x) s = .next t ∧ Stated.Trapped s t e causeIllegal 0) ∧
  (∀ (e : Eng) (q : Pred) (x : CArgs) (s : State), Inv s → Fetches s e (ctlBundle q 0x40 x) → predOn q (bank s e) = true →
    ((bank s e).pc + x.imm.toInt < 0 ∨ 4096 ≤ (bank s e).pc + x.imm.toInt) → (bank s e).copy = 0 →
    ((eng s e).bank (!(eng s e).active)).cause = none →
    ∃ t, exec (.br e q x) s = .next t ∧ Stated.Trapped s t e causeIfetch 3)

/-! ## What happens to engines beside their bundles -/

/-- R96, R125, R138, R143: the end of DONE, the bank swap, the leak of a bucket, the clock's lock. -/
def Obligations.EngineEventsComplete : Prop :=
  (∀ (e : Eng) (s : State), Inv s → s.isOn (oPwrEng e.val) = true → (bank s e).busy = true → s.halted e.val = false → (bank s e).wait = .done →
    (bank s e).cause = none → s.ownOut e.val (eng s e).active (bank s e).gen = [] → (bank s e).copy = 0 → (eng s e).shocc = false →
    (eng s e).swapDue = false → (s.ctx (bank s e).tid).st ≠ .free →
    ∃ t, exec (.doneComplete e) s = .next t ∧ (bank t e).busy = false ∧
      (t.ctx (bank s e).tid).report = some ⟨0, 0, (bank s e).cyc, false⟩) ∧
  (∀ (e : Eng) (s : State), (eng s e).swapDue = true → (bank s e).wait = .none → (bank s e).busy = true → (bank s e).cause = none →
    ∃ t, exec (.bankSwap e) s = .next t ∧ (eng t e).active = !(eng s e).active ∧ (eng t e).shocc = true ∧ (eng t e).swapDue = false ∧
      (eng t e).resv = none ∧ ((s.ctx (bank s e).tid).st = .running → (t.ctx (bank s e).tid).st = .preempted)) ∧
  (∀ (b : Bucket) (s : State), State.regsWf s = true →
    ∃ t, exec (.bucketLeak b) s = .next t ∧ t.fld (bucketReg b) 31 24 = s.fld (bucketReg b) 31 24 - 1 ∧
      t.fld (bucketReg b) 23 0 = s.fld (bucketReg b) 23 0 ∧ ∀ o, o ≠ bucketReg b → t.reg o = s.reg o) ∧
  (∀ (c : Tile) (s : State), State.regsWf s = true →
    ∃ t, exec (.engclkLock c) s = .next t ∧ t.bit (oEngclk c.val) 31 = true ∧ t.fld (oEngclk c.val) 30 0 = s.fld (oEngclk c.val) 30 0 ∧
      ∀ o, o ≠ oEngclk c.val → t.reg o = s.reg o) ∧
  -- R123: an access without a response raises BUSERR with TMO in the task that issued it
  (∀ (e : Eng) (tag : BitVec 8) (s : State) (q : OutReq) (w : Bool) (g : Nat),
    s.net.outst.find? (fun q => q.src == engReq e.val && q.tag == tag.toNat) = some q → q.kind.owner = some (e.val, w, g) →
    (eng s e).active ≠ w → ((eng s e).bank w).busy = true → ((eng s e).bank w).gen = g → ((eng s e).bank w).cause = none →
    ∃ t, exec (.remoteAccessTmo e tag) s = .next t ∧ ((eng t e).bank w).cause = some (causeBuserr, true, q.addr)) ∧
  -- R160: the watchdog holds its cause for the next bundle boundary
  (∀ (e : Eng) (s : State), (bank s e).busy = true → (bank s e).wd = 0 → s.bit (oEng e.val + 0x18) 31 = true → s.halted e.val = false →
    (eng s e).wdogRaised = false → (bank s e).cause = none →
    ∃ t, exec (.engineWdogExpiry e) s = .next t ∧ (bank t e).cause = some (causeWdog, false, 0) ∧ (eng t e).wdogRaised = true)

/-- R149: a fault of an engine that holds no placement isolates it: the engine goes to OFF through STOPPING with CAUSE 4 and EN = 0. -/
def Stated.Isolates (s t : State) (e : Eng) : Prop :=
  t.placeSt e.val = 4 ∧ t.engStale e.val = true ∧ t.pwr (oPwrEng e.val) = 3 ∧ t.fld (oPwrEng e.val) 23 20 = 4 ∧
  t.bit (oPwrEng e.val) 31 = false ∧ (eng t e).stestPassed = false ∧ (eng t e).b0.busy = false ∧ (eng t e).b1.busy = false

/-- R149, R152: the triggers of a takeover, on a SPARE, which nothing replaces. -/
def Obligations.FaultsIsolateASpare : Prop :=
  ∀ (e : Eng) (s : State), Inv s → s.isOn (oPwrEng e.val) = true → s.placeSt e.val = 0 →
    (∃ t, exec (.regfileParityError e) s = .next t ∧ Stated.Isolates s t e) ∧
    ((eng s e).wdogRaised = true → ∃ t, exec (.wdogReportTmo e) s = .next t ∧ Stated.Isolates s t e) ∧
    (s.halted e.val = false → ∃ t, exec (.islandNoAnswer e) s = .next t ∧ Stated.Isolates s t e)

/-- R148, R150, R155, R159: the copy of a takeover, its failure, the record of a bump, admission, the end of a self-test. -/
def Obligations.PlacementEventsComplete : Prop :=
  (∀ (l : LEng) (s : State) (k : Takeover), Inv s → (s.le l.val).takeover = some k → k.copied = false → k.new ≠ k.old →
    s.isOn (oPwrEng k.new) = true → (s.le l.val).waiting ≠ [] →
    ∃ t, exec (.migrationCopyDone l) s = .next t ∧ (t.le l.val).takeover = some { k with copied := true } ∧
      (s.isOn (oPwrEng k.old) = true → t.pwr (oPwrEng k.old) = 3 ∧ t.fld (oPwrEng k.old) 23 20 = 4) ∧
      ∀ g, g < 8192 → ((s.engSt k.old).readGran k.old true g).2 = .clean →
        ((t.engSt k.new).readGran k.new true g).1 = ((s.engSt k.old).readGran k.old true g).1) ∧
  (∀ (l : LEng) (s : State) (k : Takeover), Inv s → (s.le l.val).takeover = some k → k.copied = false → k.new ≠ k.old →
    s.isOn (oPwrEng k.new) = true → (s.le l.val).waiting ≠ [] →
    ∃ t, exec (.copySourceTmo l) s = .next t ∧ (t.le l.val).takeover = some { k with copied := true } ∧
      ∀ g, g < 8192 → ((t.engSt k.new).readGran k.new true g).2 = .poison) ∧
  (∀ (l : LEng) (s : State), Inv s → (s.le l.val).reportDue = true →
    ∃ t, exec (.oldEpochReport l) s = .next t ∧ (t.le l.val).reportDue = false ∧ (t.le l.val).epoch = (s.le l.val).epoch) ∧
  (∀ (l : LEng) (s : State), Inv s → (s.le l.val).takeover = none → (s.le l.val).phys < 1088 → s.placeSt (s.le l.val).phys = 2 →
    s.engLid (s.le l.val).phys = l.val → s.isOn (oPwrEng (s.le l.val).phys) = true → s.inReset (s.le l.val).phys = false →
    s.bit (oEng (s.le l.val).phys + 0x20) 31 = false →
    ∃ t, exec (.engineAdmission l) s = .next t ∧ t.placeSt (s.le l.val).phys = 1 ∧ t.engStale (s.le l.val).phys = false ∧
      t.engEpoch (s.le l.val).phys = (if (s.le l.val).epoch = 255 then 1 else (s.le l.val).epoch + 1) % 256 ∧ (t.le l.val).pstate = 0) ∧
  (∀ (e : Eng) (s : State), Inv s → s.bit (oEng e.val + 0x20) 31 = true → (bank s e).busy = false →
    ∃ t, exec (.stestDone e 0) s = .next t ∧ t.bit (oEng e.val + 0x20) 31 = false ∧ t.bit (oEng e.val + 0x20) 30 = true ∧
      (eng t e).stestPassed = true ∧ (s.placeSt e.val = 3 → t.placeSt e.val = 1))

/-! ## Control registers (ch. 00, 01) -/

/-- The register at `off` answers a write: the hub is ON, the register's tile is ON, the writer is permitted and has a die code, no enqueue or
post address is meant, and the row of the register's table is `r`. -/
def Stated.Answers (s : State) (req : Req) (off : Nat) (l : RegLoc) (r : RegDef) : Prop :=
  s.sys.hubOn = true ∧ reservedDie req.toNat = false ∧ locate off = some l ∧ s.regOff l = false ∧ s.mayWrite req.toNat l = true ∧
  s.badPost req.toNat l = none ∧ (regAt off).map (·.2.1) = some r

/-- It is a register of one word. -/
def Stated.Writable (s : State) (req : Req) (off : Nat) (l : RegLoc) (r : RegDef) : Prop :=
  Stated.Answers s req off l r ∧ r.pair = false ∧ isHighHalf off = false

/-- A read of the register at `off` by a requester that is not the debugger peeking answers, and has no effect of the register's own: mailbox queues,
the random word, the stamps of frames, the calendar and the time of day have statements of their own. -/
def Stated.Readable (s : State) (req : Req) (off : Nat) (l : RegLoc) (r : RegDef) : Prop :=
  s.sys.hubOn = true ∧ reservedDie req.toNat = false ∧ (req.toNat = reqDbg → s.debugReads = true) ∧ locate off = some l ∧ s.regOff l = false ∧
  (regAt off).map (·.2.1) = some r ∧ l.blk ≠ .mbx ∧ (l.blk = .ice → l.off ≠ 0xC) ∧ (l.blk = .tim → l.off < 0x10 ∨ 0x1C < l.off) ∧
  (l.blk = .rtc → l.off < 0x10 ∨ 0x18 < l.off) ∧ (l.blk = .ser → l.off ≠ 0x120)

/-- R20: a write with a field out of range changes nothing but the write-status register of its block, which shows the code; what a rejection
leaves in the write-status register. -/
def Obligations.RejectedWritesOnlyReport : Prop :=
  (∀ (req : Req) (off : COff) (val : Word) (s : State) (l : RegLoc) (r : RegDef) (c : Nat),
     Stated.Writable s req off.toNat l r → r.check val = some c →
     exec (.registerWrite req off val) s = .next (s.reject l.base l.off c)) ∧
  (∀ (s : State) (base off code : Nat), State.regsWf s = true → code < 256 →
     (∀ o, o ≠ base + 4 → (s.reject base off code).reg o = s.reg o) ∧
     { s.reject base off code with regs := s.regs } = s ∧
     (s.bit (base + 4) 31 = false → (s.reject base off code).bit (base + 4) 31 = true ∧ (s.reject base off code).fld (base + 4) 27 20 = code ∧
       (s.reject base off code).fld (base + 4) 19 0 = off / 4 % 2 ^ 20 ∧ (s.reject base off code).bit (base + 4) 30 = s.bit (base + 4) 30) ∧
     (s.bit (base + 4) 31 = true → (s.reject base off code).bit (base + 4) 30 = true ∧ (s.reject base off code).fld (base + 4) 27 20 = s.fld (base + 4) 27 20))

/-- R6, R7, R20, R21, R418: the accesses to registers that have no row of their own. A write whose fields are in range is what the register's
own rule makes of it: accepted, rejected with a code, or answered with an error; a register without a rule of its own takes its writable bits
from the value. A read of the low half of a pair answers the live word and keeps the high half for its reader; a read of the high half answers the
half kept, or the live one; a write of the low half is held; a write of the high half commits both halves, and without a held half it is rejected
with code 0x05. -/
def Obligations.RegisterAccessesComplete : Prop :=
  (∀ (req : Req) (off : COff) (val : Word) (s : State) (l : RegLoc) (r : RegDef), Stated.Writable s req off.toNat l r → r.check val = none →
    (∀ t, s.setRegister req.toNat 0 l val = .ok t → exec (.registerWrite req off val) s = .next t) ∧
    (∀ c, s.setRegister req.toNat 0 l val = .rej c → exec (.registerWrite req off val) s = .next (s.reject l.base l.off c)) ∧
    (∀ t, s.setRegister req.toNat 0 l val = .err t → exec (.registerWrite req off val) s = .next (t.emit (.regErr req.toNat off.toNat)))) ∧
  (∀ (req : Req) (off : COff) (val : Word) (s : State) (l : RegLoc) (r : RegDef), Stated.Writable s req off.toNat l r → r.check val = none →
    State.regsWf s = true → s.setRegister req.toNat 0 l val = .ok (s.plainWrite off.toNat val) →
    ∃ t, exec (.registerWrite req off val) s = .next t ∧ t.reg off.toNat = r.merge val (s.reg off.toNat) ∧
      (∀ o, o ≠ off.toNat → t.reg o = s.reg o) ∧ { t with regs := s.regs } = s) ∧
  (∀ (req : Req) (i : Fin 3) (val : Word) (s : State), s.sys.hubOn = true → reservedDie req.toNat = false → State.regsWf s = true →
     ∃ t, exec (.registerWrite req (BitVec.ofNat _ (0x40 + 4 * i.val)) val) s = .next t ∧ t.reg (0x40 + 4 * i.val) = val ∧
       (∀ o, o ≠ 0x40 + 4 * i.val → t.reg o = s.reg o) ∧ { t with regs := s.regs } = s) ∧
  (∀ (req : Req) (off : COff) (s : State) (l : RegLoc) (r : RegDef), Stated.Readable s req off.toNat l r → r.pair = true →
    SMap.wf (fun _ => ({} : Pairs)) s.pairs = true →
    ∃ t, exec (.pairLowRead req off) s = .next t ∧ t.out = s.out ++ [.regRead req.toNat off.toNat (s.showReg req.toNat l)] ∧
      { t with pairs := s.pairs, out := s.out } = s ∧
      (t.pairsOf l.base).snaps.find? (fun x => x.req == req.toNat && x.off == l.off + 4) =
        some ⟨req.toNat, l.off + 4, s.showReg req.toNat { l with off := l.off + 4 }⟩) ∧
  (∀ (req : Req) (off : COff) (s : State) (l : RegLoc) (r : RegDef), Stated.Readable s req off.toNat l r → r.pair = false → isHighHalf off.toNat = true →
    ∃ t, exec (.pairHighRead req off) s = .next t ∧ { t with pairs := s.pairs, out := s.out } = s ∧
      t.out = s.out ++ [.regRead req.toNat off.toNat
        (match (s.pairsOf l.base).snaps.find? (fun x => x.req == req.toNat && x.off == l.off) with
         | some x => x.val | none => s.showReg req.toNat l)]) ∧
  (∀ (req : Req) (off : COff) (lo : Word) (s : State) (l : RegLoc) (r : RegDef), Stated.Answers s req off.toNat l r → r.pair = true →
    r.writable = true → SMap.wf (fun _ => ({} : Pairs)) s.pairs = true →
    ∃ t, exec (.pairLowWrite req off lo) s = .next t ∧ { t with pairs := s.pairs } = s ∧
      (t.pairsOf l.base).held.filter (fun x => x.req == req.toNat) = [⟨req.toNat, l.off, lo⟩]) ∧
  (∀ (req : Req) (off : COff) (hi : Word) (s : State) (l : RegLoc) (r : RegDef), Stated.Answers s req off.toNat l r → r.pair = false →
    isHighHalf off.toNat = true → r.writable = true →
    ((s.pairsOf l.base).held.find? (fun x => x.req == req.toNat && x.off == l.off - 4) = none →
      exec (.pairHighWrite req off hi) s = .next (s.reject l.base l.off 5)) ∧
    ∀ (x : Snap) (k : RegLoc) (rl : RegDef) (i : Nat) (t : State),
      (s.pairsOf l.base).held.find? (fun x => x.req == req.toNat && x.off == l.off - 4) = some x → regAt (l.base + l.off - 4) = some (k, rl, i) →
      rl.check x.val = none → r.check hi = none →
      (s.setPairs l.base { s.pairsOf l.base with held := (s.pairsOf l.base).held.filter (fun y => !(y.req == req.toNat)) }).commitPair l (l.off - 4)
        (rl.merge x.val (s.reg (l.base + l.off - 4))) (r.merge hi (s.reg (l.base + l.off))) = .ok t →
      exec (.pairHighWrite req off hi) s = .next t) ∧
  -- by the pair SYS_STRBASE of a channel that is off
  (∀ (req : Req) (c : Strm) (s : State), s.sys.hubOn = true → reservedDie req.toNat = false → req.toNat ≠ reqDbg →
    ∃ t, exec (.pairLowRead req (BitVec.ofNat _ (oStr c.val + 8))) s = .next t ∧
      t.out = s.out ++ [.regRead req.toNat (oStr c.val + 8) (s.reg (oStr c.val + 8))] ∧ t.regs = s.regs ∧
      ∃ u, exec (.pairHighRead req (BitVec.ofNat _ (oStr c.val + 12))) t = .next u ∧
        u.out = t.out ++ [.regRead req.toNat (oStr c.val + 12) (s.reg (oStr c.val + 12))] ∧ u.regs = s.regs) ∧
  (∀ (req : Req) (c : Strm) (lo hi : Word) (s : State), s.sys.hubOn = true → reservedDie req.toNat = false → State.regsWf s = true →
    s.bit (oStr c.val) 31 = false → SMap.wf (fun _ => ({} : Pairs)) s.pairs = true → bitsOf lo 3 0 = 0 → hi.toNat < 0x10000 →
    ∃ t, exec (.pairLowWrite req (BitVec.ofNat _ (oStr c.val + 8)) lo) s = .next t ∧ t.regs = s.regs ∧
      ∃ u, exec (.pairHighWrite req (BitVec.ofNat _ (oStr c.val + 12)) hi) t = .next u ∧
        u.reg (oStr c.val + 8) = lo ∧ u.reg (oStr c.val + 12) = hi)

/-! ## Power, resets, deep night (ch. 02, 18) -/

/-- R36: EN = 1 of a unit in OFF that may start takes it to STARTING; UNIT_START_DONE takes a lane to ON; EN = 0 of a lane that is ON takes it to
STOPPING, and UNIT_STOP_DONE to OFF, where t_off_min runs until its expiry. -/
def Obligations.UnitPowerCyclesComplete : Prop :=
  (∀ (req : Req) (l : Lane) (s : State), Inv s → s.sys.hubOn = true → reservedDie req.toNat = false → s.mayStart (.lane l) = true → s.nightState = 0 →
    ∃ t, exec (.unitPwrWrite req (.lane l) 0x80000000) s = .next t ∧ t.pwr (oPwrLane l.val) = 1 ∧ t.bit (oPwrLane l.val) 31 = true) ∧
  (∀ (l : Lane) (s : State), Inv s → s.pwr (oPwrLane l.val) = 1 → s.bit (oPwrLane l.val) 31 = true → s.parentOn (.lane l) = true →
    s.nightState = 0 → SMap.find s.sys.due (oPwrLane l.val) = none →
    ∃ t, exec (.unitStartDone (.lane l)) s = .next t ∧ t.pwr (oPwrLane l.val) = 2) ∧
  (∀ (req : Req) (l : Lane) (s : State), Inv s → s.sys.hubOn = true → reservedDie req.toNat = false → s.pwr (oPwrLane l.val) = 2 →
    ∃ t, exec (.unitPwrWrite req (.lane l) 0) s = .next t ∧ t.pwr (oPwrLane l.val) = 3 ∧ t.bit (oPwrLane l.val) 31 = false ∧
      t.fld (oPwrLane l.val) 23 20 = 0) ∧
  (∀ (l : Lane) (s : State), Inv s → s.pwr (oPwrLane l.val) = 3 →
    ∃ t, exec (.unitStopDone (.lane l)) s = .next t ∧ t.pwr (oPwrLane l.val) = 0 ∧ t.offMinRuns (oPwrLane l.val) = true) ∧
  (∀ (u : Sys2Proof.PUnit) (s : State), s.offMinRuns (pwrOff u) = true → s.pwrEn u = false →
    ∃ t, exec (.unitOffMinExpiry u) s = .next t ∧ t.offMinRuns (pwrOff u) = false)

/-- R29 to R31: the pins and rails of the start, the straps, the hub, and the host link. -/
def Obligations.StartUpComplete : Prop :=
  (∀ s : State, ∃ t, exec .porNRelease s = .next t ∧ t.sys = { s.sys with porN := true } ∧ { t with sys := s.sys } = s) ∧
  (∀ s : State, ∃ t, exec (.railGood .g1) s = .next t ∧ t.sys = { s.sys with g1 := true, low := s.sys.low.filter (fun m => borGroup m ≠ .g1) } ∧ { t with sys := s.sys } = s) ∧
  (∀ s : State, ∃ t, exec (.railGood .g2) s = .next t ∧ t.sys = { s.sys with g2 := true, low := s.sys.low.filter (fun m => borGroup m ≠ .g2) } ∧ { t with sys := s.sys } = s) ∧
  (∀ s : State, ∃ t, exec (.railGood .g3) s = .next t ∧ t.sys = { s.sys with g3 := true, low := s.sys.low.filter (fun m => borGroup m ≠ .g3) } ∧ { t with sys := s.sys } = s) ∧
  (∀ s : State, ∃ t, exec (.railGood .g4) s = .next t ∧ t.sys = { s.sys with g4 := true, low := s.sys.low.filter (fun m => borGroup m ≠ .g4) } ∧ { t with sys := s.sys } = s) ∧
  (∀ s : State, s.sys.porActive = true → s.sys.porN = true → s.sys.g1 = true → s.sys.g2 = true → s.sys.g3 = true → s.sys.g4 = true →
    s.sys.low = [] → ∃ t, exec .porInternalRelease s = .next t ∧ t.sys.porActive = false) ∧
  (∀ (mode : BitVec 3) (d : Bool) (s : State), State.regsWf s = true → s.sys.porActive = false → s.sys.strapped = false →
    ∃ t, exec (.strapSample mode d) s = .next t ∧ t.fld oStrap 2 0 = mode.toNat ∧ t.bit oStrap 3 = d ∧
      t.bit oStrap 31 = decide (2 < mode.toNat) ∧ t.sys.strapped = true ∧ (2 < mode.toNat → t.cfg.err = true)) ∧
  (∀ s : State, s.sys.porActive = false → s.sys.strapped = true → s.sys.hubOn = false →
    ∃ t, exec .hubOn s = .next t ∧ t.sys.hubOn = true) ∧
  (∀ s : State, s.sys.hubOn = true → exec .flRstNRelease s = .next { s with sys := { s.sys with flRstN := true } }) ∧
  (∀ s : State, exec .perstNRelease s = .next { s with sys := { s.sys with perstN := true } }) ∧
  (∀ s : State, s.sys.perstN = true → s.sys.hubOn = true → exec .pcieLinkUp s = .next { s with sys := { s.sys with linkUp := true } }) ∧
  (∀ s : State, s.sys.linkUp = true → ∃ t, exec .pcieLinkDown s = .next t ∧ t.sys.linkUp = false ∧ t.sys.l1 = false ∧ t.regs = s.regs) ∧
  (∀ s : State, s.sys.linkUp = true → exec .l1Entry s = .next { s with sys := { s.sys with l1 := true } }) ∧
  (∀ s : State, exec .l1Exit s = .next { s with sys := { s.sys with l1 := false } }) ∧
  (∀ (tag : BitVec 8) (s : State), s.sys.linkUp = true → s.sys.epReady = true →
    exec (.pcieConfigRequest tag) s = .next { s with out := s.out ++ [.hostCfgCpl tag.toNat false] })

/-- What the internal power-on reset leaves (R29, R39): everything at reset but the fuses, the calendar, the flash and the number of the next
free value. -/
def Stated.AfterPor (s t : State) : Prop :=
  t.sys.porActive = true ∧ t.sys.hubOn = false ∧ t.sys.strapped = false ∧ t.fuses = s.fuses ∧ t.pending = s.pending ∧ t.sch = {} ∧ t.mbx = [] ∧ t.ser = {} ∧
  t.leng = [] ∧ t.lnk = [] ∧ t.rec_ = {} ∧ t.dbg = {}

/-- R29, R39, R43, R260, R254: the ways into the power-on reset. -/
def Obligations.PowerOnResetsComplete : Prop :=
  (∀ s : State, s.sys.porN = true → ∃ t, exec .porNAssert s = .next t ∧ Stated.AfterPor s t ∧ t.sys.porN = false ∧ t.rtc.key = s.rtc.key) ∧
  (∀ s : State, State.regsWf s = true → ∃ t, exec (.borTrip .g1) s = .next t ∧ Stated.AfterPor s t ∧ t.reg oRstCause = 3) ∧
  (∀ s : State, State.regsWf s = true → ∃ t, exec (.borTrip .g2core) s = .next t ∧ Stated.AfterPor s t ∧ t.reg oRstCause = 3) ∧
  (∀ s : State, State.regsWf s = true → ∃ t, exec .powerLoss s = .next t ∧ t.sys.hubOn = false ∧ t.sys.g1 = false ∧ t.rtc = {} ∧ t.fuses = s.fuses ∧
    t.bit oRtcStat 31 = false ∧ t.bit oRtcStat 30 = true) ∧
  (∀ s : State, State.regsWf s = true → ∃ t, exec .crystalStart s = .next t ∧ t.bit oRtcStat 29 = true)

/-- R39, R40, R63, R373: the other resets. -/
def Obligations.ResetsComplete : Prop :=
  (∀ (req : Req) (s : State), Inv s → s.sys.hubOn = true → reservedDie req.toNat = false → ∃ t, exec (.warmReset req 0xA5000002) s = .next t ∧ t.bit oRstCause 2 = true ∧
    t.nightState = 0 ∧ t.sys.hubOn = true ∧ t.fuses = s.fuses ∧ ∀ x, (t.ctx x).st = .free) ∧
  (∀ (req : Req) (s : State), Inv s → s.sys.hubOn = true → reservedDie req.toNat = false → ∃ t, exec (.softReset req 0xA5000001) s = .next t ∧ t.bit oRstCause 4 = true ∧
    t.fuses = s.fuses ∧ (∀ x, (t.ctx x).st = .free) ∧ ∀ f, t.flow f = {}) ∧
  (∀ (req : Req) (c : Tile) (s : State), Inv s → s.sys.hubOn = true → reservedDie req.toNat = false → s.rstunitCode (BitVec.ofNat 32 (0x5A000000 + c.val)) = none →
    ∃ t, exec (.tileReset req (BitVec.ofNat 32 (0x5A000000 + c.val))) s = .next t ∧ t.bit oRstStat 31 = true ∧ t.fld oRstStat 18 16 = 0 ∧
      t.fld oRstStat 10 0 = c.val) ∧
  (∀ (req : Req) (e : Eng) (s : State), Inv s → s.sys.hubOn = true → reservedDie req.toNat = false → s.bit oRstStat 31 = false → s.isOn (oPwrEng e.val) = true →
    ∃ t, exec (.engineReset req (BitVec.ofNat 32 (0x5A010000 + e.val))) s = .next t ∧ t.bit oRstStat 31 = true ∧ t.fld oRstStat 18 16 = 1 ∧
      t.fld oRstStat 10 0 = e.val ∧ (eng t e).b0.busy = false ∧ (eng t e).b1.busy = false ∧ t.engStale e.val = true) ∧
  (∀ (req : Req) (p : Pld) (s : State), Inv s → s.sys.hubOn = true → reservedDie req.toNat = false → s.rstunitCode (BitVec.ofNat 32 (0x5A020000 + p.val)) = none →
    ∃ t, exec (.polderReset req (BitVec.ofNat 32 (0x5A020000 + p.val))) s = .next t ∧ t.bit oRstStat 31 = true ∧ t.fld oRstStat 18 16 = 2 ∧
      t.fld oRstStat 10 0 = p.val) ∧
  (∀ (req : Req) (m : LMod) (s : State), Inv s → s.sys.hubOn = true → reservedDie req.toNat = false → s.bit oRstStat 31 = false →
    ∃ t, exec (.linkModuleReset req (BitVec.ofNat 32 (0x5A030000 + m.val))) s = .next t ∧ t.bit oRstStat 31 = true ∧ t.fld oRstStat 18 16 = 3 ∧
      t.fld oRstStat 10 0 = m.val) ∧
  (∀ s : State, State.regsWf s = true → ∃ t, exec .unitResetDone s = .next t ∧ t.bit oRstStat 31 = false ∧ ∀ o, o ≠ oRstStat → t.reg o = s.reg o) ∧
  (∀ s : State, Inv s → s.sys.perstN = true → ∃ t, exec .perstNFall s = .next t ∧ t.sys.perstN = false ∧ t.sys.linkUp = false ∧ t.bit oRstCause 5 = true) ∧
  (∀ (f : Fin 17) (s : State), Inv s → s.sys.linkUp = true → ∃ t, exec (.functionLevelReset f) s = .next t ∧
    ∀ p ∈ s.mbxOf (if f.val = 0 then Party.isHost else Party.isVf (f.val - 1)), (t.mbxQ p.1 p.2) = [])

/-- R41 to R44: deep night, its sources of wake, and brown-out. -/
def Obligations.NightAndBrownOutComplete : Prop :=
  (∀ (req : Req) (s : State), Inv s → s.sys.hubOn = true → reservedDie req.toNat = false → s.nightState = 0 → [1, 2, 4].contains s.cfgState = false →
    ∃ t, exec (.nightEnter req 1) s = .next t ∧ t.nightState = 1 ∧ t.sys.nightStops = false ∧
      ∀ u ∈ nightOrder.flatten, s.pwrEn u = true → pwrOff u ∈ t.sys.nightUnits) ∧
  (∀ s : State, Inv s → s.nightState = 1 → s.sys.nightStops = false →
    ∃ t, exec .nightDrainExpiry s = .next t ∧ t.sys.nightStops = true ∧ ∀ k : Chan, t.pwr (oPwrMem k.val) ≠ 2) ∧
  (∀ s : State, Inv s → s.nightState = 1 → s.sys.nightStops = true → s.sys.nightLatch = none → (∀ c : Tile, s.pwr (oPwrTile c.val) = 0) →
    ∃ t, exec .nightEntryDone s = .next t ∧ t.nightState = 2) ∧
  (∀ (req : Req) (s : State), Inv s → s.sys.hubOn = true → reservedDie req.toNat = false → s.nightState = 2 →
    ∃ t, exec (.nightExit req 0) s = .next t ∧ t.nightState = 3 ∧ t.fld oPstate 15 12 = 1) ∧
  (∀ s : State, Inv s → s.nightState = 2 → s.bit 0x398 29 = true →
    ∃ t, exec (.wakeSource .pin) s = .next t ∧ t.nightState = 3 ∧ t.fld oPstate 15 12 = 3) ∧
  (∀ s : State, Inv s → s.nightState = 3 → s.sys.nightUnits = [] → s.sys.nightLatch = none →
    ∃ t, exec .nightExitDone s = .next t ∧ t.nightState = 0) ∧
  (∀ (m : BorMon) (s : State), State.regsWf s = true → s.sys.warn.contains m = false →
    ∃ t, exec (.borWarning m) s = .next t ∧ t.nvInh = true ∧ t.bit 0x39C (warnBit m) = true ∧ t.sys.warn = s.sys.warn ++ [m]) ∧
  (∀ (m : BorMon) (s : State), State.regsWf s = true →
    ∃ t, exec (.borWarnClear m) s = .next t ∧ t.sys.warn = s.sys.warn.filter (· ≠ m) ∧ t.nvInh = !(s.sys.warn.filter (· ≠ m)).isEmpty) ∧
  (∀ (c : Tile) (s : State), Inv s → s.pwr (oPwrTile c.val) = 2 →
    ∃ t, exec (.borTrip (.tile c)) s = .next t ∧ t.pwr (oPwrTile c.val) = 3 ∧ t.fld (oPwrTile c.val) 23 20 = 2 ∧ t.bit 0x39C (8 + c.val) = true ∧
      oPwrTile c.val ∈ t.sys.forced)

/-! ## Configuration and polders (ch. 03, 04) -/

/-- The section of header `h` is being taken and has not ended. -/
abbrev Stated.Taking (s : State) (h : List Byte) : Prop :=
  s.cfg.hdr = some h ∧ s.cfgState = 1 ∧ s.cfg.ending = false ∧ s.cfg.ended = false

/-- Nothing is forwarded or discarded, and no window data waits. -/
abbrev Stated.Quiet (s : State) : Prop := s.cfg.drop = 0 ∧ s.cfg.chain.fwdLeft = 0 ∧ s.cfg.wait = []

/-- Nothing waits in the intake buffer either. -/
abbrev Stated.IntakeEmpty (s : State) : Prop := s.cfg.buf = [] ∧ s.cfg.ending = false ∧ Stated.Quiet s

/-- R47, R59, R60, R431: intake appends; a header is taken or fails with the code of its first failed check; a block that passes appends its
words to the command stream. -/
def Obligations.IntakeCompletes : Prop :=
  (∀ (h : List Byte) (d : List (BitVec 4 × Word)) (s : State), s.sys.hubOn = true → State.regsWf s = true → Stated.Taking s h →
    Stated.Quiet s → s.cfg.src = 0 → s.bootMode ≠ 2 → s.bit 0x390 31 = false → (∀ x ∈ d, x.1 = 0xF) →
    s.cfg.buf.length + 4 * d.length ≤ 262144 →
    ∃ t, exec (.intakeData d) s = .next t ∧ t.cfg = { s.cfg with buf := s.cfg.buf ++ d.flatMap (fun x => bytesLE 4 x.2.toNat) } ∧ t.pld = s.pld) ∧
  (∀ s : State, State.regsWf s = true → s.cfg.hdr = none → Stated.Quiet s → s.cfg.ending = false → s.cfgState = 1 →
    s.cfg.done = false → 512 ≤ s.cfg.buf.length →
    ∃ t, exec .sectionHeader s = .next t ∧
      (s.hdrCode (s.cfg.buf.take 512) = none → hdrPartial (s.cfg.buf.take 512) = false →
        t.cfg.hdr = some (s.cfg.buf.take 512) ∧ t.cfg.buf = s.cfg.buf.drop 512 ∧ t.cfg.blk = 0 ∧ t.cfg.words = [] ∧ t.regs = s.regs) ∧
      (∀ c, s.hdrCode (s.cfg.buf.take 512) = some c → c < 4096 →
        t.cfgState = 4 ∧ t.fld oCfgStat 23 12 = c ∧ t.cfg.err = true ∧ t.cfg.hdr = none ∧ t.cfg.buf = [])) ∧
  (∀ (h d : List Byte) (s : State), Stated.Taking s h → Stated.Quiet s → hdrPartial h = false → s.cfg.blk < hdrBlocks h → 65536 ≤ s.cfg.buf.length →
    openBlock s.cfg.key ((h.drop 0x020).take 8) s.cfg.digest s.cfg.blk (s.cfg.buf.take 65536) = .inl d →
    ∃ t, exec .imageBlock s = .next t ∧ t.cfg.blk = s.cfg.blk + 1 ∧ t.cfg.words = s.cfg.words ++ wordsLE 16368 d ∧
      t.cfg.buf = s.cfg.buf.drop 65536 ∧ t.cfg.digest = ofBytesBE ((d.drop 65472).take 48) ∧ t.cfg.frames = s.cfg.frames)

/-- R48, R50, R52, R53: the image commands, each taken from the head of the command stream with its payload: FAR is set, frames go to the
writers of their tiles, a polder is declared, the image ends. -/
def Obligations.ImageCommandsComplete : Prop :=
  (∀ (h : List Byte) (l : List Word) (s : State), State.regsWf s = true → Stated.Taking s h → Stated.Quiet s → s.cfg.words = 0x00000000 :: l →
    exec .cmdNop s = .next { s with cfg := { s.cfg with words := l, pos := s.cfg.pos + 1 } }) ∧
  (∀ (h : List Byte) (a : Word) (l : List Word) (s : State), State.regsWf s = true → Stated.Taking s h → Stated.Quiet s → s.cfg.words = 0x10000000 :: a :: l →
    exec .far s = .next { s with cfg := { s.cfg with words := l, pos := s.cfg.pos + 2, far := some a.toNat } }) ∧
  (∀ (h : List Byte) (a : Nat) (p l : List Word) (s : State), Stated.Taking s h → Stated.Quiet s → s.cfg.words = 0x20000001 :: (p ++ l) → p.length = 97 →
    s.cfg.far = some a → s.addrCode h a = none → (p.getD 96 0).toNat = frameCrc (frameOf p).data →
    ∃ t, exec .wfr s = .next t ∧ t.cfg.words = l ∧ t.cfg.far = some (faAdvance a) ∧ t.cfg.written = a :: s.cfg.written ∧
      SMap.get (fun _ => []) t.cfg.writers (faTile a) = SMap.get (fun _ => []) s.cfg.writers (faTile a) ++ [(a, frameOf p)]) ∧
  (∀ (h : List Byte) (a : Nat) (c : Word) (l : List Word) (s : State), Stated.Taking s h →
    s.cfg.words = 0x30000001 :: 0 :: 0 :: 0 :: c :: l → s.cfg.far = some a → s.addrCode h a = none → c.toNat = frameCrc 0 →
    ∃ t, exec .sfr s = .next t ∧ t.cfg.words = l ∧ t.cfg.far = some (faAdvance a) ∧ t.cfg.written = a :: s.cfg.written ∧
      SMap.get (fun _ => []) t.cfg.writers (faTile a) = SMap.get (fun _ => []) s.cfg.writers (faTile a) ++ [(a, ⟨0, c.setWidth 16⟩)]) ∧
  (∀ (h : List Byte) (a : Nat) (l : List Word) (s : State), Stated.Taking s h → Stated.Quiet s → s.cfg.words = 0x40000001 :: l → s.cfg.far = some a →
    s.addrCode h a = none →
    ∃ t, exec .zfr s = .next t ∧ t.cfg.words = l ∧ t.cfg.far = some (faAdvance a) ∧ t.cfg.written = a :: s.cfg.written ∧
      SMap.get (fun _ => []) t.cfg.writers (faTile a) = SMap.get (fun _ => []) s.cfg.writers (faTile a) ++ [(a, ⟨0, 0xEC83⟩)]) ∧
  (∀ (h : List Byte) (p : List Word) (a b : Word) (l : List Word) (s : State), Stated.Taking s h → Stated.Quiet s → s.cfg.words = 0x50000002 :: (p ++ a :: b :: l) →
    p.length = 97 → a ≠ b → s.addrCode h a.toNat = none → s.addrCode h b.toNat = none → (p.getD 96 0).toNat = frameCrc (frameOf p).data →
    ∃ t, exec .mfw s = .next t ∧ t.cfg.words = l ∧ t.cfg.far = s.cfg.far ∧ t.cfg.written = b.toNat :: a.toNat :: s.cfg.written ∧
      (a.toNat, frameOf p) ∈ SMap.get (fun _ => []) t.cfg.writers (faTile a.toNat) ∧
      (b.toNat, frameOf p) ∈ SMap.get (fun _ => []) t.cfg.writers (faTile b.toNat)) ∧
  (∀ (h : List Byte) (p : Pld) (d l : List Word) (s : State), State.regsWf s = true → Stated.Taking s h → Stated.Quiet s → hdrPartial h = false → s.cfg.anyFrame = false →
    s.cfg.words = BitVec.ofNat 32 (0x60000000 + p.val) :: (d ++ l) → d.length = 4 → declOk d = true → s.cfg.decls.any (declClash p.val d) = false →
    ∃ t, exec .pdecl s = .next t ∧ t.cfg.words = l ∧ t.cfg.decls = s.cfg.decls ++ [(p.val, d)] ∧ t.regs = s.regs) ∧
  (∀ (h : List Byte) (l : List Word) (s : State), State.regsWf s = true → Stated.Taking s h → Stated.Quiet s →
    hdrPartial h = false → s.cfg.words = 0x70000000 :: l →
    -- while frames or blocks are missing the load goes on; else the key is erased and STATE reads RELEASING, or what follows is no NOP
    ((s.cfg.writers ≠ [] ∨ s.cfg.blk < hdrBlocks h →
      exec .imgEnd s = .next { s with cfg := { s.cfg with words := l, pos := s.cfg.pos + 1, ended := true } }) ∧
    (s.cfg.writers = [] → hdrBlocks h ≤ s.cfg.blk → (∀ w ∈ l, w = 0) →
      ∃ t, exec .imgEnd s = .next t ∧ t.cfgState = 2 ∧ t.cfg = { s.cfg with words := l, pos := s.cfg.pos + 1, ended := true, key := none }) ∧
    (s.cfg.writers = [] → hdrBlocks h ≤ s.cfg.blk → (∃ w ∈ l, w ≠ 0) →
      ∃ t, exec .imgEnd s = .next t ∧ t.cfgState = 4 ∧ t.fld oCfgStat 23 12 = 0x026 ∧ t.fld oCfgStat 25 24 = 2 ∧ t.cfg.err = true)))

/-- R54, R61, R70, R72, R73: the end of a frame write, of starvation, of a full load, of a wipe; CLEAR and ABORT. -/
def Obligations.ConfigurationEventsComplete : Prop :=
  (∀ (c : Tile) (a : Nat) (f : CFrame) (l : List (Nat × CFrame)) (s : State), SMap.get (fun _ => []) s.cfg.writers c.val = (a, f) :: l →
    s.pwr (oPwrTile c.val) = 2 → f ≠ zeroFrame → l ≠ [] → s.cfg.hdr.isSome = true → s.cfgState = 1 → s.cfg.ending = false → Stated.Quiet s →
    ∃ t, exec (.frameWritten c) s = .next t ∧ t.frame a = f ∧ (∀ b, b ≠ a → t.frame b = s.frame b) ∧
      SMap.get (fun _ => []) t.cfg.writers c.val = l) ∧
  (∀ s : State, State.regsWf s = true → s.cfgStarved = true → s.cfg.hdr = none → s.cfg.done = false → Stated.Quiet s →
    ∃ t, exec .intakeTmo s = .next t ∧ t.cfgState = 4 ∧ t.fld oCfgStat 23 12 = 0x029 ∧ t.fld oCfgStat 25 24 = 2 ∧ t.cfg.err = true ∧ t.cfg.buf = []) ∧
  (∀ (h : List Byte) (s : State), State.regsWf s = true → s.cfg.hdr = some h → hdrPartial h = false → s.cfgState = 2 → s.cfg.decls = [] →
    Stated.IntakeEmpty s →
    ∃ t, exec .cfgRelease s = .next t ∧ t.cfgState = 3 ∧ t.cfg.done = true ∧ t.cfg.hdr = none ∧ t.cfg.frames = s.cfg.frames ∧
      ∀ c : Tile, s.isOn (oPwrTile c.val) = true → (t.fab c.val).released = true ∧ (t.fab c.val).image = (s.fab c.val).image + 1) ∧
  (∀ s : State, State.regsWf s = true → s.cfgState = 4 → s.cfgLockDue = false → Stated.IntakeEmpty s →
    ∃ t, exec .wipeDone s = .next t ∧ t.cfgState = 5 ∧ t.cfg.frames = [] ∧ t.cfg.bramLost = []) ∧
  (∀ (req : Req) (s : State), State.regsWf s = true → s.sys.hubOn = true → reservedDie req.toNat = false → s.cfgState = 5 →
    ∃ t, exec (.clear req 1) s = .next t ∧ t.cfgState = 0 ∧ t.cfg = { s.cfg with err := false }) ∧
  (∀ (req : Req) (s : State), State.regsWf s = true → s.sys.hubOn = true → reservedDie req.toNat = false → s.cfgState = 1 → s.cfg.ending = false → s.cfg.hdr = none →
    s.cfg.done = false → Stated.Quiet s →
    ∃ t, exec (.abort req 2) s = .next t ∧ t.cfgState = 4 ∧ t.fld oCfgStat 23 12 = 0x02E ∧ t.cfg.err = true)

/-- R65 to R67: the chain port. -/
def Obligations.ChainEventsComplete : Prop :=
  (∀ (h : List Byte) (p : ChainPkt) (s : State), State.regsWf s = true → Stated.Taking s h → Stated.Quiet s → s.cfg.src = 1 → s.bootMode = 2 →
    s.bit 0x390 31 = false → p.crc = chainCrc p.seq p.sos p.eos p.data → p.seq.toNat = s.cfg.chain.rxSeq → p.data.length ≤ 4096 →
    s.cfg.buf.length + p.data.length ≤ 262144 →
    ∃ t, exec (.chainPacket p) s = .next t ∧ t.cfg.buf = s.cfg.buf ++ p.data ∧ t.cfg.chain.rxSeq = (s.cfg.chain.rxSeq + 1) % 65536 ∧
      t.out = s.out ++ [.chainAck p.seq.toNat]) ∧
  (∀ (p : ChainPkt) (n : Nat) (l : List (ChainPkt × Nat)) (s : State), State.regsWf s = true → Stated.IntakeEmpty s → s.cfg.ended = false →
    s.cfg.chain.unacked = (p, n) :: l →
    ∃ t, exec (.chainAck p.seq) s = .next t ∧ t.cfg.chain.unacked = l ∧ t.out = s.out) ∧
  (∀ (p : ChainPkt) (n : Nat) (l : List (ChainPkt × Nat)) (s : State), State.regsWf s = true → Stated.IntakeEmpty s → s.cfg.ended = false →
    s.cfg.chain.unacked = (p, n) :: l → n < 2 →
    ∃ t, exec .chainAckTmo s = .next t ∧ t.cfg.chain.unacked = (p, n + 1) :: l ∧
      t.out = s.out ++ s.cfg.chain.unacked.map (fun x => .chainPkt x.1)) ∧
  (∀ s : State, State.regsWf s = true → s.bootMode = 2 → Stated.IntakeEmpty s → s.cfgState = 1 → s.cfg.src = 1 → s.cfg.hdr = none →
    s.cfg.done = false →
    ∃ t, exec .chainAbortPacket s = .next t ∧ t.cfgState = 4 ∧ t.fld oCfgStat 23 12 = 0x02B) ∧
  (∀ (code : BitVec 12) (pos : Nat) (s : State), State.regsWf s = true → s.bootMode = 1 → 1 ≤ pos → pos ≤ 15 →
    ∃ t, exec (.chainStatusPacket code pos) s = .next t ∧ t.fld (oChst pos) 31 29 = (if code = 0 then 3 else 4) ∧
      t.fld (oChst pos) 23 12 = code.toNat ∧ ∀ o, o ≠ oChst pos → t.reg o = s.reg o) ∧
  (∀ s : State, State.regsWf s = true → s.cfg.chain.waitPort = true → s.sideUp true = false → s.cfg.ending = false → 1 ≤ s.cfg.chain.fwdDev →
    s.cfg.chain.fwdDev ≤ 15 →
    ∃ t, exec .chainPortTmo s = .next t ∧ t.cfg.chain.stopped = true ∧ t.cfg.chain.fwdLeft = 0 ∧ t.cfg.chain.unacked = [] ∧
      t.fld (oChst s.cfg.chain.fwdDev) 31 29 = 4 ∧ t.fld (oChst s.cfg.chain.fwdDev) 23 12 = 0x02A)

/-- R83, R84, R88, R90, R92, R93: polders, and the scrubber. -/
def Obligations.PolderEventsComplete : Prop :=
  (∀ (p : Pld) (s : State), State.regsWf s = true → s.cfg.hdr = none → s.pstate p.val = 4 → p.val ∈ s.pld.retained → s.badFrame p.val = none →
    bitsOf (s.pldFlags p.val) 1 1 = 1 →
    ∃ t, exec (.completionCheckDone p) s = .next t ∧ t.pstate p.val = 5 ∧ (p.val, false) ∈ t.pld.starting ∧ p.val ∉ t.pld.retained ∧
      t.border p.val = { s.border p.val with inward := true, clocks := true, released := true, image := (s.border p.val).image + 1 }) ∧
  (∀ (p : Pld) (s : State), State.regsWf s = true → s.pld.starting.find? (fun e => e.1 == p.val) = some (p.val, false) →
    ∃ t, exec (.polderRunStart p) s = .next t ∧ t.pstate p.val = 6 ∧ (∀ b, (p.val, b) ∉ t.pld.starting) ∧
      t.border p.val = { s.border p.val with out := true, released := true }) ∧
  (∀ (p : Pld) (s : State), State.regsWf s = true → s.pstate p.val = 7 → s.cfg.ending = false →
    ∃ t, exec (.polderWipeDone p) s = .next t ∧ t.pstate p.val = 2 ∧ (∀ a, a < 2 ^ 32 → s.ofPolder p.val a = true → t.frame a = zeroFrame) ∧
      (∀ a, s.ofPolder p.val a = false → t.frame a = s.frame a)) ∧
  (∀ (req : Req) (p : Pld) (s : State), s.sys.hubOn = true → reservedDie req.toNat = false → s.pstate p.val = 5 → s.bit (oPldStat p.val) 6 = false →
    ∃ t, exec (.run req p 1) s = .next t ∧ (∃ b, (p.val, b) ∈ t.pld.starting) ∧ t.regs = s.regs ∧
      t.border p.val = { s.border p.val with released := true }) ∧
  (∀ (req : Req) (p : Pld) (s : State), State.regsWf s = true → s.sys.hubOn = true → reservedDie req.toNat = false → s.pstate p.val = 6 →
    ∃ t, exec (.hold req p 2) s = .next t ∧ t.pstate p.val = 5 ∧
      t.border p.val = { s.border p.val with out := false, released := false } ∧ (∀ q, q ≠ p.val → t.border q = s.border q) ∧
      { t with regs := s.regs, pld := { t.pld with border := s.pld.border } } = s) ∧
  (∀ (c : Tile) (a : Nat) (g : CFrame) (s : State), s.cfg.done = true → s.isOn (oPwrTile c.val) = true → s.bit oPld (16 + c.val) = true →
    SMap.get (fun _ => []) s.cfg.writers c.val = [] → s.pld.starting = [] → (s.scrub c.val).at_ = some a → s.scrubSkips a = false →
    (s.frame a).good = false → (s.frame a).correct = some g → g ≠ zeroFrame →
    ∃ t, exec (.scrubFrameCheck c) s = .next t ∧ t.frame a = g ∧ (∀ b, b ≠ a → t.frame b = s.frame b))

/-! ## Writes to engines, and the scheduler (ch. 05 to 07) -/

/-- R96, R149, R157, R159: the writes that control an engine or its clock, on a tile that is ON. -/
def Obligations.EngineControlWritesComplete : Prop :=
  (∀ (req : Req) (c : Tile) (f : Nat) (s : State), State.regsWf s = true → s.sys.hubOn = true → reservedDie req.toNat = false → 200 ≤ f → f ≤ 1000 → f % 25 = 0 →
    (∀ k, k < 16 → s.pwr (oPwrClu (16 * c.val + k)) = 0) →
    ∃ t, exec (.engclkWrite req c (BitVec.ofNat 32 f)) s = .next t ∧ t.fld (oEngclk c.val) 11 0 = f ∧ t.bit (oEngclk c.val) 31 = false ∧
      { t with regs := s.regs } = s ∧ ∀ o, o ≠ oEngclk c.val → t.reg o = s.reg o) ∧
  (∀ (req : Req) (e : Eng) (s : State), Inv s → s.sys.hubOn = true → reservedDie req.toNat = false → s.isOn (oPwrTile (engTile e.val)) = true → s.placeSt e.val = 0 →
    ∃ t, exec (.isolate req e 0xC3000001) s = .next t ∧ Stated.Isolates s t e) ∧
  (∀ (req : Req) (e : Eng) (s : State), Inv s → s.sys.hubOn = true → reservedDie req.toNat = false → s.isOn (oPwrTile (engTile e.val)) = true → s.placeSt e.val = 4 →
    (eng s e).stestPassed = true →
    ∃ t, exec (.release req e 0xC3000002) s = .next t ∧ t.placeSt e.val = 0 ∧ t.engStale e.val = true ∧ t.engEpoch e.val = s.engEpoch e.val ∧
      { t with regs := s.regs } = s) ∧
  (∀ (req : Req) (e : Eng) (s : State), Inv s → s.sys.hubOn = true → reservedDie req.toNat = false → s.isOn (oPwrTile (engTile e.val)) = true → s.isOn (oPwrEng e.val) = true →
    s.bit (oEng e.val + 0x20) 31 = false → (eng s e).shocc = false → (eng s e).swapDue = false →
    ∃ t, exec (.stestStart req e 0x101) s = .next t ∧ t.bit (oEng e.val + 0x20) 31 = true ∧ t.fld (oEng e.val + 0x20) 9 8 = 1 ∧
      eng t e = { eng s e with stestType := 1 } ∧ (∀ x, x ≠ e.val → t.engSt x = s.engSt x) ∧
      (s.placeSt e.val = 1 → t.placeSt e.val = 3))

/-- A descriptor for a context of its own, without a delay, a condition or an affinity to one engine. -/
abbrev Stated.Direct (d : List Word) : Prop := dBit d 0 21 = false ∧ dBit d 0 28 = false ∧ dMode d = 0 ∧ dWord d 1 = 0

/-- The table of the enqueue inputs stands in its canonical form. -/
abbrev Stated.InputsWf (s : State) : Prop := SMap.wf (fun _ => ([] : List EnqItem)) s.sch.inputs = true

/-- The table of contexts stands in its canonical form. -/
abbrev Stated.CtxWf (s : State) : Prop := SMap.wf (fun _ => ({} : TaskCtx)) s.sch.ctx = true

/-- No descriptor that has reached its input by a command of its own stands in front. -/
abbrev Stated.noFollower (l : List EnqItem) : Bool :=
  match l with
  | y :: _ => y.held || (match y.src with | .noc _ k => k != noTag | _ => true)
  | [] => true

/-- No SRAM word of the scheduler, the hub or a tile holds an error. -/
abbrev Stated.NoErrors (s : State) : Prop := s.ice.errs = []

/-- The task of the descriptor `d` has become ready in context `x`, with the highest ready number, and its flow has one task more. -/
def Stated.Accepted (s t : State) (x : Nat) (d : List Word) : Prop :=
  (t.ctx x).st = .ready ∧ (t.ctx x).ready = s.sch.readyNo + 1 ∧ (∀ i, i < 8 → i ≠ 0 → dWord (t.ctx x).desc i = dWord d i) ∧
  (t.flow (dFlow d)).pending = (s.flow (dFlow d)).pending + 1 ∧ (∀ y, y ≠ x → t.ctx y = s.ctx y)

/-- R166 to R171: a descriptor or a template request without a reason against it is accepted; a held one takes a pool context; a write held
too long is discarded. -/
def Obligations.DescriptorsComplete : Prop :=
  (∀ (i : EnqIn) (req : Req) (ep : BitVec 8) (lid : BitVec 10) (d : List Word) (s : State), reservedDie req.toNat = false → s.schInit = false →
    s.input i.val = [] → Stated.InputsWf s → Stated.NoErrors s →
    s.oldItem (enqItem (.noc req.toNat noTag) req.toNat ep.toNat lid.toNat false d) = false →
    s.itemReason (enqItem (.noc req.toNat noTag) req.toNat ep.toNat lid.toNat false d) = 0 → Stated.Direct d →
    ∃ t, exec (.descriptor i req ep lid d) s = .next t ∧ t.input i.val = [] ∧ Stated.Accepted s t (dFld d 2 13 0) d) ∧
  (∀ (i : EnqIn) (req : Req) (w : List Word) (s : State), reservedDie req.toNat = false → s.schInit = false → s.input i.val = [] →
    Stated.InputsWf s → Stated.NoErrors s →
    s.itemReason (enqItem (.noc req.toNat noTag) req.toNat 0 0 true w) = 0 → Stated.Direct (s.formTemplate w).1 →
    ∃ t, exec (.templateRequest i req w) s = .next t ∧ t.input i.val = [] ∧
      Stated.Accepted s t (dFld (s.formTemplate w).1 2 13 0) (s.formTemplate w).1) ∧
  (∀ (s : State) (i x r : Nat) (it : EnqItem) (l : List EnqItem), s.schInit = false → s.poolFree = some x → s.nextHeld = some i →
    s.input i = it :: l → Stated.InputsWf s → it.src = .noc r noTag → it.template = false → Stated.NoErrors s → Stated.noFollower l = true →
    s.oldItem it = false → s.itemReason it = 0 → dBit it.words 0 21 = true →
    dBit it.words 0 28 = false → dMode it.words = 0 → dWord it.words 1 = 0 →
    ∃ t, exec .heldDescriptorAccept s = .next t ∧ t.input i = l ∧ Stated.Accepted s t x it.words ∧ t.sch.enqPtr = (i + 1) % 17) ∧
  (∀ (i : EnqIn) (s : State) (r : Nat) (it : EnqItem) (l : List EnqItem), s.input i.val = it :: l → it.held = true → it.src = .noc r noTag →
    Stated.InputsWf s → Stated.noFollower l = true →
    ∃ t, exec (.enqTmo i) s = .next t ∧ t.input i.val = l ∧ t.sch.ctx = s.sch.ctx ∧ ∀ j, j ≠ i.val → t.input j = s.input j)

/-- R165, R170, R173, R175: initialisation, portals, posts and releases. -/
def Obligations.SchedulerInputsComplete : Prop :=
  (∀ s : State, State.regsWf s = true → Stated.CtxWf s → s.schInit = true →
    ∃ t, exec .schInitDone s = .next t ∧ t.schInit = false ∧ t.sch.evq = [] ∧
      (s.sch.inputs = [] → ∀ x, (t.ctx x).desc = (s.ctx x).desc)) ∧
  (∀ (req : Req) (p : Fin 4) (s : State), s.sys.hubOn = true → reservedDie req.toNat = false → s.bit (oPstat p.val) 31 = false →
    ∃ t, exec (.portalGo req p 1) s = .next t ∧ t.bit (oPstat p.val) 31 = true ∧
      t.input 0 = s.input 0 ++ [enqItem (.portal p.val) req.toNat 0 0 false ((List.range 16).map (fun i => s.reg (oSch + 0x200 + 0x80 * p.val + 4 * i)))]) ∧
  (∀ (req : Req) (p : Fin 4) (s : State), s.sys.hubOn = true → reservedDie req.toNat = false → s.bit (oPstat p.val) 31 = true → Stated.InputsWf s →
    ∃ t, exec (.portalAbort req p 2) s = .next t ∧ t.bit (oPstat p.val) 31 = false ∧ t.bit (oPstat p.val) 29 = true ∧
      t.fld (oPstat p.val) 27 24 = 0 ∧ t.input 0 = (s.input 0).filter (fun it => !(it.src == .portal p.val))) ∧
  (∀ (x : Ctx) (f : Fin 32) (s : State), s.schInit = false →
    ∃ t, exec (.eventPost x f) s = .next t ∧ (t.ctx x.val).flags = (s.ctx x.val).flags ||| (1#32 <<< f.val) ∧
      ((s.ctx x.val).st = .waiting → dWaitHolds (s.ctx x.val).desc ((s.ctx x.val).flags ||| (1#32 <<< f.val)) = true → (t.ctx x.val).st = .ready) ∧
      t.regs = s.regs ∧ ∀ y, y ≠ x.val → t.ctx y = s.ctx y) ∧
  (∀ (req : Req) (x : Ctx) (f : Fin 32) (s : State), s.sys.hubOn = true → reservedDie req.toNat = false → s.schInit = false →
    ∃ t, exec (.schEvpost req (BitVec.ofNat 32 (f.val * 2 ^ 16 + x.val))) s = .next t ∧
      (t.ctx x.val).flags = (s.ctx x.val).flags ||| (1#32 <<< f.val) ∧ t.regs = s.regs ∧ ∀ y, y ≠ x.val → t.ctx y = s.ctx y) ∧
  (∀ (s : State) (e x : Nat) (l : List (Nat × Nat)), s.sch.dlPtr < 4 → s.delayList s.sch.dlPtr = (e, x) :: l →
    dlDue (s.fld (oDlcnt s.sch.dlPtr) 31 0) e = true → SMap.wf (fun _ => ([] : List (Nat × Nat))) s.sch.delay = true →
    Stated.NoErrors s →
    ∃ t, exec .delayRelease s = .next t ∧ t.delayList s.sch.dlPtr = l ∧
      t.sch.dlPtr = (if (List.range 4).any t.listDue then (s.sch.dlPtr + 1) % 4 else 0) ∧
      (t.ctx x).st = (if dWaitHolds (s.ctx x).desc (s.ctx x).flags then .ready else .waiting))

/-- R178, R181 to R187, R193: dispatch, cancel, the ends of tasks, deadlines. -/
def Obligations.TasksComplete : Prop :=
  (∀ (c : Tile) (s : State) (x l : Nat), s.schInit = false → s.bit oSch 31 = true → s.nightState = 0 → Stated.NoErrors s →
    s.pickTask ((s.pipeOrder c.val).filter s.leAvailable) ((List.range 1024).filter s.leAvailable) s.candidates = some (⟨x, false⟩, l, none) →
    ∃ t, exec (.dispatch c) s = .next t ∧ (t.ctx x).st = .running ∧ (t.ctx x).lid = l ∧ (t.engSt (s.le l).phys).cur.busy = true ∧
      (t.engSt (s.le l).phys).cur.tid = x ∧ (t.engSt (s.le l).phys).cur.pc = dFld (s.ctx x).desc 2 27 16 ∧
      (t.engSt (s.le l).phys).cur.flags = 0 ∧ ∀ e, e ≠ (s.le l).phys → t.engSt e = s.engSt e) ∧
  (∀ (req : Req) (x : Ctx) (s : State), s.sys.hubOn = true → reservedDie req.toNat = false → (s.ctx x.val).st = .ready →
    ∃ t, exec (.schCancel req (BitVec.ofNat 32 x.val)) s = .next t ∧ (t.ctx x.val).st = .completing ∧
      (t.ctx x.val).report = some ⟨6, 0, 0, false⟩ ∧ ∀ y, y ≠ x.val → t.ctx y = s.ctx y) ∧
  (∀ (req : Req) (x : Ctx) (s : State), s.sys.hubOn = true → reservedDie req.toNat = false → (s.ctx x.val).quar = true → Stated.CtxWf s →
    ∃ t, exec (.qclr req (BitVec.ofNat 32 (2 ^ 31 + x.val))) s = .next t ∧ t.ctx x.val = { s.ctx x.val with quar := false } ∧ t.regs = s.regs) ∧
  (∀ (x : Ctx) (s : State) (r : EndReport), (s.ctx x.val).report = some r → r.mayRestart = false → Stated.CtxWf s → Stated.NoErrors s →
    dBit (s.ctx x.val).desc 12 28 = false → dBit (s.ctx x.val).desc 12 21 = false →
    ∃ t, exec (.taskEnd x) s = .next t ∧ (t.ctx x.val).st = .free ∧ (t.ctx x.val).flags = (s.ctx x.val).flags ∧ (t.ctx x.val).report = none ∧
      ∀ y, y ≠ x.val → t.ctx y = s.ctx y) ∧
  (∀ s : State, Stated.NoErrors s → ∃ t, exec .deadlineSweep s = .next t ∧
    ∀ x d, (s.ctx x).deadline = some d → d < s.now → (s.ctx x).st ≠ .free → (s.ctx x).inTime d = false → (t.ctx x).miss = true ∧ (t.ctx x).st = (s.ctx x).st) ∧
  (∀ (x : Ctx) (s : State) (p : Pair) (a b : PairCopy) (n : Nat), (s.ctx x.val).pair = some p → p.copies = [a, b] → a.ended = some n →
    b.ended = none → p.needRef = false → p.referee = none → p.releasing = false → s.halted a.eng = false → s.halted b.eng = false →
    3 ≤ affClusters (s.ctx x.val).desc →
    ∃ t, exec (.pairTimeout x) s = .next t ∧ (t.ctx x.val).st = .comparing ∧ (t.ctx x.val).pair = some { p with needRef := true })

/-- R188, R192: completion queues, and the duplicated control of the scheduler. -/
def Obligations.SchedulerRecordsComplete : Prop :=
  (∀ (q : CQ) (s : State) (x n : Nat) (l : List Nat) (r : EndReport), s.cqTasks q.val = x :: l → s.bit (oCqctl q.val) 31 = true →
    s.bit (oCqctl q.val) 30 = false →
    (s.fld (oCqidx q.val) 15 0 + 1) % 2 ^ s.fld (oCqctl q.val) 20 16 ≠ s.fld (oCqidx q.val) 31 16 % 2 ^ s.fld (oCqctl q.val) 20 16 →
    s.net.outst.any (fun o => o.kind == .cqRecord q.val) = false → (s.ctx x).ending = some (r, n) →
    ∃ t, exec (.completionRecordWrite q) s = .next t ∧
      ∃ tag, t.net.outst = s.net.outst ++ [outReq reqSch tag (s.fld (oSch + 0x100 + 0x10 * q.val) 31 0 +
        2 ^ 32 * s.fld (oSch + 0x104 + 0x10 * q.val) 31 0 + 32 * s.fld (oCqidx q.val) 15 0) true (.cqRecord q.val)]) ∧
  (∀ (req : Req) (q : CQ) (n : Nat) (s : State), State.regsWf s = true → s.sys.hubOn = true → reservedDie req.toNat = false → s.bit (oCqctl q.val) 31 = false → 4 ≤ n → n ≤ 16 →
    ∃ t, exec (.schCqctlWrite req q (BitVec.ofNat 32 (2 ^ 31 + n * 2 ^ 16))) s = .next t ∧ t.bit (oCqctl q.val) 31 = true ∧
      t.bit (oCqctl q.val) 30 = false ∧ t.fld (oCqctl q.val) 20 16 = n ∧ { t with regs := s.regs } = s) ∧
  (∀ (f : CopyFault) (s : State), State.regsWf s = true → s.bit oDup 30 = false →
    ∃ t, exec (.controlMismatch f) s = .next t ∧ t.bit oDup 30 = true ∧
      t.bit oDup 31 = (if f = .shadowFails then s.bit oDup 31 else !s.bit oDup 31) ∧ t.sch = s.sch) ∧
  (∀ s : State, State.regsWf s = true → ∃ t, exec .shadowRejoin s = .next t ∧ t.bit oDup 30 = false ∧ (∀ o, o ≠ oDup → t.reg o = s.reg o) ∧
    { t with regs := s.regs } = s)

/-! ## The network (ch. 01, 08) -/

/-- Nothing is on the network, no pair waits for a route, and a request `p` reaches the router of `d`, which is ON, with room on its way. -/
def Stated.Reaches (s : State) (write : Bool) (p : Pkt) (d : Dest) : Prop :=
  s.sys.hubOn = true ∧ s.net.msgs = [] ∧ s.net.waits = [] ∧ reservedDie p.src.toNat = false ∧ malformed write p = false ∧
  s.sluiceShut p.src.toNat = false ∧ s.addrDest (pktAddr p) = some d ∧ s.destOn d = true ∧
  (s.wayTo s.routeEnv p.src.toNat d).getLast? = some d.router ∧
  s.pathRoom (s.wayTo s.routeEnv p.src.toNat d) (reqFlits write p) = true ∧
  ∀ q ∈ s.net.outst, q.src = p.src.toNat → q.way = [] ∨ q.way = s.wayTo s.routeEnv p.src.toNat d

/-- A response whose form is right reaches its requester: nothing that it must follow is before it, and there is room on its way. -/
def Stated.Returns (s : State) (write : Bool) (r : Rsp) : Prop :=
  s.sys.hubOn = true ∧ malformedRsp write r = false ∧ s.behind (if write then .wrack r else .rdrsp r) = false ∧
  (∀ x, (s.rspWay write r).getLast? = some x → x = s.srcRouter r.dst.toNat) ∧ s.pathRoom (s.rspWay write r) (rspFlits r) = true

/-- The word at `o` of the window of logical engine `l`, which is placed on an engine that is ON; the requester is no engine of an old epoch. -/
def Stated.ToEngine (s : State) (p : Pkt) (l o : Nat) : Prop :=
  pktAddr p = engBase + l * 0x40000 + o ∧ l < 1024 ∧ o < 0x30000 ∧ p.len = 0 ∧ p.be = 0xFFFF ∧ p.poison = false ∧ p.src.toNat ≠ reqDbg ∧
  (s.le l).takeover = none ∧ (s.le l).pstate ≠ 3 ∧ s.isOn (oPwrEng (s.le l).phys) = true ∧ s.oldEpoch 1 p = false

/-- R123, R135, R136, R199 to R203: a read and a write of a word of an engine's data memory are answered and the bytes are stored; a response ends
its request: the data of a GETW go into its V register, a PUTW is acknowledged. -/
def Obligations.EngineWindowServes : Prop :=
  (∀ (p : Pkt) (d : Dest) (l o : Nat) (s : State), Stated.Reaches s false p d → Stated.ToEngine s p l o →
    (∀ i, i < 16 → (dmByte (s.engSt (s.le l).phys) (s.le l).phys (o + i)).2 = .clean) →
    ∃ t, exec (.rd p) s = .next t ∧
      t.net.msgs = [.rdrsp ⟨2, 0, false, p.src, p.tag, 0, false, (List.range 16).map (fun i => (dmByte (s.engSt (s.le l).phys) (s.le l).phys (o + i)).1)⟩] ∧
      t.eng = s.eng ∧ t.regs = s.regs) ∧
  (∀ (p : Pkt) (d : Dest) (l o : Nat) (s : State), Stated.Reaches s true p d → Stated.ToEngine s p l o →
    ∃ t, exec (.wr p) s = .next t ∧ t.net.msgs = [.wrack ⟨3, 0, false, p.src, p.tag, 0, false, []⟩] ∧
      (∀ i, i < 16 → dmByte (t.engSt (s.le l).phys) (s.le l).phys (o + i) = ((p.inl >>> (8 * i)).setWidth 8, .clean)) ∧
      (∀ a, a < o ∨ o + 16 ≤ a → dmByte (t.engSt (s.le l).phys) (s.le l).phys a = dmByte (s.engSt (s.le l).phys) (s.le l).phys a) ∧
      (∀ e, e ≠ (s.le l).phys → t.engSt e = s.engSt e) ∧ t.regs = s.regs) ∧
  (∀ (r : Rsp) (o : OutReq) (e : Nat) (w : Bool) (g dr : Nat) (s : State), Stated.Returns s false r →
    s.net.outst.find? (fun x => x.src == r.dst.toNat && x.tag == r.tag.toNat && x.write == false) = some o → o.kind = .getw e w g dr →
    r.status = 0 → r.poison = false → s.engOut e < 16 → ((s.engSt e).bank w).busy = true → ((s.engSt e).bank w).gen = g →
    bankWf ((s.engSt e).bank w) = true →
    ∃ t, exec (.rdrsp r) s = .next t ∧ t.net.outst = s.net.outst.erase o ∧
      (∀ i, ((t.engSt e).bank w).getV i = upd ((s.engSt e).bank w).getV dr (BitVec.ofNat 128 (ofBytesLE r.data)) i) ∧
      (∀ i, ((t.engSt e).bank w).getS i = ((s.engSt e).bank w).getS i) ∧ t.regs = s.regs) ∧
  (∀ (r : Rsp) (o : OutReq) (e : Nat) (w : Bool) (g : Nat) (s : State), Stated.Returns s true r →
    s.net.outst.find? (fun x => x.src == r.dst.toNat && x.tag == r.tag.toNat && x.write == true) = some o → o.kind = .putw e w g →
    r.status = 0 → s.engOut e < 16 →
    ∃ t, exec (.wrack r) s = .next t ∧ t.net.outst = s.net.outst.erase o ∧ t.eng = s.eng ∧ t.regs = s.regs)

/-- R17, R18, R147, R206: four dwords of the memory window of the host become one request, and a read not answered completes with Completer Abort;
a port takes an epoch; a module leaves service; a pair moves to its new route. -/
def Obligations.HostRequestsAndRoutesComplete : Prop :=
  (∀ (t : Tlp) (a : Nat) (s : State), s.sys.linkUp = true → s.sys.hubOn = true → t.bar = .memory → t.write = false → t.dwords = 4 →
    s.hostAddr t = some a → a % 16 = 0 →
    ∃ u, exec (.hostTlp t) s = .next u ∧ u.out = s.out ∧
      ∃ tag, u.net.outst = s.net.outst ++ [outReq (hostReq t.fn) tag a false (.host t.tag.toNat false 0 4)]) ∧
  (∀ (t : Tlp) (a : Nat) (x : Fin 4 → Word) (s : State), s.sys.linkUp = true → s.sys.hubOn = true → t.bar = .memory → t.write = true → t.ep = false →
    t.data = [(0xF, x 0), (0xF, x 1), (0xF, x 2), (0xF, x 3)] → s.hostAddr t = some a → a % 16 = 0 →
    ∃ u, exec (.hostTlp t) s = .next u ∧ u.out = s.out ∧
      ∃ tag, u.net.outst = s.net.outst ++ [outReq (hostReq t.fn) tag a true (.host t.tag.toNat true 0 0)] ∧
        u.net.msgs = s.net.msgs ++ [.wr (inlinePkt 1 (hostReq t.fn) tag 0 0 a 0xFFFF false (x 3 ++ x 2 ++ x 1 ++ x 0))]) ∧
  (∀ (tag : BitVec 8) (q n a k m : Nat) (s : State), s.net.outst = [outReq q n a false (.host tag.toNat false k m)] →
    ∃ u, exec (.rspTmo tag) s = .next u ∧ u.out = s.out ++ [.hostCpl tag.toNat 1 false []] ∧
      u.net.outst = [outReq q n a false .other]) ∧
  (∀ (p : EpochPort) (l : LEng) (s : State), Inv s → (s.le l.val).waiting.contains (epochPort p) = true → (s.le l.val).takeover = none →
    (s.le l.val).epoch ≠ 0 →
    ∃ t, exec (.epoch p l) s = .next t ∧ t.portEpoch (epochPort p) l.val = (s.le l.val).epoch ∧
      t.le l.val = { s.le l.val with waiting := (s.le l.val).waiting.filter (fun y => y ≠ epochPort p) } ∧ t.regs = s.regs) ∧
  (∀ (m : LMod) (s : State), State.regsWf s = true → s.lstate m.val ≠ 7 → s.bit oNocstat m.val = false →
    ∃ t, exec (.moduleLeavesService m) s = .next t ∧ t.bit oNocstat m.val = true ∧ t.net.waits = s.net.waits ++ s.pairsOver m.val) ∧
  (∀ (q d : Req) (l : List Nat) (s : State), (q.toNat, d.toNat, l) ∈ s.net.waits →
    (∀ x ∈ l, ∀ o ∈ s.net.outst, ¬(o.src = q.toNat ∧ o.tag = x)) →
    ∃ t, exec (.pairReroute q d) s = .next t ∧ (q.toNat, d.toNat, l) ∉ t.net.waits ∧ t.net.outst = s.net.outst)

/-! ## Streams (ch. 08, 10) -/

/-- The table of stream channels stands in its canonical form. -/
abbrev Stated.StrmWf (s : State) : Prop := SMap.wf (fun _ => ({} : StrmSt)) s.net.strm = true

/-- R211, R213, R218, R270: a sample begins a block; a block whose samples have landed writes its record; a waiting channel resumes. -/
def Obligations.ReceiveStreamsComplete : Prop :=
  (∀ (c : Strm) (sec : BitVec 48) (ns : Word) (fr : BitVec 16) (a : List Int) (s : State), s.strRun c.val = true →
    s.strTx c.val = false → s.strAlign c.val = 0 → s.bit (oStr c.val) 26 = false → (s.strm c.val).blocks = [] → (s.strm c.val).elems = [] →
    (s.strm c.val).skip = 0 →
    ∃ t b, exec (.streamSamples c sec ns fr a []) s = .next t ∧ (t.strm c.val).blocks = [b] ∧ b.stage = 0 ∧ b.words = [] ∧
      b.gap = (s.strm c.val).gap ∧ b.time = gridTime (s.strRate c.val) (gridNear (s.strRate c.val) (timeOf sec.toNat ns.toNat fr.toNat)) ∧
      -- the baseband sample of the converter samples, each mixed with the phase of the NCO at its instant, with the gain of the path
      (∀ v, v = s.baseband (s.strPath c.val) (s.mixed (s.strPath c.val) (convSample false b.time) a) →
        (t.strm c.val).elems = [v.1 * (2 ^ s.fld (s.strPath c.val) 1 0 : Nat), v.2 * (2 ^ s.fld (s.strPath c.val) 1 0 : Nat)]) ∧
      t.fld (s.strPath c.val + 12) 15 0 = min 65535 (s.fld (s.strPath c.val + 12) 15 0 + (a.filter fullScale).length)) ∧
  (∀ (c : Strm) (b : RxBlk) (l : List RxBlk) (s : State), (s.strm c.val).blocks = b :: l → b.stage = 3 → (s.strm c.val).tmplWait = false →
    ∃ t, exec (.rxBlockLand c) s = .next t ∧ (t.strm c.val).blocks = { b with stage := 4, acked := 0 } :: l ∧
      ∃ tag, t.net.outst = s.net.outst ++ [outReq (s.strReq c.val) tag (s.strRecAddr c.val) true (.strRecord c.val b.id)]) ∧
  (∀ (c : Strm) (s : State), State.regsWf s = true → s.strEn c.val = true → (s.strm c.val).shed = false → s.fld (oStrstat c.val) 31 29 = 1 →
    s.isOn (oPwrTile (strTile c.val)) = true → s.isOn (oPwrCnv (strTile c.val)) = true → s.tcUp (strTile c.val) = true →
    s.chanAvail (strTile c.val) (s.strTx c.val) (s.strChan c.val) = true →
    ∃ t, exec (.streamResume c) s = .next t ∧ t.strRun c.val = true ∧ { t with regs := s.regs } = s ∧
      ∀ o, o ≠ oStrstat c.val → t.reg o = s.reg o)

/-- R215 to R217, R272: posts, fetches and emission of a transmit channel; EN of a channel. -/
def Obligations.TransmitStreamsComplete : Prop :=
  (∀ (req : Req) (ep : BitVec 8) (lid : BitVec 10) (c : Strm) (d : Quad) (s : State), s.sys.hubOn = true → reservedDie req.toNat = false → engOfReq req.toNat = none →
    s.isOn (oPwrTile (c.val / 64)) = true → s.isOn (oPwrCnv (c.val / 64)) = true → s.strRun c.val = true → s.strTx c.val = true → (s.strm c.val).lastDue = none → (s.strm c.val).nextSeq = none → bitsOf d 127 96 = 0 →
    bitsOf d 31 0 < 1000000000 → (s.strm c.val).posts.length < 16 →
    ∃ t, exec (.strtxpost req ep lid c true d) s = .next t ∧
      (t.strm c.val).posts = (s.strm c.val).posts ++
        [{ seq := bitsOf d 95 80, due := timeOf (fullSec s.now (bitsOf d 63 32)) (bitsOf d 31 0) (bitsOf d 79 64) }] ∧
      (t.strm c.val).nextSeq = some ((bitsOf d 95 80 + 1) % 65536)) ∧
  (∀ (c : Strm) (p : TxPost) (l : List TxPost) (s : State), (s.strm c.val).posts = p :: l → p.fetching = false → p.words = [] →
    s.txDue c.val p = true →
    ∃ t, exec (.txBlockFetch c) s = .next t ∧ (t.strm c.val).posts.head? = some { p with fetching := true } ∧
      ∃ tag, t.net.outst = s.net.outst ++ [outReq (s.strReq c.val) tag (s.txRing c.val p.seq) false (.strFetch c.val p.seq)]) ∧
  (∀ (c : Strm) (p : TxPost) (s : State), Stated.StrmWf s → (s.strm c.val).posts = [p] → p.fetched = false →
    ∃ t, exec (.txFetchLate c) s = .next t ∧ (t.strm c.val).posts = [] ∧
      t.fld (oStrdrop c.val) 31 16 = min 65535 (s.fld (oStrdrop c.val) 31 16 + 1)) ∧
  (∀ (c : Strm) (sums : List Int) (p : TxPost) (l : List TxPost) (s : State) (k : Nat), (s.strm c.val).posts = p :: l → p.fetched = true →
    s.strRun c.val = true → s.ice.errs = [] → k = gridAfter (s.strRate c.val) p.due →
    ∃ t, exec (.txBlockEmit c sums) s = .next t ∧ (t.strm c.val).posts = l ∧
      -- the block before is cut where it overlaps; the path gives its NCO, its phase, its scale and the components; the DAC takes the sums
      t.out = s.out ++ (if (match (s.strm c.val).emitEnd with | some e => e - k | none => 0) = 0 then []
          else [.samplesCut (strTile c.val) (s.strChan c.val) (s.fld (oStr c.val) 9 8) k]) ++
        [.samplesOut (strTile c.val) (s.strChan c.val) (s.fld (oStr c.val) 9 8) (gridTime (s.strRate c.val) k) (s.fld (s.strPath c.val + 4) 31 0)
          (s.pathPhase (s.strPath c.val) (convSample true (gridTime (s.strRate c.val) k))) (2 + s.fld (s.strPath c.val) 1 0)
          (p.words.flatMap (wordComps (s.strFmt c.val))), .dacOut (strTile c.val) (s.strChan c.val) (sums.map (fun x => (dacCode x).1))]) ∧
  (∀ (req : Req) (c : Strm) (v : Word) (s : State), State.regsWf s = true → Stated.StrmWf s → s.sys.hubOn = true → reservedDie req.toNat = false → s.strEn c.val = false →
    bitsOf v 31 31 = 1 → bitsOf v 29 28 ≤ 2 → [0, 4, 5].contains (bitsOf v 15 12) = true → s.strEnableCode c.val v = none →
    ∃ t, exec (.strcfgEnable req c v) s = .next t ∧ t.strEn c.val = true ∧ t.strm c.val = {} ∧ t.fld (oStridx c.val) 15 0 = 0 ∧
      t.fld (oStrstat c.val) 31 29 = (if s.tcUp (strTile c.val) then 2 else 1)) ∧
  (∀ (req : Req) (c : Strm) (s : State), State.regsWf s = true → Stated.StrmWf s → s.sys.hubOn = true → reservedDie req.toNat = false → s.strEn c.val = true →
    s.strAlign c.val ≤ 2 → [0, 4, 5].contains (s.strFmt c.val) = true →
    ∃ t, exec (.strcfgDisable req c (s.reg (oStr c.val) &&& 0x7FFFFFFF)) s = .next t ∧ t.strEn c.val = false ∧ t.strm c.val = {} ∧
      t.reg (oStrstat c.val) = 0)

/-! ## Reduction groups (ch. 08) -/

/-- R220 to R225, R228: contributions, wide packets, entries, slots, and EN of a group. -/
def Obligations.ReductionGroupsComplete : Prop :=
  (∀ (p : Pkt) (e i : Nat) (s : State), s.sys.hubOn = true → s.net.msgs = [] → reservedDie p.src.toNat = false → p.typ = 4 → p.len = 0 → p.zeroBit = false →
    p.body = [] → engOfReq p.src.toNat = some e → s.redReady (redGroupOf (pktAddr p)) = true →
    redWordOf (pktAddr p) < s.redWidth (redGroupOf (pktAddr p)) →
    (s.grp (redGroupOf (pktAddr p))).members.find? (fun m => m.2 == p.lid.toNat) = some (i, p.lid.toNat) →
    p.epoch.toNat = s.portEpoch 2 p.lid.toNat →
    ∃ t, exec (.rcon p) s = .next t ∧ t.net.msgs = [.wrack ⟨3, 0, false, p.src, p.tag, 0, false, []⟩,
      .rwide ⟨redGroupOf (pktAddr p), redRoundOf (pktAddr p), redWordOf (pktAddr p), BitVec.ofNat 64 (2 ^ i),
        (wideOf (s.redFmt (redGroupOf (pktAddr p))) p.inl).1, (wideOf (s.redFmt (redGroupOf (pktAddr p))) p.inl).2, p.poison, routerOfEng e⟩]) ∧
  (∀ (i : Nat) (w : Wide) (s : State), nthWide i s.net.msgs = some w → s.behind (.rwide w) = false → w.at_ = atStore → s.redReady w.group = true →
    (s.slot w.group (slotKey w.word w.round)).closing = false → (s.slot w.group (slotKey w.word w.round)).isOpen = false →
    (s.slot w.group (slotKey w.word w.round)).used = false → w.mask ≠ s.fullMask w.group →
    ∃ t, exec (.rwide i) s = .next t ∧ t.net.msgs = dropWide i s.net.msgs ∧
      t.slot w.group (slotKey w.word w.round) =
        { isOpen := true, round := w.round, mask := w.mask, val := w.val, special := w.special, poison := w.poison }) ∧
  (∀ (r : Router) (i : Nat) (w : Wide) (s : State), s.entry r.val i = some w → SMap.wf (fun _ => (none : Option Wide)) s.net.entries = true →
    s.ice.errs = [] →
    ∃ t, exec (.redEntryHoldExpiry r i) s = .next t ∧ t.entry r.val i = none ∧ t.net.msgs = s.net.msgs ++ [.rwide { w with at_ := s.wideNext w }]) ∧
  (∀ (g : Grp) (w : Fin 2048) (p : Fin 2) (s : State), (s.slot g.val (slotKey w.val p.val)).isOpen = true → s.fld (oRed g.val) 29 28 ≠ 1 →
    ∃ t, exec (.redSlotTimeout g w p) s = .next t ∧ (t.slot g.val (slotKey w.val p.val)).isOpen = false ∧
      (t.slot g.val (slotKey w.val p.val)).used = true ∧ t.net.msgs = s.net.msgs) ∧
  (∀ (g : Grp) (s : State), State.regsWf s = true → s.bit (oRed g.val) 31 = true → s.bit (oRed g.val) 30 = false →
    s.isOn (oPwrTile (s.redRoot g.val)) = true → s.memberTable g.val ≠ [] →
    ∃ t, exec (.groupReady g) s = .next t ∧ t.redReady g.val = true ∧ (t.grp g.val).members = s.memberTable g.val) ∧
  (∀ (req : Req) (g : Grp) (v : Word) (s : State), State.regsWf s = true → s.sys.hubOn = true → reservedDie req.toNat = false → s.bit (oRed g.val) 31 = false → bitsOf v 31 31 = 1 →
    bitsOf v 29 28 ≤ 1 → bitsOf v 3 0 ≤ 5 → s.redEnableCode g.val v = none →
    ∃ t, exec (.redcfgEnable req g v) s = .next t ∧ t.bit (oRed g.val) 31 = true ∧ t.redRoot g.val = bitsOf v 25 24 ∧ t.redFmt g.val = bitsOf v 3 0 ∧
      { t with regs := s.regs } = s) ∧
  (∀ (req : Req) (g : Grp) (s : State), State.regsWf s = true → SMap.wf (fun _ => ({} : RedGroup)) s.net.groups = true → s.sys.hubOn = true → reservedDie req.toNat = false →
    s.bit (oRed g.val) 31 = true → s.fld (oRed g.val) 29 28 ≤ 1 → s.redFmt g.val ≤ 5 →
    ∃ t, exec (.redcfgDisable req g (s.reg (oRed g.val) &&& 0x7FFFFFFF)) s = .next t ∧ t.bit (oRed g.val) 31 = false ∧ t.redReady g.val = false ∧
      t.grp g.val = { rounds := (t.grp g.val).rounds } ∧ ∀ r ∈ (t.grp g.val).rounds, r.closed = s.redWidth g.val)

/-! ## Time and the calendar (ch. 09) -/

/-- A tick of a source advances the count of every enabled delay list of that source (R175), and no other. -/
def Stated.Counts (s t : State) (src : Nat) : Prop :=
  ∀ i, i < 4 → t.reg (oDlcnt i) =
    if s.bit (oDlcfg i) 31 = true ∧ s.fld (oDlcfg i) 1 0 = src then s.reg (oDlcnt i) + 1 else s.reg (oDlcnt i)

/-- R232, R244, R250 to R253: ticks at or after their time, PPS_OUT, and time pulses. -/
def Obligations.TicksComplete : Prop :=
  (∀ (a : Nat) (s : State), State.regsWf s = true → s.bit oSymCfg 31 = true → s.firstTick = some (a, 1) → a ≤ s.now →
    ∃ t, exec .symTick s = .next t ∧ t.now = s.now ∧ Stated.Counts s t 0 ∧
      t.tim = { s.tim with symPast := max s.tim.symPast (s.symTime s.tim.symJ s.tim.symN + 1),
                           symJ := if s.fld oSymCfg 5 0 ≤ s.tim.symN + 1 then s.tim.symJ + 1 else s.tim.symJ,
                           symN := if s.fld oSymCfg 5 0 ≤ s.tim.symN + 1 then 0 else s.tim.symN + 1 }) ∧
  (∀ (a : Nat) (s : State), State.regsWf s = true → s.bit oSymCfg 31 = true → s.firstTick = some (a, 0) → a ≤ s.now →
    ∃ t, exec .slotTick s = .next t ∧ t.now = s.now ∧ Stated.Counts s t 1 ∧
      t.tim = { s.tim with slotJ := s.tim.slotJ + 1, symPast := max s.tim.symPast (s.symTime s.tim.slotJ 0 + 1) }) ∧
  (∀ (a : Nat) (s : State), State.regsWf s = true → s.sys.hubOn = true → s.usecOwed = true → s.firstTick = some (a, 2) →
    ∃ t, exec .usecTick s = .next t ∧ t.now = s.now ∧ Stated.Counts s t 2 ∧ t.tim = { s.tim with usecNext := s.tim.usecNext + 1 }) ∧
  (∀ (a : Nat) (s : State), State.regsWf s = true → s.bit (oTim + 0x150) 31 = true → s.firstTick = some (a, 3) → a ≤ s.now →
    ∃ t, exec .userTick s = .next t ∧ t.now = s.now ∧ Stated.Counts s t 3 ∧
      t.tim = { s.tim with user := s.userFrom (s.tim.user + 1), userPast := s.tim.user + 1 }) ∧
  (∀ s : State, bitsOf s.tim.ppsCfg 31 31 = 1 → bitsOf s.tim.ppsCfg 30 30 = 0 → s.tim.ppsHigh = false → s.tim.ppsLast = none →
    s.now = s.now / unitsPerSec * unitsPerSec + s.tim.ppsOff * 65536 →
    ∃ t, exec .ppsOutPulse s = .next t ∧ t.out = s.out ++ [.pps true] ∧ t.tim.ppsHigh = true ∧ t.tim.ppsLast = some s.now ∧
      t.tim.ppsLeft = 160000 * bitsOf s.tim.ppsCfg 28 16) ∧
  (∀ s : State, s.tim.ppsHigh = true → s.tim.ppsLeft = 0 →
    exec .ppsOutEnd s = .next { s with tim := { s.tim with ppsHigh := false }, out := s.out ++ [.pps false] }) ∧
  (∀ (c : Tile) (m : Nat) (s : State), State.regsWf s = true → s.isOn (oPwrTile c.val) = true → s.pulsePath c.val = true →
    s.pulseFrom c.val = (m, none) →
    -- the replica takes the time of the whole µs and the delay of its link, and the rate of the lattice
    ∃ t, exec (.timePulse (.tile c)) s = .next t ∧ t.bit oDist c.val = false ∧
      t.replica c.val = ⟨s.now / unitsPerUs * unitsPerUs + s.fld (0xA00030 + 0x1000 * m) 23 0 * 65536 / 1000, s.tim.ffo, 0⟩ ∧
      { t with regs := s.regs, tim := { t.tim with reps := s.tim.reps } } = s)

/-- R231, R243, R244: a read of TIM_NOWNS keeps the time for its reader; steps; the writes of TIM_CTL, TIM_SETGO and TIM_SYMCFG. -/
def Obligations.LatticeControlCompletes : Prop :=
  (∀ (req : Req) (s : State), s.sys.hubOn = true → reservedDie req.toNat = false → req.toNat ≠ reqDbg →
    ∃ t, exec (.timNownsRead req) s = .next t ∧ t.out = s.out ++ [.regRead req.toNat (oTim + 0x10) (BitVec.ofNat 32 (timeNs s.now))] ∧
      (∀ d, findSnap t.tim.snaps req.toNat d = s.now) ∧ t.regs = s.regs) ∧
  (∀ (s : State) (x : Nat), s.sys.hubOn = true → s.tim.pend = some (true, (x : Int)) →
    ∃ t, exec .timeStep s = .next t ∧ t.now = x ∧ t.tim.pend = none) ∧
  (∀ (req : Req) (s : State), s.sys.hubOn = true → reservedDie req.toNat = false → s.lockState = 0 → s.firstLock = false →
    ∃ t, exec (.timSetgo req 1) s = .next t ∧ t.regs = s.regs ∧
      t.tim.pend = some (true, ((timeOf ((s.reg (oTim + 0x24)).toNat + 2 ^ 32 * s.fld (oTim + 0x28) 15 0) (s.reg (oTim + 0x20)).toNat 0 : Nat) : Int))) ∧
  (∀ (req : Req) (s : State), State.regsWf s = true → s.sys.hubOn = true → reservedDie req.toNat = false → s.lockState ≠ 3 → s.bit oTim 29 = false →
    ∃ t, exec (.rearm req (s.reg oTim ||| 0x10000000)) s = .next t ∧ t.firstLock = false ∧ t.lockState = s.lockState ∧ t.reg oTim = s.reg oTim) ∧
  (∀ (req : Req) (s : State), State.regsWf s = true → s.sys.hubOn = true → reservedDie req.toNat = false → s.lockState = 3 → s.bit oTim 29 = false → s.bit oTim 28 = false →
    ∃ t, exec (.forceho req (s.reg oTim ||| 0x20000000)) s = .next t ∧ t.lockState = 4 ∧ t.bit oTim 29 = true) ∧
  (∀ (req : Req) (n : Nat) (s : State), State.regsWf s = true → s.sys.hubOn = true → reservedDie req.toNat = false → s.bit oSymCfg 31 = false → 1 ≤ n → n ≤ 32 →
    (1000000000 * s.fld (oTim + 0x140) 15 0) % (s.symSum n * s.fld (oTim + 0x140) 31 16) = 0 →
    ∃ t, exec (.symcfgEnable req (BitVec.ofNat 32 (2 ^ 31 + n))) s = .next t ∧ t.bit oSymCfg 31 = true ∧ t.fld oSymCfg 5 0 = n ∧
      t.tim.symN = 0 ∧ t.tim.adv = 0)

/-- R235 to R240: measurements of the sources, and what disqualifies and qualifies them. -/
def Obligations.TimeSourcesComplete : Prop :=
  (∀ (ns : Word) (fr : BitVec 16) (s : State), s.sys.hubOn = true → ns.toNat < 1000000000 → s.srcEn 0 = true →
    SMap.get (fun _ => none) s.tim.preds 0 = none →
    ∃ t, exec (.ppsInEdge ns fr) s = .next t ∧ t.tim.edge = some (s.edgeTime ns.toNat fr.toNat) ∧
      SMap.get (fun _ => none) t.tim.preds 0 = some ((nearSecond (s.edgeTime ns.toNat fr.toNat) * unitsPerSec : Nat) -
        (s.edgeTime ns.toNat fr.toNat : Int) + (if s.firstLock then 0 else s.tim.todOff * (unitsPerSec : Nat)) + s.srcComp 0)) ∧
  (∀ (x : TodSentence) (n k : Nat) (s : State), State.regsWf s = true → s.srcEn 0 = true → x.framingError = false → n < 256 → k < 4 →
    readTod x.chars = some (.offset n k) →
    ∃ t, exec (.todSentence x) s = .next t ∧ t.fld (oTim + 0x30) 15 0 = n ∧ t.fld (oTim + 0x30) 17 16 = k ∧ { t with regs := s.regs } = s) ∧
  (∀ (req : Req) (i : Fin 2) (hi : Word) (x : Snap) (s : State), s.sys.hubOn = true → reservedDie req.toNat = false →
    (s.pairsOf oTim).held.find? (fun y => y.req == req.toNat && y.off == 0xE8 + 0x10 * i.val) = some x → s.srcEn (1 + i.val) = true →
    SMap.get (fun _ => none) s.tim.preds (1 + i.val) = none → (toSigned 64 (x.val.toNat + 2 ^ 32 * hi.toNat)).natAbs ≤ unitsPerSec →
    ∃ t, exec (.ptpMeasurement req i hi) s = .next t ∧
      SMap.get (fun _ => none) t.tim.preds (1 + i.val) = some (-(toSigned 64 (x.val.toNat + 2 ^ 32 * hi.toNat)) + s.srcComp (1 + i.val))) ∧
  (∀ (i : Fin 2) (ql : BitVec 4) (s : State), State.regsWf s = true → s.srcEn (3 + i.val) = true →
    qlRank (s.bit oTim 26) ql.toNat ≤ qlRank (s.bit oTim 26) (s.fld (oSrcCfg (3 + i.val)) 11 8) →
    ∃ t, exec (.esmcPdu i ql) s = .next t ∧ t.fld (oSrcSt (3 + i.val)) 23 20 = ql.toNat ∧
      (s.srcState (3 + i.val) = 3 → t.srcState (3 + i.val) = 1)) ∧
  (∀ (i : Fin 6) (r : Fin 8) (s : State), State.regsWf s = true → s.srcEn i.val = true → s.srcState i.val = 2 →
    ∃ t, exec (.sourceTimeout i r) s = .next t ∧ t.srcState i.val = 3 ∧ t.fld (oSrcSt i.val) 27 24 = r.val) ∧
  (∀ (i : Fin 6) (s : State), State.regsWf s = true → s.srcEn i.val = true → s.srcState i.val = 1 →
    ∃ t, exec (.sourceQualified i) s = .next t ∧ t.srcState i.val = 2 ∧ t.fld (oSrcSt i.val) 27 24 = 0) ∧
  (∀ (i : Fin 2) (s : State), State.regsWf s = true → s.srcEn (3 + i.val) = true → s.srcState (3 + i.val) = 2 →
    ∃ t, exec (.synceOffsetOutOfRange i) s = .next t ∧ t.srcState (3 + i.val) = 3 ∧ t.fld (oSrcSt (3 + i.val)) 27 24 = 6)

/-- R239, R242, R246, R247: the states of lock, holdover and learning. -/
def Obligations.LockStatesComplete : Prop :=
  (∀ s : State, State.regsWf s = true → s.bit oTimStat 26 = false → ∃ t, exec .ocxoFail s = .next t ∧ t.bit oTimStat 26 = true ∧
    (s.losable 5 = true → t.srcState 5 = 3 ∧ t.fld (oSrcSt 5) 27 24 = 1) ∧ (s.losable 5 = false → t.tim = s.tim)) ∧
  (∀ s : State, State.regsWf s = true → ∃ t, exec .ocxoRecover s = .next t ∧ t.bit oTimStat 26 = false ∧ (s.srcState 5 = 3 → t.srcState 5 = 1) ∧
    t.tim = s.tim) ∧
  (∀ s : State, State.regsWf s = true → s.lockState = 2 →
    ∃ t, exec .lockAchieved s = .next t ∧ t.lockState = 3 ∧ t.firstLock = true ∧ t.tim = { s.tim with lockedSec := 0 }) ∧
  (∀ s : State, State.regsWf s = true → s.lockState = 3 →
    ∃ t, exec .lockLost s = .next t ∧ t.lockState = 2 ∧ t.firstLock = s.firstLock ∧
      t.tim = { s.tim with lockedSec := 0, integ := s.tim.ffo * 2 ^ 32 }) ∧
  (∀ s : State, State.regsWf s = true → s.lockState = 4 → 60 * s.fld (oTim + 0x104) 19 0 < (s.reg (oTim + 0x10C)).toNat →
    ∃ t, exec .holdoverExpiry s = .next t ∧ t.lockState = 5 ∧ t.tim = { s.tim with lockedSec := 0 }) ∧
  (∀ (c : Int) (s : State), State.regsWf s = true → s.lockState = 4 → s.fld oTimStat 7 4 ≠ 3 → s.fld oTimStat 7 4 ≠ 4 → s.modelValid = false →
    ∃ t, exec (.holdoverUpdate c) s = .next t ∧ t.tim.ffo = clampInt ffoMax s.tim.fe ∧
      t.fld (oTim + 0x10C) 31 0 = min 0xFFFFFFFF (s.fld (oTim + 0x10C) 31 0 + 1)) ∧
  (∀ (lo : Word) (hi : BitVec 16) (s : State), State.regsWf s = true → s.bit oTim 31 = true → s.lockState = 3 → 3600 ≤ s.tim.lockedSec →
    s.fld (oTim + 0x100) 15 8 ≤ s.tim.sampleSec → -32768 ≤ s.tim.temp → s.tim.temp < 32768 →
    ∃ t, exec (.learnSample lo hi) s = .next t ∧ t.tim.sampleSec = 0 ∧
      (s.bit oHoStat 30 = false → t.tim.samples = s.tim.samples ++ [(s.tim.temp, s.meanOver (s.fld (oTim + 0x100) 15 8), s.ageAt (lo.toNat + 2 ^ 32 * hi.toNat))]) ∧
      toSigned 16 (t.fld (oTim + 0x12C) 31 16) = (if s.rangeKnown then min s.tim.temp (toSigned 16 (s.fld (oTim + 0x12C) 31 16)) else s.tim.temp) ∧
      toSigned 16 (t.fld (oTim + 0x12C) 15 0) = (if s.rangeKnown then max s.tim.temp (toSigned 16 (s.fld (oTim + 0x12C) 15 0)) else s.tim.temp))

/-- R254 to R259: the calendar, its alarm, its key, and the copy of the model. -/
def Obligations.CalendarCompletes : Prop :=
  (∀ (req : Req) (hi : Word) (x : Snap) (s : State), State.regsWf s = true → s.sys.hubOn = true → reservedDie req.toNat = false → s.nvInh = false →
    (s.pairsOf oRtc).held.find? (fun y => y.req == req.toNat && y.off == 0x20) = some x →
    ∃ t, exec (.rtcSet req hi) s = .next t ∧ t.rtc.secs = (x.val.toNat + 2 ^ 32 * hi.toNat) % 2 ^ 48 ∧ t.rtc.sub = 0 ∧ t.rtc.ph = 0 ∧ t.bit oRtcStat 31 = true) ∧
  (∀ s : State, State.regsWf s = true → s.lockState = 3 → s.bit oRtc 29 = true → s.nvInh = false →
    ∃ t, exec .rtcAlign s = .next t ∧ t.rtc = { s.rtc with secs := timeSec s.now, sub := 0, ph := 0 } ∧ t.bit oRtcStat 31 = true) ∧
  (∀ (n : Int) (s : State), State.regsWf s = true → s.lockState = 3 → s.bit oRtc 30 = true → s.nvInh = false →
    ∃ t, exec (.rtcTrimMeasure n) s = .next t ∧ toSigned 8 (t.fld (oRtc + 0x28) 7 0) = clampInt 127 (-(rneQ (n - 33554432) 32))) ∧
  (∀ (req : Req) (s : State), s.sys.hubOn = true → reservedDie req.toNat = false → req.toNat ≠ reqDbg →
    ∃ t, exec (.rtcSubRead req) s = .next t ∧ t.out = s.out ++ [.regRead req.toNat (oRtc + 0x10) (BitVec.ofNat 32 s.rtcSub)] ∧
      (∀ d, findSnap t.rtc.snaps req.toNat d = s.rtc.secs) ∧ t.regs = s.regs) ∧
  (∀ s : State, State.regsWf s = true → s.alarmDue = true → ∃ t, exec .alarmMatch s = .next t ∧ t.bit oRtcStat 28 = true ∧ { t with regs := s.regs } = s) ∧
  (∀ s : State, State.regsWf s = true → s.bit oRtcStat 29 = true → ∃ t, exec .rtcOscStop s = .next t ∧ t.bit oRtcStat 29 = false ∧ t.rtc = s.rtc) ∧
  (∀ (req : Req) (s : State), State.regsWf s = true → s.sys.hubOn = true → reservedDie req.toNat = false → s.nvInh = false → s.bit oRtcStat 27 = false →
    ∃ t, exec (.commit req 0x3C000001) s = .next t ∧ t.rtc = { s.rtc with key := keyBytes s.rtc.stage, stage := [] } ∧ t.bit oRtcStat 27 = true) ∧
  (∀ (req : Req) (s : State), State.regsWf s = true → s.sys.hubOn = true → reservedDie req.toNat = false →
    ∃ t, exec (.zero req 0x3C000002) s = .next t ∧ t.rtc = { s.rtc with key := List.replicate 32 0, stage := [] } ∧ t.bit oRtcStat 27 = false) ∧
  (∀ (i : Fin 8) (s : State), SMap.wf (fun _ => (0 : Word)) s.rtc.stage = true →
    ∃ t, exec (.keyWordExpiry i) s = .next t ∧
      (∀ j, SMap.get (fun _ => 0) t.rtc.stage j = if j = i.val then 0 else SMap.get (fun _ => 0) s.rtc.stage j) ∧ t.rtc.key = s.rtc.key) ∧
  (∀ s : State, State.regsWf s = true → s.modelValid = true →
    ∃ t, exec .modelBackup s = .next t ∧ (∀ i, i < 10 → t.reg (oRtc + 0x80 + 4 * i) = s.reg (oTim + modelRegs.getD i 0)) ∧
      t.reg (oRtc + 0xA8) = BitVec.ofNat 32 (s.fld oHoStat 15 0) ∧ { t with regs := s.regs } = s)

/-! ## Converters, lanes and ports (ch. 10, 11) -/

/-- R262 to R264, R273, R274: discovery, loss, calibration and channel faults of a converter die. -/
def Obligations.ConvertersComplete : Prop :=
  (∀ (n : Conv) (w : Word) (s : State), State.regsWf s = true → s.cnvSearching n.val = true → identityOk w = true →
    s.tcActive n.val = true → s.nightState ≠ 3 →
    ∃ t, exec (.identityRecord n w) s = .next t ∧ t.fld (oDstat n.val) 31 29 = 1 ∧
      t.reg (oChavail n.val) = BitVec.ofNat 32 (2 ^ 32 - 1 - s.cnvFailed n.val) ∧ t.reg (oCnv n.val) = w ∧
      { t with regs := s.regs } = s) ∧
  (∀ (n : Conv) (s : State), State.regsWf s = true → s.cnvSearching n.val = true → s.fld (oDstat n.val) 27 26 < 3 →
    ∃ t, exec (.discoveryAttemptTmo n) s = .next t ∧ t.fld (oDstat n.val) 31 29 = 0 ∧ t.fld (oDstat n.val) 27 26 = s.fld (oDstat n.val) 27 26 + 1) ∧
  (∀ (n : Conv) (s : State), State.regsWf s = true → s.cnvSearching n.val = true → s.fld (oDstat n.val) 27 26 = 3 →
    ∃ t, exec (.discoveryAttemptTmo n) s = .next t ∧ t.fld (oDstat n.val) 31 29 = 2 ∧ t.pwr (oPwrCnv n.val) = 4) ∧
  (∀ (n : Conv) (s : State), State.regsWf s = true → s.fld (oDstat n.val) 31 29 = 1 → s.isOn (oPwrCnv n.val) = true → s.tcUp n.val = true →
    ∃ t, exec (.converterLost n) s = .next t ∧ t.fld (oDstat n.val) 31 29 = 4 ∧ t.pwr (oPwrCnv n.val) = 3 ∧ t.fld (oPwrCnv n.val) 23 20 = 4) ∧
  (∀ (n : Conv) (s : State), State.regsWf s = true → s.isOn (oPwrCnv n.val) = true → s.fld (oDstat n.val) 25 24 = 1 →
    ∃ t, exec (.calibrationDone n 0xFFFFFFFF) s = .next t ∧ t.fld (oDstat n.val) 25 24 = 2 ∧ t.reg (oChavail n.val) = 0xFFFFFFFF ∧
      t.cnvFailed n.val = 0 ∧ { t with regs := s.regs, net := { t.net with cnvBad := s.net.cnvBad } } = s) ∧
  (∀ (req : Req) (n : Conv) (s : State), State.regsWf s = true → s.sys.hubOn = true → reservedDie req.toNat = false → s.isOn (oPwrTile n.val) = true → s.isOn (oPwrCnv n.val) = true →
    s.cnvBusy n.val = false →
    ∃ t, exec (.cnvCalctlRun req n 1) s = .next t ∧ t.fld (oDstat n.val) 25 24 = 1 ∧ { t with regs := s.regs } = s) ∧
  (∀ (n : Conv) (tx : Bool) (c : Fin 16) (s : State), State.regsWf s = true → s.isOn (oPwrCnv n.val) = true → s.chanAvail n.val tx c.val = true →
    ∃ t, exec (.backgroundCal n tx c false) s = .next t ∧ t.chanAvail n.val tx c.val = false) ∧
  (∀ (n : Conv) (tx : Bool) (c : Fin 16) (s : State), s.isOn (oPwrCnv n.val) = true → exec (.backgroundCal n tx c true) s = .next s) ∧
  (∀ (n : Conv) (tx : Bool) (c : Fin 16) (s : State), State.regsWf s = true → s.isOn (oPwrCnv n.val) = true → s.chanAvail n.val tx c.val = true →
    ∃ t, exec (.channelFault n tx c) s = .next t ∧ t.chanAvail n.val tx c.val = false)

/-- A lane takes the record `x`; no other lane changes. -/
def Stated.LaneBecomes (s t : State) (l : SLane) (x : LaneSt) : Prop := t.lane l.val = x ∧ ∀ k, k ≠ l.val → t.lane k = s.lane k

/-- R277, R279, R292: the states of a serial lane, and the sides of the chain port. -/
def Obligations.SerialLanesComplete : Prop :=
  (∀ (l : SLane) (s : State), (s.lane l.val).st = 1 →
    ∃ t, exec (.cdrLock l) s = .next t ∧ Stated.LaneBecomes s t l { s.lane l.val with st := 2 }) ∧
  (∀ (l : SLane) (f : BitVec 8) (s : State), (s.lane l.val).st = 2 → s.adaptFld l.val 23 16 ≤ f.toNat →
    ∃ t, exec (.blockLock l f) s = .next t ∧ Stated.LaneBecomes s t l { st := 3, fom := f.toNat, b := 1, fails := 0 }) ∧
  (∀ (l : SLane) (c : TrainFail) (s : State), (s.lane l.val).st = 2 →
    ∃ t, exec (.trainingTmo l c) s = .next t ∧
      Stated.LaneBecomes s t l { s.lane l.val with st := 4, fails := (s.lane l.val).fails + 1,
                                                   b := if (s.lane l.val).fails = 0 then 1 else min 1000 (2 * (s.lane l.val).b) }) ∧
  (∀ (l : SLane) (s : State), (s.lane l.val).st = 4 →
    ∃ t, exec (.backoffExpiry l) s = .next t ∧ Stated.LaneBecomes s t l { s.lane l.val with st := 1 }) ∧
  (∀ (l : SLane) (s : State), (s.lane l.val).st = 3 →
    ∃ t, exec (.signalLost l) s = .next t ∧ Stated.LaneBecomes s t l { s.lane l.val with st := 1 }) ∧
  (∀ (l : SLane) (s : State), (s.lane l.val).st = 3 →
    ∃ t, exec (.blockLockLost l) s = .next t ∧ Stated.LaneBecomes s t l { s.lane l.val with st := 1 }) ∧
  (∀ (l : SLane) (f : BitVec 8) (s : State), (s.lane l.val).st = 3 → f.toNat < s.adaptFld l.val 23 16 →
    ∃ t, exec (.fomLow l f) s = .next t ∧ Stated.LaneBecomes s t l { s.lane l.val with fom := f.toNat }) ∧
  (∀ s : State, s.ser.upUp = true →
    ∃ t, exec (.chainSideDown false) s = .next t ∧ t.ser.upUp = false ∧ t.ser.downUp = s.ser.downUp ∧
      ∀ i, i < 4 → (s.lane (48 + i)).st = 3 → (t.lane (48 + i)).st = 1) ∧
  (∀ s : State, s.ser.downUp = true →
    ∃ t, exec (.chainSideDown true) s = .next t ∧ t.ser.downUp = false ∧ t.ser.upUp = s.ser.upUp ∧
      ∀ i, i < 4 → (s.lane (52 + i)).st = 3 → (t.lane (52 + i)).st = 1) ∧
  (∀ (req : Req) (s : State), State.regsWf s = true → s.sys.hubOn = true → reservedDie req.toNat = false → s.bootMode ≠ 0 →
    ∃ t, exec (.chctlWrite req 3) s = .next t ∧ t.fld oChctl 1 0 = 3 ∧
      ∀ i, i < 8 → (t.lane (48 + i)).st = (if (s.lane (48 + i)).st = 0 then 1 else (s.lane (48 + i)).st))

/-- R281, R283, R285, R287, R290, R291: ports, received frames, the slots they go to, posts, transmission and its stamps. -/
def Obligations.EthernetPortsComplete : Prop :=
  (∀ (req : Req) (l : Lane) (v : Word) (s : State), State.regsWf s = true → s.sys.hubOn = true → reservedDie req.toNat = false → s.isOn (oPwrTile (l.val / 12)) = true →
    s.portEn l.val = false → bitsOf v 31 31 = 1 → bitsOf v 30 28 ≤ 3 → 64 ≤ bitsOf v 15 0 → bitsOf v 15 0 ≤ 9600 →
    s.portEnableCode l.val v = none →
    ∃ t, exec (.portEnable req l v) s = .next t ∧ t.portEn l.val = true ∧ t.fld (oPcfg l.val) 30 28 = bitsOf v 30 28 ∧
      t.fld (oPcfg l.val) 27 22 = bitsOf v 27 22 ∧ t.fld (oPcfg l.val) 15 0 = bitsOf v 15 0 ∧ { t with regs := s.regs } = s) ∧
  (∀ (req : Req) (l : Lane) (s : State), State.regsWf s = true → SMap.wf (fun _ => ({} : PortSt)) s.ser.ports = true → s.sys.hubOn = true → reservedDie req.toNat = false →
    s.isOn (oPwrTile (l.val / 12)) = true → s.portEn l.val = true → s.portOf l.val = some l.val → s.fld (oPcfg l.val) 30 28 ≤ 3 →
    64 ≤ s.fld (oPcfg l.val) 15 0 → s.fld (oPcfg l.val) 15 0 ≤ 9600 →
    ∃ t, exec (.portDisable req l (s.reg (oPcfg l.val) &&& 0x7FFFFFFF)) s = .next t ∧ t.portEn l.val = false ∧ t.reg (oPstatSer l.val) = 0 ∧
      (∀ k, (t.port l.val).queue k = []) ∧ (t.port l.val).stamps = (s.port l.val).stamps) ∧
  (∀ (l : Lane) (f : RxFrame) (s : State), State.regsWf s = true → s.portEn l.val = true → s.link l.val = true → (∀ k ∈ s.lpModes l.val, k = 0) → f.pcsError = false →
    64 ≤ f.bytes.length → f.bytes.length ≤ s.fld (oPcfg l.val) 15 0 →
    ofBytesLE (f.bytes.drop (f.bytes.length - 4)) = crc32 (f.bytes.take (f.bytes.length - 4)) →
    s.rxHeld l.val none + f.bytes.length ≤ 65536 * portWidth (s.reg (oPcfg l.val)).toNat → s.bit (oCls (l.val / 12)) 31 = false →
    ∃ t, exec (.rxFrame l f) s = .next t ∧
      (t.cls (l.val / 12)).q = (s.cls (l.val / 12)).q ++
        [⟨l.val, stampAdd (timeOf f.sec.toNat f.ns.toNat f.frac.toNat) (s.fld (oSer l.val + 0x108) 15 0), f.bytes.take (f.bytes.length - 4)⟩] ∧
      t.fld (oSer l.val + 0x130) 31 0 = min 0xFFFFFFFF (s.fld (oSer l.val + 0x130) 31 0 + 1)) ∧
  (∀ (l : Lane) (f : RxFrame) (s : State), State.regsWf s = true → s.portEn l.val = true → s.link l.val = true → (∀ k ∈ s.lpModes l.val, k = 0) → f.pcsError = true →
    ∃ t, exec (.rxFrame l f) s = .next t ∧ t.fld (oSer l.val + 0x138) 31 0 = min 0xFFFFFFFF (s.fld (oSer l.val + 0x138) 31 0 + 1) ∧
      { t with regs := s.regs } = s) ∧
  (∀ (l : Lane) (f : RxFrame) (s : State), (∀ k ∈ s.lpModes l.val, k = 3) → (s.lane l.val).st = 3 →
    exec (.rxFrame l f) s = .next { s with out := s.out ++ [.frameOut l.val f.bytes] }) ∧
  (∀ (c : Tile) (x : ClsCur) (s : State), State.regsWf s = true → SMap.wf (fun _ => ({} : ClsSt)) s.ser.cls = true → (s.cls c.val).cur = some x →
    x.landed = true → x.tmpl = none → (s.cls c.val).q = [] → x.ring < 16 →
    ∃ t, exec (.clsSlotLanded c) s = .next t ∧ (t.cls c.val).cur = none ∧
      t.fld (oRing c.val x.ring + 12) 15 0 = (SMap.get (fun _ => 0) (s.cls c.val).seqs x.ring + 1) % 65536 ∧
      t.out = s.out ++ (if x.mgmt then [.mgmtIrq mgmtLineRing] else [])) ∧
  (∀ (l : Lane) (p : BitVec 8) (s : State), State.regsWf s = true → s.portEn l.val = true → s.link l.val = true →
    ∃ t, exec (.pauseFrame l p) s = .next t ∧ t.fld (oPstatSer l.val) 7 0 = p.toNat ∧
      t.fld (oSer l.val + 0x148) 31 16 = min 65535 (s.fld (oSer l.val + 0x148) 31 16 + 1) ∧ { t with regs := s.regs } = s) ∧
  (∀ (req : Req) (l : Lane) (d : Quad) (s : State), s.sys.hubOn = true → reservedDie req.toNat = false → s.isOn (oPwrTile (l.val / 12)) = true → s.portEn l.val = true →
    60 ≤ bitsOf d 63 48 → bitsOf d 63 48 ≤ 9596 → bitsOf d 79 67 = 0 → bitsOf d 127 112 = 0 → (s.port l.val).queue (bitsOf d 66 64) = [] →
    s.bit (oPstatSer l.val) (bitsOf d 66 64) = false → (s.port l.val).buffered + bitsOf d 63 48 ≤ 32768 →
    ∃ t, exec (.serTxpost req l true d) s = .next t ∧
      (t.port l.val).queue (bitsOf d 66 64) =
        [({ id := (s.port l.val).nextId, addr := bitsOf d 47 0, len := bitsOf d 63 48, prio := bitsOf d 66 64, tsmode := 0, pack := false,
            tsoff := bitsOf d 95 80, tsid := bitsOf d 111 96, reading := true } : TxFrame)] ∧
      ∃ tag, t.net.outst = s.net.outst ++
        [outReq (laneReq l.val) tag (bitsOf d 47 0 / 16 * 16) false (.laneFetch l.val (bitsOf d 66 64) (s.port l.val).nextId)]) ∧
  (∀ (l : Lane) (sec : BitVec 48) (ns : Word) (fr : BitVec 16) (k : Nat) (x : TxFrame) (rest : List TxFrame) (f : List Byte) (cl : Nat) (s : State),
    State.regsWf s = true → s.portEn l.val = true → s.link l.val = true → s.txQueue l.val = some k → (s.port l.val).queue k = x :: rest →
    x.frame = some (f, cl) → x.tsmode = 0 → (∀ k ∈ s.lpModes l.val, k = 0) → s.ice.errs = [] →
    ∃ t, exec (.txFrameSend l sec ns fr) s = .next t ∧ t.out = s.out ++ [.frameOut l.val (f ++ bytesLE 4 (crc32 f))] ∧
      t.fld (oSer l.val + 0x134) 31 0 = min 0xFFFFFFFF (s.fld (oSer l.val + 0x134) 31 0 + 1)) ∧
  (∀ (req : Req) (l : Lane) (id tm : Nat) (rest : List (Nat × Nat)) (s : State), State.regsWf s = true →
    SMap.wf (fun _ => ({} : PortSt)) s.ser.ports = true → s.sys.hubOn = true → reservedDie req.toNat = false → req.toNat ≠ reqDbg → s.isOn (oPwrTile (l.val / 12)) = true →
    s.notFirst l.val = false → (s.port l.val).stamps = (id, tm) :: rest →
    ∃ t, exec (.serTxtsRead req l) s = .next t ∧ t.out = s.out ++ [.regRead req.toNat (oSer l.val + 0x120) (BitVec.ofNat 32 (2 ^ 31 + id))] ∧
      (t.port l.val).stamps = rest ∧ t.reg (oSer l.val + 0x124) = BitVec.ofNat 32 (timeNs tm) ∧
      t.reg (oSer l.val + 0x128) = BitVec.ofNat 32 (timeSec tm))

/-! ## Die links (ch. 12) -/

/-- R296 to R308, R310: training, its failures, width checks, replays, acknowledgements, flagged lanes, narrowing, loss of the partner,
OOS, retrains and the measured delay. -/
def Obligations.DieLinksComplete : Prop :=
  (∀ (m : LMod) (r : LinkReport) (s : State), State.regsWf s = true → s.lnkDiesUp m.val = true → (s.lnkMod m.val).oosDue = false → s.nightState ≠ 3 →
    s.lstate m.val = 1 ∨ s.lstate m.val = 2 →
    ∃ t, exec (.trainingStateDone m r) s = .next t ∧ t.lstate m.val = s.lstate m.val + 1 ∧ { t with regs := s.regs } = s) ∧
  (∀ (m : LMod) (r : LinkReport) (s : State), State.regsWf s = true → s.lnkDiesUp m.val = true → (s.lnkMod m.val).oosDue = false → s.nightState ≠ 3 →
    s.lstate m.val = 3 →
    ∃ t, exec (.trainingStateDone m r) s = .next t ∧ t.lstate m.val = 4 ∧
      t.mapOf m.val true = usableMap (s.assignRepair m.val false r.passB) r.passB ∧
      t.mapOf m.val false = usableMap (s.assignRepair m.val true r.passA) r.passA) ∧
  (∀ (m : LMod) (r : LinkReport) (w g : Nat) (s : State), State.regsWf s = true → s.lnkDiesUp m.val = true → (s.lnkMod m.val).oosDue = false → s.nightState ≠ 3 →
    s.lstate m.val = 4 → agreedWidth (s.bothMaps m.val) = some (w, g) →
    ∃ t, exec (.trainingStateDone m r) s = .next t ∧ t.lstate m.val = 5 ∧ t.lwidth m.val = w ∧ t.lgroup m.val = g ∧ { t with regs := s.regs } = s) ∧
  (∀ (m : LMod) (r : LinkReport) (s : State), Inv s → s.lnkDiesUp m.val = true → (s.lnkMod m.val).oosDue = false → s.nightState ≠ 3 → s.lstate m.val = 6 →
    partnerOk r.partner = true → bitsOf r.partner 8 8 = 1 → (s.lnkMod m.val).held = [] →
    ∃ t, exec (.trainingStateDone m r) s = .next t ∧ t.lstate m.val = 7 ∧ t.bit (oLstat m.val) 22 = true ∧ t.bit oNocstat m.val = false) ∧
  (∀ (m : LMod) (s : State), State.regsWf s = true → isTc m.val = false → s.lnkDiesUp m.val = true → 1 ≤ s.lstate m.val → s.lstate m.val ≤ 6 →
    (s.lnkMod m.val).retraining = false → s.nightState ≠ 3 → s.fld (oLstat m.val) 17 16 < 3 →
    ∃ t, exec (.trainingStateTmo m) s = .next t ∧ t.lstate m.val = 1 ∧ t.fld (oLstat m.val) 17 16 = s.fld (oLstat m.val) 17 16 + 1) ∧
  (∀ (m : LMod) (s : State), State.regsWf s = true → isTc m.val = false → s.lnkDiesUp m.val = true → 1 ≤ s.lstate m.val → s.lstate m.val ≤ 6 →
    (s.lnkMod m.val).retraining = false → s.nightState ≠ 3 → s.fld (oLstat m.val) 17 16 = 3 →
    ∃ t, exec (.trainingStateTmo m) s = .next t ∧ t.lstate m.val = 10 ∧ t.bit (oLstat m.val) 21 = true) ∧
  (∀ (m : LMod) (s : State), State.regsWf s = true → s.lstate m.val = 5 → s.lsafe m.val = false → (s.lnkMod m.val).oosDue = false →
    ∃ t, exec (.widthCheckReport m true true) s = .next t ∧ t.lstate m.val = 6 ∧ { t with regs := s.regs } = s) ∧
  (∀ (m : LMod) (w g : Nat) (s : State), State.regsWf s = true → s.lstate m.val = 5 → s.lsafe m.val = false → s.fld (oLstat m.val) 15 14 < 3 →
    stepDown (s.bothMaps m.val) (s.lwidth m.val) (s.lgroup m.val) = some (w, g) →
    ∃ t, exec (.widthCheckTmo m) s = .next t ∧ exec (.widthCheckReport m true false) s = .next t ∧ t.lstate m.val = 5 ∧ t.lwidth m.val = w ∧
      t.lgroup m.val = g ∧ t.fld (oLstat m.val) 15 14 = s.fld (oLstat m.val) 15 14 + 1) ∧
  (∀ (m : LMod) (s : State), State.regsWf s = true → s.lstate m.val = 7 → (s.lnkMod m.val).narrow = none → (s.lnkMod m.val).repAB + 1 < 8 →
    (s.lnkMod m.val).win + 1 ≤ s.fld (oLthr m.val) 23 12 →
    ∃ t, exec (.replayRequest m .aToB .crc) s = .next t ∧ t.lstate m.val = 7 ∧
      t.lnkMod m.val = { s.lnkMod m.val with win := (s.lnkMod m.val).win + 1, repAB := (s.lnkMod m.val).repAB + 1 } ∧
      t.fld (oLnk m.val + 0x34) 31 0 = min 0xFFFFFFFF (s.fld (oLnk m.val + 0x34) 31 0 + 1) ∧
      t.fld (oLnk m.val + 0x38) 31 0 = min 0xFFFFFFFF (s.fld (oLnk m.val + 0x38) 31 0 + 1)) ∧
  (∀ (m : LMod) (c : ReplayCause) (s : State), State.regsWf s = true → s.lstate m.val = 7 → (s.lnkMod m.val).narrow = none →
    8 ≤ (s.lnkMod m.val).repBA + 1 → s.lsafe m.val = false →
    ∃ t, exec (.replayRequest m .bToA c) s = .next t ∧ t.lstate m.val = 8 ∧ t.fld (oLstat m.val) 11 8 = 2) ∧
  (∀ (m : LMod) (n : Nat) (s : State), Inv s →
    ∃ t, exec (.flitAck m .aToB n) s = .next t ∧
      t.lnkMod m.val = { s.lnkMod m.val with bufAB := (s.lnkMod m.val).bufAB - n, repAB := if n = 0 then (s.lnkMod m.val).repAB else 0 } ∧
      t.regs = s.regs) ∧
  (∀ (m : LMod) (lane : Fin 68) (i : Nat) (s : State), State.regsWf s = true → s.lstate m.val = 7 → (s.lnkMod m.val).narrow = none →
    s.carried m.val false lane.val = some i → laneInUse (s.lwidth m.val) (s.lgroup m.val) i = true → s.repairFree m.val false (i / 32) = true →
    ∃ t, exec (.laneFlagged m .aToB lane) s = .next t ∧ t.lstate m.val = 8 ∧ t.fld (oLstat m.val) 11 8 = 4 ∧
      t.reg (oLnk m.val + 0x40) = BitVec.ofNat 32 (2 ^ 31 + lane.val)) ∧
  (∀ (m : LMod) (w g lane : Nat) (ba : Bool) (s : State), Inv s → (s.lnkMod m.val).narrow = some (w, g, ba, lane) → isTc m.val = false → w ≤ 2 → g ≤ 3 →
    (s.lnkMod m.val).held = [] →
    ∃ t, exec (.narrowDone m) s = .next t ∧ t.lwidth m.val = w ∧ t.lgroup m.val = g ∧ (t.lnkMod m.val).narrow = none ∧
      t.bit (oLstat m.val) 21 = true) ∧
  (∀ (m : LMod) (s : State), State.regsWf s = true → 2 ≤ s.lstate m.val → s.lstate m.val ≤ 8 →
    ∃ t, exec (.partnerSilent m) s = .next t ∧ t.lstate m.val = (if s.lnkDiesUp m.val then 1 else 0) ∧ t.mapOf m.val false = 0 ∧ t.mapOf m.val true = 0) ∧
  (∀ (req : Req) (m : LMod) (s : State), State.regsWf s = true → s.sys.hubOn = true → reservedDie req.toNat = false → s.lstate m.val = 7 → s.lastWay m.val = false →
    isTc m.val = false → s.bit (oLnk m.val) 0 = false →
    ∃ t, exec (.lnkOos req m 0x6B000001) s = .next t ∧ t.lstate m.val = 11 ∧ t.bit (oLnk m.val) 0 = true) ∧
  (∀ (req : Req) (m : LMod) (s : State), State.regsWf s = true → s.sys.hubOn = true → reservedDie req.toNat = false → s.lstate m.val = 7 → (s.lnkMod m.val).narrow = none →
    ∃ t, exec (.lnkRetrain req m 0x6B000002) s = .next t ∧ t.lstate m.val = 8 ∧ t.fld (oLstat m.val) 11 8 = 1) ∧
  (∀ (m : LMod) (ps : BitVec 24) (s : State), State.regsWf s = true → s.lstate m.val = 7 →
    ∃ t, exec (.delayMeasured m ps) s = .next t ∧ (t.lnkMod m.val).pulses = true ∧
      t.reg (oLnk m.val + 0x30) =
        BitVec.ofNat 32 (((ps.toNat : Int) + SMap.get (fun _ => 0) s.fuses.asym m.val).toNat % 2 ^ 24))

/-! ## DRAM (ch. 13) -/

/-- A channel that is ON and out of self-refresh, with working devices. -/
abbrev Stated.MemActive (s : State) (k : Nat) : Prop := s.memOn k = true ∧ s.srState k = 0 ∧ s.memFailed k = false ∧ (s.chan k).alert = false

/-- The response to a read with the bytes `d`. -/
abbrev Stated.readAnswer (p : Pkt) (d : List Byte) : Rsp :=
  ⟨2, BitVec.ofNat 4 (if d.length ≤ 16 then 0 else d.length / 32), false, p.src, p.tag, 0, false, d⟩

/-- What the channel reads at a line, with the errors of the read. -/
abbrev Stated.lineFound (s : State) (k line : Nat) (flips : List (BitVec 64 × BitVec 16)) : Found :=
  decodeLine (s.tagged k) (applyFlips (s.rawLine line) flips)

/-- R314, R315, R318, R321, R322, R324, R325, R327 to R332, R345: training, MR4, oscillators, a read issued and its data, refreshes, the
hammer window, a held request, self-refresh, revalidation, ALERT_N, and the scrubber. -/
def Obligations.DramChannelsComplete : Prop :=
  (∀ (k : Chan) (s : State), State.regsWf s = true → s.fld (oTrain k.val) 31 29 = 1 → s.pwr (oPwrMem k.val) = 1 → s.nightState ≠ 3 → s.fld (oTrain k.val) 27 24 < 9 →
    ∃ t, exec (.trainingStepDone k true) s = .next t ∧ { t with regs := s.regs } = s ∧ t.fld (oTrain k.val) 27 24 =
      if s.fld (oTrain k.val) 27 24 = 1 ∧ s.bit (oMem k.val) 28 = false then 3 else s.fld (oTrain k.val) 27 24 + 1) ∧
  (∀ (k : Chan) (s : State), State.regsWf s = true → s.fld (oTrain k.val) 31 29 = 1 → s.pwr (oPwrMem k.val) = 1 → s.nightState ≠ 3 → s.fld (oTrain k.val) 27 24 = 9 →
    ∃ t, exec (.trainingStepDone k true) s = .next t ∧ t.fld (oTrain k.val) 31 29 = 2 ∧ t.memFailed k.val = false ∧ (t.chan k.val).trained = true ∧
      (t.chan k.val).cells = (s.chan k.val).cells) ∧
  (∀ (k : Chan) (s : State), State.regsWf s = true → s.fld (oTrain k.val) 31 29 = 1 → s.pwr (oPwrMem k.val) = 1 → s.nightState ≠ 3 → (s.chan k.val).second = false →
    ∃ t, exec (.trainingStepTmo k) s = .next t ∧ exec (.trainingStepDone k false) s = .next t ∧ t.fld (oTrain k.val) 27 24 = 1 ∧
      (t.chan k.val).second = true ∧ t.fld (oTrain k.val) 15 0 = min 65535 (s.fld (oTrain k.val) 15 0 + 1)) ∧
  (∀ (k : Chan) (s : State), State.regsWf s = true → s.fld (oTrain k.val) 31 29 = 1 → s.pwr (oPwrMem k.val) = 1 → s.nightState ≠ 3 → (s.chan k.val).second = true →
    ∃ t, exec (.trainingStepTmo k) s = .next t ∧ t.fld (oTrain k.val) 31 29 = 3 ∧ t.pwr (oPwrMem k.val) = 4) ∧
  (∀ (k : Chan) (c : BitVec 5) (hot : Bool) (s : State), State.regsWf s = true → Stated.MemActive s k.val →
    ∃ t, exec (.mr4Poll k c hot) s = .next t ∧ t.fld (oMem k.val + 0x38) 4 0 = c.toNat ∧ t.bit (oMem k.val + 0x38) 31 = hot ∧ t.mem = s.mem) ∧
  (∀ (k : Chan) (d : Int) (s : State), Stated.MemActive s k.val →
    ∃ t, exec (.dqsOscCheck k d) s = .next t ∧ t.chan k.val = { s.chan k.val with drift := some d } ∧ t.regs = s.regs) ∧
  (∀ (k : Chan) (e : RdEnt) (s : State), State.regsWf s = true → Stated.MemActive s k.val → (s.chan k.val).rq = [e] → e.issued = false →
    (s.chan k.val).wq = [] → (s.chan k.val).nr = [] → (∀ r, (s.chan k.val).owedOf r ≤ 4) → (s.chan k.val).thr = [] → s.rangeAt e.line = none →
    ∃ t, exec (.dramCommandIssue k) s = .next t ∧ (t.chan k.val).rq = [{ e with issued := true }] ∧
      (t.chan k.val).flight = (s.chan k.val).flight ++ [(false, e.seq)] ∧ (t.chan k.val).cells = (s.chan k.val).cells) ∧
  (∀ (k : Chan) (s : State), Inv s → Stated.MemActive s k.val → (s.chan k.val).rq = [] → (s.chan k.val).wq = [] → (s.chan k.val).nr = [] →
    (∀ r, (s.chan k.val).owedOf r ≤ 4) → 0 < (s.chan k.val).owedOf 0 → SMap.wf (fun _ => (0 : Nat)) (s.chan k.val).owed = true →
    ∃ t, exec (.dramCommandIssue k) s = .next t ∧ (t.chan k.val).owedOf 0 = (s.chan k.val).owedOf 0 - 1 ∧
      (t.chan k.val).cells = (s.chan k.val).cells) ∧
  (∀ (k : Chan) (n : Nat) (fl : List (Bool × Nat)) (e : RdEnt) (r : MemReq) (s : State), Inv s → (s.chan k.val).flight = (false, n) :: fl →
    (s.chan k.val).rq.find? (fun x => x.seq == n) = some e → e.retry = false → s.rangeAt e.line = none →
    (Stated.lineFound s k.val e.line []).bad = 0 → (Stated.lineFound s k.val e.line []).corr = [] → (Stated.lineFound s k.val e.line []).poison = false →
    (s.chan k.val).reqs.find? (fun x => x.id == e.req) = some r → r.left = 1 → r.parts = [] → r.poison = false → r.err = false → r.write = false →
    ∃ t, exec (.dramReadData k []) s = .next t ∧ (t.chan k.val).flight = fl ∧ t.regs = s.regs ∧
      t.net.msgs = s.net.msgs ++ [.rdrsp (Stated.readAnswer r.pkt
        ((((layOver e.laid ((lineBytes (Stated.lineFound s k.val e.line []).gr).map some)).map (fun o => o.getD 0)).drop (pktAddr r.pkt % 128)).take
          (pktBytes r.pkt)))]) ∧
  (∀ (k : Chan) (r : Fin 2) (s : State), s.memOn k.val = true → s.srState k.val ≤ 1 → r.val < s.ranks k.val →
    ∃ t, exec (.refreshDue k r) s = .next t ∧ (t.chan k.val).owedOf r.val = (s.chan k.val).owedOf r.val + 1 ∧ t.regs = s.regs) ∧
  (∀ (k : Chan) (s : State), Inv s →
    ∃ t, exec (.hammerWindowEnd k) s = .next t ∧ t.chan k.val = { s.chan k.val with acts := [], thr := [] } ∧ t.regs = s.regs) ∧
  (∀ (k : Chan) (j : Fin 16) (p : Pkt) (l : Nat) (rest : List (Bool × Pkt)) (s : State), Inv s → Stated.MemActive s k.val →
    (s.chan k.val).heldBy j.val = (false, p) :: rest → 2 ≤ (s.chan k.val).tokens j.val → pktLines p = [l] → s.rangeAt l = none → s.metaAt l = none →
    (s.chan k.val).rq.length < 64 → (s.chan k.val).wq = [] → SMap.wf (fun _ => ([] : List (Bool × Pkt))) (s.chan k.val).held = true →
    SMap.wf (fun _ => (0 : Int)) (s.chan k.val).tok = true →
    ∃ t, exec (.regulatorRelease k j) s = .next t ∧ (t.chan k.val).heldBy j.val = rest ∧
      (t.chan k.val).tokens j.val = (s.chan k.val).tokens j.val - 2 ∧
      (t.chan k.val).rq = (s.chan k.val).rq ++
        [({ seq := (s.chan k.val).seq + 1, req := (s.chan k.val).seq, line := l, laid := noBytes, at_ := s.now } : RdEnt)]) ∧
  (∀ (k : Chan) (s : State), State.regsWf s = true → Stated.MemActive s k.val → s.fld (oMem k.val + 0x14) 31 16 ≠ 0 → s.memIdle k.val = true →
    ∃ t, exec (.selfRefreshIdle k) s = .next t ∧ t.srState k.val = 1 ∧ { t with regs := s.regs } = s) ∧
  (∀ (k : Chan) (s : State), State.regsWf s = true → s.memOn k.val = true → s.srState k.val = 2 → s.memIdle k.val = false →
    ∃ t, exec (.selfRefreshExit k) s = .next t ∧ t.srState k.val = 3 ∧ { t with regs := s.regs } = s) ∧
  (∀ (k : Chan) (pass : Bool) (s : State), Inv s → s.srState k.val = 4 → (s.chan k.val).retrain = false →
    ∃ t, exec (.revalidationDone k false pass) s = .next t ∧ t.srState k.val = 0 ∧
      t.chan k.val = { s.chan k.val with retrain := false, reissue := false, reissues := 0, owed := [] }) ∧
  (∀ (k : Chan) (drifted : Bool) (s : State), Inv s → s.srState k.val = 4 → (s.chan k.val).retrain = true →
    ∃ t, exec (.revalidationDone k drifted false) s = .next t ∧ t.srState k.val = 0 ∧ t.memFailed k.val = true ∧ (t.chan k.val).reqs = [] ∧
      (t.chan k.val).rq = [] ∧ (t.chan k.val).wq = []) ∧
  (∀ (k : Chan) (s : State), State.regsWf s = true → Stated.MemActive s k.val → s.bit (oMem k.val) 28 = true → (s.chan k.val).reissue = false →
    ∃ t, exec (.alertN k) s = .next t ∧ t.chan k.val = { s.chan k.val with alert := true, reissues := 0 } ∧
      t.fld (oMem k.val + 0x3C) 31 0 = min 0xFFFFFFFF (s.fld (oMem k.val + 0x3C) 31 0 + 1)) ∧
  (∀ (k : Chan) (s : State), (s.chan k.val).alert = true →
    ∃ t, exec (.alertNRelease k) s = .next t ∧ t.chan k.val = { s.chan k.val with alert := false, reissue := true } ∧ t.regs = s.regs) ∧
  (∀ (k : Chan) (a : Nat) (flips : List (BitVec 64 × BitVec 16)) (s : State), State.regsWf s = true → Stated.MemActive s k.val →
    s.bit (oIce + 0x300) 31 = true → s.chooseCmd k.val = none → (s.chan k.val).pos = none → (s.chan k.val).wq = [] →
    s.scrubNext k.val 0 s.scrubWins = some a → (s.scrubNext k.val (a / 128 * 128 + 128) s.scrubWins).isSome = true →
    (Stated.lineFound s k.val (a / 128 * 128) (flips.take 16)).bad = 0 → (Stated.lineFound s k.val (a / 128 * 128) (flips.take 16)).corr = [] →
    ∃ t, exec (.patrolScrubRead k flips) s = .next t ∧ (t.chan k.val).pos = some (a / 128 * 128 + 128) ∧
      t.reg (oScrpos k.val) = BitVec.ofNat 32 (a / 128 * 128) ∧ (t.chan k.val).cells = (s.chan k.val).cells)

/-! ## Protected ranges and mailboxes (ch. 14, 15) -/

/-- The table of ranges stands in its canonical form. -/
abbrev Stated.RangesWf (s : State) : Prop := SMap.wf (fun _ => ({} : RangeSt)) s.ice.ranges = true

/-- R349 to R351, R355, R358, R359: the random source; a range goes through INIT to ACTIVE, is rotated under a new key, re-encrypts a page,
fetches a counter block, and ends. A fresh key and a word of ICE_RNG are free values. -/
def Obligations.ProtectedRangesComplete : Prop :=
  (∀ s : State, State.regsWf s = true → s.sys.hubOn = true →
    ∃ t, exec .rngReady s = .next t ∧ t.bit (oIce + 8) 31 = true ∧ { t with regs := s.regs } = s) ∧
  (∀ s : State, State.regsWf s = true → s.sys.hubOn = true →
    ∃ t, exec .rngHealthFail s = .next t ∧ t.bit (oIce + 8) 31 = false ∧ t.bit (oIce + 8) 30 = true ∧
      t.fld (oIce + 8) 15 0 = min 65535 (s.fld (oIce + 8) 15 0 + 1)) ∧
  (∀ (req : Req) (s : State), s.sys.hubOn = true → reservedDie req.toNat = false → s.bit (oIce + 8) 31 = true → req.toNat ≠ reqDbg →
    exec (.iceRngRead req) s = .next { s with freeCtr := s.freeCtr + 1,
                                              out := s.out ++ [.regRead req.toNat (oIce + 0xC) ((Config.free s.freeCtr).setWidth 32)] }) ∧
  (∀ (req : Req) (r : Rng) (v : Word) (s : State), State.regsWf s = true → s.sys.hubOn = true → reservedDie req.toNat = false → bitsOf v 31 31 = 1 → s.rngEn r.val = false →
    s.prCheck r.val = none →
    ∃ t, exec (.prEnable req r v) s = .next t ∧ t.rngEn r.val = true ∧ t.rngState r.val = 1 ∧ t.range r.val = { key := s.drawKey.1 } ∧
      t.fld (oPrstat r.val) 2 0 = (s.rngLevels r.val).length) ∧
  (∀ (r : Rng) (s : State), State.regsWf s = true → Stated.RangesWf s → s.rngState r.val = 1 →
    ∃ t, exec (.prInitDone r) s = .next t ∧ t.rngState r.val = 2 ∧ t.range r.val = { s.range r.val with root := {} } ∧
      ∀ lvl n, lvl < 8 → n < 2 ^ 32 → t.cached r.val lvl n = none) ∧
  (∀ (req : Req) (r : Rng) (s : State), State.regsWf s = true → Stated.RangesWf s → s.sys.hubOn = true → reservedDie req.toNat = false → s.rngEn r.val = true →
    s.rngState r.val = 2 →
    ∃ t, exec (.prDisable req r 0) s = .next t ∧ t.rngEn r.val = false ∧ t.rngState r.val = 0 ∧ t.range r.val = {}) ∧
  (∀ (req : Req) (r : Rng) (s : State), State.regsWf s = true → Stated.RangesWf s → s.sys.hubOn = true → reservedDie req.toNat = false → s.rngState r.val = 2 →
    ∃ t, exec (.rotate req r 0x96000001) s = .next t ∧ t.rngState r.val = 4 ∧ t.range r.val = { s.range r.val with fromRo := false }) ∧
  (∀ (r : Rng) (s : State), State.regsWf s = true → Stated.RangesWf s → s.rngState r.val = 4 →
    ∃ t, exec (.rotationDone r) s = .next t ∧ t.rngState r.val = 2 ∧ t.bit (oPrstat r.val) 28 = false ∧ (t.range r.val).key = s.drawKey.1) ∧
  (∀ (r : Rng) (page : Nat) (b : CtrBlk) (s : State), Stated.RangesWf s → (s.range r.val).busy.contains page = true → s.cached r.val 0 page = some b →
    ∃ t, exec (.reencryptDone r page) s = .next t ∧ t.cached r.val 0 page = some { major := b.major + 1, minors := [], dirty := true } ∧
      (t.range r.val).busy = (s.range r.val).busy.filter (fun p => p != page)) ∧
  (∀ (r : Rng) (lvl : Fin 6) (n : Nat) (b : CtrBlk) (s : State), 2 ≤ s.rngState r.val → s.atTop r.val lvl.val = true →
    n < (s.rngLevels r.val).getD lvl.val 0 → s.ice.cache = [] → s.damaged r.val (n * 32 ^ lvl.val) = false →
    (decodeLine true (s.rawLine (s.blkAddr r.val lvl.val n))).bad = 0 → (decodeLine true (s.rawLine (s.blkAddr r.val lvl.val n))).poison = false →
    (decodeLine true (s.rawLine (s.blkAddr r.val lvl.val n))).corr = [] →
    openCtr (s.range r.val).key (s.range r.val).root.major ((s.range r.val).root.minor n) n lvl.val
      (decodeLine true (s.rawLine (s.blkAddr r.val lvl.val n))).gr = some b →
    exec (.counterBlockFetch r lvl n) s = .next (s.setCached r.val lvl.val n b))

/-- Side B of a mailbox, or side A. -/
def Stated.sideB : Side → Bool
  | .a => false
  | .b => true

/-- R365, R366, R368 to R371: a post, a read of a word, a doorbell and its signal, a mask, and a crossing. -/
def Obligations.MailboxesComplete : Prop :=
  (∀ (req : Req) (n : Sys2Proof.Mbx) (x : Side) (v : Word) (s : State), s.sys.hubOn = true → reservedDie req.toNat = false → (s.mbxParty n.val (Stated.sideB x)).holds req.toNat = true →
    s.mbxDown n.val (!Stated.sideB x) = false → (s.mbxQ n.val (!Stated.sideB x)).length < 16 →
    ∃ t, exec (.mbxTxd req n x v) s = .next t ∧ { t with mbx := s.mbx } = s ∧
      t.mbxQ n.val (!Stated.sideB x) = s.mbxQ n.val (!Stated.sideB x) ++ [(v, s.mbxInc n.val (Stated.sideB x))] ∧
      t.mbxQ n.val (Stated.sideB x) = s.mbxQ n.val (Stated.sideB x)) ∧
  (∀ (req : Req) (n : Sys2Proof.Mbx) (x : Side) (v : Word) (i : Nat) (q : List (Word × Nat)) (s : State), Inv s → s.sys.hubOn = true → reservedDie req.toNat = false →
    req.toNat ≠ reqDbg → (s.mbxParty n.val (Stated.sideB x)).holds req.toNat = true → s.mbxQ n.val (Stated.sideB x) = (v, i) :: q →
    ∃ t, exec (.mbxRxd req n x) s = .next t ∧ t.mbxQ n.val (Stated.sideB x) = q ∧
      t.out = s.out ++ [.regRead req.toNat (oSide n.val (Stated.sideB x) + 8) v] ∧ t.bit (oSide n.val (Stated.sideB x) + 0xC) 31 = true ∧
      t.fld (oSide n.val (Stated.sideB x) + 0xC) 27 24 = i % 16 ∧ t.fld (oSide n.val (Stated.sideB x) + 0xC) 20 16 = q.length % 32) ∧
  (∀ (req : Req) (n : Sys2Proof.Mbx) (x : Side) (v : Word) (s : State), State.regsWf s = true → s.sys.hubOn = true → reservedDie req.toNat = false →
    (s.mbxParty n.val (Stated.sideB x)).holds req.toNat = true → s.mbxDown n.val (!Stated.sideB x) = false → bitsOf v 31 30 = 0 →
    s.bit (oSide n.val (!Stated.sideB x) + 0x24) 31 = false →
    ∃ t, exec (.mbxDbset req n x v) s = .next t ∧ { t with regs := s.regs } = s ∧
      t.reg (oSide n.val (!Stated.sideB x) + 0x14) = s.reg (oSide n.val (!Stated.sideB x) + 0x14) ||| v) ∧
  (∀ (req : Req) (n : Sys2Proof.Mbx) (x : Side) (v : Word) (s : State), State.regsWf s = true → s.sys.hubOn = true → reservedDie req.toNat = false →
    (s.mbxParty n.val (Stated.sideB x)).holds req.toNat = true → s.mbxDown n.val (!Stated.sideB x) = false → bitsOf v 31 30 = 0 →
    s.bit (oSide n.val (!Stated.sideB x) + 0x24) 31 = true → s.mbxParty n.val (!Stated.sideB x) = .mgmt → s.mbxRings n.val (!Stated.sideB x) = false →
    v &&& s.reg (oSide n.val (!Stated.sideB x) + 0x20) ≠ 0 →
    ∃ t, exec (.mbxDbset req n x v) s = .next t ∧ t.out = s.out ++ [.mgmtIrq n.val] ∧
      t.reg (oSide n.val (!Stated.sideB x) + 0x14) = s.reg (oSide n.val (!Stated.sideB x) + 0x14) ||| v) ∧
  (∀ (req : Req) (n : Sys2Proof.Mbx) (x : Side) (v : Word) (s : State), State.regsWf s = true → s.sys.hubOn = true → reservedDie req.toNat = false →
    (s.mbxParty n.val (Stated.sideB x)).holds req.toNat = true → s.bit (oSide n.val (Stated.sideB x) + 0x24) 31 = false →
    ∃ t, exec (.mbxDbmask req n x v) s = .next t ∧ { t with regs := s.regs } = s ∧ t.reg (oSide n.val (Stated.sideB x) + 0x20) = v) ∧
  (∀ (n : Sys2Proof.Mbx) (s : State), State.regsWf s = true → s.mbxQ n.val false ≠ [] → s.mbxQ n.val true ≠ [] → s.bit (oMbx n.val + 8) 31 = false →
    s.bit (oSide n.val false + 0x24) 31 = false → s.bit (oSide n.val true + 0x24) 31 = false →
    ∃ t, exec (.crossing n) s = .next t ∧ t.bit (oMbx n.val + 8) 31 = true ∧ t.fld (oMbx n.val + 8) 15 0 = min 65535 (s.fld (oMbx n.val + 8) 15 0 + 1) ∧
      t.bit (oSide n.val false + 0x14) 31 = true ∧ t.bit (oSide n.val true + 0x14) 31 = true ∧ t.mbx = s.mbx)

/-! ## Management (ch. 16) -/

/-- R377 to R384: lockstep, the watchdog, sensors, rails, and the budgets of the dies. -/
def Obligations.SupervisionComplete : Prop :=
  (∀ s : State, Inv s → s.sys.hubOn = true →
    ∃ t, exec .lockstepMismatch s = .next t ∧ t.fld oBoot 31 30 = 0 ∧ t.fld oBoot 7 0 = min 255 (s.fld oBoot 7 0 + 1) ∧ t.bit oMcfg 31 = false ∧
      t.mgm.sram = [] ∧ ∀ p ∈ s.mbxOf Party.isMgmt, t.mbxQ p.1 p.2 = []) ∧
  (∀ s : State, s.sys.hubOn = true →
    exec (.mgmWdkick (BitVec.ofNat 16 reqMgmt) 0xA55A) s = .next { s with mgm := { s.mgm with wd := s.fld (oMgm + 0xC) 15 0 } }) ∧
  (∀ s : State, Inv s → s.sys.hubOn = true → s.bit (oMgm + 0xC) 31 = true → s.mgm.wd = 0 → s.bit oMcfg 31 = false → s.wdHeld = false →
    ∃ t, exec .mgmWdogExpiry s = .next t ∧ t.mgm.wdogBoot = true ∧ t.bit oRstCause 3 = true ∧ t.fuses = s.fuses) ∧
  (∀ (i : Fin 44) (x : Int) (s : State), State.regsWf s = true → s.dieOn (sensorDie i.val) = true → -880 ≤ x → x ≤ 2400 →
    (s.sensorRead i.val x).dieTrips (sensorDie i.val) = false →
    ∃ t, exec (.sensorConversion i x) s = .next t ∧ t.reg (oTemp i.val) = BitVec.ofNat 32 (2 ^ 31 + ofSigned 16 x) ∧
      t.mgm.sFail = s.mgm.sFail.filter (· ≠ i.val)) ∧
  (∀ (i : Fin 44) (s : State), State.regsWf s = true → s.dieOn (sensorDie i.val) = true →
    ∃ t, exec (.sensorFail i) s = .next t ∧ t.bit (oTemp i.val) 31 = false ∧ t.bit oAlarm 7 = true ∧ i.val ∈ t.mgm.sFail) ∧
  (∀ (i : Fin 24) (v : BitVec 16) (s : State), State.regsWf s = true → s.sys.hubOn = true → i.val < 12 →
    ∃ t, exec (.railMonitorRead true i v) s = .next t ∧ t.reg (oMgm + 0x480 + 4 * i.val) = BitVec.ofNat 32 v.toNat ∧ { t with regs := s.regs } = s) ∧
  (∀ (i : Fin 24) (v : BitVec 16) (s : State), State.regsWf s = true → s.sys.hubOn = true →
    s.fld (oMgm + 0x400 + 4 * i.val) 15 0 ≤ v.toNat → v.toNat ≤ s.fld (oMgm + 0x400 + 4 * i.val) 31 16 →
    ∃ t, exec (.railMonitorRead false i v) s = .next t ∧ t.fld (oMgm + 0x380 + 4 * i.val) 15 0 = v.toNat ∧
      t.bit (oMgm + 0x380 + 4 * i.val) 31 = false ∧ t.mgm.vOut = s.mgm.vOut.filter (· ≠ i.val)) ∧
  (∀ (d : PDie) (a p : BitVec 12) (s : State), State.regsWf s = true → s.dieOn d.val = true →
    ∃ t, exec (.powerReport d a p) s = .next t ∧ t.fld (oBudget d.val + 8) 27 16 = p.toNat ∧ t.fld (oBudget d.val + 8) 11 0 = a.toNat) ∧
  (∀ (d : PDie) (s : State), s.dieOn d.val = true →
    ∃ t, exec (.powerReportTmo d) s = .next t ∧ t.lpc d.val = { s.lpc d.val with silent := true }) ∧
  (∀ s : State, State.regsWf s = true → s.sys.hubOn = true →
    ∃ t, exec .budgetReallot s = .next t ∧ ∀ d, d < 9 →
      (t.lpc d).msg = some (t.fld (oBudget d) 11 0) ∧ t.fld (oBudget d) 11 0 =
        if s.bit (oMgm + 0x504) 31 then
          allot (s.powerCap d) (s.powerFloor d) (s.fld (oMgm + 0x500) 11 0 - s.sumFloor) (s.excess d) ((List.range 9).map s.excess).sum
        else s.fld (oBudget d) 11 0) ∧
  (∀ (d : PDie) (b : Nat) (s : State), (s.lpc d.val).msg = some b → s.dieOn d.val = true →
    ∃ t, exec (.budgetMessage d) s = .next t ∧ t.lpc d.val = { s.lpc d.val with budget := some b, msg := none } ∧ t.regs = s.regs) ∧
  (∀ (d : PDie) (s : State), s.dieOn d.val = true →
    ∃ t, exec (.budgetMessageTmo d) s = .next t ∧ t.lpc d.val = { s.lpc d.val with budget := some (s.powerFloor d.val) } ∧ t.regs = s.regs) ∧
  (∀ (d : PDie) (p : BitVec 12) (s : State), d.val < 4 → s.dieOn d.val = true → s.lpcBudget d.val < p.toNat →
    ∃ t, exec (.lpcAverage d p) s = .next t ∧ t.lpc d.val = { s.lpc d.val with lvl := min 6 ((s.lpc d.val).lvl + 1), low := 0 })

/-- A command of the flash interface with GO: the operation begins (R388, R392). -/
def Stated.FlashBegins (i : Req → Word → Instr) (op : Nat) : Prop :=
  ∀ (v : Word) (s : State), State.regsWf s = true → s.sys.hubOn = true → s.bit oFlStat 31 = false → bitsOf v 31 31 = 1 → bitsOf v 30 28 = op →
    (op ≤ 1 → 1 ≤ bitsOf v 8 0 ∧ bitsOf v 8 0 ≤ 256 ∧ s.fld (oMgm + 0x84) 25 0 % 256 + bitsOf v 8 0 ≤ 256) →
    (1 ≤ op ∧ op ≤ 3 → s.nvInh = false ∧ s.flashProtected op (s.fld (oMgm + 0x84) 25 0) (bitsOf v 8 0) = false) →
    ∃ t, exec (i (BitVec.ofNat 16 reqMgmt) v) s = .next t ∧ t.mgm = { s.mgm with flOp := some ⟨op, s.fld (oMgm + 0x84) 25 0, bitsOf v 8 0⟩ } ∧
      t.bit oFlStat 31 = true ∧ t.out = s.out ++ [.flash v (s.reg (oMgm + 0x84)) []]

/-- R385 to R390, R392: records are accepted and programmed into the log; the log is scanned; the operations of the flash. -/
def Obligations.RecordsAndFlashComplete : Prop :=
  (∀ (q : Req) (r : Rec) (s : State), State.regsWf s = true → s.sys.hubOn = true → s.rec_.pend.find? (fun x => x.src == q.toNat) = some r →
    ∃ t, exec (.errorRecord q) s = .next t ∧ t.rec_.pend = s.rec_.pend.filter (fun x => x.src ≠ q.toNat) ∧
      t.fld (oMgm + 0x40) 9 0 = (s.fld (oMgm + 0x40) 9 0 + 1) % 1024 ∧ t.out = s.out ++ [.mgmtIrq mgmtLineRecord] ∧
      ∀ i, i < 8 → t.reg (oRec (s.fld (oMgm + 0x40) 9 0) + 4 * i) = (recordWords r s.now).getD i 0) ∧
  (∀ (ws : List Word) (rest : List (List Word)) (s : State), Inv s → s.rec_.logQ = ws :: rest → s.mgm.scanned = true → s.nvInh = false →
    s.mgm.flOp = none → s.fld oLogStat 22 16 < 126 →
    ∃ t, exec .logRecordProgram s = .next t ∧ t.rec_.logQ = rest ∧ t.fld oLogStat 22 16 = s.fld oLogStat 22 16 + 1 ∧
      ∀ i, i < 4 * ws.length →
        t.flashByte (logSector (s.fld oLogStat 31 24) + 32 * (s.fld oLogStat 22 16 + 1) + i) =
          s.flashByte (logSector (s.fld oLogStat 31 24) + 32 * (s.fld oLogStat 22 16 + 1) + i) &&& (ws.flatMap (fun w => bytesLE 4 w.toNat)).getD i 0) ∧
  (∀ (i q : Nat) (s : State), State.regsWf s = true → s.sys.hubOn = true → s.mgm.scanned = false → s.currentSector = some (i, q) →
    ∃ t, exec .logScan s = .next t ∧ t.mgm.scanned = true ∧ t.mgm.logSeq = q ∧ t.fld oLogStat 31 24 = i % 256 ∧ t.mgm.flash = s.mgm.flash) ∧
  Stated.FlashBegins .flashRead 0 ∧ Stated.FlashBegins .pageProgram 1 ∧ Stated.FlashBegins .erase4KiB 2 ∧ Stated.FlashBegins .erase64KiB 3 ∧
  Stated.FlashBegins .readSfdp 4 ∧ Stated.FlashBegins .readStatus 5 ∧
  (∀ (a n : Nat) (d : List Byte) (s : State), State.regsWf s = true → s.mgm.flOp = some ⟨0, a, n⟩ → n ≤ 256 →
    ∃ t, exec (.flashOpDone d false) s = .next t ∧ t.mgm = { s.mgm with flOp := none } ∧ t.bit oFlStat 31 = false ∧ t.fld oFlStat 30 28 = 0 ∧
      t.getData (oMgm + 0x1000) n = s.flashBytes a n) ∧
  (∀ (a n : Nat) (d : List Byte) (s : State), State.regsWf s = true → s.mgm.flOp = some ⟨2, a, n⟩ →
    ∃ t, exec (.flashOpDone d false) s = .next t ∧ t.mgm.flOp = none ∧ t.bit oFlStat 31 = false ∧ t.fld oFlStat 30 28 = 0 ∧
      ∀ b, t.flashByte b = if a / 4096 = b / 4096 then 0xFF else s.flashByte b) ∧
  (∀ (f : FlashOp) (s : State), State.regsWf s = true → s.mgm.flOp = some f →
    ∃ t, exec .flashTmo s = .next t ∧ t.mgm.flOp = none ∧ t.bit oFlStat 31 = false ∧ t.fld oFlStat 30 28 = 1)

/-- A PMBus command with GO: the transaction begins (R395). -/
def Stated.PmbBegins (i : Req → Word → Instr) (ty : Nat) : Prop :=
  ∀ (v : Word) (s : State), State.regsWf s = true → s.sys.hubOn = true → s.bit oPmbStat 31 = false → bitsOf v 31 31 = 1 → bitsOf v 29 28 = ty →
    bitsOf v 5 0 ≤ 32 →
    ∃ t, exec (i (BitVec.ofNat 16 reqMgmt) v) s = .next t ∧ t.mgm = { s.mgm with pmb := some v } ∧ t.bit oPmbStat 31 = true ∧
      t.out = s.out ++ [.pmbus v (if ty = 0 then s.getData (oMgm + 0x110) (bitsOf v 5 0) else [])]

/-- R391, R393 to R395: the ROM boots a confirmed bank, or serves recovery; recovery runs a body; fuses; the PMBus engine. -/
def Obligations.BootAndBusesComplete : Prop :=
  (∀ s : State, State.regsWf s = true → s.sys.hubOn = true → s.bit oMcfg 31 = false → s.fld oBoot 31 30 = 0 → s.bootOrder = [] →
    ∃ t, exec .romBoot s = .next t ∧ t.fld oBoot 31 30 = 2 ∧ t.fuses = s.fuses ∧ t.mgm.flash = s.mgm.flash) ∧
  (∀ (b : Nat) (l : List Nat) (s : State), State.regsWf s = true → s.sys.hubOn = true → s.bit oMcfg 31 = false → s.fld oBoot 31 30 = 0 →
    s.bootOrder = b :: l → fwConfirmed (s.bankHeader b) = true →
    sha384 (s.flashBytes (b * 0x100000 + 0x200) (hdrNum (s.bankHeader b) 0x008 4)) = ofBytesBE (((s.bankHeader b).drop 0x020).take 48) →
    ∃ t, exec .romBoot s = .next t ∧ t.fld oBoot 31 30 = 1 ∧ t.fld oBoot 29 29 = b % 2 ∧ t.bit oBoot 28 = false ∧
      t.mgm.sram = s.flashBytes (b * 0x100000 + 0x200) (hdrNum (s.bankHeader b) 0x008 4) ∧ t.mgm.runSvn = hdrNum (s.bankHeader b) 0x00C 4 ∧
      t.mgm.flash = s.mgm.flash) ∧
  (∀ s : State, State.regsWf s = true → s.sys.hubOn = true → s.fld oBoot 31 30 = 2 → s.fwReason (s.recovBytes 0 512) (524288 - 512) = 0 →
    sha384 (s.recovBytes 0x200 (hdrNum (s.recovBytes 0 512) 0x008 4)) = ofBytesBE (((s.recovBytes 0 512).drop 0x020).take 48) →
    ∃ t, exec (.runrec (BitVec.ofNat 16 reqMgmt) 0xD7000001) s = .next t ∧ t.fld oBoot 31 30 = 1 ∧
      t.mgm.sram = s.recovBytes 0x200 (hdrNum (s.recovBytes 0 512) 0x008 4)) ∧
  (∀ s : State, s.sys.hubOn = true → s.nvInh = false → s.fuses.imgCount < 63 → s.fuses.imgCount + 1 ≤ s.fld (oCfg + 0x24) 31 24 →
    exec (.fuseBlow (BitVec.ofNat 16 reqMgmt) 0xE1000000) s = .next { s with fuses := { s.fuses with imgCount := s.fuses.imgCount + 1 } }) ∧
  (∀ s : State, s.sys.hubOn = true → s.nvInh = false → s.fuses.fwCount < 63 → s.fuses.fwCount + 1 ≤ s.mgm.runSvn →
    exec (.fuseBlow (BitVec.ofNat 16 reqMgmt) 0xE1000100) s = .next { s with fuses := { s.fuses with fwCount := s.fuses.fwCount + 1 } }) ∧
  (∀ (k : Fin 4) (s : State), s.sys.hubOn = true → s.nvInh = false → s.fuses.revoked.testBit k.val = false →
    (k.val = s.mgm.runSlot → s.fld oBoot 31 30 ≠ 1) →
    exec (.fuseBlow (BitVec.ofNat 16 reqMgmt) (BitVec.ofNat 32 (0xE1000200 + k.val))) s =
      .next { s with fuses := { s.fuses with revoked := s.fuses.revoked ||| 2 ^ k.val } }) ∧
  Stated.PmbBegins .pmbWrite 0 ∧ Stated.PmbBegins .pmbRead 1 ∧ Stated.PmbBegins .blockRead 2 ∧ Stated.PmbBegins .sendByte 3 ∧
  (∀ (v : Word) (d : List Byte) (s : State), State.regsWf s = true → s.mgm.pmb = some v → bitsOf v 29 28 = 1 → bitsOf v 5 0 ≤ 32 →
    d.length = bitsOf v 5 0 →
    ∃ t, exec (.pmbDone .done d) s = .next t ∧ t.mgm = { s.mgm with pmb := none } ∧ t.bit oPmbStat 31 = false ∧ t.fld oPmbStat 30 28 = 0 ∧
      t.fld oPmbStat 5 0 = d.length ∧ t.getData (oMgm + 0x110) d.length = d) ∧
  (∀ (v : Word) (s : State), State.regsWf s = true → s.mgm.pmb = some v →
    ∃ t, exec .pmbTmo s = .next t ∧ t.mgm = { s.mgm with pmb := none } ∧ t.bit oPmbStat 31 = false ∧ t.fld oPmbStat 30 28 = 3) ∧
  (∀ s : State, s.sys.hubOn = true → exec .pmbAlertN s = .next (s.log (mkRec 0x4000 0x0EF 0 1 0x4000)))

/-! ## Debug (ch. 17) -/

/-- GO of an access channel by the debugger, with the operation `op`. -/
abbrev Stated.AccessRuns (s : State) (ch : Fin 2) (v : Word) (op : Nat) : Prop :=
  State.regsWf s = true ∧ s.sys.hubOn = true ∧ (s.dbgChan ch.val).busy = false ∧ bitsOf v 31 31 = 1 ∧ bitsOf v 26 24 = op

/-- The word of DBG_AADDR, and the lowest data word. -/
abbrev Stated.accAddr (s : State) (ch : Fin 2) : Nat := (s.reg (oActl ch.val + 8)).toNat
abbrev Stated.accWord (s : State) (ch : Fin 2) : Word := s.reg (oActl ch.val + 0x10)

/-- The access of a channel has ended with a RESULT (R403). -/
abbrev Stated.Ended (t : State) (ch : Fin 2) (result : Nat) : Prop :=
  (t.dbgChan ch.val).busy = false ∧ t.reg (oActl ch.val + 4) = BitVec.ofNat 32 (result * 2 ^ 28)

/-- R397 to R404: the port, attaching, and the access channels: accesses to addresses, to the registers of a halted engine and of the halted
management cores, and their timeout. -/
def Obligations.DebugAccessesComplete : Prop :=
  (∀ (x : Word) (par : Bool) (s : State), s.bit 0x390 3 = true → s.sys.hubOn = true →
    exec (.debugTransaction 0x23 x par) s = .next { s with out := s.out ++ [.debugReply 1 s.sysId] }) ∧
  (∀ (x : Word) (s : State), State.regsWf s = true → s.bit 0x390 3 = true → s.sys.hubOn = true → s.fuses.dbgLock = false →
    ∃ t, exec (.debugTransaction 0x91 x (parityOf 32 x.toNat)) s = .next t ∧ t.reg (oDbg + 0x110) = x ∧ t.out = s.out ++ [.debugReply 1 0] ∧
      ∀ o, o ≠ oDbg + 0x110 → t.reg o = s.reg o) ∧
  (∀ s : State, exec .lineReset s = .next s) ∧
  (∀ s : State, State.regsWf s = true → s.bit 0x390 3 = true →
    ∃ t, exec .dbgCkTmo s = .next t ∧ t.bit oPstatDbg 30 = true ∧ { t with regs := s.regs } = s) ∧
  (∀ (v : Word) (s : State), State.regsWf s = true → s.sys.hubOn = true →
    ∃ t, exec (.attach (BitVec.ofNat 16 reqDbg) v) s = .next t ∧ t.fld oDbgCtl 31 28 = bitsOf v 31 28) ∧
  (∀ (ch : Fin 2) (v : Word) (s : State), Stated.AccessRuns s ch v 0 →
    ∃ t, exec (.dbgRead (BitVec.ofNat 16 reqDbg) ch v) s = .next t ∧ (t.dbgChan ch.val).busy = true ∧ t.reg (oActl ch.val + 4) = 0x80000000 ∧
      ∃ tag, t.net.outst = s.net.outst ++ [outReq reqDbg tag (s.fld (oActl ch.val + 8) 31 0 + 2 ^ 32 * s.fld (oActl ch.val + 0xC) 15 0) false (.debug ch.val)]) ∧
  (∀ (ch : Fin 2) (v : Word) (s : State), Stated.AccessRuns s ch v 1 →
    ∃ t, exec (.dbgWrite (BitVec.ofNat 16 reqDbg) ch v) s = .next t ∧ (t.dbgChan ch.val).busy = true ∧ t.reg (oActl ch.val + 4) = 0x80000000 ∧
      ∃ tag, t.net.outst = s.net.outst ++ [outReq reqDbg tag (s.fld (oActl ch.val + 8) 31 0 + 2 ^ 32 * s.fld (oActl ch.val + 0xC) 15 0) true (.debug ch.val)]) ∧
  (∀ (ch : Fin 2) (v : Word) (e : Eng) (s : State), Stated.AccessRuns s ch v 2 → Stated.accAddr s ch % 2048 = e.val →
    Stated.accAddr s ch / 2 ^ 23 % 16 = 0 → s.halted e.val = true →
    ∃ t, exec (.engineRegisterRead (BitVec.ofNat 16 reqDbg) ch v) s = .next t ∧ Stated.Ended t ch 0 ∧ t.eng = s.eng ∧
      Stated.accWord t ch = (bank s e).getS (Stated.accAddr s ch / 2 ^ 27 % 32)) ∧
  (∀ (ch : Fin 2) (v : Word) (e : Eng) (s : State), Inv s → Stated.AccessRuns s ch v 3 → Stated.accAddr s ch % 2048 = e.val →
    Stated.accAddr s ch / 2 ^ 23 % 16 = 0 → s.halted e.val = true → bankWf (bank s e) = true →
    ∃ t, exec (.engineRegisterWrite (BitVec.ofNat 16 reqDbg) ch v) s = .next t ∧ Stated.Ended t ch 0 ∧
      (∀ i, (bank t e).getS i = upd (bank s e).getS (Stated.accAddr s ch / 2 ^ 27 % 32) (Stated.accWord s ch) i) ∧
      (∀ f, f ≠ e.val → t.engSt f = s.engSt f)) ∧
  (∀ (ch : Fin 2) (v : Word) (s : State), Stated.AccessRuns s ch v 4 → s.bit oMcfg 31 = true → Stated.accAddr s ch ≤ 33 →
    ∃ t, exec (.managementRegisterRead (BitVec.ofNat 16 reqDbg) ch v) s = .next t ∧ Stated.Ended t ch 0 ∧ t.mgm = s.mgm ∧
      Stated.accWord t ch = s.coreReg (Stated.accAddr s ch)) ∧
  (∀ (ch : Fin 2) (v : Word) (s : State), Stated.AccessRuns s ch v 5 → s.bit oMcfg 31 = true → Stated.accAddr s ch ≤ 33 →
    ∃ t, exec (.managementRegisterWrite (BitVec.ofNat 16 reqDbg) ch v) s = .next t ∧ Stated.Ended t ch 0 ∧
      t.coreReg (Stated.accAddr s ch) = Stated.accWord s ch ∧ ∀ i, i ≠ Stated.accAddr s ch → t.coreReg i = s.coreReg i) ∧
  (∀ (ch : Fin 2) (s : State), State.regsWf s = true → (s.dbgChan ch.val).busy = true →
    ∃ t, exec (.accessTmo ch) s = .next t ∧ Stated.Ended t ch 4 ∧ ∀ o ∈ t.net.outst, o.kind ≠ .debug ch.val)

/-- R406, R407, R409 to R411: halts that are asked for and taken, resumes, steps, and the trigger channels. -/
def Obligations.RunControlCompletes : Prop :=
  (∀ (e : Eng) (s : State), State.regsWf s = true → s.sys.hubOn = true → s.isOn (oPwrEng e.val) = true → s.halted e.val = false →
    (eng s e).haltDue = 0 →
    ∃ t, exec (.haltreq (BitVec.ofNat 16 reqDbg) (.eng e) 1) s = .next t ∧ t.halted e.val = false ∧ eng t e = { eng s e with haltDue := 1 }) ∧
  (∀ s : State, State.regsWf s = true → s.sys.hubOn = true → s.bit oMcfg 31 = false → s.dbg.mHaltDue = 0 →
    ∃ t, exec (.haltreq (BitVec.ofNat 16 reqDbg) .mgmt 1) s = .next t ∧ t.bit oMcfg 31 = false ∧ t.dbg = { s.dbg with mHaltDue := 1 }) ∧
  (∀ (e : Eng) (s : State), Inv s → (eng s e).haltDue ≠ 0 → (eng s e).haltDue < 8 → s.halted e.val = false → s.isOn (oPwrEng e.val) = true →
    (s.heldTrap e.val).isNone = true → (eng s e).swapDue = false →
    ∃ t, exec (.engineHalt (.eng e)) s = .next t ∧ t.halted e.val = true ∧ t.fld (oEcfg e.val) 30 28 = (eng s e).haltDue ∧ (eng t e).haltDue = 0 ∧
      (eng t e).resv = none) ∧
  (∀ s : State, State.regsWf s = true → s.dbg.mHaltDue ≠ 0 → s.dbg.mHaltDue < 8 → s.bit oMcfg 31 = false →
    ∃ t, exec (.engineHalt .mgmt) s = .next t ∧ t.bit oMcfg 31 = true ∧ t.fld oMcfg 30 28 = s.dbg.mHaltDue ∧ t.dbg.mHaltDue = 0) ∧
  (∀ s : State, State.regsWf s = true → s.bit oMcfg 27 = true → s.bit oMcfg 31 = false → s.fld oBoot 31 30 ≠ 0 →
    ∃ t, exec .mgmBreakpoint s = .next t ∧ t.bit oMcfg 31 = true ∧ t.fld oMcfg 30 28 = 2) ∧
  (∀ (e : Eng) (s : State), Inv s → s.sys.hubOn = true → s.halted e.val = true →
    ∃ t, exec (.resume (BitVec.ofNat 16 reqDbg) (.eng e) 2) s = .next t ∧ t.halted e.val = false ∧
      (bank t e).wd = max (bank s e).wd (s.wdGrace * 1000) ∧ (eng t e).haltDue = 0) ∧
  (∀ s : State, State.regsWf s = true → s.sys.hubOn = true → s.bit oMcfg 31 = true →
    ∃ t, exec (.resume (BitVec.ofNat 16 reqDbg) .mgmt 2) s = .next t ∧ t.bit oMcfg 31 = false ∧ t.mgm = { s.mgm with wd := max s.mgm.wd s.wdGrace }) ∧
  (∀ (e : Eng) (s : State), State.regsWf s = true → s.sys.hubOn = true → s.halted e.val = true → (bank s e).busy = true →
    ∃ t, exec (.step (BitVec.ofNat 16 reqDbg) (.eng e) 4) s = .next t ∧ t.halted e.val = false ∧
      eng t e = { eng s e with stepping := true, haltDue := 0 }) ∧
  (∀ s : State, State.regsWf s = true → s.sys.hubOn = true → s.bit oMcfg 31 = true →
    ∃ t, exec (.step (BitVec.ofNat 16 reqDbg) .mgmt 4) s = .next t ∧ t.bit oMcfg 31 = false ∧ t.dbg = { s.dbg with mHaltDue := 4, mStepping := true }) ∧
  (∀ (v : Word) (s : State), State.regsWf s = true → s.sys.hubOn = true →
    ∃ t, exec (.dbgTrigset (BitVec.ofNat 16 reqDbg) v) s = .next t ∧ t.fld oTrigSt 7 0 = s.fld oTrigSt 7 0 ||| bitsOf v 7 0) ∧
  (∀ (c : Tile) (i : Fin 8) (s : State), State.regsWf s = true → s.isOn (oPwrTile c.val) = true → s.bit (oDbg + 0x80 + 4 * c.val) i.val = true →
    ∃ t, exec (.fabricTriggerIn c i) s = .next t ∧ t.fld oTrigSt 7 0 = s.fld oTrigSt 7 0 ||| 2 ^ i.val)

/-- R412: a write of DBG_GRESUME with the channels M resumes every halted target whose TRIGIN meets M, all in one step, leaves every other target as
it is, and clears the channels of M in DBG_TRIGST. -/
def Obligations.GroupResumeCompletes : Prop :=
  ∀ (v : Word) (s : State), Inv s → s.sys.hubOn = true →
    ∃ t, exec (.dbgGresume (BitVec.ofNat 16 reqDbg) v) s = .next t ∧
      (∀ e : Eng, t.halted e.val = (s.halted e.val && decide (s.fld (oEcfg e.val) 23 16 &&& bitsOf v 7 0 = 0))) ∧
      (∀ e : Eng, s.halted e.val = false ∨ s.fld (oEcfg e.val) 23 16 &&& bitsOf v 7 0 = 0 → eng t e = eng s e) ∧
      (∀ e : Eng, s.halted e.val = true → s.fld (oEcfg e.val) 23 16 &&& bitsOf v 7 0 ≠ 0 →
        (bank t e).wd = max (bank s e).wd (s.wdGrace * 1000) ∧ (bank t e).pc = (bank s e).pc) ∧
      t.bit oMcfg 31 = (s.bit oMcfg 31 && decide (s.fld oMcfg 23 16 &&& bitsOf v 7 0 = 0)) ∧
      t.fld oTrigSt 7 0 = s.fld oTrigSt 7 0 &&& (255 - bitsOf v 7 0)

/-! ## Rules stated whole -/

/-- R2: SYS_ID at offset 0 of the control region reads the part number, the fused grade, B and 0, whatever is written to it; a part of grade -3E
reads 0x102430B0. -/
def Obligations.SysIdReadsTheFusedGrade : Prop :=
  ∀ (req : Req) (v : Word) (s : State), State.regsWf s = true → s.sys.hubOn = true → reservedDie req.toNat = false →
    ∃ w t, exec (.pairLowRead req 0) s = .next { s with out := s.out ++ [.regRead req.toNat 0 w] } ∧
      bitsOf w 31 16 = 0x1024 ∧ bitsOf w 15 12 = (if s.fuses.grade3 then 3 else 2) ∧ bitsOf w 11 8 = 0 ∧ bitsOf w 7 4 = 0xB ∧ bitsOf w 3 0 = 0 ∧
      (s.fuses.grade3 = true → w = 0x102430B0) ∧
      exec (.registerWrite req 0 v) s = .next t ∧ (∀ o, t.reg o = s.reg o) ∧ { t with regs := s.regs } = s ∧
      exec (.pairLowRead req 0) t = .next { t with out := t.out ++ [.regRead req.toNat 0 w] }

/-- R52: after a frame of ZFR, SFR or WFR, FAR names the next minor, or minor 0 of the next column once the minor count is reached; tile, band and
class stay. A frame at an address that is not valid fails the load with 0x027 (R51). -/
def Obligations.FarAdvances : Prop :=
  (∀ a, faValid a = true → faMinor (faAdvance a) = (if faMinor a + 1 = minorCount (faClass a) then 0 else faMinor a + 1) ∧
    faCol (faAdvance a) = (if faMinor a + 1 = minorCount (faClass a) then faCol a + 1 else faCol a) ∧
    faTile (faAdvance a) = faTile a ∧ faBand (faAdvance a) = faBand a ∧ faClass (faAdvance a) = faClass a) ∧
  (∀ (h : List Byte) (a : Nat) (l : List Word) (s : State), Stated.Taking s h → s.cfg.words = 0x40000001 :: l → s.cfg.far = some a →
    s.addrCode h a = none → ∃ t, exec .zfr s = .next t ∧ t.cfg.far = some (faAdvance a)) ∧
  (∀ (h : List Byte) (a : Nat) (c : Word) (l : List Word) (s : State), Stated.Taking s h → s.cfg.words = 0x30000001 :: 0 :: 0 :: 0 :: c :: l →
    s.cfg.far = some a → s.addrCode h a = none → c.toNat = frameCrc 0 → ∃ t, exec .sfr s = .next t ∧ t.cfg.far = some (faAdvance a)) ∧
  (∀ (h : List Byte) (a : Nat) (p l : List Word) (s : State), Stated.Taking s h → s.cfg.words = 0x20000001 :: (p ++ l) → p.length = 97 →
    s.cfg.far = some a → s.addrCode h a = none → (p.getD 96 0).toNat = frameCrc (frameOf p).data →
    ∃ t, exec .wfr s = .next t ∧ t.cfg.far = some (faAdvance a)) ∧
  (∀ (h : List Byte) (a : Nat) (l : List Word) (s : State), State.regsWf s = true → Stated.Taking s h → hdrPartial h = false →
    s.cfg.words = 0x40000001 :: l → s.cfg.far = some a → faValid a = false →
    ∃ t, exec .zfr s = .next t ∧ t.cfgState = 4 ∧ t.fld oCfgStat 23 12 = 0x027 ∧ t.cfg.err = true)

/-- R199, R200: a packet laid out in flits is read back as the command of its TYPE, with every field it carries: a request to any destination, whose
TYPE is none of 2, 3, 5 and 6, and a response of any unit, whose word stands in its head flit when LEN is 0 and which has none when it acknowledges
a write or reports an error. -/
def Obligations.FlitsRoundTrip : Prop :=
  (∀ (p : Pkt) (d : BitVec 16), p.wf = true → p.body.length % 32 = 0 → p.typ.toNat ∉ [2, 3, 5, 6] →
    instrOfFlits (p.flits d) = some (if p.typ = 1 then .wr p else if p.typ = 4 then .rcon p else .rd p)) ∧
  (∀ (r : Rsp) (u : BitVec 16), r.typ = 2 ∨ r.typ = 3 →
    (if r.len = 0 then r.data.length = (if r.typ = 3 ∨ r.status = 1 then 0 else 16) else r.data.length % 32 = 0) →
    instrOfFlits (r.flits u) = some (if r.typ = 2 then .rdrsp r else .wrack r))
end

