-- ==== Sys2Proof/Laws/SMap.lean ====
section
/-! SUPPORT. What the operations on sparse data do: a read after a write, and that every operation keeps the canonical form. -/

namespace Sys2Proof.Machine

variable {α : Type}

theorem SMap.rising_mono {m : SMap α} {a b : Nat} (h : SMap.rising b m = true) (hab : a ≤ b) : SMap.rising a m = true := by
  cases m with
  | nil => rfl
  | cons e m =>
    simp only [SMap.rising, Bool.and_eq_true, decide_eq_true_eq] at h ⊢
    exact ⟨by omega, h.2⟩

/-- No key below the bound is listed. -/
theorem SMap.find_below {m : SMap α} {lo k : Nat} (h : SMap.rising lo m = true) (hk : k < lo) : SMap.find m k = none := by
  induction m generalizing lo with
  | nil => rfl
  | cons e m ih =>
    simp only [SMap.rising, Bool.and_eq_true, decide_eq_true_eq] at h
    have hne : e.1 ≠ k := by omega
    simp only [SMap.find, hne, if_false]
    exact ih h.2 (by omega)

theorem SMap.find_drop_self {m : SMap α} {lo k : Nat} (h : SMap.rising lo m = true) : SMap.find (SMap.drop m k) k = none := by
  induction m generalizing lo with
  | nil => rfl
  | cons e m ih =>
    simp only [SMap.rising, Bool.and_eq_true, decide_eq_true_eq] at h
    unfold SMap.drop
    split
    · exact SMap.find_below h.2 (by omega)
    · split
      · simp only [SMap.find]
        rw [if_neg (by assumption)]
        exact ih h.2
      · simp only [SMap.find]
        rw [if_neg (by assumption)]
        exact SMap.find_below h.2 (by omega)

theorem SMap.find_drop_ne {m : SMap α} {k j : Nat} (hne : k ≠ j) : SMap.find (SMap.drop m k) j = SMap.find m j := by
  induction m with
  | nil => rfl
  | cons e m ih =>
    unfold SMap.drop
    split
    · have : e.1 ≠ j := by omega
      simp [SMap.find, this]
    · split
      · simp only [SMap.find, ih]
      · rfl

theorem SMap.find_insert_self {m : SMap α} {k : Nat} {v : α} : SMap.find (SMap.insert m k v) k = some v := by
  induction m with
  | nil => simp [SMap.insert, SMap.find]
  | cons e m ih =>
    unfold SMap.insert
    split
    · simp [SMap.find]
    · split
      · simp only [SMap.find]
        rw [if_neg (by assumption), ih]
      · simp [SMap.find]

theorem SMap.find_insert_ne {m : SMap α} {k j : Nat} {v : α} (hne : k ≠ j) : SMap.find (SMap.insert m k v) j = SMap.find m j := by
  induction m with
  | nil => simp [SMap.insert, SMap.find, hne]
  | cons e m ih =>
    unfold SMap.insert
    split
    · have : e.1 ≠ j := by omega
      simp [SMap.find, hne, this]
    · split
      · simp only [SMap.find, ih]
      · simp [SMap.find, hne]

theorem SMap.rising_drop {m : SMap α} {lo k : Nat} (h : SMap.rising lo m = true) : SMap.rising lo (SMap.drop m k) = true := by
  induction m generalizing lo with
  | nil => rfl
  | cons e m ih =>
    unfold SMap.drop
    simp only [SMap.rising, Bool.and_eq_true, decide_eq_true_eq] at h
    split
    · exact SMap.rising_mono h.2 (by omega)
    · split
      · simp only [SMap.rising, Bool.and_eq_true, decide_eq_true_eq]
        exact ⟨h.1, ih h.2⟩
      · simpa [SMap.rising] using h

theorem SMap.rising_insert {m : SMap α} {lo k : Nat} {v : α} (h : SMap.rising lo m = true) (hk : lo ≤ k) :
    SMap.rising lo (SMap.insert m k v) = true := by
  induction m generalizing lo with
  | nil => simp [SMap.insert, SMap.rising, hk]
  | cons e m ih =>
    unfold SMap.insert
    simp only [SMap.rising, Bool.and_eq_true, decide_eq_true_eq] at h
    split
    · subst_vars
      simp [SMap.rising, h.1, h.2]
    · split
      · simp only [SMap.rising, Bool.and_eq_true, decide_eq_true_eq]
        exact ⟨h.1, ih h.2 (by omega)⟩
      · simp only [SMap.rising, Bool.and_eq_true, decide_eq_true_eq]
        exact ⟨hk, by omega, h.2⟩

theorem SMap.mem_drop {m : SMap α} {k : Nat} {e : Nat × α} (h : e ∈ SMap.drop m k) : e ∈ m := by
  induction m with
  | nil => simp [SMap.drop] at h
  | cons a m ih =>
    unfold SMap.drop at h
    split at h
    · exact List.mem_cons_of_mem _ h
    · split at h
      · rcases List.mem_cons.mp h with rfl | h
        · exact List.mem_cons_self
        · exact List.mem_cons_of_mem _ (ih h)
      · exact h

theorem SMap.mem_insert {m : SMap α} {k : Nat} {v : α} {e : Nat × α} (h : e ∈ SMap.insert m k v) : e = (k, v) ∨ e ∈ m := by
  induction m with
  | nil => simpa [SMap.insert] using h
  | cons a m ih =>
    unfold SMap.insert at h
    split at h
    · rcases List.mem_cons.mp h with h | h
      · exact .inl h
      · exact .inr (List.mem_cons_of_mem _ h)
    · split at h
      · rcases List.mem_cons.mp h with rfl | h
        · exact .inr List.mem_cons_self
        · rcases ih h with h | h
          · exact .inl h
          · exact .inr (List.mem_cons_of_mem _ h)
      · rcases List.mem_cons.mp h with h | h
        · exact .inl h
        · exact .inr h

theorem SMap.rising_filter {m : SMap α} {lo : Nat} {p : Nat × α → Bool} (h : SMap.rising lo m = true) :
    SMap.rising lo (m.filter p) = true := by
  induction m generalizing lo with
  | nil => rfl
  | cons e m ih =>
    simp only [SMap.rising, Bool.and_eq_true, decide_eq_true_eq] at h
    rw [List.filter_cons]
    split
    · simp only [SMap.rising, Bool.and_eq_true, decide_eq_true_eq]
      exact ⟨h.1, ih h.2⟩
    · exact SMap.rising_mono (ih h.2) (by omega)

section
variable [DecidableEq α] {d : Nat → α} {m : SMap α} {k j lo n : Nat} {v : α}

/-- What was written is read back. -/
theorem SMap.get_set_self (h : SMap.wf d m = true) : SMap.get d (SMap.set d m k v) k = v := by
  simp only [SMap.wf, Bool.and_eq_true] at h
  unfold SMap.get SMap.set
  split
  · rw [SMap.find_drop_self h.1]
    simp_all
  · rw [SMap.find_insert_self]
    rfl

/-- A write leaves every other key alone. -/
theorem SMap.get_set_ne (hne : k ≠ j) : SMap.get d (SMap.set d m k v) j = SMap.get d m j := by
  unfold SMap.get SMap.set
  split
  · rw [SMap.find_drop_ne hne]
  · rw [SMap.find_insert_ne hne]

/-- A write keeps the canonical form. -/
theorem SMap.wf_set (h : SMap.wf d m = true) : SMap.wf d (SMap.set d m k v) = true := by
  simp only [SMap.wf, Bool.and_eq_true, List.all_eq_true, decide_eq_true_eq] at h ⊢
  unfold SMap.set
  split
  · exact ⟨SMap.rising_drop h.1, fun e he => h.2 e (SMap.mem_drop he)⟩
  · refine ⟨SMap.rising_insert h.1 (Nat.zero_le _), fun e he => ?_⟩
    rcases SMap.mem_insert he with rfl | he
    · assumption
    · exact h.2 e he

theorem SMap.wf_filter {p : Nat × α → Bool} (h : SMap.wf d m = true) : SMap.wf d (m.filter p) = true := by
  simp only [SMap.wf, Bool.and_eq_true, List.all_eq_true] at h ⊢
  exact ⟨SMap.rising_filter h.1, fun e he => h.2 e (List.mem_of_mem_filter he)⟩

theorem SMap.wf_dropRange (h : SMap.wf d m = true) : SMap.wf d (SMap.dropRange m lo n) = true := SMap.wf_filter h

theorem SMap.wf_nil : SMap.wf d ([] : SMap α) = true := rfl

/-- Keys rise after any write. -/
theorem SMap.rising_set (h : SMap.rising 0 m = true) : SMap.rising 0 (SMap.set d m k v) = true := by
  unfold SMap.set
  split
  · exact SMap.rising_drop h
  · exact SMap.rising_insert h (Nat.zero_le _)

/-- Two canonical maps that read the same at every key are equal data. -/
theorem SMap.find_of_get (h : SMap.wf d m = true) : SMap.find m k = if SMap.get d m k = d k then none else some (SMap.get d m k) := by
  simp only [SMap.wf, Bool.and_eq_true, List.all_eq_true, decide_eq_true_eq] at h
  unfold SMap.get
  cases hf : SMap.find m k with
  | none => simp
  | some u =>
    have : (k, u) ∈ m := by
      clear h
      induction m with
      | nil => simp [SMap.find] at hf
      | cons e m ih =>
        simp only [SMap.find] at hf
        split at hf
        · cases hf
          subst_vars
          exact List.mem_cons_self
        · exact List.mem_cons_of_mem _ (ih hf)
    simp [h.2 _ this]

end

end Sys2Proof.Machine
end

