-- ==== Sys2Proof/Laws/Memory.lean ====
section
/-! SUPPORT. Every operation on an addressed memory (the memories of the engines, DRAM, the flash) keeps its canonical form. -/

namespace Sys2Proof.Machine

theorem rising_range' {α : Type} (f : Nat → α) (n lo : Nat) : SMap.rising lo ((List.range' lo n).map (fun k => (k, f k))) = true := by
  induction n generalizing lo with
  | zero => rfl
  | succ n ih => simp [List.range'_succ, SMap.rising, ih]

/-- A memory written at every key. -/
theorem rising_range {α : Type} (f : Nat → α) (n : Nat) : SMap.rising 0 ((List.range n).map (fun k => (k, f k))) = true := by
  rw [List.range_eq_range']; exact rising_range' f n 0

/-- Both memories of an engine are canonical. -/
def EngSt.memWf (x : EngSt) : Prop := SMap.rising 0 x.dmem = true ∧ SMap.rising 0 x.imem = true

theorem EngSt.memWf_setGran {x : EngSt} (h : x.memWf) (im : Bool) (k : Nat) (g : Gran) : (x.setGran im k g).memWf := by
  cases im
  · exact ⟨SMap.rising_insert h.1 (Nat.zero_le _), h.2⟩
  · exact ⟨h.1, SMap.rising_insert h.2 (Nat.zero_le _)⟩

theorem EngSt.memWf_writeWord {x : EngSt} (h : x.memWf) (im : Bool) (w : Nat) (v : Quad) : (x.writeWord im w v).memWf :=
  EngSt.memWf_setGran (EngSt.memWf_setGran h _ _ _) _ _ _

theorem EngSt.memWf_poisonWord {x : EngSt} (h : x.memWf) (im : Bool) (w : Nat) : (x.poisonWord im w).memWf :=
  EngSt.memWf_setGran (EngSt.memWf_setGran h _ _ _) _ _ _

theorem EngSt.memWf_writeGran {x : EngSt} (h : x.memWf) (e k : Nat) (v : DWord) (be : Nat) (p : Bool) : (x.writeGran e k v be p).1.memWf := by
  unfold EngSt.writeGran
  split
  · exact h
  · split
    · exact EngSt.memWf_setGran h _ _ _
    · dsimp only
      split
      · exact h
      · exact EngSt.memWf_setGran h _ _ _

theorem EngSt.memWf_lose (x : EngSt) : x.lose.memWf := ⟨rfl, rfl⟩
theorem EngSt.memWf_filled (x : EngSt) (f g : Nat → Gran) (n k : Nat) :
    EngSt.memWf { x with dmem := (List.range n).map (fun i => (i, f i)), imem := (List.range k).map (fun i => (i, g i)) } :=
  ⟨rising_range f n, rising_range g k⟩
theorem EngSt.memWf_zeroMem (x : EngSt) : x.zeroMem.memWf := by
  unfold EngSt.zeroMem; exact x.memWf_filled (fun _ => mkGran 0) (fun _ => mkGran 0) 24576 8192
theorem EngSt.memWf_poisonAll (x : EngSt) : x.poisonAll.memWf := by
  unfold EngSt.poisonAll; exact x.memWf_filled (fun _ => poisonGran) (fun _ => poisonGran) 24576 8192

/-- What was stored in a granule is found there, and every other granule stays. -/
theorem EngSt.find_setGran_self (x : EngSt) (im : Bool) (k : Nat) (g : Gran) : SMap.find ((x.setGran im k g).mem im) k = some g := by
  cases im <;> exact SMap.find_insert_self

theorem EngSt.find_setGran_ne (x : EngSt) (im : Bool) {k j : Nat} (g : Gran) (h : k ≠ j) :
    SMap.find ((x.setGran im k g).mem im) j = SMap.find (x.mem im) j := by
  cases im <;> exact SMap.find_insert_ne h

theorem EngSt.find_setGran_other (x : EngSt) (im : Bool) (k : Nat) (g : Gran) : (x.setGran im k g).mem (!im) = x.mem (!im) := by
  cases im <;> rfl

/-- The granules of a line go into DRAM in their order. -/
theorem rising_lineInsert (l : List (Option DGran)) (c : Nat) (js : List Nat) (m : SMap DGran) (h : SMap.rising 0 m = true) :
    SMap.rising 0 (js.foldl (fun m g => match l.getD g none with | some v => SMap.insert m (c + g) v | none => m) m) = true := by
  induction js generalizing m with
  | nil => exact h
  | cons j js ih =>
    refine ih _ ?_
    dsimp only
    split
    · exact SMap.rising_insert h (Nat.zero_le _)
    · exact h

/-! ## The flash -/

variable {s : State}

/-- The flash is canonical. -/
def State.flashWf (s : State) : Prop := SMap.wf (fun _ => (0xFF : Byte)) s.mgm.flash = true

theorem State.flashWf_program (l : List Byte) (a : Nat) (h : s.flashWf) : (s.flashProgram a l).flashWf := by
  induction l generalizing s a with
  | nil => exact h
  | cons b l ih => exact ih (a + 1) (SMap.wf_set (v := s.flashByte a &&& b) h)

theorem State.flashWf_erase (h : s.flashWf) (a n : Nat) : (s.flashErase a n).flashWf := SMap.wf_dropRange h

theorem State.flashWf_torn (h : s.flashWf) (a n : Nat) : (s.flashTorn a n).flashWf := by
  induction n with
  | zero => exact h
  | succ n ih => exact SMap.wf_set ih

end Sys2Proof.Machine
end

