-- ==== Sys2Proof/Laws/State.lean ====
section
/-! SUPPORT. What each update of the state leaves of each field, true by computation, so that no proof unfolds an update. -/

namespace Sys2Proof.Machine

variable (s : State)

@[simp] theorem State.setReg_pending (o : Nat) (v : Word) : (s.setReg o v).pending = s.pending := rfl
@[simp] theorem State.setReg_regs (o : Nat) (v : Word) : (s.setReg o v).regs = SMap.set regReset s.regs o v := rfl
@[simp] theorem State.setReg_pairs (o : Nat) (v : Word) : (s.setReg o v).pairs = s.pairs := rfl
@[simp] theorem State.setReg_sys (o : Nat) (v : Word) : (s.setReg o v).sys = s.sys := rfl
@[simp] theorem State.setReg_fuses (o : Nat) (v : Word) : (s.setReg o v).fuses = s.fuses := rfl
@[simp] theorem State.setReg_rec (o : Nat) (v : Word) : (s.setReg o v).rec_ = s.rec_ := rfl
@[simp] theorem State.setReg_now (o : Nat) (v : Word) : (s.setReg o v).now = s.now := rfl
@[simp] theorem State.setReg_eng (o : Nat) (v : Word) : (s.setReg o v).eng = s.eng := rfl
@[simp] theorem State.setReg_leng (o : Nat) (v : Word) : (s.setReg o v).leng = s.leng := rfl
@[simp] theorem State.setReg_sch (o : Nat) (v : Word) : (s.setReg o v).sch = s.sch := rfl
@[simp] theorem State.setReg_mbx (o : Nat) (v : Word) : (s.setReg o v).mbx = s.mbx := rfl
@[simp] theorem State.setReg_net (o : Nat) (v : Word) : (s.setReg o v).net = s.net := rfl
@[simp] theorem State.setReg_dbg (o : Nat) (v : Word) : (s.setReg o v).dbg = s.dbg := rfl
@[simp] theorem State.setReg_ser (o : Nat) (v : Word) : (s.setReg o v).ser = s.ser := rfl
@[simp] theorem State.setReg_cfg (o : Nat) (v : Word) : (s.setReg o v).cfg = s.cfg := rfl
@[simp] theorem State.setReg_pld (o : Nat) (v : Word) : (s.setReg o v).pld = s.pld := rfl
@[simp] theorem State.setReg_rtc (o : Nat) (v : Word) : (s.setReg o v).rtc = s.rtc := rfl
@[simp] theorem State.setReg_tim (o : Nat) (v : Word) : (s.setReg o v).tim = s.tim := rfl
@[simp] theorem State.setReg_mgm (o : Nat) (v : Word) : (s.setReg o v).mgm = s.mgm := rfl
@[simp] theorem State.setReg_mem (o : Nat) (v : Word) : (s.setReg o v).mem = s.mem := rfl
@[simp] theorem State.setReg_ice (o : Nat) (v : Word) : (s.setReg o v).ice = s.ice := rfl
@[simp] theorem State.setReg_lnk (o : Nat) (v : Word) : (s.setReg o v).lnk = s.lnk := rfl
@[simp] theorem State.setReg_out (o : Nat) (v : Word) : (s.setReg o v).out = s.out := rfl
@[simp] theorem State.setReg_freeCtr (o : Nat) (v : Word) : (s.setReg o v).freeCtr = s.freeCtr := rfl

@[simp] theorem State.setFld_pending (o hi lo n : Nat) : (s.setFld o hi lo n).pending = s.pending := rfl
@[simp] theorem State.setFld_pairs (o hi lo n : Nat) : (s.setFld o hi lo n).pairs = s.pairs := rfl
@[simp] theorem State.setFld_sys (o hi lo n : Nat) : (s.setFld o hi lo n).sys = s.sys := rfl
@[simp] theorem State.setFld_fuses (o hi lo n : Nat) : (s.setFld o hi lo n).fuses = s.fuses := rfl
@[simp] theorem State.setFld_rec (o hi lo n : Nat) : (s.setFld o hi lo n).rec_ = s.rec_ := rfl
@[simp] theorem State.setFld_now (o hi lo n : Nat) : (s.setFld o hi lo n).now = s.now := rfl
@[simp] theorem State.setFld_eng (o hi lo n : Nat) : (s.setFld o hi lo n).eng = s.eng := rfl
@[simp] theorem State.setFld_leng (o hi lo n : Nat) : (s.setFld o hi lo n).leng = s.leng := rfl
@[simp] theorem State.setFld_sch (o hi lo n : Nat) : (s.setFld o hi lo n).sch = s.sch := rfl
@[simp] theorem State.setFld_mbx (o hi lo n : Nat) : (s.setFld o hi lo n).mbx = s.mbx := rfl
@[simp] theorem State.setFld_net (o hi lo n : Nat) : (s.setFld o hi lo n).net = s.net := rfl
@[simp] theorem State.setFld_dbg (o hi lo n : Nat) : (s.setFld o hi lo n).dbg = s.dbg := rfl
@[simp] theorem State.setFld_ser (o hi lo n : Nat) : (s.setFld o hi lo n).ser = s.ser := rfl
@[simp] theorem State.setFld_cfg (o hi lo n : Nat) : (s.setFld o hi lo n).cfg = s.cfg := rfl
@[simp] theorem State.setFld_pld (o hi lo n : Nat) : (s.setFld o hi lo n).pld = s.pld := rfl
@[simp] theorem State.setFld_rtc (o hi lo n : Nat) : (s.setFld o hi lo n).rtc = s.rtc := rfl
@[simp] theorem State.setFld_tim (o hi lo n : Nat) : (s.setFld o hi lo n).tim = s.tim := rfl
@[simp] theorem State.setFld_mgm (o hi lo n : Nat) : (s.setFld o hi lo n).mgm = s.mgm := rfl
@[simp] theorem State.setFld_mem (o hi lo n : Nat) : (s.setFld o hi lo n).mem = s.mem := rfl
@[simp] theorem State.setFld_ice (o hi lo n : Nat) : (s.setFld o hi lo n).ice = s.ice := rfl
@[simp] theorem State.setFld_lnk (o hi lo n : Nat) : (s.setFld o hi lo n).lnk = s.lnk := rfl
@[simp] theorem State.setFld_out (o hi lo n : Nat) : (s.setFld o hi lo n).out = s.out := rfl
@[simp] theorem State.setFld_freeCtr (o hi lo n : Nat) : (s.setFld o hi lo n).freeCtr = s.freeCtr := rfl

@[simp] theorem State.setBit_pending (o k : Nat) (b : Bool) : (s.setBit o k b).pending = s.pending := rfl
@[simp] theorem State.setBit_pairs (o k : Nat) (b : Bool) : (s.setBit o k b).pairs = s.pairs := rfl
@[simp] theorem State.setBit_sys (o k : Nat) (b : Bool) : (s.setBit o k b).sys = s.sys := rfl
@[simp] theorem State.setBit_fuses (o k : Nat) (b : Bool) : (s.setBit o k b).fuses = s.fuses := rfl
@[simp] theorem State.setBit_rec (o k : Nat) (b : Bool) : (s.setBit o k b).rec_ = s.rec_ := rfl
@[simp] theorem State.setBit_now (o k : Nat) (b : Bool) : (s.setBit o k b).now = s.now := rfl
@[simp] theorem State.setBit_eng (o k : Nat) (b : Bool) : (s.setBit o k b).eng = s.eng := rfl
@[simp] theorem State.setBit_leng (o k : Nat) (b : Bool) : (s.setBit o k b).leng = s.leng := rfl
@[simp] theorem State.setBit_sch (o k : Nat) (b : Bool) : (s.setBit o k b).sch = s.sch := rfl
@[simp] theorem State.setBit_mbx (o k : Nat) (b : Bool) : (s.setBit o k b).mbx = s.mbx := rfl
@[simp] theorem State.setBit_net (o k : Nat) (b : Bool) : (s.setBit o k b).net = s.net := rfl
@[simp] theorem State.setBit_dbg (o k : Nat) (b : Bool) : (s.setBit o k b).dbg = s.dbg := rfl
@[simp] theorem State.setBit_ser (o k : Nat) (b : Bool) : (s.setBit o k b).ser = s.ser := rfl
@[simp] theorem State.setBit_cfg (o k : Nat) (b : Bool) : (s.setBit o k b).cfg = s.cfg := rfl
@[simp] theorem State.setBit_pld (o k : Nat) (b : Bool) : (s.setBit o k b).pld = s.pld := rfl
@[simp] theorem State.setBit_rtc (o k : Nat) (b : Bool) : (s.setBit o k b).rtc = s.rtc := rfl
@[simp] theorem State.setBit_tim (o k : Nat) (b : Bool) : (s.setBit o k b).tim = s.tim := rfl
@[simp] theorem State.setBit_mgm (o k : Nat) (b : Bool) : (s.setBit o k b).mgm = s.mgm := rfl
@[simp] theorem State.setBit_mem (o k : Nat) (b : Bool) : (s.setBit o k b).mem = s.mem := rfl
@[simp] theorem State.setBit_ice (o k : Nat) (b : Bool) : (s.setBit o k b).ice = s.ice := rfl
@[simp] theorem State.setBit_lnk (o k : Nat) (b : Bool) : (s.setBit o k b).lnk = s.lnk := rfl
@[simp] theorem State.setBit_out (o k : Nat) (b : Bool) : (s.setBit o k b).out = s.out := rfl
@[simp] theorem State.setBit_freeCtr (o k : Nat) (b : Bool) : (s.setBit o k b).freeCtr = s.freeCtr := rfl

@[simp] theorem State.count_pending (o hi lo n : Nat) : (s.count o hi lo n).pending = s.pending := s.setFld_pending o hi lo _
@[simp] theorem State.count_pairs (o hi lo n : Nat) : (s.count o hi lo n).pairs = s.pairs := s.setFld_pairs o hi lo _
@[simp] theorem State.count_sys (o hi lo n : Nat) : (s.count o hi lo n).sys = s.sys := s.setFld_sys o hi lo _
@[simp] theorem State.count_fuses (o hi lo n : Nat) : (s.count o hi lo n).fuses = s.fuses := s.setFld_fuses o hi lo _
@[simp] theorem State.count_rec (o hi lo n : Nat) : (s.count o hi lo n).rec_ = s.rec_ := s.setFld_rec o hi lo _
@[simp] theorem State.count_now (o hi lo n : Nat) : (s.count o hi lo n).now = s.now := s.setFld_now o hi lo _
@[simp] theorem State.count_eng (o hi lo n : Nat) : (s.count o hi lo n).eng = s.eng := s.setFld_eng o hi lo _
@[simp] theorem State.count_leng (o hi lo n : Nat) : (s.count o hi lo n).leng = s.leng := s.setFld_leng o hi lo _
@[simp] theorem State.count_sch (o hi lo n : Nat) : (s.count o hi lo n).sch = s.sch := s.setFld_sch o hi lo _
@[simp] theorem State.count_mbx (o hi lo n : Nat) : (s.count o hi lo n).mbx = s.mbx := s.setFld_mbx o hi lo _
@[simp] theorem State.count_net (o hi lo n : Nat) : (s.count o hi lo n).net = s.net := s.setFld_net o hi lo _
@[simp] theorem State.count_dbg (o hi lo n : Nat) : (s.count o hi lo n).dbg = s.dbg := s.setFld_dbg o hi lo _
@[simp] theorem State.count_ser (o hi lo n : Nat) : (s.count o hi lo n).ser = s.ser := s.setFld_ser o hi lo _
@[simp] theorem State.count_cfg (o hi lo n : Nat) : (s.count o hi lo n).cfg = s.cfg := s.setFld_cfg o hi lo _
@[simp] theorem State.count_pld (o hi lo n : Nat) : (s.count o hi lo n).pld = s.pld := s.setFld_pld o hi lo _
@[simp] theorem State.count_rtc (o hi lo n : Nat) : (s.count o hi lo n).rtc = s.rtc := s.setFld_rtc o hi lo _
@[simp] theorem State.count_tim (o hi lo n : Nat) : (s.count o hi lo n).tim = s.tim := s.setFld_tim o hi lo _
@[simp] theorem State.count_mgm (o hi lo n : Nat) : (s.count o hi lo n).mgm = s.mgm := s.setFld_mgm o hi lo _
@[simp] theorem State.count_mem (o hi lo n : Nat) : (s.count o hi lo n).mem = s.mem := s.setFld_mem o hi lo _
@[simp] theorem State.count_ice (o hi lo n : Nat) : (s.count o hi lo n).ice = s.ice := s.setFld_ice o hi lo _
@[simp] theorem State.count_lnk (o hi lo n : Nat) : (s.count o hi lo n).lnk = s.lnk := s.setFld_lnk o hi lo _
@[simp] theorem State.count_out (o hi lo n : Nat) : (s.count o hi lo n).out = s.out := s.setFld_out o hi lo _
@[simp] theorem State.count_freeCtr (o hi lo n : Nat) : (s.count o hi lo n).freeCtr = s.freeCtr := s.setFld_freeCtr o hi lo _

@[simp] theorem State.setPwr_pending (o st : Nat) : (s.setPwr o st).pending = s.pending := s.setFld_pending o 26 24 st
@[simp] theorem State.setPwr_pairs (o st : Nat) : (s.setPwr o st).pairs = s.pairs := s.setFld_pairs o 26 24 st
@[simp] theorem State.setPwr_sys (o st : Nat) : (s.setPwr o st).sys = s.sys := s.setFld_sys o 26 24 st
@[simp] theorem State.setPwr_fuses (o st : Nat) : (s.setPwr o st).fuses = s.fuses := s.setFld_fuses o 26 24 st
@[simp] theorem State.setPwr_rec (o st : Nat) : (s.setPwr o st).rec_ = s.rec_ := s.setFld_rec o 26 24 st
@[simp] theorem State.setPwr_now (o st : Nat) : (s.setPwr o st).now = s.now := s.setFld_now o 26 24 st
@[simp] theorem State.setPwr_eng (o st : Nat) : (s.setPwr o st).eng = s.eng := s.setFld_eng o 26 24 st
@[simp] theorem State.setPwr_leng (o st : Nat) : (s.setPwr o st).leng = s.leng := s.setFld_leng o 26 24 st
@[simp] theorem State.setPwr_sch (o st : Nat) : (s.setPwr o st).sch = s.sch := s.setFld_sch o 26 24 st
@[simp] theorem State.setPwr_mbx (o st : Nat) : (s.setPwr o st).mbx = s.mbx := s.setFld_mbx o 26 24 st
@[simp] theorem State.setPwr_net (o st : Nat) : (s.setPwr o st).net = s.net := s.setFld_net o 26 24 st
@[simp] theorem State.setPwr_dbg (o st : Nat) : (s.setPwr o st).dbg = s.dbg := s.setFld_dbg o 26 24 st
@[simp] theorem State.setPwr_ser (o st : Nat) : (s.setPwr o st).ser = s.ser := s.setFld_ser o 26 24 st
@[simp] theorem State.setPwr_cfg (o st : Nat) : (s.setPwr o st).cfg = s.cfg := s.setFld_cfg o 26 24 st
@[simp] theorem State.setPwr_pld (o st : Nat) : (s.setPwr o st).pld = s.pld := s.setFld_pld o 26 24 st
@[simp] theorem State.setPwr_rtc (o st : Nat) : (s.setPwr o st).rtc = s.rtc := s.setFld_rtc o 26 24 st
@[simp] theorem State.setPwr_tim (o st : Nat) : (s.setPwr o st).tim = s.tim := s.setFld_tim o 26 24 st
@[simp] theorem State.setPwr_mgm (o st : Nat) : (s.setPwr o st).mgm = s.mgm := s.setFld_mgm o 26 24 st
@[simp] theorem State.setPwr_mem (o st : Nat) : (s.setPwr o st).mem = s.mem := s.setFld_mem o 26 24 st
@[simp] theorem State.setPwr_ice (o st : Nat) : (s.setPwr o st).ice = s.ice := s.setFld_ice o 26 24 st
@[simp] theorem State.setPwr_lnk (o st : Nat) : (s.setPwr o st).lnk = s.lnk := s.setFld_lnk o 26 24 st
@[simp] theorem State.setPwr_out (o st : Nat) : (s.setPwr o st).out = s.out := s.setFld_out o 26 24 st
@[simp] theorem State.setPwr_freeCtr (o st : Nat) : (s.setPwr o st).freeCtr = s.freeCtr := s.setFld_freeCtr o 26 24 st

@[simp] theorem State.setEng_pending (e : Nat) (x : EngSt) : (s.setEng e x).pending = s.pending := rfl
@[simp] theorem State.setEng_regs (e : Nat) (x : EngSt) : (s.setEng e x).regs = s.regs := rfl
@[simp] theorem State.setEng_pairs (e : Nat) (x : EngSt) : (s.setEng e x).pairs = s.pairs := rfl
@[simp] theorem State.setEng_sys (e : Nat) (x : EngSt) : (s.setEng e x).sys = s.sys := rfl
@[simp] theorem State.setEng_fuses (e : Nat) (x : EngSt) : (s.setEng e x).fuses = s.fuses := rfl
@[simp] theorem State.setEng_rec (e : Nat) (x : EngSt) : (s.setEng e x).rec_ = s.rec_ := rfl
@[simp] theorem State.setEng_now (e : Nat) (x : EngSt) : (s.setEng e x).now = s.now := rfl
@[simp] theorem State.setEng_eng (e : Nat) (x : EngSt) : (s.setEng e x).eng = SMap.set engReset s.eng e x := rfl
@[simp] theorem State.setEng_leng (e : Nat) (x : EngSt) : (s.setEng e x).leng = s.leng := rfl
@[simp] theorem State.setEng_sch (e : Nat) (x : EngSt) : (s.setEng e x).sch = s.sch := rfl
@[simp] theorem State.setEng_mbx (e : Nat) (x : EngSt) : (s.setEng e x).mbx = s.mbx := rfl
@[simp] theorem State.setEng_net (e : Nat) (x : EngSt) : (s.setEng e x).net = s.net := rfl
@[simp] theorem State.setEng_dbg (e : Nat) (x : EngSt) : (s.setEng e x).dbg = s.dbg := rfl
@[simp] theorem State.setEng_ser (e : Nat) (x : EngSt) : (s.setEng e x).ser = s.ser := rfl
@[simp] theorem State.setEng_cfg (e : Nat) (x : EngSt) : (s.setEng e x).cfg = s.cfg := rfl
@[simp] theorem State.setEng_pld (e : Nat) (x : EngSt) : (s.setEng e x).pld = s.pld := rfl
@[simp] theorem State.setEng_rtc (e : Nat) (x : EngSt) : (s.setEng e x).rtc = s.rtc := rfl
@[simp] theorem State.setEng_tim (e : Nat) (x : EngSt) : (s.setEng e x).tim = s.tim := rfl
@[simp] theorem State.setEng_mgm (e : Nat) (x : EngSt) : (s.setEng e x).mgm = s.mgm := rfl
@[simp] theorem State.setEng_mem (e : Nat) (x : EngSt) : (s.setEng e x).mem = s.mem := rfl
@[simp] theorem State.setEng_ice (e : Nat) (x : EngSt) : (s.setEng e x).ice = s.ice := rfl
@[simp] theorem State.setEng_lnk (e : Nat) (x : EngSt) : (s.setEng e x).lnk = s.lnk := rfl
@[simp] theorem State.setEng_out (e : Nat) (x : EngSt) : (s.setEng e x).out = s.out := rfl
@[simp] theorem State.setEng_freeCtr (e : Nat) (x : EngSt) : (s.setEng e x).freeCtr = s.freeCtr := rfl

@[simp] theorem State.setLe_pending (l : Nat) (x : LEngSt) : (s.setLe l x).pending = s.pending := rfl
@[simp] theorem State.setLe_regs (l : Nat) (x : LEngSt) : (s.setLe l x).regs = s.regs := rfl
@[simp] theorem State.setLe_pairs (l : Nat) (x : LEngSt) : (s.setLe l x).pairs = s.pairs := rfl
@[simp] theorem State.setLe_sys (l : Nat) (x : LEngSt) : (s.setLe l x).sys = s.sys := rfl
@[simp] theorem State.setLe_fuses (l : Nat) (x : LEngSt) : (s.setLe l x).fuses = s.fuses := rfl
@[simp] theorem State.setLe_rec (l : Nat) (x : LEngSt) : (s.setLe l x).rec_ = s.rec_ := rfl
@[simp] theorem State.setLe_now (l : Nat) (x : LEngSt) : (s.setLe l x).now = s.now := rfl
@[simp] theorem State.setLe_eng (l : Nat) (x : LEngSt) : (s.setLe l x).eng = s.eng := rfl
@[simp] theorem State.setLe_leng (l : Nat) (x : LEngSt) : (s.setLe l x).leng = SMap.set lengReset s.leng l x := rfl
@[simp] theorem State.setLe_sch (l : Nat) (x : LEngSt) : (s.setLe l x).sch = s.sch := rfl
@[simp] theorem State.setLe_mbx (l : Nat) (x : LEngSt) : (s.setLe l x).mbx = s.mbx := rfl
@[simp] theorem State.setLe_net (l : Nat) (x : LEngSt) : (s.setLe l x).net = s.net := rfl
@[simp] theorem State.setLe_dbg (l : Nat) (x : LEngSt) : (s.setLe l x).dbg = s.dbg := rfl
@[simp] theorem State.setLe_ser (l : Nat) (x : LEngSt) : (s.setLe l x).ser = s.ser := rfl
@[simp] theorem State.setLe_cfg (l : Nat) (x : LEngSt) : (s.setLe l x).cfg = s.cfg := rfl
@[simp] theorem State.setLe_pld (l : Nat) (x : LEngSt) : (s.setLe l x).pld = s.pld := rfl
@[simp] theorem State.setLe_rtc (l : Nat) (x : LEngSt) : (s.setLe l x).rtc = s.rtc := rfl
@[simp] theorem State.setLe_tim (l : Nat) (x : LEngSt) : (s.setLe l x).tim = s.tim := rfl
@[simp] theorem State.setLe_mgm (l : Nat) (x : LEngSt) : (s.setLe l x).mgm = s.mgm := rfl
@[simp] theorem State.setLe_mem (l : Nat) (x : LEngSt) : (s.setLe l x).mem = s.mem := rfl
@[simp] theorem State.setLe_ice (l : Nat) (x : LEngSt) : (s.setLe l x).ice = s.ice := rfl
@[simp] theorem State.setLe_lnk (l : Nat) (x : LEngSt) : (s.setLe l x).lnk = s.lnk := rfl
@[simp] theorem State.setLe_out (l : Nat) (x : LEngSt) : (s.setLe l x).out = s.out := rfl
@[simp] theorem State.setLe_freeCtr (l : Nat) (x : LEngSt) : (s.setLe l x).freeCtr = s.freeCtr := rfl

@[simp] theorem State.setTim_pending (x : TimSt) : (s.setTim x).pending = s.pending := rfl
@[simp] theorem State.setTim_regs (x : TimSt) : (s.setTim x).regs = s.regs := rfl
@[simp] theorem State.setTim_pairs (x : TimSt) : (s.setTim x).pairs = s.pairs := rfl
@[simp] theorem State.setTim_sys (x : TimSt) : (s.setTim x).sys = s.sys := rfl
@[simp] theorem State.setTim_fuses (x : TimSt) : (s.setTim x).fuses = s.fuses := rfl
@[simp] theorem State.setTim_rec (x : TimSt) : (s.setTim x).rec_ = s.rec_ := rfl
@[simp] theorem State.setTim_now (x : TimSt) : (s.setTim x).now = s.now := rfl
@[simp] theorem State.setTim_eng (x : TimSt) : (s.setTim x).eng = s.eng := rfl
@[simp] theorem State.setTim_leng (x : TimSt) : (s.setTim x).leng = s.leng := rfl
@[simp] theorem State.setTim_sch (x : TimSt) : (s.setTim x).sch = s.sch := rfl
@[simp] theorem State.setTim_mbx (x : TimSt) : (s.setTim x).mbx = s.mbx := rfl
@[simp] theorem State.setTim_net (x : TimSt) : (s.setTim x).net = s.net := rfl
@[simp] theorem State.setTim_dbg (x : TimSt) : (s.setTim x).dbg = s.dbg := rfl
@[simp] theorem State.setTim_ser (x : TimSt) : (s.setTim x).ser = s.ser := rfl
@[simp] theorem State.setTim_cfg (x : TimSt) : (s.setTim x).cfg = s.cfg := rfl
@[simp] theorem State.setTim_pld (x : TimSt) : (s.setTim x).pld = s.pld := rfl
@[simp] theorem State.setTim_rtc (x : TimSt) : (s.setTim x).rtc = s.rtc := rfl
@[simp] theorem State.setTim_tim (x : TimSt) : (s.setTim x).tim = x := rfl
@[simp] theorem State.setTim_mgm (x : TimSt) : (s.setTim x).mgm = s.mgm := rfl
@[simp] theorem State.setTim_mem (x : TimSt) : (s.setTim x).mem = s.mem := rfl
@[simp] theorem State.setTim_ice (x : TimSt) : (s.setTim x).ice = s.ice := rfl
@[simp] theorem State.setTim_lnk (x : TimSt) : (s.setTim x).lnk = s.lnk := rfl
@[simp] theorem State.setTim_out (x : TimSt) : (s.setTim x).out = s.out := rfl
@[simp] theorem State.setTim_freeCtr (x : TimSt) : (s.setTim x).freeCtr = s.freeCtr := rfl

@[simp] theorem State.setRtc_pending (x : RtcSt) : (s.setRtc x).pending = s.pending := rfl
@[simp] theorem State.setRtc_regs (x : RtcSt) : (s.setRtc x).regs = s.regs := rfl
@[simp] theorem State.setRtc_pairs (x : RtcSt) : (s.setRtc x).pairs = s.pairs := rfl
@[simp] theorem State.setRtc_sys (x : RtcSt) : (s.setRtc x).sys = s.sys := rfl
@[simp] theorem State.setRtc_fuses (x : RtcSt) : (s.setRtc x).fuses = s.fuses := rfl
@[simp] theorem State.setRtc_rec (x : RtcSt) : (s.setRtc x).rec_ = s.rec_ := rfl
@[simp] theorem State.setRtc_now (x : RtcSt) : (s.setRtc x).now = s.now := rfl
@[simp] theorem State.setRtc_eng (x : RtcSt) : (s.setRtc x).eng = s.eng := rfl
@[simp] theorem State.setRtc_leng (x : RtcSt) : (s.setRtc x).leng = s.leng := rfl
@[simp] theorem State.setRtc_sch (x : RtcSt) : (s.setRtc x).sch = s.sch := rfl
@[simp] theorem State.setRtc_mbx (x : RtcSt) : (s.setRtc x).mbx = s.mbx := rfl
@[simp] theorem State.setRtc_net (x : RtcSt) : (s.setRtc x).net = s.net := rfl
@[simp] theorem State.setRtc_dbg (x : RtcSt) : (s.setRtc x).dbg = s.dbg := rfl
@[simp] theorem State.setRtc_ser (x : RtcSt) : (s.setRtc x).ser = s.ser := rfl
@[simp] theorem State.setRtc_cfg (x : RtcSt) : (s.setRtc x).cfg = s.cfg := rfl
@[simp] theorem State.setRtc_pld (x : RtcSt) : (s.setRtc x).pld = s.pld := rfl
@[simp] theorem State.setRtc_rtc (x : RtcSt) : (s.setRtc x).rtc = x := rfl
@[simp] theorem State.setRtc_tim (x : RtcSt) : (s.setRtc x).tim = s.tim := rfl
@[simp] theorem State.setRtc_mgm (x : RtcSt) : (s.setRtc x).mgm = s.mgm := rfl
@[simp] theorem State.setRtc_mem (x : RtcSt) : (s.setRtc x).mem = s.mem := rfl
@[simp] theorem State.setRtc_ice (x : RtcSt) : (s.setRtc x).ice = s.ice := rfl
@[simp] theorem State.setRtc_lnk (x : RtcSt) : (s.setRtc x).lnk = s.lnk := rfl
@[simp] theorem State.setRtc_out (x : RtcSt) : (s.setRtc x).out = s.out := rfl
@[simp] theorem State.setRtc_freeCtr (x : RtcSt) : (s.setRtc x).freeCtr = s.freeCtr := rfl

@[simp] theorem State.setFlash_pending (f : SMap Byte) : (s.setFlash f).pending = s.pending := rfl
@[simp] theorem State.setFlash_regs (f : SMap Byte) : (s.setFlash f).regs = s.regs := rfl
@[simp] theorem State.setFlash_pairs (f : SMap Byte) : (s.setFlash f).pairs = s.pairs := rfl
@[simp] theorem State.setFlash_sys (f : SMap Byte) : (s.setFlash f).sys = s.sys := rfl
@[simp] theorem State.setFlash_fuses (f : SMap Byte) : (s.setFlash f).fuses = s.fuses := rfl
@[simp] theorem State.setFlash_rec (f : SMap Byte) : (s.setFlash f).rec_ = s.rec_ := rfl
@[simp] theorem State.setFlash_now (f : SMap Byte) : (s.setFlash f).now = s.now := rfl
@[simp] theorem State.setFlash_eng (f : SMap Byte) : (s.setFlash f).eng = s.eng := rfl
@[simp] theorem State.setFlash_leng (f : SMap Byte) : (s.setFlash f).leng = s.leng := rfl
@[simp] theorem State.setFlash_sch (f : SMap Byte) : (s.setFlash f).sch = s.sch := rfl
@[simp] theorem State.setFlash_mbx (f : SMap Byte) : (s.setFlash f).mbx = s.mbx := rfl
@[simp] theorem State.setFlash_net (f : SMap Byte) : (s.setFlash f).net = s.net := rfl
@[simp] theorem State.setFlash_dbg (f : SMap Byte) : (s.setFlash f).dbg = s.dbg := rfl
@[simp] theorem State.setFlash_ser (f : SMap Byte) : (s.setFlash f).ser = s.ser := rfl
@[simp] theorem State.setFlash_cfg (f : SMap Byte) : (s.setFlash f).cfg = s.cfg := rfl
@[simp] theorem State.setFlash_pld (f : SMap Byte) : (s.setFlash f).pld = s.pld := rfl
@[simp] theorem State.setFlash_rtc (f : SMap Byte) : (s.setFlash f).rtc = s.rtc := rfl
@[simp] theorem State.setFlash_tim (f : SMap Byte) : (s.setFlash f).tim = s.tim := rfl
@[simp] theorem State.setFlash_mgm (f : SMap Byte) : (s.setFlash f).mgm = { s.mgm with flash := f } := rfl
@[simp] theorem State.setFlash_mem (f : SMap Byte) : (s.setFlash f).mem = s.mem := rfl
@[simp] theorem State.setFlash_ice (f : SMap Byte) : (s.setFlash f).ice = s.ice := rfl
@[simp] theorem State.setFlash_lnk (f : SMap Byte) : (s.setFlash f).lnk = s.lnk := rfl
@[simp] theorem State.setFlash_out (f : SMap Byte) : (s.setFlash f).out = s.out := rfl
@[simp] theorem State.setFlash_freeCtr (f : SMap Byte) : (s.setFlash f).freeCtr = s.freeCtr := rfl

@[simp] theorem State.emit_pending (x : Out) : (s.emit x).pending = s.pending := rfl
@[simp] theorem State.emit_regs (x : Out) : (s.emit x).regs = s.regs := rfl
@[simp] theorem State.emit_pairs (x : Out) : (s.emit x).pairs = s.pairs := rfl
@[simp] theorem State.emit_sys (x : Out) : (s.emit x).sys = s.sys := rfl
@[simp] theorem State.emit_fuses (x : Out) : (s.emit x).fuses = s.fuses := rfl
@[simp] theorem State.emit_rec (x : Out) : (s.emit x).rec_ = s.rec_ := rfl
@[simp] theorem State.emit_now (x : Out) : (s.emit x).now = s.now := rfl
@[simp] theorem State.emit_eng (x : Out) : (s.emit x).eng = s.eng := rfl
@[simp] theorem State.emit_leng (x : Out) : (s.emit x).leng = s.leng := rfl
@[simp] theorem State.emit_sch (x : Out) : (s.emit x).sch = s.sch := rfl
@[simp] theorem State.emit_mbx (x : Out) : (s.emit x).mbx = s.mbx := rfl
@[simp] theorem State.emit_net (x : Out) : (s.emit x).net = s.net := rfl
@[simp] theorem State.emit_dbg (x : Out) : (s.emit x).dbg = s.dbg := rfl
@[simp] theorem State.emit_ser (x : Out) : (s.emit x).ser = s.ser := rfl
@[simp] theorem State.emit_cfg (x : Out) : (s.emit x).cfg = s.cfg := rfl
@[simp] theorem State.emit_pld (x : Out) : (s.emit x).pld = s.pld := rfl
@[simp] theorem State.emit_rtc (x : Out) : (s.emit x).rtc = s.rtc := rfl
@[simp] theorem State.emit_tim (x : Out) : (s.emit x).tim = s.tim := rfl
@[simp] theorem State.emit_mgm (x : Out) : (s.emit x).mgm = s.mgm := rfl
@[simp] theorem State.emit_mem (x : Out) : (s.emit x).mem = s.mem := rfl
@[simp] theorem State.emit_ice (x : Out) : (s.emit x).ice = s.ice := rfl
@[simp] theorem State.emit_lnk (x : Out) : (s.emit x).lnk = s.lnk := rfl
@[simp] theorem State.emit_out (x : Out) : (s.emit x).out = s.out ++ [x] := rfl
@[simp] theorem State.emit_freeCtr (x : Out) : (s.emit x).freeCtr = s.freeCtr := rfl

end Sys2Proof.Machine
end

