-- ==== Sys2Proof/Laws/Ops.lean ====
section
/-! SUPPORT. What the shared operations on registers and records do: a read after a write, the canonical form, and all that logging a record
changes. -/

namespace Sys2Proof.Machine

variable {s : State}

/-- A register reads what was written to it. -/
theorem State.reg_setReg_self (h : SMap.wf regReset s.regs = true) (o : Nat) (v : Word) : (s.setReg o v).reg o = v :=
  SMap.get_set_self h

/-- A write leaves every other register alone. -/
theorem State.reg_setReg_ne {o p : Nat} (h : o ≠ p) (v : Word) : (s.setReg o v).reg p = s.reg p := SMap.get_set_ne h

theorem State.wf_setReg (h : SMap.wf regReset s.regs = true) (o : Nat) (v : Word) : SMap.wf regReset (s.setReg o v).regs = true :=
  SMap.wf_set h

theorem State.reg_setFld_ne {o p : Nat} (h : o ≠ p) (hi lo n : Nat) : (s.setFld o hi lo n).reg p = s.reg p := State.reg_setReg_ne h _

theorem State.wf_setFld (h : SMap.wf regReset s.regs = true) (o hi lo n : Nat) : SMap.wf regReset (s.setFld o hi lo n).regs = true :=
  State.wf_setReg h _ _

theorem State.reg_setBit_ne {o p : Nat} (h : o ≠ p) (k : Nat) (b : Bool) : (s.setBit o k b).reg p = s.reg p := State.reg_setReg_ne h _

theorem State.wf_setBit (h : SMap.wf regReset s.regs = true) (o k : Nat) (b : Bool) : SMap.wf regReset (s.setBit o k b).regs = true :=
  State.wf_setReg h _ _

theorem State.reg_count_ne {o p : Nat} (h : o ≠ p) (hi lo n : Nat) : (s.count o hi lo n).reg p = s.reg p := State.reg_setFld_ne h _ _ _

theorem State.wf_count (h : SMap.wf regReset s.regs = true) (o hi lo n : Nat) : SMap.wf regReset (s.count o hi lo n).regs = true :=
  State.wf_setFld h _ _ _ _

/-- R385: all that logging a record can do. It becomes the pending record of its source, it is counted in the one that waits, or it is dropped and
counted in MGM_RECCNT. -/
theorem State.log_cases (s : State) (r : Rec) :
    s.log r = { s with rec_ := { s.rec_ with pend := s.rec_.pend ++ [r] } } ∨
    s.log r = { s with rec_ := { s.rec_ with
      pend := s.rec_.pend.map (fun x => if x.src = r.src then { x with count := satAdd 0xFFFFFFFF x.count r.count } else x) } } ∨
    s.log r = s.count oRecCnt 10 0 1 := by
  unfold State.log
  split
  · exact .inl rfl
  · split
    · exact .inr (.inl rfl)
    · exact .inr (.inr rfl)

/-- Logging keeps the registers canonical, and changes none but MGM_RECCNT. -/
theorem State.wf_log (h : SMap.wf regReset s.regs = true) (r : Rec) : SMap.wf regReset (s.log r).regs = true := by
  rcases s.log_cases r with e | e | e <;> rw [e]
  · exact h
  · exact h
  · exact State.wf_count h _ _ _ _

theorem State.reg_log_ne {o : Nat} (h : oRecCnt ≠ o) (r : Rec) : (s.log r).reg o = s.reg o := by
  rcases s.log_cases r with e | e | e <;> rw [e]
  · rfl
  · rfl
  · exact State.reg_count_ne h _ _ _

/-- Nothing outside the registers and the collector changes. -/
theorem State.log_frame (s : State) (r : Rec) : ∃ regs rec, s.log r = { s with regs := regs, rec_ := rec } := by
  rcases s.log_cases r with e | e | e
  · exact ⟨_, _, e⟩
  · exact ⟨_, _, e⟩
  · exact ⟨_, s.rec_, e⟩

end Sys2Proof.Machine
end

