-- ==== Sys2Proof/Machine/Package.lean ====
section
/-! DEFINITION. Package (ch. 18): the ball grid and its groups (R413 to R416), the levels of the hub control pins (R386, R387, R417), the
pin filters' inputs (R418), and the rails (R421). -/

namespace Sys2Proof.Machine

/-! ## Ball grid (R413) -/

def rowLetters : List String := ["A", "B", "C", "D", "E", "F", "G", "H", "J", "K", "L", "M", "N", "P", "T", "U", "V", "W", "Y"]

/-- The names of rows 1 to 60. -/
def rowNames : List String :=
  rowLetters ++ rowLetters.map ("A" ++ ·) ++ rowLetters.map ("B" ++ ·) ++ ["CA", "CB", "CC"]

/-- A ball: row 1 to 60 from the north, column 1 to 60 from the west, both counted from 0. -/
structure Ball where
  row : Fin 60
  col : Fin 60
  deriving DecidableEq, Repr

def Ball.name (b : Ball) : String := rowNames.getD b.row.val "" ++ toString (b.col.val + 1)

/-! ## Ball groups (R414 to R416) -/

inductive BallGroup where
  | rfNorth
  | rfSouth
  | dramWest
  | dramEast
  | centre
  deriving DecidableEq, Repr

/-- R414. -/
def Ball.group (b : Ball) : BallGroup :=
  if b.row.val < 6 then .rfNorth
  else if 54 ≤ b.row.val then .rfSouth
  else if b.col.val < 15 then .dramWest
  else if 45 ≤ b.col.val then .dramEast
  else .centre

/-- A signal of a converter channel. -/
inductive RfPin where
  | rxP
  | rxN
  | txP
  | txN
  | ground
  deriving DecidableEq, Repr

/-- R415: what an RF ball carries: the channel 0 to 63 and its signal; none outside the RF groups. -/
def Ball.rf (b : Ball) : Option (Nat × RfPin) :=
  let south := decide (b.group = .rfSouth)
  let depth := if south then 59 - b.row.val else b.row.val
  let half := b.col.val / 30
  let x := b.col.val % 30
  let chan := 16 * ((if south then 2 else 0) + half) + (x - 7)
  if b.group ≠ .rfNorth ∧ b.group ≠ .rfSouth then none
  else if x < 7 ∨ 23 ≤ x then some (0, .ground)
  else match depth with
    | 1 => some (chan, .rxP)
    | 2 => some (chan, .rxN)
    | 4 => some (chan, .txP)
    | 5 => some (chan, .txN)
    | _ => some (0, .ground)

/-- R416: the DRAM channel whose band a ball lies in. -/
def Ball.band (b : Ball) : Option Nat :=
  let i := (b.row.val - 6) / 12
  match b.group with
  | .dramWest => some ([0, 1, 4, 5].getD i 0)
  | .dramEast => some ([2, 3, 6, 7].getD i 0)
  | _ => none

/-! ## Hub control pins (R417) -/

/-- An output of the hub: driven, released (open drain), or high impedance. -/
inductive PinLevel where
  | low
  | high
  | released
  | highZ
  deriving DecidableEq, Repr

/-- The outputs with a rule of their own, and those that idle between operations. -/
inductive HubPin where
  | cfgDone
  | cfgErrN
  | faultN
  | alarmN
  | ppsOut
  | flRstN
  deriving DecidableEq, Repr

/-- Where the output is, and its level until the hub is ON. -/
def HubPin.place : HubPin → String × PinLevel
  | .cfgDone => ("AD25", .low)
  | .cfgErrN => ("AD26", .released)
  | .faultN => ("AD27", .released)
  | .alarmN => ("AD28", .released)
  | .ppsOut => ("AD30", .low)
  | .flRstN => ("AE27", .low)

/-- An open-drain output is low or released, a push-pull output low or high. -/
def drain (asserted : Bool) : PinLevel := if asserted then .low else .released
def drive (up : Bool) : PinLevel := if up then .high else .low

/-- R417: the level of an output. CFG_DONE and CFG_ERR_N follow R30, R32 and R72, FAULT_N R386, ALARM_N R387, PPS_OUT R253. -/
def State.pin (s : State) (p : HubPin) : PinLevel :=
  if s.sys.hubOn = false then p.place.2
  else match p with
    | .cfgDone => drive s.cfg.done
    | .cfgErrN => drain s.cfg.err
    | .faultN => drain (s.bit oAlarm 31)
    | .alarmN => drain (decide (bitsOf (s.mgmRegRead 0x020) 7 0 ≠ 0))
    | .ppsOut => drive s.tim.ppsHigh
    | .flRstN => drive s.sys.flRstN

/-- R418: the inputs of SYS_PINFILT entries 0 to 9; the others serve no pin. -/
def filterInput (i : Nat) : Option String :=
  ["POR_N", "PERST_N", "WAKE_N", "MODE[0]", "MODE[1]", "MODE[2]", "DBG_EN", "PPS_IN", "TOD_RX", "PMB_ALERT_N"][i]?

/-! ## Rails and heat (R421, R427) -/

/-- The supply group of a rail, and its current monitor. -/
def railOf (i : Nat) : Option (Nat × Option Nat) :=
  ([(1, none), (1, none), (2, some 0), (2, none), (2, none), (3, some 1), (3, some 2), (3, some 3), (3, some 4), (3, none), (3, none),
    (3, some 5), (3, some 6), (3, some 7), (3, none)] ++
   [(4, some 8), (4, none), (4, some 9), (4, some 10), (4, some 11), (4, none), (4, none), (4, none), (4, none)])[i]?

/-- R427: the junction temperature is the highest valid reading, in units of 0.0625 °C. -/
def State.junctionTemp (s : State) : Option Int :=
  (List.range 44).foldl (fun m i =>
    match s.tempOf i, m with
    | some t, some u => some (max t u)
    | some t, none => some t
    | none, u => u) none

end Sys2Proof.Machine
end

