-- ==== Sys2Proof/Tests/Slice0.lean ====
section
/-! SUPPORT. Tests. First small states and single steps on them with the values the manual gives; then, for each statement with hypotheses, a
state and operands that meet them together (`met_…`, one conjunct for each clause of the statement). -/

namespace Sys2Proof.Tests
open Sys2Proof Sys2Proof.Machine Sys2Proof.Stated

set_option Elab.async false

/-- The hub is ON; everything else is as at reset. -/
abbrev hub : State := { State.reset with sys := { State.reset.sys with hubOn := true, porActive := false, porN := true } }
/-- A state with these register words written. -/
abbrev wr (s : State) (l : List (Nat × Word)) : State := l.foldl (fun t p => t.setReg p.1 p.2) s
/-- The power register of a unit that is ON. -/
abbrev pOn : Word := 0x82000000
/-- Engine 0 is ON and placed, and runs a task whose first bundle is `w`. -/
def runs (w : Quad) : State :=
  (wr hub [(oPwrEng 0, pOn), (oPlace 0, 0x20000001)]).setEng 0
    (((((({ b0 := { busy := true, tid := 7 } } : EngSt).writeWord true 0 w).writeWord false 0 5).writeWord false 1 0).writeWord false 2 0).writeWord false 3 0)
/-- A bundle whose control slot holds an opcode, rd, ra and an immediate (R112); the other slots are 0. -/
def ctlWord (opc rd ra imm : Nat) : Quad := BitVec.ofNat 128 ((opc * 2 ^ 28 + rd * 2 ^ 23 + ra * 2 ^ 18 + imm) * 2 ^ 88)
/-- A bundle whose vector slot holds an opcode, d, a format and an immediate. -/
def vecWord (opc d fmt imm : Nat) : Quad := BitVec.ofNat 128 ((opc * 2 ^ 32 + d * 2 ^ 27 + fmt * 2 ^ 8 + imm) * 2 ^ 44)
/-- A bundle whose load-store slot holds an opcode, an offset and a predicate destination. -/
def lsWord (opc off pd : Nat) : Quad := BitVec.ofNat 128 (opc * 2 ^ 36 + off * 2 ^ 10 + pd * 2 ^ 7)
/-- Engine 0 with another bank. -/
abbrev inBank (s : State) (b : EBank) : State := s.setEng 0 { s.engSt 0 with b0 := b }
/-- The configuration engine in a state. -/
abbrev cfgs (s : State) (c : CfgSt) : State := { s with cfg := c }
/-- Task context `x` in a state. -/
abbrev ctxs (s : State) (x : Nat) (c : TaskCtx) : State := { s with sch := { s.sch with ctx := SMap.set (fun _ => {}) s.sch.ctx x c } }
/-- The network in a state. -/
abbrev nets (s : State) (n : NetSt) : State := { s with net := n }
/-- Stream `c` in a state. -/
abbrev strms (s : State) (c : Nat) (x : StrmSt) : State := nets s { s.net with strm := SMap.set (fun _ => {}) s.net.strm c x }
/-- Reduction group `g` in a state. -/
abbrev grps (s : State) (g : Nat) (x : RedGroup) : State := nets s { s.net with groups := SMap.set (fun _ => {}) s.net.groups g x }
/-- The time unit in a state. -/
abbrev tims (s : State) (x : TimSt) : State := { s with tim := x }
/-- A packet of the management processor to a register. -/
abbrev pkt0 : Pkt := ⟨0, 0x4000, 3, 1, 0, 0, 0xFFFF, 0, false, false, 5, []⟩
/-- A changed frame with its check. -/
abbrev frameBit : CFrame := ⟨4, BitVec.ofNat 16 (frameCrc 4)⟩
/-- The serial lanes in a state. -/
abbrev sers (s : State) (x : SerSt) : State := { s with ser := x }
/-- Lane 0 in a state. -/
abbrev laneIn (n : Nat) : State := sers hub { lanes := [(0, { st := n })] }
/-- A 64-byte frame with a correct FCS. -/
def okFrame : List Byte := List.replicate 60 0 ++ bytesLE 4 (crc32 (List.replicate 60 0))
/-- Die-link module 0 in a state, with every lane usable and at full width. -/
abbrev modIn (n : Nat) : State := wr hub [(oPwrTile 0, pOn), (oPwrTile 1, pOn), (oPwrTile 2, pOn), (oPwrTile 3, pOn), (oLstat 0, BitVec.ofNat 32 (n * 0x10000000)), (oLnk 0 + 0x10, 0xFFFFFFFF), (oLnk 0 + 0x14, 0xFFFFFFFF), (oLnk 0 + 0x18, 0xFFFFFFFF), (oLnk 0 + 0x1C, 0xFFFFFFFF), (oLthr 0, 0x00FFF000), (oNocstat, 0)]
/-- DRAM channel 0 is ON, with these words of its registers and of the integrity unit. -/
abbrev memOnWith (l : List (Nat × Word)) : State := wr hub ([(oPwrMem 0, pOn), (oDramil, 1), (oMem 0 + 0xC, 0x10063200)] ++ l)
/-- DRAM channel 0 in a state. -/
abbrev chans (s : State) (x : ChanSt) : State := { s with mem := [(0, x)] }
/-- Its first line holds zeros. -/
abbrev zeroLine (s : State) : State := s.putLine 0 (List.replicate 16 (some ⟨0, 0⟩))
/-- Range 0, of 1 MiB at 0, is in a state. -/
abbrev rangeIn (en : Bool) (n : Nat) : State := memOnWith [(oIce, 1), (oIce + 8, 0x80000000), (oRange 0, if en then 0x80000000 else 0), (oRange 0 + 0x10, 1), (oRange 0 + 0x18, 0x100000), (oPrstat 0, BitVec.ofNat 32 (n * 0x20000000 + 2))]
/-- A key. -/
def zeroKey : List Byte := List.replicate 32 0
/-- The integrity unit in a state. -/
abbrev ices (s : State) (x : IceSt) : State := { s with ice := x }
/-- Mailbox 0 in a state. -/
abbrev mboxs (s : State) (x : MbxSt) : State := { s with mbx := [(0, x)] }
/-- The management unit in a state. -/
abbrev mgms (s : State) (x : MgmSt) : State := { s with mgm := x }
/-- The record collector in a state. -/
abbrev recs (s : State) (x : Collector) : State := { s with rec_ := x }
/-- The debug unit in a state. -/
abbrev dbgs (s : State) (x : DbgSt) : State := { s with dbg := x }
/-- An error record. -/
abbrev rec0 : Rec := ⟨5, 1, 2, 3, 4⟩
/-- A block of zeros. -/
@[irreducible] def oneBlock : List Byte := List.replicate 65536 0
/-- A header of zeros but for BLOCKS. -/
def hdrOf (blocks : Nat) : List Byte := List.replicate 12 0 ++ bytesLE 4 blocks ++ List.replicate 496 0
/-- A block of zeros, unencrypted, waits; `g` is the digest it must have. -/
abbrev blockIn (g : Nat) : State := cfgs (wr hub [(oCfgStat, 0x20000000)]) { hdr := some (hdrOf 1), buf := oneBlock, digest := g }

/-! ## Reset -/

theorem test_reset_queue : State.reset.pending = [] := rfl
theorem test_reset_memory : Memory.wf State.reset = true ∧ State.regsWf State.reset = true := by decide +kernel

/-! ## Commands that cannot be sent: each check of `Instr.wf` refuses one -/

theorem test_wf_offset : Instr.wf (.registerWrite 0x4000 6 0) = false := by decide
theorem test_wf_tlp : [Instr.hostTlp ⟨0, .control, 2, true, 0, 0, [(0xF, 0)], false⟩, .hostTlp ⟨1, .config, 0, true, 0, 0, [(0xF, 0)], false⟩,
    .hostTlp ⟨0, .control, 0, true, 0, 0, [], false⟩, .hostTlp ⟨0, .control, 0, false, 0, 1025, [], false⟩].all (fun i => !i.wf) = true := by
  decide
theorem test_wf_packets : [Instr.wr { pkt0 with body := List.replicate 257 0 }, .rdrsp ⟨2, 0, false, 0, 0, 0, false, List.replicate 257 0⟩].all
    (fun i => !i.wf) = true := by decide +kernel
theorem test_wf_times : [Instr.ppsInEdge 1000000000 0, .txFrameSend 0 0 1000000000 0, .streamSamples 0 0 1000000000 0 [] [],
    .rxFrame 0 ⟨[], false, 0, 1000000000, 0⟩].all (fun i => !i.wf) = true := by decide
theorem test_wf_lengths : [Instr.dramReadData 0 (List.replicate 17 (0, 0)), .patrolScrubRead 0 (List.replicate 17 (0, 0)),
    .flashOpDone (List.replicate 257 0) false, .pmbDone .done (List.replicate 256 0), .flitAck 0 .aToB 257].all (fun i => !i.wf) = true := by
  decide +kernel

/-! ## The worked examples of the manual -/

/-- 05_engines.md, adding two B10 words with different exponents: the bank before. -/
def b10 : EBank := { v := SMap.set (fun _ => 0) (SMap.set (fun _ => 0) [] 1 0x300000000000000000000000200CE065) 2 0x5000000000000000000000000000A078 }

/-- The word written to D, and FLAGS unchanged. -/
theorem test_b10_add :
    (applyDsts 0xFF b10 (vecVadd b10 ⟨3, 1, 2, 0, 4, 0⟩)).1.getV 3 = 0x400000000000000000000000300FB122 ∧
    (applyDsts 0xFF b10 (vecVadd b10 ⟨3, 1, 2, 0, 4, 0⟩)).2 = 0 := by decide +kernel

/-- 14_integrity.md, one granule in untagged mode: its check bits, and the correction of D15. -/
theorem test_granule : dramEncode false 0x3000000000000005 0 = 0xE366 ∧
    dramRead false ⟨0x9000000000000005, 0xE366⟩ = (⟨0x3000000000000005, 0xE366⟩, .corrected) ∧
    dramRead false poisonDGran = (poisonDGran, .poison) := by decide +kernel

/-- 14_integrity.md, a protected range of 4 GiB: its levels and the size of its metadata. -/
theorem test_levels : levelCounts 6 1048576 = [1048576, 32768, 1024, 32] ∧ 128 * (levelCounts 6 1048576).sum = 138547200 := by decide +kernel

/-- 09_time.md, ticks for 30 kHz subcarriers: the registers of the example. -/
def slots30 : State := wr hub ([(oTim + 0x140, 0x0C351800), (oTim + 0x144, 0x8000000E), (oTim + 0x148, 0), (oTim + 0x180, 0x11600)] ++
  (List.range 13).map (fun i => (oTim + 0x184 + 4 * i, 0x11200)))

theorem test_symbols : slots30.symTime 0 1 = 36197 * 65536 + 60075 ∧ slots30.symTime 0 2 = 71875 * 65536 ∧
    slots30.symTime 0 13 = 464322 * 65536 + 60075 ∧ slots30.symTime 1 0 = 500000 * 65536 := by decide +kernel

/-- 01_system.md, one logical engine before and after a spare takes over: the requester IDs and the ENG registers. -/
theorem test_placement : engReq 549 = 0x2005 ∧ oEng 549 = 0x1225000 ∧ engReq 560 = 0x2010 ∧ oEng 560 = 0x1230000 := by decide

/-- R415: RX37 is channel 5 of X2, on balls CB13 and CA13. -/
theorem test_rx37 : (Ball.mk 58 12).rf = some (37, .rxP) ∧ (Ball.mk 57 12).rf = some (37, .rxN) ∧ rowNames.getD 58 "" = "CB" ∧
    rowNames.getD 57 "" = "CA" ∧ rowNames.length = 60 := by decide +kernel

/-- R414, R416: AD16 is in the centre field, and M4 has rows AM to BD of the west group. -/
theorem test_bands : (Ball.mk 22 15).group = .centre ∧ rowNames.getD 22 "" = "AD" ∧ rowNames.getD 30 "" = "AM" ∧ rowNames.getD 41 "" = "BD" ∧
    (Ball.mk 30 0).band = some 4 ∧ (Ball.mk 41 14).band = some 4 ∧ (Ball.mk 42 0).band = some 5 := by decide +kernel

/-! ## Single steps -/

/-- R116: SRA keeps the sign, and a shift takes the low five bits of S[RB]. -/
theorem test_sra : (match exec (.sra 0 noPred ⟨1, 2, 0x6000⟩) (inBank (runs (ctlWord 8 1 2 0x6000))
    { busy := true, tid := 7, s := [(2, 0x80000000), (3, 0x24)] }) with
    | .next t => some ((bank t 0).getS 1, (bank t 0).pc)
    | _ => none) = some (0xF8000000, 1) := by decide +kernel

/-- Commands are taken first in, first out. -/
theorem test_queue_order : (match step { hub with pending := [.pmbAlertN, .hubOn] } with | .next t => some t.pending | _ => none) =
    some [.hubOn] := by decide +kernel

/-! ## The hypotheses of the statements are met -/

theorem row_found {off : Nat} (h : (regAt off).isSome = true) : (regAt off).map (·.2.1) = some ((regAt off).get h).2.1 :=
  Option.map_eq_some_iff.2 ⟨_, (Option.some_get h).symm, rfl⟩

theorem openBlock_plain (iv b : List Byte) (k : Nat) (h : ofBytesBE (b.drop 65520) = 0) :
    openBlock none iv (sha384 b) k b = .inl (b.take 65520) := by simp [openBlock, h]

theorem oneBlock_tag : ofBytesBE ((oneBlock.take 65536).drop 65520) = 0 := by
  rw [oneBlock, List.take_replicate, List.drop_replicate]; decide

theorem blockIn_opens (g : Nat) (h : g = sha384 (oneBlock.take 65536)) :
    openBlock (blockIn g).cfg.key (((hdrOf 1).drop 0x020).take 8) (blockIn g).cfg.digest (blockIn g).cfg.blk ((blockIn g).cfg.buf.take 65536) =
      .inl ((oneBlock.take 65536).take 65520) := by
  show openBlock none _ g 0 (oneBlock.take 65536) = _
  rw [h]; exact openBlock_plain _ _ _ oneBlock_tag

theorem met_StepRunsTheFrontCommand : ∃ (s : State), s.pending = [] :=
  ⟨hub, by decide +kernel⟩

theorem met_StepKeepsInvariant : ∃ (s : State) (t : State), Inv s ∧ step s = .next t :=
  ⟨hub, hub, by unfold Stated.Inv; decide +kernel, rfl⟩

theorem met_ControlEndsComplete :
    (∃ (e : Eng) (q : Pred) (x : CArgs) (s : State), Issues s e (ctlBundle q 0x48 x) ∧ predOn q (bank s e) = true) ∧
    (∃ (e : Eng) (q : Pred) (x : CArgs) (s : State), Issues s e (ctlBundle q 0x49 x) ∧ predOn q (bank s e) = true ∧ (bank s e).wait = .none ∧ s.inputRoom (2 + 4 * engTile e.val) = true) ∧
    (∃ (e : Eng) (q : Pred) (x : CArgs) (s : State), Issues s e (ctlBundle q 0x49 x) ∧ predOn q (bank s e) = true ∧ (bank s e).wait = .enqTaken) ∧
    (∃ (e : Eng) (q : Pred) (x : CArgs) (s : State), Issues s e (ctlBundle q 0x4A x) ∧ predOn q (bank s e) = true ∧ s.schInit = false) ∧
    (∃ (e : Eng) (q : Pred) (x : CArgs) (s : State), Inv s ∧ Fetches s e (ctlBundle q 0x4C x) ∧ predOn q (bank s e) = true ∧ causesOf s e (ctlBundle q 0x4C x) = [(causeSoft, 0, 0)] ∧ (bank s e).copy = 0 ∧ ((eng s e).bank (!(eng s e).active)).cause = none) ∧
    (∃ (e : Eng) (q : Pred) (x : CArgs) (s : State), Inv s ∧ Issues s e (ctlBundle q 0x4E x) ∧ predOn q (bank s e) = true ∧ s.bit (oEcfg e.val) 27 = true) :=
  ⟨⟨0, noPred, ⟨0, 0, 0⟩, runs (ctlWord 0x48 0 0 0), by decide +kernel, by decide +kernel⟩,
   ⟨0, noPred, ⟨0, 0, 0⟩, runs (ctlWord 0x49 0 0 0), by decide +kernel, by decide +kernel, by decide +kernel, by decide +kernel⟩,
   ⟨0, noPred, ⟨0, 0, 0⟩, inBank (runs (ctlWord 0x49 0 0 0)) { busy := true, tid := 7, wait := .enqTaken }, by decide +kernel, by decide +kernel, by decide +kernel⟩,
   ⟨0, noPred, ⟨0, 0, 0⟩, (runs (ctlWord 0x4A 0 0 0)).setReg (oSch + 8) 0, by decide +kernel, by decide +kernel, by decide +kernel⟩,
   ⟨0, noPred, ⟨0, 0, 3⟩, runs (ctlWord 0x4C 0 0 3), by unfold Stated.Inv; decide +kernel, by decide +kernel, by decide +kernel, by decide +kernel, by decide +kernel, by decide +kernel⟩,
   ⟨0, noPred, ⟨0, 0, 0⟩, (runs (ctlWord 0x4E 0 0 0)).setBit (oEcfg 0) 27 true, by unfold Stated.Inv; decide +kernel, by decide +kernel, by decide +kernel, by decide +kernel⟩⟩

theorem met_SpecialRegistersComplete :
    (∃ (e : Eng) (q : Pred) (x : CArgs) (s : State), Issues s e (ctlBundle q 0x50 x) ∧ predOn q (bank s e) = true) ∧
    (∃ (e : Eng) (q : Pred) (x : CArgs) (s : State), Issues s e (ctlBundle q 0x51 x)) ∧
    (∃ (e : Eng) (q : Pred) (x : CArgs) (s : State), Issues s e (ctlBundle q 0x50 x) ∧ predOn q (bank s e) = true ∧ x.ra = 9) :=
  ⟨⟨0, noPred, ⟨1,3,0⟩, runs (ctlWord 0x50 1 3 0), by decide +kernel, by decide +kernel⟩,
   ⟨0, noPred, ⟨0,1,0⟩, runs (ctlWord 0x51 0 1 0), by decide +kernel⟩,
   ⟨0, noPred, ⟨1,9,0⟩, runs (ctlWord 0x50 1 9 0), by decide +kernel, by decide +kernel, by decide +kernel⟩⟩

theorem met_VectorResults : ∃ (x : VArgs) (i : Nat), x.fmt = 0 ∧ i < 8 :=
  ⟨⟨0, 0, 0, 0, 0, 0⟩, 0, by decide +kernel, by decide +kernel⟩

theorem met_LocalLoadsComplete :
    (∃ (e : Eng) (q : Pred) (x : LArgs) (s : State), Issues s e (lsBundle q 0x0 x)) ∧
    (∃ (e : Eng) (q : Pred) (x : LArgs) (s : State), Issues s e (lsBundle q 0x1 x) ∧ predOn q (bank s e) = true) ∧
    (∃ (e : Eng) (q : Pred) (x : LArgs) (s : State), Issues s e (lsBundle q 0x3 x) ∧ predOn q (bank s e) = true) ∧
    (∃ (e : Eng) (q : Pred) (x : LArgs) (s : State), Issues s e (lsBundle q 0x5 x) ∧ predOn q (bank s e) = true) :=
  ⟨⟨0, noPred, ⟨0, 0, 0, 0, 0, 0⟩, runs (lsWord 0 0 0), by decide +kernel⟩,
   ⟨0, noPred, ⟨0, 0, 0, 0, 0, 0⟩, runs (lsWord 1 0 0), by decide +kernel, by decide +kernel⟩,
   ⟨0, noPred, ⟨0, 0, 0, 0, 0, 0⟩, runs (lsWord 3 0 0), by decide +kernel, by decide +kernel⟩,
   ⟨0, noPred, ⟨0, 0, 0, 0, 0, 0⟩, runs (lsWord 5 0 0), by decide +kernel, by decide +kernel⟩⟩

theorem met_LocalStoresComplete :
    (∃ (e : Eng) (q : Pred) (x : LArgs) (s : State), Issues s e (lsBundle q 0x2 x) ∧ predOn q (bank s e) = true) ∧
    (∃ (e : Eng) (q : Pred) (x : LArgs) (s : State), Issues s e (lsBundle q 0x4 x) ∧ predOn q (bank s e) = true) ∧
    (∃ (e : Eng) (q : Pred) (x : LArgs) (s : State), Issues s e (lsBundle q 0x6 x) ∧ predOn q (bank s e) = true) :=
  ⟨⟨0, noPred, ⟨0, 0, 0, 0, 0, 0⟩, runs (lsWord 2 0 0), by decide +kernel, by decide +kernel⟩,
   ⟨0, noPred, ⟨0, 0, 0, 0, 0, 0⟩, runs (lsWord 4 0 0), by decide +kernel, by decide +kernel⟩,
   ⟨0, noPred, ⟨0,0,0,0,1,0⟩, runs (lsWord 6 0 1), by decide +kernel, by decide +kernel⟩⟩

theorem met_RemoteAccessesIssue :
    (∃ (e : Eng) (q : Pred) (x : LArgs) (s : State), Issues s e (lsBundle q 0x7 x) ∧ predOn q (bank s e) = true) ∧
    (∃ (e : Eng) (q : Pred) (x : LArgs) (s : State), Issues s e (lsBundle q 0x8 x) ∧ predOn q (bank s e) = true) ∧
    (∃ (e : Eng) (q : Pred) (x : LArgs) (s : State), Issues s e (lsBundle q 0x9 x) ∧ predOn q (bank s e) = true) ∧
    (∃ (e : Eng) (q : Pred) (x : LArgs) (s : State), Issues s e (lsBundle q 0xA x) ∧ predOn q (bank s e) = true) ∧
    (∃ (e : Eng) (q : Pred) (x : LArgs) (s : State), Issues s e (lsBundle q 0xB x) ∧ predOn q (bank s e) = true) :=
  ⟨⟨0, noPred, ⟨0, 0, 0, 0, 0, 0⟩, runs (lsWord 7 0 0), by decide +kernel, by decide +kernel⟩,
   ⟨0, noPred, ⟨0, 0, 0, 0, 0, 0⟩, runs (lsWord 8 0 0), by decide +kernel, by decide +kernel⟩,
   ⟨0, noPred, ⟨0,0,0,1,0,0⟩, runs (lsWord 9 1 0), by decide +kernel, by decide +kernel⟩,
   ⟨0, noPred, ⟨0,0,0,1,0,0⟩, runs (lsWord 10 1 0), by decide +kernel, by decide +kernel⟩,
   ⟨0, noPred, ⟨0, 0, 0, 0, 0, 0⟩, runs (lsWord 0xB 0 0), by decide +kernel, by decide +kernel⟩⟩

theorem met_TrapsEndTheTask :
    (∃ (e : Eng) (q : Pred) (x : LArgs) (s : State) (c : Nat) (a : Nat) (k : Nat), Inv s ∧ Fetches s e (lsBundle q 0x1 x) ∧ lowest (causesOf s e (lsBundle q 0x1 x)) = some (c, a, k) ∧ (bank s e).copy = 0 ∧ ((eng s e).bank (!(eng s e).active)).cause = none) ∧
    (∃ (e : Eng) (q : Pred) (x : CArgs) (s : State), Inv s ∧ Fetches s e (ctlBundle q 0x01 x) ∧ bitsOf x.imm 12 0 ≠ 0 ∧ (bank s e).copy = 0 ∧ ((eng s e).bank (!(eng s e).active)).cause = none) ∧
    (∃ (e : Eng) (q : Pred) (x : CArgs) (s : State), Inv s ∧ Fetches s e (ctlBundle q 0x40 x) ∧ predOn q (bank s e) = true ∧ ((bank s e).pc + x.imm.toInt < 0 ∨ 4096 ≤ (bank s e).pc + x.imm.toInt) ∧ (bank s e).copy = 0 ∧ ((eng s e).bank (!(eng s e).active)).cause = none) :=
  ⟨⟨0, noPred, ⟨0, 0, 0, 0, 0, 0⟩, (runs (lsWord 1 0 0)).setEng 0 (((({ b0 := { busy := true, tid := 7 } } : EngSt).writeWord true 0 (lsWord 1 0 0)).poisonWord false 0)), 5, 0, 2, by unfold Stated.Inv; decide +kernel, by decide +kernel, by decide +kernel, by decide +kernel, by decide +kernel⟩,
   ⟨0, noPred, ⟨0,0,1⟩, runs (ctlWord 1 0 0 1), by unfold Stated.Inv; decide +kernel, by decide +kernel, by decide +kernel, by decide +kernel, by decide +kernel⟩,
   ⟨0, noPred, ⟨0,0,0x3FFFF⟩, runs (ctlWord 0x40 0 0 0x3FFFF), by unfold Stated.Inv; decide +kernel, by decide +kernel, by decide +kernel, by decide +kernel, by decide +kernel, by decide +kernel⟩⟩

theorem met_EngineEventsComplete :
    (∃ (e : Eng) (s : State), Inv s ∧ s.isOn (oPwrEng e.val) = true ∧ (bank s e).busy = true ∧ s.halted e.val = false ∧ (bank s e).wait = .done ∧ (bank s e).cause = none ∧ s.ownOut e.val (eng s e).active (bank s e).gen = [] ∧ (bank s e).copy = 0 ∧ (eng s e).shocc = false ∧ (eng s e).swapDue = false ∧ (s.ctx (bank s e).tid).st ≠ .free) ∧
    (∃ (e : Eng) (s : State), (eng s e).swapDue = true ∧ (bank s e).wait = .none ∧ (bank s e).busy = true ∧ (bank s e).cause = none) ∧
    (∃ (s : State), State.regsWf s = true) ∧
    (∃ (s : State), State.regsWf s = true) ∧
    (∃ (e : Eng) (tag : BitVec 8) (s : State) (q : OutReq) (w : Bool) (g : Nat), s.net.outst.find? (fun q => q.src == engReq e.val && q.tag == tag.toNat) = some q ∧ q.kind.owner = some (e.val, w, g) ∧ (eng s e).active ≠ w ∧ ((eng s e).bank w).busy = true ∧ ((eng s e).bank w).gen = g ∧ ((eng s e).bank w).cause = none) ∧
    (∃ (e : Eng) (s : State), (bank s e).busy = true ∧ (bank s e).wd = 0 ∧ s.bit (oEng e.val + 0x18) 31 = true ∧ s.halted e.val = false ∧ (eng s e).wdogRaised = false ∧ (bank s e).cause = none) :=
  ⟨⟨0, ctxs (inBank (runs 0) { busy := true, tid := 7, wait := .done }) 7 { st := .running }, by unfold Stated.Inv; decide +kernel, by decide +kernel, by decide +kernel, by decide +kernel, by decide +kernel, by decide +kernel, by decide +kernel, by decide +kernel, by decide +kernel, by decide +kernel, by decide +kernel⟩,
   ⟨0, (runs 0).setEng 0 { b0 := { busy := true, tid := 7 }, swapDue := true }, by decide +kernel, by decide +kernel, by decide +kernel, by decide +kernel⟩,
   ⟨hub, by decide +kernel⟩,
   ⟨hub, by decide +kernel⟩,
   ⟨0, 3, { (runs 0).setEng 0 { b0 := { busy := true }, b1 := { busy := true, gen := 2 } } with net := { State.reset.net with outst := [(outReq (engReq 0) 3 64 false (.getw 0 true 2 1))] } }, (outReq (engReq 0) 3 64 false (.getw 0 true 2 1)), true, 2, by decide +kernel, by decide +kernel, by decide +kernel, by decide +kernel, by decide +kernel, by decide +kernel⟩,
   ⟨0, inBank (wr (runs 0) [(oEng 0 + 0x18, 0x80000000)]) { busy := true }, by decide +kernel, by decide +kernel, by decide +kernel, by decide +kernel, by decide +kernel, by decide +kernel⟩⟩

theorem met_FaultsIsolateASpare : ∃ (e : Eng) (s : State), Inv s ∧ s.isOn (oPwrEng e.val) = true ∧ s.placeSt e.val = 0 :=
  ⟨0, wr hub [(oPwrEng 0, pOn), (oPlace 0, 0)], by unfold Stated.Inv; decide +kernel, by decide +kernel, by decide +kernel⟩

theorem met_PlacementEventsComplete :
    (∃ (l : LEng) (s : State) (k : Takeover), Inv s ∧ (s.le l.val).takeover = some k ∧ k.copied = false ∧ k.new ≠ k.old ∧ s.isOn (oPwrEng k.new) = true ∧ (s.le l.val).waiting ≠ []) ∧
    (∃ (l : LEng) (s : State) (k : Takeover), Inv s ∧ (s.le l.val).takeover = some k ∧ k.copied = false ∧ k.new ≠ k.old ∧ s.isOn (oPwrEng k.new) = true ∧ (s.le l.val).waiting ≠ []) ∧
    (∃ (l : LEng) (s : State), Inv s ∧ (s.le l.val).reportDue = true) ∧
    (∃ (l : LEng) (s : State), Inv s ∧ (s.le l.val).takeover = none ∧ (s.le l.val).phys < 1088 ∧ s.placeSt (s.le l.val).phys = 2 ∧ s.engLid (s.le l.val).phys = l.val ∧ s.isOn (oPwrEng (s.le l.val).phys) = true ∧ s.inReset (s.le l.val).phys = false ∧ s.bit (oEng (s.le l.val).phys + 0x20) 31 = false) ∧
    (∃ (e : Eng) (s : State), Inv s ∧ s.bit (oEng e.val + 0x20) 31 = true ∧ (bank s e).busy = false) :=
  ⟨⟨0, (wr hub [(oPwrEng 40, pOn)]).setLe 0 { lengReset 0 with takeover := some ⟨0, 40, false⟩, waiting := [3] }, ⟨0, 40, false⟩, by unfold Stated.Inv; decide +kernel, by decide +kernel, by decide +kernel, by decide +kernel, by decide +kernel, by decide +kernel⟩,
   ⟨0, (wr hub [(oPwrEng 40, pOn)]).setLe 0 { lengReset 0 with takeover := some ⟨0, 40, false⟩, waiting := [3] }, ⟨0, 40, false⟩, by unfold Stated.Inv; decide +kernel, by decide +kernel, by decide +kernel, by decide +kernel, by decide +kernel, by decide +kernel⟩,
   ⟨0, hub.setLe 0 { lengReset 0 with reportDue := true }, by unfold Stated.Inv; decide +kernel, by decide +kernel⟩,
   ⟨0, wr hub [(oPwrEng 0, pOn), (oPlace 0, 0x40000100)], by unfold Stated.Inv; decide +kernel, by decide +kernel, by decide +kernel, by decide +kernel, by decide +kernel, by decide +kernel, by decide +kernel, by decide +kernel⟩,
   ⟨0, wr hub [(oEng 0 + 0x20, 0x80000000)], by unfold Stated.Inv; decide +kernel, by decide +kernel, by decide +kernel⟩⟩

theorem met_RejectedWritesOnlyReport :
    (∃ (req : Req) (off : COff) (val : Word) (s : State) (l : RegLoc) (r : RegDef) (c : Nat), Stated.Writable s req off.toNat l r ∧ r.check val = some c) ∧
    (∃ (s : State) (code : Nat), State.regsWf s = true ∧ code < 256) :=
  ⟨⟨BitVec.ofNat 16 reqMgmt, 0x398, 0, hub, ⟨.sys, 0, 0, 0x398⟩, ((regAt 0x398).get (by decide +kernel)).2.1, 1, ⟨⟨by decide +kernel, by decide +kernel, by decide +kernel, by decide +kernel, by decide +kernel, by decide +kernel, row_found _⟩, by decide +kernel, by decide +kernel⟩, by decide +kernel⟩,
   ⟨hub, 3, by decide +kernel, by decide +kernel⟩⟩

theorem met_RegisterAccessesComplete :
    (∃ (req : Req) (off : COff) (val : Word) (s : State) (l : RegLoc) (r : RegDef), Stated.Writable s req off.toNat l r ∧ r.check val = none) ∧
    (∃ (req : Req) (off : COff) (val : Word) (s : State) (l : RegLoc) (r : RegDef), Stated.Writable s req off.toNat l r ∧ r.check val = none ∧ State.regsWf s = true ∧ s.setRegister req.toNat 0 l val = .ok (s.plainWrite off.toNat val)) ∧
    (∃ (req : Req) (s : State), s.sys.hubOn = true ∧ reservedDie req.toNat = false ∧ State.regsWf s = true) ∧
    (∃ (req : Req) (off : COff) (s : State) (l : RegLoc) (r : RegDef), Stated.Readable s req off.toNat l r ∧ r.pair = true ∧ SMap.wf (fun _ => ({} : Pairs)) s.pairs = true) ∧
    (∃ (req : Req) (off : COff) (s : State) (l : RegLoc) (r : RegDef), Stated.Readable s req off.toNat l r ∧ r.pair = false ∧ isHighHalf off.toNat = true) ∧
    (∃ (req : Req) (off : COff) (s : State) (l : RegLoc) (r : RegDef), Stated.Answers s req off.toNat l r ∧ r.pair = true ∧ r.writable = true ∧ SMap.wf (fun _ => ({} : Pairs)) s.pairs = true) ∧
    (∃ (req : Req) (off : COff) (s : State) (l : RegLoc) (r : RegDef), Stated.Answers s req off.toNat l r ∧ r.pair = false ∧ isHighHalf off.toNat = true ∧ r.writable = true) ∧
    (∃ (req : Req) (s : State), s.sys.hubOn = true ∧ reservedDie req.toNat = false ∧ req.toNat ≠ reqDbg) ∧
    (∃ (req : Req) (c : Strm) (lo : Word) (hi : Word) (s : State), s.sys.hubOn = true ∧ reservedDie req.toNat = false ∧ State.regsWf s = true ∧ s.bit (oStr c.val) 31 = false ∧ SMap.wf (fun _ => ({} : Pairs)) s.pairs = true ∧ bitsOf lo 3 0 = 0 ∧ hi.toNat < 0x10000) :=
  ⟨⟨BitVec.ofNat 16 reqMgmt, 0x40, 7, hub, ⟨.sys, 0, 0, 0x40⟩, ((regAt 0x40).get (by decide +kernel)).2.1, ⟨⟨by decide +kernel, by decide +kernel, by decide +kernel, by decide +kernel, by decide +kernel, by decide +kernel, row_found _⟩, by decide +kernel, by decide +kernel⟩, by decide +kernel⟩,
   ⟨BitVec.ofNat 16 reqMgmt, 0x40, 7, hub, ⟨.sys, 0, 0, 0x40⟩, ((regAt 0x40).get (by decide +kernel)).2.1, ⟨⟨by decide +kernel, by decide +kernel, by decide +kernel, by decide +kernel, by decide +kernel, by decide +kernel, row_found _⟩, by decide +kernel, by decide +kernel⟩, by decide +kernel, by decide +kernel, rfl⟩,
   ⟨BitVec.ofNat 16 reqMgmt, hub, by decide +kernel, by decide +kernel, by decide +kernel⟩,
   ⟨BitVec.ofNat 16 reqMgmt, 0x20008, hub, ⟨.sys, 0, 0, 0x20008⟩, ((regAt 0x20008).get (by decide +kernel)).2.1, ⟨by decide +kernel, by decide +kernel, by decide +kernel, by decide +kernel, by decide +kernel, row_found _, by decide +kernel, by decide +kernel, by decide +kernel, by decide +kernel, by decide +kernel⟩, by decide +kernel, by decide +kernel⟩,
   ⟨BitVec.ofNat 16 reqMgmt, 0x2000C, hub, ⟨.sys, 0, 0, 0x2000C⟩, ((regAt 0x2000C).get (by decide +kernel)).2.1, ⟨by decide +kernel, by decide +kernel, by decide +kernel, by decide +kernel, by decide +kernel, row_found _, by decide +kernel, by decide +kernel, by decide +kernel, by decide +kernel, by decide +kernel⟩, by decide +kernel, by decide +kernel⟩,
   ⟨BitVec.ofNat 16 reqMgmt, 0x20008, hub, ⟨.sys, 0, 0, 0x20008⟩, ((regAt 0x20008).get (by decide +kernel)).2.1, ⟨by decide +kernel, by decide +kernel, by decide +kernel, by decide +kernel, by decide +kernel, by decide +kernel, row_found _⟩, by decide +kernel, by decide +kernel, by decide +kernel⟩,
   ⟨BitVec.ofNat 16 reqMgmt, 0x2000C, hub, ⟨.sys, 0, 0, 0x2000C⟩, ((regAt 0x2000C).get (by decide +kernel)).2.1, ⟨by decide +kernel, by decide +kernel, by decide +kernel, by decide +kernel, by decide +kernel, by decide +kernel, row_found _⟩, by decide +kernel, by decide +kernel, by decide +kernel⟩,
   ⟨BitVec.ofNat 16 reqMgmt, hub, by decide +kernel, by decide +kernel, by decide +kernel⟩,
   ⟨BitVec.ofNat 16 reqMgmt, 0, 0, 0, hub, by decide +kernel, by decide +kernel, by decide +kernel, by decide +kernel, by decide +kernel, by decide +kernel, by decide +kernel⟩⟩

theorem met_UnitPowerCyclesComplete :
    (∃ (req : Req) (l : Lane) (s : State), Inv s ∧ s.sys.hubOn = true ∧ reservedDie req.toNat = false ∧ s.mayStart (.lane l) = true ∧ s.nightState = 0) ∧
    (∃ (l : Lane) (s : State), Inv s ∧ s.pwr (oPwrLane l.val) = 1 ∧ s.bit (oPwrLane l.val) 31 = true ∧ s.parentOn (.lane l) = true ∧ s.nightState = 0 ∧ SMap.find s.sys.due (oPwrLane l.val) = none) ∧
    (∃ (req : Req) (l : Lane) (s : State), Inv s ∧ s.sys.hubOn = true ∧ reservedDie req.toNat = false ∧ s.pwr (oPwrLane l.val) = 2) ∧
    (∃ (l : Lane) (s : State), Inv s ∧ s.pwr (oPwrLane l.val) = 3) ∧
    (∃ (u : Sys2Proof.PUnit) (s : State), s.offMinRuns (pwrOff u) = true ∧ s.pwrEn u = false) :=
  ⟨⟨BitVec.ofNat 16 reqMgmt, 0, wr hub [(oPwrTile 0, pOn)], by unfold Stated.Inv; decide +kernel, by decide +kernel, by decide +kernel, by decide +kernel, by decide +kernel⟩,
   ⟨0, wr hub [(oPwrTile 0, pOn), (oPwrLane 0, 0x81000000)], by unfold Stated.Inv; decide +kernel, by decide +kernel, by decide +kernel, by decide +kernel, by decide +kernel, by decide +kernel⟩,
   ⟨BitVec.ofNat 16 reqMgmt, 0, wr hub [(oPwrLane 0, pOn)], by unfold Stated.Inv; decide +kernel, by decide +kernel, by decide +kernel, by decide +kernel⟩,
   ⟨0, wr hub [(oPwrLane 0, 0x03000000)], by unfold Stated.Inv; decide +kernel, by decide +kernel⟩,
   ⟨.lane 0, { hub with sys := { hub.sys with offMin := [oPwrLane 0] } }, by decide +kernel, by decide +kernel⟩⟩

theorem met_StartUpComplete :
    (∃ (s : State), s.sys.porActive = true ∧ s.sys.porN = true ∧ s.sys.g1 = true ∧ s.sys.g2 = true ∧ s.sys.g3 = true ∧ s.sys.g4 = true ∧ s.sys.low = []) ∧
    (∃ (s : State), State.regsWf s = true ∧ s.sys.porActive = false ∧ s.sys.strapped = false) ∧
    (∃ (s : State), s.sys.porActive = false ∧ s.sys.strapped = true ∧ s.sys.hubOn = false) ∧
    (∃ (s : State), s.sys.hubOn = true) ∧
    (∃ (s : State), s.sys.perstN = true ∧ s.sys.hubOn = true) ∧
    (∃ (s : State), s.sys.linkUp = true) ∧
    (∃ (s : State), s.sys.linkUp = true) ∧
    (∃ (s : State), s.sys.linkUp = true ∧ s.sys.epReady = true) :=
  ⟨⟨{ State.reset with sys := { State.reset.sys with porN := true, g1 := true, g2 := true, g3 := true, g4 := true } }, by decide +kernel, by decide +kernel, by decide +kernel, by decide +kernel, by decide +kernel, by decide +kernel, by decide +kernel⟩,
   ⟨{ State.reset with sys := { State.reset.sys with porActive := false } }, by decide +kernel, by decide +kernel, by decide +kernel⟩,
   ⟨{ State.reset with sys := { State.reset.sys with porActive := false, strapped := true } }, by decide +kernel, by decide +kernel, by decide +kernel⟩,
   ⟨hub, by decide +kernel⟩,
   ⟨{ hub with sys := { hub.sys with perstN := true } }, by decide +kernel, by decide +kernel⟩,
   ⟨{ hub with sys := { hub.sys with linkUp := true, perstN := true, epReady := true } }, by decide +kernel⟩,
   ⟨{ hub with sys := { hub.sys with linkUp := true, perstN := true, epReady := true } }, by decide +kernel⟩,
   ⟨{ hub with sys := { hub.sys with linkUp := true, perstN := true, epReady := true } }, by decide +kernel, by decide +kernel⟩⟩

theorem met_PowerOnResetsComplete :
    (∃ (s : State), s.sys.porN = true) ∧
    (∃ (s : State), State.regsWf s = true) ∧
    (∃ (s : State), State.regsWf s = true) ∧
    (∃ (s : State), State.regsWf s = true) ∧
    (∃ (s : State), State.regsWf s = true) :=
  ⟨⟨hub, by decide +kernel⟩,
   ⟨hub, by decide +kernel⟩,
   ⟨hub, by decide +kernel⟩,
   ⟨hub, by decide +kernel⟩,
   ⟨hub, by decide +kernel⟩⟩

theorem met_ResetsComplete :
    (∃ (req : Req) (s : State), Inv s ∧ s.sys.hubOn = true ∧ reservedDie req.toNat = false) ∧
    (∃ (req : Req) (s : State), Inv s ∧ s.sys.hubOn = true ∧ reservedDie req.toNat = false) ∧
    (∃ (req : Req) (c : Tile) (s : State), Inv s ∧ s.sys.hubOn = true ∧ reservedDie req.toNat = false ∧ s.rstunitCode (BitVec.ofNat 32 (0x5A000000 + c.val)) = none) ∧
    (∃ (req : Req) (e : Eng) (s : State), Inv s ∧ s.sys.hubOn = true ∧ reservedDie req.toNat = false ∧ s.bit oRstStat 31 = false ∧ s.isOn (oPwrEng e.val) = true) ∧
    (∃ (req : Req) (p : Pld) (s : State), Inv s ∧ s.sys.hubOn = true ∧ reservedDie req.toNat = false ∧ s.rstunitCode (BitVec.ofNat 32 (0x5A020000 + p.val)) = none) ∧
    (∃ (req : Req) (s : State), Inv s ∧ s.sys.hubOn = true ∧ reservedDie req.toNat = false ∧ s.bit oRstStat 31 = false) ∧
    (∃ (s : State), State.regsWf s = true) ∧
    (∃ (s : State), Inv s ∧ s.sys.perstN = true) ∧
    (∃ (s : State), Inv s ∧ s.sys.linkUp = true) :=
  ⟨⟨BitVec.ofNat 16 reqMgmt, hub, by unfold Stated.Inv; decide +kernel, by decide +kernel, by decide +kernel⟩,
   ⟨BitVec.ofNat 16 reqMgmt, hub, by unfold Stated.Inv; decide +kernel, by decide +kernel, by decide +kernel⟩,
   ⟨BitVec.ofNat 16 reqMgmt, 0, wr hub [(oPwrTile 0, pOn)], by unfold Stated.Inv; decide +kernel, by decide +kernel, by decide +kernel, by decide +kernel⟩,
   ⟨BitVec.ofNat 16 reqMgmt, 0, wr hub [(oPwrEng 0, pOn)], by unfold Stated.Inv; decide +kernel, by decide +kernel, by decide +kernel, by decide +kernel, by decide +kernel⟩,
   ⟨BitVec.ofNat 16 reqMgmt, 0, wr hub [(oPwrPld 0, pOn)], by unfold Stated.Inv; decide +kernel, by decide +kernel, by decide +kernel, by decide +kernel⟩,
   ⟨BitVec.ofNat 16 reqMgmt, hub, by unfold Stated.Inv; decide +kernel, by decide +kernel, by decide +kernel, by decide +kernel⟩,
   ⟨hub, by decide +kernel⟩,
   ⟨{ hub with sys := { hub.sys with linkUp := true, perstN := true, epReady := true } }, by unfold Stated.Inv; decide +kernel, by decide +kernel⟩,
   ⟨{ hub with sys := { hub.sys with linkUp := true, perstN := true, epReady := true } }, by unfold Stated.Inv; decide +kernel, by decide +kernel⟩⟩

theorem met_NightAndBrownOutComplete :
    (∃ (req : Req) (s : State), Inv s ∧ s.sys.hubOn = true ∧ reservedDie req.toNat = false ∧ s.nightState = 0 ∧ [1, 2, 4].contains s.cfgState = false) ∧
    (∃ (s : State), Inv s ∧ s.nightState = 1 ∧ s.sys.nightStops = false) ∧
    (∃ (s : State), Inv s ∧ s.nightState = 1 ∧ s.sys.nightStops = true ∧ s.sys.nightLatch = none ∧ ((∀ c : Tile, s.pwr (oPwrTile c.val) = 0))) ∧
    (∃ (req : Req) (s : State), Inv s ∧ s.sys.hubOn = true ∧ reservedDie req.toNat = false ∧ s.nightState = 2) ∧
    (∃ (s : State), Inv s ∧ s.nightState = 2 ∧ s.bit 0x398 29 = true) ∧
    (∃ (s : State), Inv s ∧ s.nightState = 3 ∧ s.sys.nightUnits = [] ∧ s.sys.nightLatch = none) ∧
    (∃ (m : BorMon) (s : State), State.regsWf s = true ∧ s.sys.warn.contains m = false) ∧
    (∃ (s : State), State.regsWf s = true) ∧
    (∃ (c : Tile) (s : State), Inv s ∧ s.pwr (oPwrTile c.val) = 2) :=
  ⟨⟨BitVec.ofNat 16 reqMgmt, hub, by unfold Stated.Inv; decide +kernel, by decide +kernel, by decide +kernel, by decide +kernel, by decide +kernel⟩,
   ⟨wr hub [(0x394, 0x100)], by unfold Stated.Inv; decide +kernel, by decide +kernel, by decide +kernel⟩,
   ⟨{ wr hub [(0x394, 0x100)] with sys := { hub.sys with nightStops := true } }, by unfold Stated.Inv; decide +kernel, by decide +kernel, by decide +kernel, by decide +kernel, by decide +kernel⟩,
   ⟨BitVec.ofNat 16 reqMgmt, wr hub [(0x394, 0x200)], by unfold Stated.Inv; decide +kernel, by decide +kernel, by decide +kernel, by decide +kernel⟩,
   ⟨wr hub [(0x394, 0x200), (0x398, 0x20000000)], by unfold Stated.Inv; decide +kernel, by decide +kernel, by decide +kernel⟩,
   ⟨wr hub [(0x394, 0x300)], by unfold Stated.Inv; decide +kernel, by decide +kernel, by decide +kernel, by decide +kernel⟩,
   ⟨.g1, hub, by decide +kernel, by decide +kernel⟩,
   ⟨hub, by decide +kernel⟩,
   ⟨0, wr hub [(oPwrTile 0, pOn)], by unfold Stated.Inv; decide +kernel, by decide +kernel⟩⟩

theorem met_IntakeCompletes :
    (∃ (h : List Byte) (d : List (BitVec 4 × Word)) (s : State), s.sys.hubOn = true ∧ State.regsWf s = true ∧ Stated.Taking s h ∧ Stated.Quiet s ∧ s.cfg.src = 0 ∧ s.bootMode ≠ 2 ∧ s.bit 0x390 31 = false ∧ ((∀ x ∈ d, x.1 = 0xF)) ∧ s.cfg.buf.length + 4 * d.length ≤ 262144) ∧
    (∃ (s : State), State.regsWf s = true ∧ s.cfg.hdr = none ∧ Stated.Quiet s ∧ s.cfg.ending = false ∧ s.cfgState = 1 ∧ s.cfg.done = false ∧ 512 ≤ s.cfg.buf.length) ∧
    (∃ (h : List Byte) (d : List Byte) (s : State), Stated.Taking s h ∧ Stated.Quiet s ∧ hdrPartial h = false ∧ s.cfg.blk < hdrBlocks h ∧ 65536 ≤ s.cfg.buf.length ∧ openBlock s.cfg.key ((h.drop 0x020).take 8) s.cfg.digest s.cfg.blk (s.cfg.buf.take 65536) = .inl d) :=
  ⟨⟨[], [(0xF, 7)], cfgs (wr hub [(oCfgStat, 0x20000000)]) { hdr := some [] }, by decide +kernel, by decide +kernel, by decide +kernel, by decide +kernel, by decide +kernel, by decide +kernel, by decide +kernel, by simp, by decide +kernel⟩,
   ⟨cfgs (wr hub [(oCfgStat, 0x20000000)]) { buf := List.replicate 512 0 }, by decide +kernel, by decide +kernel, by decide +kernel, by decide +kernel, by decide +kernel, by decide +kernel, by decide +kernel⟩,
   ⟨hdrOf 1, (oneBlock.take 65536).take 65520, blockIn (sha384 (oneBlock.take 65536)), by decide +kernel, by decide +kernel, by decide +kernel, by decide +kernel, by show 65536 ≤ oneBlock.length; rw [oneBlock, List.length_replicate], blockIn_opens (sha384 (oneBlock.take 65536)) rfl⟩⟩

set_option maxRecDepth 10000 in
theorem met_ImageCommandsComplete :
    (∃ (h : List Byte) (l : List Word) (s : State), State.regsWf s = true ∧ Stated.Taking s h ∧ Stated.Quiet s ∧ s.cfg.words = 0x00000000 :: l) ∧
    (∃ (h : List Byte) (a : Word) (l : List Word) (s : State), State.regsWf s = true ∧ Stated.Taking s h ∧ Stated.Quiet s ∧ s.cfg.words = 0x10000000 :: a :: l) ∧
    (∃ (h : List Byte) (a : Nat) (p : List Word) (l : List Word) (s : State), Stated.Taking s h ∧ Stated.Quiet s ∧ s.cfg.words = 0x20000001 :: (p ++ l) ∧ p.length = 97 ∧ s.cfg.far = some a ∧ s.addrCode h a = none ∧ (p.getD 96 0).toNat = frameCrc (frameOf p).data) ∧
    (∃ (h : List Byte) (a : Nat) (c : Word) (l : List Word) (s : State), Stated.Taking s h ∧ s.cfg.words = 0x30000001 :: 0 :: 0 :: 0 :: c :: l ∧ s.cfg.far = some a ∧ s.addrCode h a = none ∧ c.toNat = frameCrc 0) ∧
    (∃ (h : List Byte) (a : Nat) (l : List Word) (s : State), Stated.Taking s h ∧ Stated.Quiet s ∧ s.cfg.words = 0x40000001 :: l ∧ s.cfg.far = some a ∧ s.addrCode h a = none) ∧
    (∃ (h : List Byte) (p : List Word) (a : Word) (b : Word) (l : List Word) (s : State), Stated.Taking s h ∧ Stated.Quiet s ∧ s.cfg.words = 0x50000002 :: (p ++ a :: b :: l) ∧ p.length = 97 ∧ a ≠ b ∧ s.addrCode h a.toNat = none ∧ s.addrCode h b.toNat = none ∧ (p.getD 96 0).toNat = frameCrc (frameOf p).data) ∧
    (∃ (h : List Byte) (p : Pld) (d : List Word) (l : List Word) (s : State), State.regsWf s = true ∧ Stated.Taking s h ∧ Stated.Quiet s ∧ hdrPartial h = false ∧ s.cfg.anyFrame = false ∧ s.cfg.words = BitVec.ofNat 32 (0x60000000 + p.val) :: (d ++ l) ∧ d.length = 4 ∧ declOk d = true ∧ s.cfg.decls.any (declClash p.val d) = false) ∧
    (∃ (h : List Byte) (l : List Word) (s : State), State.regsWf s = true ∧ Stated.Taking s h ∧ Stated.Quiet s ∧ hdrPartial h = false ∧ s.cfg.words = 0x70000000 :: l) :=
  ⟨⟨[], [], cfgs (wr hub [(oCfgStat, 0x20000000)]) { hdr := some [], words := [0] }, by decide +kernel, by decide +kernel, by decide +kernel, by decide +kernel⟩,
   ⟨[], 5, [], cfgs (wr hub [(oCfgStat, 0x20000000)]) { hdr := some [], words := [0x10000000, 5] }, by decide +kernel, by decide +kernel, by decide +kernel, by decide +kernel⟩,
   ⟨[], 0, (List.replicate 96 0 ++ [BitVec.ofNat 32 (frameCrc 0)]), [], cfgs (wr hub [(oCfgStat, 0x20000000), (oPwrTile 0, pOn)]) { hdr := some [], words := 0x20000001 :: ((List.replicate 96 0 ++ [BitVec.ofNat 32 (frameCrc 0)]) ++ []), far := some 0 }, by decide +kernel, by decide +kernel, by decide +kernel, by decide +kernel, by decide +kernel, by decide +kernel, by decide +kernel⟩,
   ⟨[], 0, BitVec.ofNat 32 (frameCrc 0), [], cfgs (wr hub [(oCfgStat, 0x20000000), (oPwrTile 0, pOn)]) { hdr := some [], words := [0x30000001, 0, 0, 0, BitVec.ofNat 32 (frameCrc 0)], far := some 0 }, by decide +kernel, by decide +kernel, by decide +kernel, by decide +kernel, by decide +kernel⟩,
   ⟨[], 0, [], cfgs (wr hub [(oCfgStat, 0x20000000), (oPwrTile 0, pOn)]) { hdr := some [], words := [0x40000001], far := some 0 }, by decide +kernel, by decide +kernel, by decide +kernel, by decide +kernel, by decide +kernel⟩,
   ⟨[], (List.replicate 96 0 ++ [BitVec.ofNat 32 (frameCrc 0)]), 0, 1, [], cfgs (wr hub [(oCfgStat, 0x20000000), (oPwrTile 0, pOn)]) { hdr := some [], words := 0x50000002 :: ((List.replicate 96 0 ++ [BitVec.ofNat 32 (frameCrc 0)]) ++ [0, 1]) }, by decide +kernel, by decide +kernel, by decide +kernel, by decide +kernel, by decide +kernel, by decide +kernel, by decide +kernel, by decide +kernel⟩,
   ⟨[], 0, [0, 0, 0, 0], [], cfgs (wr hub [(oCfgStat, 0x20000000), (oPwrTile 0, pOn)]) { hdr := some [], words := 0x60000000 :: [0, 0, 0, 0] }, by decide +kernel, by decide +kernel, by decide +kernel, by decide +kernel, by decide +kernel, by decide +kernel, by decide +kernel, by decide +kernel, by decide +kernel⟩,
   ⟨[], [], cfgs (wr hub [(oCfgStat, 0x20000000)]) { hdr := some [], words := [0x70000000] }, by decide +kernel, by decide +kernel, by decide +kernel, by decide +kernel, by decide +kernel⟩⟩

theorem met_ConfigurationEventsComplete :
    (∃ (c : Tile) (a : Nat) (f : CFrame) (l : List (Nat × CFrame)) (s : State), SMap.get (fun _ => []) s.cfg.writers c.val = (a, f) :: l ∧ s.pwr (oPwrTile c.val) = 2 ∧ f ≠ zeroFrame ∧ l ≠ [] ∧ s.cfg.hdr.isSome = true ∧ s.cfgState = 1 ∧ s.cfg.ending = false ∧ Stated.Quiet s) ∧
    (∃ (s : State), State.regsWf s = true ∧ s.cfgStarved = true ∧ s.cfg.hdr = none ∧ s.cfg.done = false ∧ Stated.Quiet s) ∧
    (∃ (h : List Byte) (s : State), State.regsWf s = true ∧ s.cfg.hdr = some h ∧ hdrPartial h = false ∧ s.cfgState = 2 ∧ s.cfg.decls = [] ∧ Stated.IntakeEmpty s) ∧
    (∃ (s : State), State.regsWf s = true ∧ s.cfgState = 4 ∧ s.cfgLockDue = false ∧ Stated.IntakeEmpty s) ∧
    (∃ (req : Req) (s : State), State.regsWf s = true ∧ s.sys.hubOn = true ∧ reservedDie req.toNat = false ∧ s.cfgState = 5) ∧
    (∃ (req : Req) (s : State), State.regsWf s = true ∧ s.sys.hubOn = true ∧ reservedDie req.toNat = false ∧ s.cfgState = 1 ∧ s.cfg.ending = false ∧ s.cfg.hdr = none ∧ s.cfg.done = false ∧ Stated.Quiet s) :=
  ⟨⟨0, 5, ⟨1, 2⟩, [(6, ⟨1, 2⟩)], cfgs (wr hub [(oCfgStat, 0x20000000), (oPwrTile 0, pOn)]) { hdr := some [], writers := [(0, [(5, ⟨1, 2⟩), (6, ⟨1, 2⟩)])] }, by decide +kernel, by decide +kernel, by decide +kernel, by decide +kernel, by decide +kernel, by decide +kernel, by decide +kernel, by decide +kernel⟩,
   ⟨wr hub [(oCfgStat, 0x20000000)], by decide +kernel, by decide +kernel, by decide +kernel, by decide +kernel, by decide +kernel⟩,
   ⟨[], cfgs (wr hub [(oCfgStat, 0x40000000), (oPwrTile 1, pOn)]) { hdr := some [], ended := true }, by decide +kernel, by decide +kernel, by decide +kernel, by decide +kernel, by decide +kernel, by decide +kernel⟩,
   ⟨wr hub [(oCfgStat, 0x80000000)], by decide +kernel, by decide +kernel, by decide +kernel, by decide +kernel⟩,
   ⟨BitVec.ofNat 16 reqMgmt, wr hub [(oCfgStat, 0xA0000000)], by decide +kernel, by decide +kernel, by decide +kernel, by decide +kernel⟩,
   ⟨BitVec.ofNat 16 reqMgmt, wr hub [(oCfgStat, 0x20000000)], by decide +kernel, by decide +kernel, by decide +kernel, by decide +kernel, by decide +kernel, by decide +kernel, by decide +kernel, by decide +kernel⟩⟩

theorem met_ChainEventsComplete :
    (∃ (h : List Byte) (p : ChainPkt) (s : State), State.regsWf s = true ∧ Stated.Taking s h ∧ Stated.Quiet s ∧ s.cfg.src = 1 ∧ s.bootMode = 2 ∧ s.bit 0x390 31 = false ∧ p.crc = chainCrc p.seq p.sos p.eos p.data ∧ p.seq.toNat = s.cfg.chain.rxSeq ∧ p.data.length ≤ 4096 ∧ s.cfg.buf.length + p.data.length ≤ 262144) ∧
    (∃ (p : ChainPkt) (n : Nat) (l : List (ChainPkt × Nat)) (s : State), State.regsWf s = true ∧ Stated.IntakeEmpty s ∧ s.cfg.ended = false ∧ s.cfg.chain.unacked = (p, n) :: l) ∧
    (∃ (p : ChainPkt) (n : Nat) (l : List (ChainPkt × Nat)) (s : State), State.regsWf s = true ∧ Stated.IntakeEmpty s ∧ s.cfg.ended = false ∧ s.cfg.chain.unacked = (p, n) :: l ∧ n < 2) ∧
    (∃ (s : State), State.regsWf s = true ∧ s.bootMode = 2 ∧ Stated.IntakeEmpty s ∧ s.cfgState = 1 ∧ s.cfg.src = 1 ∧ s.cfg.hdr = none ∧ s.cfg.done = false) ∧
    (∃ (pos : Nat) (s : State), State.regsWf s = true ∧ s.bootMode = 1 ∧ 1 ≤ pos ∧ pos ≤ 15) ∧
    (∃ (s : State), State.regsWf s = true ∧ s.cfg.chain.waitPort = true ∧ s.sideUp true = false ∧ s.cfg.ending = false ∧ 1 ≤ s.cfg.chain.fwdDev ∧ s.cfg.chain.fwdDev ≤ 15) :=
  ⟨⟨[], ⟨0, false, false, [1, 2], chainCrc 0 false false [1, 2]⟩, cfgs (wr hub [(oCfgStat, 0x20000000), (oStrap, 2)]) { hdr := some [], src := 1 }, by decide +kernel, by decide +kernel, by decide +kernel, by decide +kernel, by decide +kernel, by decide +kernel, by decide +kernel, by decide +kernel, by decide +kernel, by decide +kernel⟩,
   ⟨⟨0, false, false, [1], 0⟩, 1, [], cfgs hub { chain := { unacked := [(⟨0, false, false, [1], 0⟩, 1)] } }, by decide +kernel, by decide +kernel, by decide +kernel, by decide +kernel⟩,
   ⟨⟨0, false, false, [1], 0⟩, 1, [], cfgs hub { chain := { unacked := [(⟨0, false, false, [1], 0⟩, 1)] } }, by decide +kernel, by decide +kernel, by decide +kernel, by decide +kernel, by decide +kernel⟩,
   ⟨cfgs (wr hub [(oCfgStat, 0x20000000), (oStrap, 2)]) { src := 1 }, by decide +kernel, by decide +kernel, by decide +kernel, by decide +kernel, by decide +kernel, by decide +kernel, by decide +kernel⟩,
   ⟨1, wr hub [(oStrap, 1)], by decide +kernel, by decide +kernel, by decide +kernel, by decide +kernel⟩,
   ⟨cfgs hub { chain := { waitPort := true, fwdDev := 1 } }, by decide +kernel, by decide +kernel, by decide +kernel, by decide +kernel, by decide +kernel, by decide +kernel⟩⟩

set_option maxRecDepth 10000 in
theorem met_PolderEventsComplete :
    (∃ (p : Pld) (s : State), State.regsWf s = true ∧ s.cfg.hdr = none ∧ s.pstate p.val = 4 ∧ p.val ∈ s.pld.retained ∧ s.badFrame p.val = none ∧ bitsOf (s.pldFlags p.val) 1 1 = 1) ∧
    (∃ (p : Pld) (s : State), State.regsWf s = true ∧ s.pld.starting.find? (fun e => e.1 == p.val) = some (p.val, false)) ∧
    (∃ (p : Pld) (s : State), State.regsWf s = true ∧ s.pstate p.val = 7 ∧ s.cfg.ending = false) ∧
    (∃ (req : Req) (p : Pld) (s : State), s.sys.hubOn = true ∧ reservedDie req.toNat = false ∧ s.pstate p.val = 5 ∧ s.bit (oPldStat p.val) 6 = false) ∧
    (∃ (req : Req) (p : Pld) (s : State), State.regsWf s = true ∧ s.sys.hubOn = true ∧ reservedDie req.toNat = false ∧ s.pstate p.val = 6) ∧
    (∃ (c : Tile) (a : Nat) (g : CFrame) (s : State), s.cfg.done = true ∧ s.isOn (oPwrTile c.val) = true ∧ s.bit oPld (16 + c.val) = true ∧ SMap.get (fun _ => []) s.cfg.writers c.val = [] ∧ s.pld.starting = [] ∧ (s.scrub c.val).at_ = some a ∧ s.scrubSkips a = false ∧ (s.frame a).good = false ∧ (s.frame a).correct = some g ∧ g ≠ zeroFrame) :=
  ⟨⟨0, { wr hub [(oPldStat 0, 4)] with pld := { retained := [0], flags := [(0, 2)] } }, by decide +kernel, by decide +kernel, by decide +kernel, by decide +kernel, by decide +kernel, by decide +kernel⟩,
   ⟨0, { hub with pld := { starting := [(0, false)] } }, by decide +kernel, by decide +kernel⟩,
   ⟨0, wr hub [(oPldStat 0, 7)], by decide +kernel, by decide +kernel, by decide +kernel⟩,
   ⟨BitVec.ofNat 16 reqMgmt, 0, wr hub [(oPldStat 0, 5)], by decide +kernel, by decide +kernel, by decide +kernel, by decide +kernel⟩,
   ⟨BitVec.ofNat 16 reqMgmt, 0, wr hub [(oPldStat 0, 6)], by decide +kernel, by decide +kernel, by decide +kernel, by decide +kernel⟩,
   ⟨0, 0, frameBit, { wr hub [(oPwrTile 0, pOn), (oPld, 0x10000)] with cfg := { done := true, frames := [(0, ⟨5, frameBit.chk⟩)] }, pld := { scrub := [(0, { at_ := some 0 })] } }, by decide +kernel, by decide +kernel, by decide +kernel, by decide +kernel, by decide +kernel, by decide +kernel, by decide +kernel, by decide +kernel, by decide +kernel, by decide +kernel⟩⟩

theorem met_EngineControlWritesComplete :
    (∃ (req : Req) (c : Tile) (f : Nat) (s : State), State.regsWf s = true ∧ s.sys.hubOn = true ∧ reservedDie req.toNat = false ∧ 200 ≤ f ∧ f ≤ 1000 ∧ f % 25 = 0 ∧ ((∀ k, k < 16 → s.pwr (oPwrClu (16 * c.val + k)) = 0))) ∧
    (∃ (req : Req) (e : Eng) (s : State), Inv s ∧ s.sys.hubOn = true ∧ reservedDie req.toNat = false ∧ s.isOn (oPwrTile (engTile e.val)) = true ∧ s.placeSt e.val = 0) ∧
    (∃ (req : Req) (e : Eng) (s : State), Inv s ∧ s.sys.hubOn = true ∧ reservedDie req.toNat = false ∧ s.isOn (oPwrTile (engTile e.val)) = true ∧ s.placeSt e.val = 4 ∧ (eng s e).stestPassed = true) ∧
    (∃ (req : Req) (e : Eng) (s : State), Inv s ∧ s.sys.hubOn = true ∧ reservedDie req.toNat = false ∧ s.isOn (oPwrTile (engTile e.val)) = true ∧ s.isOn (oPwrEng e.val) = true ∧ s.bit (oEng e.val + 0x20) 31 = false ∧ (eng s e).shocc = false ∧ (eng s e).swapDue = false) :=
  ⟨⟨BitVec.ofNat 16 reqMgmt, 0, 200, hub, by decide +kernel, by decide +kernel, by decide +kernel, by decide +kernel, by decide +kernel, by decide +kernel, by decide +kernel⟩,
   ⟨BitVec.ofNat 16 reqMgmt, 0, wr hub [(oPwrTile 0, pOn), (oPwrEng 0, pOn), (oPlace 0, 0)], by unfold Stated.Inv; decide +kernel, by decide +kernel, by decide +kernel, by decide +kernel, by decide +kernel⟩,
   ⟨BitVec.ofNat 16 reqMgmt, 0, (wr hub [(oPwrTile 0, pOn), (oPwrEng 0, pOn), (oPlace 0, 0x80000000)]).setEng 0 { stestPassed := true }, by unfold Stated.Inv; decide +kernel, by decide +kernel, by decide +kernel, by decide +kernel, by decide +kernel, by decide +kernel⟩,
   ⟨BitVec.ofNat 16 reqMgmt, 0, wr hub [(oPwrTile 0, pOn), (oPwrEng 0, pOn), (oPlace 0, 0x20000000)], by unfold Stated.Inv; decide +kernel, by decide +kernel, by decide +kernel, by decide +kernel, by decide +kernel, by decide +kernel, by decide +kernel, by decide +kernel⟩⟩

theorem met_DescriptorsComplete :
    (∃ (i : EnqIn) (req : Req) (ep : BitVec 8) (lid : BitVec 10) (d : List Word) (s : State), reservedDie req.toNat = false ∧ s.schInit = false ∧ s.input i.val = [] ∧ Stated.InputsWf s ∧ Stated.NoErrors s ∧ s.oldItem (enqItem (.noc req.toNat noTag) req.toNat ep.toNat lid.toNat false d) = false ∧ s.itemReason (enqItem (.noc req.toNat noTag) req.toNat ep.toNat lid.toNat false d) = 0 ∧ Stated.Direct d) ∧
    (∃ (i : EnqIn) (req : Req) (w : List Word) (s : State), reservedDie req.toNat = false ∧ s.schInit = false ∧ s.input i.val = [] ∧ Stated.InputsWf s ∧ Stated.NoErrors s ∧ s.itemReason (enqItem (.noc req.toNat noTag) req.toNat 0 0 true w) = 0 ∧ Stated.Direct (s.formTemplate w).1) ∧
    (∃ (s : State) (i : Nat) (x : Nat) (r : Nat) (it : EnqItem) (l : List EnqItem), s.schInit = false ∧ s.poolFree = some x ∧ s.nextHeld = some i ∧ s.input i = it :: l ∧ Stated.InputsWf s ∧ it.src = .noc r noTag ∧ it.template = false ∧ Stated.NoErrors s ∧ Stated.noFollower l = true ∧ s.oldItem it = false ∧ s.itemReason it = 0 ∧ dBit it.words 0 21 = true ∧ dBit it.words 0 28 = false ∧ dMode it.words = 0 ∧ dWord it.words 1 = 0) ∧
    (∃ (i : EnqIn) (s : State) (r : Nat) (it : EnqItem) (l : List EnqItem), s.input i.val = it :: l ∧ it.held = true ∧ it.src = .noc r noTag ∧ Stated.InputsWf s ∧ Stated.noFollower l = true) :=
  ⟨⟨0, 0x4000, 0, 0, ([0, 0, 5, 0xF0, 0xFFFFFFFF, 0, 0, 0, 0, 0, 0, 0, 0, 0, 0, 0] : List Word), wr hub [(oSch + 8, 0), (oSplit, 0x100)], by decide +kernel, by decide +kernel, by decide +kernel, by decide +kernel, by decide +kernel, by decide +kernel, by decide +kernel, by decide +kernel⟩,
   ⟨0, BitVec.ofNat 16 reqMgmt, List.replicate 8 0, wr hub [(oSch + 8, 0), (oSplit, 0x100), (oTmpl 0 2, 5), (oTmpl 0 3, 0xF0), (oTmpl 0 4, 0xFFFFFFFF), (oTmpl 0 15, 1)], by decide +kernel, by decide +kernel, by decide +kernel, by decide +kernel, by decide +kernel, by decide +kernel, by decide +kernel⟩,
   ⟨{ wr hub [(oSch + 8, 0), (oSplit, 0x100)] with sch := { inputs := [(2, [⟨.noc 5 noTag, 5, 0, 0, false, ([0x200000, 0, 0, 0xF0, 0xFFFFFFFF, 0, 0, 0, 0, 0, 0, 0, 0, 0, 0, 0] : List Word), true, 1, none⟩])] } }, 2, 0x100, 5, ⟨.noc 5 noTag, 5, 0, 0, false, ([0x200000, 0, 0, 0xF0, 0xFFFFFFFF, 0, 0, 0, 0, 0, 0, 0, 0, 0, 0, 0] : List Word), true, 1, none⟩, [], by decide +kernel, by decide +kernel, by decide +kernel, by decide +kernel, by decide +kernel, by decide +kernel, by decide +kernel, by decide +kernel, by decide +kernel, by decide +kernel, by decide +kernel, by decide +kernel, by decide +kernel, by decide +kernel, by decide +kernel⟩,
   ⟨2, { wr hub [(oSch + 8, 0), (oSplit, 0x100)] with sch := { inputs := [(2, [⟨.noc 5 noTag, 5, 0, 0, false, ([0x200000, 0, 0, 0xF0, 0xFFFFFFFF, 0, 0, 0, 0, 0, 0, 0, 0, 0, 0, 0] : List Word), true, 1, none⟩])] } }, 5, ⟨.noc 5 noTag, 5, 0, 0, false, ([0x200000, 0, 0, 0xF0, 0xFFFFFFFF, 0, 0, 0, 0, 0, 0, 0, 0, 0, 0, 0] : List Word), true, 1, none⟩, [], by decide +kernel, by decide +kernel, by decide +kernel, by decide +kernel, by decide +kernel⟩⟩

theorem met_SchedulerInputsComplete :
    (∃ (s : State), State.regsWf s = true ∧ Stated.CtxWf s ∧ s.schInit = true) ∧
    (∃ (req : Req) (p : Fin 4) (s : State), s.sys.hubOn = true ∧ reservedDie req.toNat = false ∧ s.bit (oPstat p.val) 31 = false) ∧
    (∃ (req : Req) (p : Fin 4) (s : State), s.sys.hubOn = true ∧ reservedDie req.toNat = false ∧ s.bit (oPstat p.val) 31 = true ∧ Stated.InputsWf s) ∧
    (∃ (s : State), s.schInit = false) ∧
    (∃ (req : Req) (s : State), s.sys.hubOn = true ∧ reservedDie req.toNat = false ∧ s.schInit = false) ∧
    (∃ (s : State) (e : Nat) (x : Nat) (l : List (Nat × Nat)), s.sch.dlPtr < 4 ∧ s.delayList s.sch.dlPtr = (e, x) :: l ∧ dlDue (s.fld (oDlcnt s.sch.dlPtr) 31 0) e = true ∧ SMap.wf (fun _ => ([] : List (Nat × Nat))) s.sch.delay = true ∧ Stated.NoErrors s) :=
  ⟨⟨wr hub [(oSch + 8, 0x80000000)], by decide +kernel, by decide +kernel, by decide +kernel⟩,
   ⟨BitVec.ofNat 16 reqMgmt, 0, hub, by decide +kernel, by decide +kernel, by decide +kernel⟩,
   ⟨BitVec.ofNat 16 reqMgmt, 0, wr hub [(oPstat 0, 0x80000000)], by decide +kernel, by decide +kernel, by decide +kernel, by decide +kernel⟩,
   ⟨wr hub [(oSch + 8, 0)], by decide +kernel⟩,
   ⟨BitVec.ofNat 16 reqMgmt, wr hub [(oSch + 8, 0)], by decide +kernel, by decide +kernel, by decide +kernel⟩,
   ⟨{ hub with sch := { delay := [(0, [(0, 9)])] } }, 0, 9, [], by decide +kernel, by decide +kernel, by decide +kernel, by decide +kernel, by decide +kernel⟩⟩

theorem met_TasksComplete :
    (∃ (c : Tile) (s : State) (x : Nat) (l : Nat), s.schInit = false ∧ s.bit oSch 31 = true ∧ s.nightState = 0 ∧ Stated.NoErrors s ∧ s.pickTask ((s.pipeOrder c.val).filter s.leAvailable) ((List.range 1024).filter s.leAvailable) s.candidates = some (⟨x, false⟩, l, none)) ∧
    (∃ (req : Req) (x : Ctx) (s : State), s.sys.hubOn = true ∧ reservedDie req.toNat = false ∧ (s.ctx x.val).st = .ready) ∧
    (∃ (req : Req) (x : Ctx) (s : State), s.sys.hubOn = true ∧ reservedDie req.toNat = false ∧ (s.ctx x.val).quar = true ∧ Stated.CtxWf s) ∧
    (∃ (x : Ctx) (s : State) (r : EndReport), (s.ctx x.val).report = some r ∧ r.mayRestart = false ∧ Stated.CtxWf s ∧ Stated.NoErrors s ∧ dBit (s.ctx x.val).desc 12 28 = false ∧ dBit (s.ctx x.val).desc 12 21 = false) ∧
    (∃ (s : State), Stated.NoErrors s) ∧
    (∃ (x : Ctx) (s : State) (p : Pair) (a : PairCopy) (b : PairCopy) (n : Nat), (s.ctx x.val).pair = some p ∧ p.copies = [a, b] ∧ a.ended = some n ∧ b.ended = none ∧ p.needRef = false ∧ p.referee = none ∧ p.releasing = false ∧ s.halted a.eng = false ∧ s.halted b.eng = false ∧ 3 ≤ affClusters (s.ctx x.val).desc) :=
  ⟨⟨0, { wr hub [(oSch + 8, 0), (oSch, 0x80000000), (oPwrEng 0, pOn)] with sch := { ctx := [(0, { st := .ready, desc := ([0, 0, 5, 0xF0, 0xFFFFFFFF, 0, 0, 0, 0, 0, 0, 0, 0, 0, 0, 0] : List Word) })] }, leng := [(0, { lengReset 0 with pstate := 0 })] }, 0, 0, by decide +kernel, by decide +kernel, by decide +kernel, by decide +kernel, by decide +kernel⟩,
   ⟨BitVec.ofNat 16 reqMgmt, 0, ctxs hub 0 { st := .ready }, by decide +kernel, by decide +kernel, by decide +kernel⟩,
   ⟨BitVec.ofNat 16 reqMgmt, 0, ctxs hub 0 { quar := true }, by decide +kernel, by decide +kernel, by decide +kernel, by decide +kernel⟩,
   ⟨0, ctxs hub 0 { st := .completing, report := some ⟨0,0,0,false⟩ }, ⟨0,0,0,false⟩, by decide +kernel, by decide +kernel, by decide +kernel, by decide +kernel, by decide +kernel, by decide +kernel⟩,
   ⟨ctxs { hub with now := 5 } 3 { st := .ready, deadline := some 4 }, by decide +kernel⟩,
   ⟨0, ctxs hub 0 { st := .comparing, desc := ([0, 0, 5, 0xF0, 0xFFFFFFFF, 0, 0, 0, 0, 0, 0, 0, 0, 0, 0, 0] : List Word), pair := some { copies := [{ lid := 0, eng := 0, ended := some 0 }, { lid := 16, eng := 17 }], referee := none } }, { copies := [{ lid := 0, eng := 0, ended := some 0 }, { lid := 16, eng := 17 }], referee := none }, { lid := 0, eng := 0, ended := some 0 }, { lid := 16, eng := 17 }, 0, by decide +kernel, by decide +kernel, by decide +kernel, by decide +kernel, by decide +kernel, by decide +kernel, by decide +kernel, by decide +kernel, by decide +kernel, by decide +kernel⟩⟩

theorem met_SchedulerRecordsComplete :
    (∃ (q : CQ) (s : State) (x : Nat) (n : Nat) (l : List Nat) (r : EndReport), s.cqTasks q.val = x :: l ∧ s.bit (oCqctl q.val) 31 = true ∧ s.bit (oCqctl q.val) 30 = false ∧ (s.fld (oCqidx q.val) 15 0 + 1) % 2 ^ s.fld (oCqctl q.val) 20 16 ≠ s.fld (oCqidx q.val) 31 16 % 2 ^ s.fld (oCqctl q.val) 20 16 ∧ s.net.outst.any (fun o => o.kind == .cqRecord q.val) = false ∧ (s.ctx x).ending = some (r, n)) ∧
    (∃ (req : Req) (q : CQ) (n : Nat) (s : State), State.regsWf s = true ∧ s.sys.hubOn = true ∧ reservedDie req.toNat = false ∧ s.bit (oCqctl q.val) 31 = false ∧ 4 ≤ n ∧ n ≤ 16) ∧
    (∃ (s : State), State.regsWf s = true ∧ s.bit oDup 30 = false) ∧
    (∃ (s : State), State.regsWf s = true) :=
  ⟨⟨0, { wr hub [(oCqctl 0, 0x80040000)] with sch := { ctx := [(0, { ending := some (⟨0, 0, 0, false⟩, 9) })], cqWait := [(0, [0])] } }, 0, 9, [], ⟨0, 0, 0, false⟩, by decide +kernel, by decide +kernel, by decide +kernel, by decide +kernel, by decide +kernel, by decide +kernel⟩,
   ⟨BitVec.ofNat 16 reqMgmt, 0, 4, hub, by decide +kernel, by decide +kernel, by decide +kernel, by decide +kernel, by decide +kernel, by decide +kernel⟩,
   ⟨hub, by decide +kernel, by decide +kernel⟩,
   ⟨hub, by decide +kernel⟩⟩

theorem met_EngineWindowServes :
    (∃ (p : Pkt) (d : Dest) (l : Nat) (o : Nat) (s : State), Stated.Reaches s false p d ∧ Stated.ToEngine s p l o ∧ ((∀ i, i < 16 → (dmByte (s.engSt (s.le l).phys) (s.le l).phys (o + i)).2 = .clean))) ∧
    (∃ (p : Pkt) (d : Dest) (l : Nat) (o : Nat) (s : State), Stated.Reaches s true p d ∧ Stated.ToEngine s p l o) ∧
    (∃ (r : Rsp) (o : OutReq) (e : Nat) (w : Bool) (g : Nat) (dr : Nat) (s : State), Stated.Returns s false r ∧ s.net.outst.find? (fun x => x.src == r.dst.toNat && x.tag == r.tag.toNat && x.write == false) = some o ∧ o.kind = .getw e w g dr ∧ r.status = 0 ∧ r.poison = false ∧ s.engOut e < 16 ∧ ((s.engSt e).bank w).busy = true ∧ ((s.engSt e).bank w).gen = g ∧ bankWf ((s.engSt e).bank w) = true) ∧
    (∃ (r : Rsp) (o : OutReq) (e : Nat) (w : Bool) (g : Nat) (s : State), Stated.Returns s true r ∧ s.net.outst.find? (fun x => x.src == r.dst.toNat && x.tag == r.tag.toNat && x.write == true) = some o ∧ o.kind = .putw e w g ∧ r.status = 0 ∧ s.engOut e < 16) :=
  ⟨⟨⟨0, reqMgmt, 3, 0, 0, BitVec.ofNat 44 (engBase / 16), 0xFFFF, 0, false, false, 5, []⟩, ⟨0, 0⟩, 0, 0, (wr hub [(oPwrEng 0, pOn), (oPwrTile 0, pOn), (oPlace 0, 0x20000001)]).setEng 0 ((({} : EngSt).writeWord false 0 5)), by unfold Stated.Reaches; decide +kernel, by unfold Stated.ToEngine; decide +kernel, by decide +kernel⟩,
   ⟨⟨1, reqMgmt, 3, 0, 0, BitVec.ofNat 44 (engBase / 16), 0xFFFF, 0, false, false, 5, []⟩, ⟨0, 0⟩, 0, 0, (wr hub [(oPwrEng 0, pOn), (oPwrTile 0, pOn), (oPlace 0, 0x20000001)]).setEng 0 ((({} : EngSt).writeWord false 0 5)), by unfold Stated.Reaches; decide +kernel, by unfold Stated.ToEngine; decide +kernel⟩,
   ⟨⟨2, 0, false, BitVec.ofNat 16 (engReq 0), 3, 0, false, List.replicate 16 7⟩, (outReq (engReq 0) 3 64 false (.getw 0 false 0 1)), 0, false, 0, 1, nets (runs 0) { outst := [(outReq (engReq 0) 3 64 false (.getw 0 false 0 1))] }, ⟨by decide +kernel, by decide +kernel, by decide +kernel, fun _ h => Option.some.inj (h.symm.trans (by decide +kernel)), by decide +kernel⟩, by decide +kernel, by decide +kernel, by decide +kernel, by decide +kernel, by decide +kernel, by decide +kernel, by decide +kernel, by decide +kernel⟩,
   ⟨⟨3, 0, false, BitVec.ofNat 16 (engReq 0), 3, 0, false, []⟩, (outReq (engReq 0) 3 64 true (.putw 0 false 0)), 0, false, 0, nets (runs 0) { outst := [(outReq (engReq 0) 3 64 true (.putw 0 false 0))] }, ⟨by decide +kernel, by decide +kernel, by decide +kernel, fun _ h => Option.some.inj (h.symm.trans (by decide +kernel)), by decide +kernel⟩, by decide +kernel, by decide +kernel, by decide +kernel, by decide +kernel⟩⟩

theorem met_HostRequestsAndRoutesComplete :
    (∃ (t : Tlp) (a : Nat) (s : State), s.sys.linkUp = true ∧ s.sys.hubOn = true ∧ t.bar = .memory ∧ t.write = false ∧ t.dwords = 4 ∧ s.hostAddr t = some a ∧ a % 16 = 0) ∧
    (∃ (t : Tlp) (a : Nat) (x : Fin 4 → Word) (s : State), s.sys.linkUp = true ∧ s.sys.hubOn = true ∧ t.bar = .memory ∧ t.write = true ∧ t.ep = false ∧ t.data = [(0xF, x 0), (0xF, x 1), (0xF, x 2), (0xF, x 3)] ∧ s.hostAddr t = some a ∧ a % 16 = 0) ∧
    (∃ (tag : BitVec 8) (q : Nat) (n : Nat) (a : Nat) (k : Nat) (m : Nat) (s : State), s.net.outst = [outReq q n a false (.host tag.toNat false k m)]) ∧
    (∃ (p : EpochPort) (l : LEng) (s : State), Inv s ∧ (s.le l.val).waiting.contains (epochPort p) = true ∧ (s.le l.val).takeover = none ∧ (s.le l.val).epoch ≠ 0) ∧
    (∃ (m : LMod) (s : State), State.regsWf s = true ∧ s.lstate m.val ≠ 7 ∧ s.bit oNocstat m.val = false) ∧
    (∃ (q : Req) (d : Req) (l : List Nat) (s : State), (q.toNat, d.toNat, l) ∈ s.net.waits ∧ ((∀ x ∈ l, ∀ o ∈ s.net.outst, ¬(o.src = q.toNat ∧ o.tag = x)))) :=
  ⟨⟨⟨0, .memory, 16, false, 3, 4, [], false⟩, 16, { wr hub [(0xC0, 0x80000000)] with sys := { hub.sys with linkUp := true } }, by decide +kernel, by decide +kernel, by decide +kernel, by decide +kernel, by decide +kernel, by decide +kernel, by decide +kernel⟩,
   ⟨⟨0, .memory, 16, true, 3, 0, [(0xF, 0), (0xF, 0), (0xF, 0), (0xF, 0)], false⟩, 16, fun _ => 0, { wr hub [(0xC0, 0x80000000)] with sys := { hub.sys with linkUp := true } }, by decide +kernel, by decide +kernel, by decide +kernel, by decide +kernel, by decide +kernel, by decide +kernel, by decide +kernel, by decide +kernel⟩,
   ⟨3, 9, 4, 64, 0, 1, nets hub { outst := [(outReq 9 4 64 false (.host 3 false 0 1))] }, by decide +kernel⟩,
   ⟨.sched, 0, hub.setLe 0 { lengReset 0 with epoch := 4, waiting := [epochPort .sched] }, by unfold Stated.Inv; decide +kernel, by decide +kernel, by decide +kernel, by decide +kernel⟩,
   ⟨0, hub, by decide +kernel, by decide +kernel, by decide +kernel⟩,
   ⟨1, 2, [], nets hub { waits := [(1, 2, [])] }, by decide +kernel, by decide +kernel⟩⟩

theorem met_ReceiveStreamsComplete :
    (∃ (c : Strm) (s : State), s.strRun c.val = true ∧ s.strTx c.val = false ∧ s.strAlign c.val = 0 ∧ s.bit (oStr c.val) 26 = false ∧ (s.strm c.val).blocks = [] ∧ (s.strm c.val).elems = [] ∧ (s.strm c.val).skip = 0) ∧
    (∃ (c : Strm) (b : RxBlk) (l : List RxBlk) (s : State), (s.strm c.val).blocks = b :: l ∧ b.stage = 3 ∧ (s.strm c.val).tmplWait = false) ∧
    (∃ (c : Strm) (s : State), State.regsWf s = true ∧ s.strEn c.val = true ∧ (s.strm c.val).shed = false ∧ s.fld (oStrstat c.val) 31 29 = 1 ∧ s.isOn (oPwrTile (strTile c.val)) = true ∧ s.isOn (oPwrCnv (strTile c.val)) = true ∧ s.tcUp (strTile c.val) = true ∧ s.chanAvail (strTile c.val) (s.strTx c.val) (s.strChan c.val) = true) :=
  ⟨⟨0, wr hub [(oStr 0, 0x80000000), (oStrstat 0, 0x40000000)], by decide +kernel, by decide +kernel, by decide +kernel, by decide +kernel, by decide +kernel, by decide +kernel, by decide +kernel⟩,
   ⟨0, { id := 7, words := [], time := 0, frameTime := 0, bidx := 0, fidx := 0, gap := false, stage := 3 }, [], strms hub 0 { blocks := [{ id := 7, words := [], time := 0, frameTime := 0, bidx := 0, fidx := 0, gap := false, stage := 3 }] }, by decide +kernel, by decide +kernel, by decide +kernel⟩,
   ⟨0, wr hub [(oStr 0, 0x80000000), (oStrstat 0, 0x20000000), (oPwrTile 0, pOn), (oPwrCnv 0, pOn), (oNocstat, 0), (oChavail 0, 0xFFFFFFFF)], by decide +kernel, by decide +kernel, by decide +kernel, by decide +kernel, by decide +kernel, by decide +kernel, by decide +kernel, by decide +kernel⟩⟩

theorem met_TransmitStreamsComplete :
    (∃ (req : Req) (c : Strm) (d : Quad) (s : State), s.sys.hubOn = true ∧ reservedDie req.toNat = false ∧ engOfReq req.toNat = none ∧ s.isOn (oPwrTile (c.val / 64)) = true ∧ s.isOn (oPwrCnv (c.val / 64)) = true ∧ s.strRun c.val = true ∧ s.strTx c.val = true ∧ (s.strm c.val).lastDue = none ∧ (s.strm c.val).nextSeq = none ∧ bitsOf d 127 96 = 0 ∧ bitsOf d 31 0 < 1000000000 ∧ (s.strm c.val).posts.length < 16) ∧
    (∃ (c : Strm) (p : TxPost) (l : List TxPost) (s : State), (s.strm c.val).posts = p :: l ∧ p.fetching = false ∧ p.words = [] ∧ s.txDue c.val p = true) ∧
    (∃ (c : Strm) (p : TxPost) (s : State), Stated.StrmWf s ∧ (s.strm c.val).posts = [p] ∧ p.fetched = false) ∧
    (∃ (c : Strm) (p : TxPost) (l : List TxPost) (s : State) (k : Nat), (s.strm c.val).posts = p :: l ∧ p.fetched = true ∧ s.strRun c.val = true ∧ s.ice.errs = [] ∧ k = gridAfter (s.strRate c.val) p.due) ∧
    (∃ (req : Req) (c : Strm) (v : Word) (s : State), State.regsWf s = true ∧ Stated.StrmWf s ∧ s.sys.hubOn = true ∧ reservedDie req.toNat = false ∧ s.strEn c.val = false ∧ bitsOf v 31 31 = 1 ∧ bitsOf v 29 28 ≤ 2 ∧ [0, 4, 5].contains (bitsOf v 15 12) = true ∧ s.strEnableCode c.val v = none) ∧
    (∃ (req : Req) (c : Strm) (s : State), State.regsWf s = true ∧ Stated.StrmWf s ∧ s.sys.hubOn = true ∧ reservedDie req.toNat = false ∧ s.strEn c.val = true ∧ s.strAlign c.val ≤ 2 ∧ [0, 4, 5].contains (s.strFmt c.val) = true) :=
  ⟨⟨BitVec.ofNat 16 reqMgmt, 0, 0, wr hub [(oStr 0, 0xC0000000), (oStrstat 0, 0x40000000), (oPwrTile 0, pOn), (oPwrCnv 0, pOn)], by decide +kernel, by decide +kernel, by decide +kernel, by decide +kernel, by decide +kernel, by decide +kernel, by decide +kernel, by decide +kernel, by decide +kernel, by decide +kernel, by decide +kernel, by decide +kernel⟩,
   ⟨0, { seq := 3, due := 4 }, [], strms hub 0 { posts := [{ seq := 3, due := 4 }] }, by decide +kernel, by decide +kernel, by decide +kernel, by decide +kernel⟩,
   ⟨0, { seq := 3, due := 4 }, strms hub 0 { posts := [{ seq := 3, due := 4 }] }, by decide +kernel, by decide +kernel, by decide +kernel⟩,
   ⟨0, { seq := 3, due := 4, fetched := true, words := [5] }, [], strms (wr hub [(oStr 0, 0xC0000000), (oStrstat 0, 0x40000000)]) 0 { posts := [{ seq := 3, due := 4, fetched := true, words := [5] }] }, _, by decide +kernel, by decide +kernel, by decide +kernel, by decide +kernel, rfl⟩,
   ⟨BitVec.ofNat 16 reqMgmt, 0, 0x80000000, wr hub [(oPwrTile 0, pOn), (oPwrCnv 0, pOn), (oChavail 0, 0xFFFFFFFF), (oDstat 0, 0x22000000), (oStrblk 0, 0x10004)], by decide +kernel, by decide +kernel, by decide +kernel, by decide +kernel, by decide +kernel, by decide +kernel, by decide +kernel, by decide +kernel, by decide +kernel⟩,
   ⟨BitVec.ofNat 16 reqMgmt, 0, wr hub [(oStr 0, 0x80000000)], by decide +kernel, by decide +kernel, by decide +kernel, by decide +kernel, by decide +kernel, by decide +kernel, by decide +kernel⟩⟩

theorem met_ReductionGroupsComplete :
    (∃ (p : Pkt) (e : Nat) (i : Nat) (s : State), s.sys.hubOn = true ∧ s.net.msgs = [] ∧ reservedDie p.src.toNat = false ∧ p.typ = 4 ∧ p.len = 0 ∧ p.zeroBit = false ∧ p.body = [] ∧ engOfReq p.src.toNat = some e ∧ s.redReady (redGroupOf (pktAddr p)) = true ∧ redWordOf (pktAddr p) < s.redWidth (redGroupOf (pktAddr p)) ∧ (s.grp (redGroupOf (pktAddr p))).members.find? (fun m => m.2 == p.lid.toNat) = some (i, p.lid.toNat) ∧ p.epoch.toNat = s.portEpoch 2 p.lid.toNat) ∧
    (∃ (i : Nat) (w : Wide) (s : State), nthWide i s.net.msgs = some w ∧ s.behind (.rwide w) = false ∧ w.at_ = atStore ∧ s.redReady w.group = true ∧ (s.slot w.group (slotKey w.word w.round)).closing = false ∧ (s.slot w.group (slotKey w.word w.round)).isOpen = false ∧ (s.slot w.group (slotKey w.word w.round)).used = false ∧ w.mask ≠ s.fullMask w.group) ∧
    (∃ (r : Router) (i : Nat) (w : Wide) (s : State), s.entry r.val i = some w ∧ SMap.wf (fun _ => (none : Option Wide)) s.net.entries = true ∧ s.ice.errs = []) ∧
    (∃ (g : Grp) (w : Fin 2048) (p : Fin 2) (s : State), (s.slot g.val (slotKey w.val p.val)).isOpen = true ∧ s.fld (oRed g.val) 29 28 ≠ 1) ∧
    (∃ (g : Grp) (s : State), State.regsWf s = true ∧ s.bit (oRed g.val) 31 = true ∧ s.bit (oRed g.val) 30 = false ∧ s.isOn (oPwrTile (s.redRoot g.val)) = true ∧ s.memberTable g.val ≠ []) ∧
    (∃ (req : Req) (g : Grp) (v : Word) (s : State), State.regsWf s = true ∧ s.sys.hubOn = true ∧ reservedDie req.toNat = false ∧ s.bit (oRed g.val) 31 = false ∧ bitsOf v 31 31 = 1 ∧ bitsOf v 29 28 ≤ 1 ∧ bitsOf v 3 0 ≤ 5 ∧ s.redEnableCode g.val v = none) ∧
    (∃ (req : Req) (g : Grp) (s : State), State.regsWf s = true ∧ SMap.wf (fun _ => ({} : RedGroup)) s.net.groups = true ∧ s.sys.hubOn = true ∧ reservedDie req.toNat = false ∧ s.bit (oRed g.val) 31 = true ∧ s.fld (oRed g.val) 29 28 ≤ 1 ∧ s.redFmt g.val ≤ 5) :=
  ⟨⟨⟨4, BitVec.ofNat 16 (engReq 0), 3, 0, 0, 0, 0xFFFF, 0, false, false, 5, []⟩, 0, 0, grps (wr hub [(oRed 0, 0xC0000000), (oRed 0 + 4, 4)]) 0 { members := [(0, 0), (1, 5)] }, by decide +kernel, by decide +kernel, by decide +kernel, by decide +kernel, by decide +kernel, by decide +kernel, by decide +kernel, by decide +kernel, by decide +kernel, by decide +kernel, by decide +kernel, by decide +kernel⟩,
   ⟨0, { group := 0, round := 0, word := 0, mask := 1, val := [1], special := [0], poison := false, at_ := atStore }, nets (grps (wr hub [(oRed 0, 0xC0000000), (oRed 0 + 4, 4)]) 0 { members := [(0, 0), (1, 5)] }) { (grps (wr hub [(oRed 0, 0xC0000000), (oRed 0 + 4, 4)]) 0 { members := [(0, 0), (1, 5)] }).net with msgs := [.rwide { group := 0, round := 0, word := 0, mask := 1, val := [1], special := [0], poison := false, at_ := atStore }] }, by decide +kernel, by decide +kernel, by decide +kernel, by decide +kernel, by decide +kernel, by decide +kernel, by decide +kernel, by decide +kernel⟩,
   ⟨0, 0, { group := 0, round := 0, word := 0, mask := 1, val := [1], special := [0], poison := false, at_ := atStore }, nets hub { entries := [(0, some { group := 0, round := 0, word := 0, mask := 1, val := [1], special := [0], poison := false, at_ := atStore })] }, by decide +kernel, by decide +kernel, by decide +kernel⟩,
   ⟨0, 0, 0, grps hub 0 { slots := [(0, { isOpen := true })] }, by decide +kernel, by decide +kernel⟩,
   ⟨0, wr hub [(oRed 0, 0x80000000), (oPwrTile 0, pOn), (oRedMem 0 0, 0x80000000)], by decide +kernel, by decide +kernel, by decide +kernel, by decide +kernel, by decide +kernel⟩,
   ⟨BitVec.ofNat 16 reqMgmt, 0, 0x80000000, wr hub [(oRed 0 + 4, 4), (oRedMem 0 0, 0x80000000), (oPwrTile 0, pOn)], by decide +kernel, by decide +kernel, by decide +kernel, by decide +kernel, by decide +kernel, by decide +kernel, by decide +kernel, by decide +kernel⟩,
   ⟨BitVec.ofNat 16 reqMgmt, 0, wr hub [(oRed 0, 0x80000000)], by decide +kernel, by decide +kernel, by decide +kernel, by decide +kernel, by decide +kernel, by decide +kernel, by decide +kernel⟩⟩

theorem met_TicksComplete :
    (∃ (a : Nat) (s : State), State.regsWf s = true ∧ s.bit oSymCfg 31 = true ∧ s.firstTick = some (a, 1) ∧ a ≤ s.now) ∧
    (∃ (a : Nat) (s : State), State.regsWf s = true ∧ s.bit oSymCfg 31 = true ∧ s.firstTick = some (a, 0) ∧ a ≤ s.now) ∧
    (∃ (a : Nat) (s : State), State.regsWf s = true ∧ s.sys.hubOn = true ∧ s.usecOwed = true ∧ s.firstTick = some (a, 2)) ∧
    (∃ (a : Nat) (s : State), State.regsWf s = true ∧ s.bit (oTim + 0x150) 31 = true ∧ s.firstTick = some (a, 3) ∧ a ≤ s.now) ∧
    (∃ (s : State), bitsOf s.tim.ppsCfg 31 31 = 1 ∧ bitsOf s.tim.ppsCfg 30 30 = 0 ∧ s.tim.ppsHigh = false ∧ s.tim.ppsLast = none ∧ s.now = s.now / unitsPerSec * unitsPerSec + s.tim.ppsOff * 65536) ∧
    (∃ (s : State), s.tim.ppsHigh = true ∧ s.tim.ppsLeft = 0) ∧
    (∃ (c : Tile) (m : Nat) (s : State), State.regsWf s = true ∧ s.isOn (oPwrTile c.val) = true ∧ s.pulsePath c.val = true ∧ s.pulseFrom c.val = (m, none)) :=
  ⟨⟨0, tims (wr hub [(oSymCfg, 0x80000002), (oTim + 0x180, 1000), (oTim + 0x184, 1000)]) { slotJ := 1 }, by decide +kernel, by decide +kernel, by decide +kernel, by decide +kernel⟩,
   ⟨0, wr hub [(oSymCfg, 0x80000002), (oTim + 0x180, 1000), (oTim + 0x184, 1000)], by decide +kernel, by decide +kernel, by decide +kernel, by decide +kernel⟩,
   ⟨0, tims hub { usecNext := 0 }, by decide +kernel, by decide +kernel, by decide +kernel, by decide +kernel⟩,
   ⟨0, tims (wr hub [(oTim + 0x150, 0x80000000)]) { user := 0 }, by decide +kernel, by decide +kernel, by decide +kernel, by decide +kernel⟩,
   ⟨tims hub { ppsCfg := 0x80010000 }, by decide +kernel, by decide +kernel, by decide +kernel, by decide +kernel, by decide +kernel⟩,
   ⟨tims hub { ppsHigh := true }, by decide +kernel, by decide +kernel⟩,
   ⟨0, thModule 0 0, wr hub [(oPwrTile 0, pOn), (oNocstat, 0)], by decide +kernel, by decide +kernel, by decide +kernel, by decide +kernel⟩⟩

theorem met_LatticeControlCompletes :
    (∃ (req : Req) (s : State), s.sys.hubOn = true ∧ reservedDie req.toNat = false ∧ req.toNat ≠ reqDbg) ∧
    (∃ (s : State) (x : Nat), s.sys.hubOn = true ∧ s.tim.pend = some (true, (x : Int))) ∧
    (∃ (req : Req) (s : State), s.sys.hubOn = true ∧ reservedDie req.toNat = false ∧ s.lockState = 0 ∧ s.firstLock = false) ∧
    (∃ (req : Req) (s : State), State.regsWf s = true ∧ s.sys.hubOn = true ∧ reservedDie req.toNat = false ∧ s.lockState ≠ 3 ∧ s.bit oTim 29 = false) ∧
    (∃ (req : Req) (s : State), State.regsWf s = true ∧ s.sys.hubOn = true ∧ reservedDie req.toNat = false ∧ s.lockState = 3 ∧ s.bit oTim 29 = false ∧ s.bit oTim 28 = false) ∧
    (∃ (req : Req) (n : Nat) (s : State), State.regsWf s = true ∧ s.sys.hubOn = true ∧ reservedDie req.toNat = false ∧ s.bit oSymCfg 31 = false ∧ 1 ≤ n ∧ n ≤ 32 ∧ (1000000000 * s.fld (oTim + 0x140) 15 0) % (s.symSum n * s.fld (oTim + 0x140) 31 16) = 0) :=
  ⟨⟨BitVec.ofNat 16 reqMgmt, hub, by decide +kernel, by decide +kernel, by decide +kernel⟩,
   ⟨tims hub { pend := some (true, 70) }, 70, by decide +kernel, by decide +kernel⟩,
   ⟨BitVec.ofNat 16 reqMgmt, hub, by decide +kernel, by decide +kernel, by decide +kernel, by decide +kernel⟩,
   ⟨BitVec.ofNat 16 reqMgmt, wr hub [(oTimStat, 0x40000000)], by decide +kernel, by decide +kernel, by decide +kernel, by decide +kernel, by decide +kernel⟩,
   ⟨BitVec.ofNat 16 reqMgmt, wr hub [(oTimStat, 0x60000000)], by decide +kernel, by decide +kernel, by decide +kernel, by decide +kernel, by decide +kernel, by decide +kernel⟩,
   ⟨BitVec.ofNat 16 reqMgmt, 2, wr hub [(oTim + 0x180, 1000), (oTim + 0x184, 1000), (oTim + 0x140, 0x00010001)], by decide +kernel, by decide +kernel, by decide +kernel, by decide +kernel, by decide +kernel, by decide +kernel, by decide +kernel⟩⟩

theorem met_TimeSourcesComplete :
    (∃ (ns : Word) (s : State), s.sys.hubOn = true ∧ ns.toNat < 1000000000 ∧ s.srcEn 0 = true ∧ SMap.get (fun _ => none) s.tim.preds 0 = none) ∧
    (∃ (x : TodSentence) (n : Nat) (k : Nat) (s : State), State.regsWf s = true ∧ s.srcEn 0 = true ∧ x.framingError = false ∧ n < 256 ∧ k < 4 ∧ readTod x.chars = some (.offset n k)) ∧
    (∃ (req : Req) (i : Fin 2) (hi : Word) (x : Snap) (s : State), s.sys.hubOn = true ∧ reservedDie req.toNat = false ∧ (s.pairsOf oTim).held.find? (fun y => y.req == req.toNat && y.off == 0xE8 + 0x10 * i.val) = some x ∧ s.srcEn (1 + i.val) = true ∧ SMap.get (fun _ => none) s.tim.preds (1 + i.val) = none ∧ (toSigned 64 (x.val.toNat + 2 ^ 32 * hi.toNat)).natAbs ≤ unitsPerSec) ∧
    (∃ (i : Fin 2) (ql : BitVec 4) (s : State), State.regsWf s = true ∧ s.srcEn (3 + i.val) = true ∧ qlRank (s.bit oTim 26) ql.toNat ≤ qlRank (s.bit oTim 26) (s.fld (oSrcCfg (3 + i.val)) 11 8)) ∧
    (∃ (i : Fin 6) (s : State), State.regsWf s = true ∧ s.srcEn i.val = true ∧ s.srcState i.val = 2) ∧
    (∃ (i : Fin 6) (s : State), State.regsWf s = true ∧ s.srcEn i.val = true ∧ s.srcState i.val = 1) ∧
    (∃ (i : Fin 2) (s : State), State.regsWf s = true ∧ s.srcEn (3 + i.val) = true ∧ s.srcState (3 + i.val) = 2) :=
  ⟨⟨0, wr hub [(oSrcCfg 0, 0x80000000)], by decide +kernel, by decide +kernel, by decide +kernel, by decide +kernel⟩,
   ⟨⟨("$POMVT,37,0*64\r\n").toList.map (fun c => BitVec.ofNat 8 c.toNat), false⟩, 37, 0, wr hub [(oSrcCfg 0, 0x80000000)], by decide +kernel, by decide +kernel, by decide +kernel, by decide +kernel, by decide +kernel, by rfl⟩,
   ⟨BitVec.ofNat 16 reqMgmt, 0, 0, ⟨reqMgmt, 0xE8, 5⟩, { wr hub [(oSrcCfg 1, 0x80000000)] with pairs := [(oTim, { held := [⟨reqMgmt, 0xE8, 5⟩] })] }, by decide +kernel, by decide +kernel, by decide +kernel, by decide +kernel, by decide +kernel, by decide +kernel⟩,
   ⟨0, 0, wr hub [(oSrcCfg 3, 0x80000000), (oSrcSt 3, 0x60000000)], by decide +kernel, by decide +kernel, by decide +kernel⟩,
   ⟨0, wr hub [(oSrcCfg 0, 0x80000000), (oSrcSt 0, 0x40000000)], by decide +kernel, by decide +kernel, by decide +kernel⟩,
   ⟨0, wr hub [(oSrcCfg 0, 0x80000000), (oSrcSt 0, 0x20000000)], by decide +kernel, by decide +kernel, by decide +kernel⟩,
   ⟨0, wr hub [(oSrcCfg 3, 0x80000000), (oSrcSt 3, 0x40000000)], by decide +kernel, by decide +kernel, by decide +kernel⟩⟩

theorem met_LockStatesComplete :
    (∃ (s : State), State.regsWf s = true ∧ s.bit oTimStat 26 = false) ∧
    (∃ (s : State), State.regsWf s = true) ∧
    (∃ (s : State), State.regsWf s = true ∧ s.lockState = 2) ∧
    (∃ (s : State), State.regsWf s = true ∧ s.lockState = 3) ∧
    (∃ (s : State), State.regsWf s = true ∧ s.lockState = 4 ∧ 60 * s.fld (oTim + 0x104) 19 0 < (s.reg (oTim + 0x10C)).toNat) ∧
    (∃ (s : State), State.regsWf s = true ∧ s.lockState = 4 ∧ s.fld oTimStat 7 4 ≠ 3 ∧ s.fld oTimStat 7 4 ≠ 4 ∧ s.modelValid = false) ∧
    (∃ (s : State), State.regsWf s = true ∧ s.bit oTim 31 = true ∧ s.lockState = 3 ∧ 3600 ≤ s.tim.lockedSec ∧ s.fld (oTim + 0x100) 15 8 ≤ s.tim.sampleSec ∧ -32768 ≤ s.tim.temp ∧ s.tim.temp < 32768) :=
  ⟨⟨hub, by decide +kernel, by decide +kernel⟩,
   ⟨hub, by decide +kernel⟩,
   ⟨wr hub [(oTimStat, 0x40000000)], by decide +kernel, by decide +kernel⟩,
   ⟨wr hub [(oTimStat, 0x60000000)], by decide +kernel, by decide +kernel⟩,
   ⟨wr hub [(oTimStat, 0x80000000), (oTim + 0x104, 0), (oTim + 0x10C, 5)], by decide +kernel, by decide +kernel, by decide +kernel⟩,
   ⟨wr hub [(oTimStat, 0x80000000)], by decide +kernel, by decide +kernel, by decide +kernel, by decide +kernel, by decide +kernel⟩,
   ⟨tims (wr hub [(oTimStat, 0x60000000), (oTim, 0x80000000), (oTim + 0x100, 0x100)]) { lockedSec := 3600, sampleSec := 1, temp := 4 }, by decide +kernel, by decide +kernel, by decide +kernel, by decide +kernel, by decide +kernel, by decide +kernel, by decide +kernel⟩⟩

theorem met_CalendarCompletes :
    (∃ (req : Req) (x : Snap) (s : State), State.regsWf s = true ∧ s.sys.hubOn = true ∧ reservedDie req.toNat = false ∧ s.nvInh = false ∧ (s.pairsOf oRtc).held.find? (fun y => y.req == req.toNat && y.off == 0x20) = some x) ∧
    (∃ (s : State), State.regsWf s = true ∧ s.lockState = 3 ∧ s.bit oRtc 29 = true ∧ s.nvInh = false) ∧
    (∃ (s : State), State.regsWf s = true ∧ s.lockState = 3 ∧ s.bit oRtc 30 = true ∧ s.nvInh = false) ∧
    (∃ (req : Req) (s : State), s.sys.hubOn = true ∧ reservedDie req.toNat = false ∧ req.toNat ≠ reqDbg) ∧
    (∃ (s : State), State.regsWf s = true ∧ s.alarmDue = true) ∧
    (∃ (s : State), State.regsWf s = true ∧ s.bit oRtcStat 29 = true) ∧
    (∃ (req : Req) (s : State), State.regsWf s = true ∧ s.sys.hubOn = true ∧ reservedDie req.toNat = false ∧ s.nvInh = false ∧ s.bit oRtcStat 27 = false) ∧
    (∃ (req : Req) (s : State), State.regsWf s = true ∧ s.sys.hubOn = true ∧ reservedDie req.toNat = false) ∧
    (∃ (s : State), SMap.wf (fun _ => (0 : Word)) s.rtc.stage = true) ∧
    (∃ (s : State), State.regsWf s = true ∧ s.modelValid = true) :=
  ⟨⟨BitVec.ofNat 16 reqMgmt, ⟨reqMgmt, 0x20, 5⟩, { hub with pairs := [(oRtc, { held := [⟨reqMgmt, 0x20, 5⟩] })] }, by decide +kernel, by decide +kernel, by decide +kernel, by decide +kernel, by decide +kernel⟩,
   ⟨wr hub [(oTimStat, 0x60000000), (oRtc, 0x20000000)], by decide +kernel, by decide +kernel, by decide +kernel, by decide +kernel⟩,
   ⟨wr hub [(oTimStat, 0x60000000), (oRtc, 0x40000000)], by decide +kernel, by decide +kernel, by decide +kernel, by decide +kernel⟩,
   ⟨BitVec.ofNat 16 reqMgmt, hub, by decide +kernel, by decide +kernel, by decide +kernel⟩,
   ⟨wr hub [(oRtc, 0x80000000)], by decide +kernel, by decide +kernel⟩,
   ⟨wr hub [(oRtcStat, 0x20000000)], by decide +kernel, by decide +kernel⟩,
   ⟨BitVec.ofNat 16 reqMgmt, hub, by decide +kernel, by decide +kernel, by decide +kernel, by decide +kernel, by decide +kernel⟩,
   ⟨BitVec.ofNat 16 reqMgmt, hub, by decide +kernel, by decide +kernel, by decide +kernel⟩,
   ⟨hub, by decide +kernel⟩,
   ⟨wr hub [(oHoStat, 0x80000000)], by decide +kernel, by decide +kernel⟩⟩

theorem met_ConvertersComplete :
    (∃ (n : Conv) (w : Word) (s : State), State.regsWf s = true ∧ s.cnvSearching n.val = true ∧ identityOk w = true ∧ s.tcActive n.val = true ∧ s.nightState ≠ 3) ∧
    (∃ (n : Conv) (s : State), State.regsWf s = true ∧ s.cnvSearching n.val = true ∧ s.fld (oDstat n.val) 27 26 < 3) ∧
    (∃ (n : Conv) (s : State), State.regsWf s = true ∧ s.cnvSearching n.val = true ∧ s.fld (oDstat n.val) 27 26 = 3) ∧
    (∃ (n : Conv) (s : State), State.regsWf s = true ∧ s.fld (oDstat n.val) 31 29 = 1 ∧ s.isOn (oPwrCnv n.val) = true ∧ s.tcUp n.val = true) ∧
    (∃ (n : Conv) (s : State), State.regsWf s = true ∧ s.isOn (oPwrCnv n.val) = true ∧ s.fld (oDstat n.val) 25 24 = 1) ∧
    (∃ (req : Req) (n : Conv) (s : State), State.regsWf s = true ∧ s.sys.hubOn = true ∧ reservedDie req.toNat = false ∧ s.isOn (oPwrTile n.val) = true ∧ s.isOn (oPwrCnv n.val) = true ∧ s.cnvBusy n.val = false) ∧
    (∃ (n : Conv) (tx : Bool) (c : Fin 16) (s : State), State.regsWf s = true ∧ s.isOn (oPwrCnv n.val) = true ∧ s.chanAvail n.val tx c.val = true) ∧
    (∃ (n : Conv) (s : State), s.isOn (oPwrCnv n.val) = true) ∧
    (∃ (n : Conv) (tx : Bool) (c : Fin 16) (s : State), State.regsWf s = true ∧ s.isOn (oPwrCnv n.val) = true ∧ s.chanAvail n.val tx c.val = true) :=
  ⟨⟨0, 0xC4101010, wr hub [(oPwrTile 0, pOn), (oPwrCnv 0, 0x81000000), (oDstat 0, 0x04000000), (oTcstat 0, 0x70000000), (oNocstat, 0), (oChavail 0, 0)], by decide +kernel, by decide +kernel, by decide +kernel, by decide +kernel, by decide +kernel⟩,
   ⟨0, wr hub [(oPwrTile 0, pOn), (oPwrCnv 0, 0x81000000), (oDstat 0, 0x04000000), (oTcstat 0, 0x70000000), (oNocstat, 0), (oChavail 0, 0)], by decide +kernel, by decide +kernel, by decide +kernel⟩,
   ⟨0, wr hub [(oPwrTile 0, pOn), (oPwrCnv 0, 0x81000000), (oDstat 0, 0x0C000000), (oTcstat 0, 0x70000000), (oNocstat, 0), (oChavail 0, 0)], by decide +kernel, by decide +kernel, by decide +kernel⟩,
   ⟨0, wr hub [(oPwrTile 0, pOn), (oPwrCnv 0, pOn), (oDstat 0, 0x22000000), (oTcstat 0, 0x70000000), (oNocstat, 0), (oChavail 0, 0xFFFFFFFF)], by decide +kernel, by decide +kernel, by decide +kernel, by decide +kernel⟩,
   ⟨0, wr hub [(oPwrTile 0, pOn), (oPwrCnv 0, pOn), (oDstat 0, 0x21000000), (oTcstat 0, 0x70000000), (oNocstat, 0), (oChavail 0, 0)], by decide +kernel, by decide +kernel, by decide +kernel⟩,
   ⟨BitVec.ofNat 16 reqMgmt, 0, wr hub [(oPwrTile 0, pOn), (oPwrCnv 0, pOn), (oDstat 0, 0x22000000), (oTcstat 0, 0x70000000), (oNocstat, 0), (oChavail 0, 0xFFFFFFFF)], by decide +kernel, by decide +kernel, by decide +kernel, by decide +kernel, by decide +kernel, by decide +kernel⟩,
   ⟨0, false, 0, wr hub [(oPwrTile 0, pOn), (oPwrCnv 0, pOn), (oDstat 0, 0x22000000), (oTcstat 0, 0x70000000), (oNocstat, 0), (oChavail 0, 0xFFFFFFFF)], by decide +kernel, by decide +kernel, by decide +kernel⟩,
   ⟨0, wr hub [(oPwrTile 0, pOn), (oPwrCnv 0, pOn), (oDstat 0, 0x22000000), (oTcstat 0, 0x70000000), (oNocstat, 0), (oChavail 0, 0xFFFFFFFF)], by decide +kernel⟩,
   ⟨0, false, 0, wr hub [(oPwrTile 0, pOn), (oPwrCnv 0, pOn), (oDstat 0, 0x22000000), (oTcstat 0, 0x70000000), (oNocstat, 0), (oChavail 0, 0xFFFFFFFF)], by decide +kernel, by decide +kernel, by decide +kernel⟩⟩

theorem met_SerialLanesComplete :
    (∃ (l : SLane) (s : State), (s.lane l.val).st = 1) ∧
    (∃ (l : SLane) (f : BitVec 8) (s : State), (s.lane l.val).st = 2 ∧ s.adaptFld l.val 23 16 ≤ f.toNat) ∧
    (∃ (l : SLane) (s : State), (s.lane l.val).st = 2) ∧
    (∃ (l : SLane) (s : State), (s.lane l.val).st = 4) ∧
    (∃ (l : SLane) (s : State), (s.lane l.val).st = 3) ∧
    (∃ (l : SLane) (s : State), (s.lane l.val).st = 3) ∧
    (∃ (l : SLane) (f : BitVec 8) (s : State), (s.lane l.val).st = 3 ∧ f.toNat < s.adaptFld l.val 23 16) ∧
    (∃ (s : State), s.ser.upUp = true) ∧
    (∃ (s : State), s.ser.downUp = true) ∧
    (∃ (req : Req) (s : State), State.regsWf s = true ∧ s.sys.hubOn = true ∧ reservedDie req.toNat = false ∧ s.bootMode ≠ 0) :=
  ⟨⟨0, laneIn 1, by decide +kernel⟩,
   ⟨0, 255, laneIn 2, by decide +kernel, by decide +kernel⟩,
   ⟨0, laneIn 2, by decide +kernel⟩,
   ⟨0, laneIn 4, by decide +kernel⟩,
   ⟨0, laneIn 3, by decide +kernel⟩,
   ⟨0, laneIn 3, by decide +kernel⟩,
   ⟨0, 0, laneIn 3, by decide +kernel, by decide +kernel⟩,
   ⟨sers hub { upUp := true, lanes := [(48, { st := 3 })] }, by decide +kernel⟩,
   ⟨sers hub { downUp := true, lanes := [(52, { st := 3 })] }, by decide +kernel⟩,
   ⟨BitVec.ofNat 16 reqMgmt, wr hub [(oStrap, 1)], by decide +kernel, by decide +kernel, by decide +kernel, by decide +kernel⟩⟩

theorem met_EthernetPortsComplete :
    (∃ (req : Req) (l : Lane) (v : Word) (s : State), State.regsWf s = true ∧ s.sys.hubOn = true ∧ reservedDie req.toNat = false ∧ s.isOn (oPwrTile (l.val / 12)) = true ∧ s.portEn l.val = false ∧ bitsOf v 31 31 = 1 ∧ bitsOf v 30 28 ≤ 3 ∧ 64 ≤ bitsOf v 15 0 ∧ bitsOf v 15 0 ≤ 9600 ∧ s.portEnableCode l.val v = none) ∧
    (∃ (req : Req) (l : Lane) (s : State), State.regsWf s = true ∧ SMap.wf (fun _ => ({} : PortSt)) s.ser.ports = true ∧ s.sys.hubOn = true ∧ reservedDie req.toNat = false ∧ s.isOn (oPwrTile (l.val / 12)) = true ∧ s.portEn l.val = true ∧ s.portOf l.val = some l.val ∧ s.fld (oPcfg l.val) 30 28 ≤ 3 ∧ 64 ≤ s.fld (oPcfg l.val) 15 0 ∧ s.fld (oPcfg l.val) 15 0 ≤ 9600) ∧
    (∃ (l : Lane) (f : RxFrame) (s : State), State.regsWf s = true ∧ s.portEn l.val = true ∧ s.link l.val = true ∧ ((∀ k ∈ s.lpModes l.val, k = 0)) ∧ f.pcsError = false ∧ 64 ≤ f.bytes.length ∧ f.bytes.length ≤ s.fld (oPcfg l.val) 15 0 ∧ ofBytesLE (f.bytes.drop (f.bytes.length - 4)) = crc32 (f.bytes.take (f.bytes.length - 4)) ∧ s.rxHeld l.val none + f.bytes.length ≤ 65536 * portWidth (s.reg (oPcfg l.val)).toNat ∧ s.bit (oCls (l.val / 12)) 31 = false) ∧
    (∃ (l : Lane) (f : RxFrame) (s : State), State.regsWf s = true ∧ s.portEn l.val = true ∧ s.link l.val = true ∧ ((∀ k ∈ s.lpModes l.val, k = 0)) ∧ f.pcsError = true) ∧
    (∃ (l : Lane) (s : State), ((∀ k ∈ s.lpModes l.val, k = 3)) ∧ (s.lane l.val).st = 3) ∧
    (∃ (c : Tile) (x : ClsCur) (s : State), State.regsWf s = true ∧ SMap.wf (fun _ => ({} : ClsSt)) s.ser.cls = true ∧ (s.cls c.val).cur = some x ∧ x.landed = true ∧ x.tmpl = none ∧ (s.cls c.val).q = [] ∧ x.ring < 16) ∧
    (∃ (l : Lane) (s : State), State.regsWf s = true ∧ s.portEn l.val = true ∧ s.link l.val = true) ∧
    (∃ (req : Req) (l : Lane) (d : Quad) (s : State), s.sys.hubOn = true ∧ reservedDie req.toNat = false ∧ s.isOn (oPwrTile (l.val / 12)) = true ∧ s.portEn l.val = true ∧ 60 ≤ bitsOf d 63 48 ∧ bitsOf d 63 48 ≤ 9596 ∧ bitsOf d 79 67 = 0 ∧ bitsOf d 127 112 = 0 ∧ (s.port l.val).queue (bitsOf d 66 64) = [] ∧ s.bit (oPstatSer l.val) (bitsOf d 66 64) = false ∧ (s.port l.val).buffered + bitsOf d 63 48 ≤ 32768) ∧
    (∃ (l : Lane) (k : Nat) (x : TxFrame) (rest : List TxFrame) (f : List Byte) (cl : Nat) (s : State), State.regsWf s = true ∧ s.portEn l.val = true ∧ s.link l.val = true ∧ s.txQueue l.val = some k ∧ (s.port l.val).queue k = x :: rest ∧ x.frame = some (f, cl) ∧ x.tsmode = 0 ∧ ((∀ k ∈ s.lpModes l.val, k = 0)) ∧ s.ice.errs = []) ∧
    (∃ (req : Req) (l : Lane) (id : Nat) (tm : Nat) (rest : List (Nat × Nat)) (s : State), State.regsWf s = true ∧ SMap.wf (fun _ => ({} : PortSt)) s.ser.ports = true ∧ s.sys.hubOn = true ∧ reservedDie req.toNat = false ∧ req.toNat ≠ reqDbg ∧ s.isOn (oPwrTile (l.val / 12)) = true ∧ s.notFirst l.val = false ∧ (s.port l.val).stamps = (id, tm) :: rest) :=
  ⟨⟨BitVec.ofNat 16 reqMgmt, 0, 0x80000200, wr hub [(oPwrTile 0, pOn), (oPwrLane 0, pOn), (oSer 0, 1031250)], by decide +kernel, by decide +kernel, by decide +kernel, by decide +kernel, by decide +kernel, by decide +kernel, by decide +kernel, by decide +kernel, by decide +kernel, by decide +kernel⟩,
   ⟨BitVec.ofNat 16 reqMgmt, 0, (wr hub [(oPwrTile 0, pOn), (oPcfg 0, 0x80000200), (oPstatSer 0, 0x80000000)]), by decide +kernel, by decide +kernel, by decide +kernel, by decide +kernel, by decide +kernel, by decide +kernel, by decide +kernel, by decide +kernel, by decide +kernel, by decide +kernel⟩,
   ⟨0, ⟨okFrame, false, 0, 0, 0⟩, (wr hub [(oPwrTile 0, pOn), (oPcfg 0, 0x80000200), (oPstatSer 0, 0x80000000)]), by decide +kernel, by decide +kernel, by decide +kernel, by decide +kernel, by decide +kernel, by decide +kernel, by decide +kernel, by decide +kernel, by decide +kernel, by decide +kernel⟩,
   ⟨0, ⟨okFrame, true, 0, 0, 0⟩, (wr hub [(oPwrTile 0, pOn), (oPcfg 0, 0x80000200), (oPstatSer 0, 0x80000000)]), by decide +kernel, by decide +kernel, by decide +kernel, by decide +kernel, by decide +kernel⟩,
   ⟨0, sers (wr hub [(oSer 0 + 0x10, 3)]) { lanes := [(0, { st := 3 })] }, by decide +kernel, by decide +kernel⟩,
   ⟨0, { ring := 1, addr := 64, data := [], acked := 0, tmpl := none, time := 0, mgmt := true, landed := true, poison := false }, sers hub { cls := [(0, { cur := some { ring := 1, addr := 64, data := [], acked := 0, tmpl := none, time := 0, mgmt := true, landed := true, poison := false } })] }, by decide +kernel, by decide +kernel, by decide +kernel, by decide +kernel, by decide +kernel, by decide +kernel, by decide +kernel⟩,
   ⟨0, (wr hub [(oPwrTile 0, pOn), (oPcfg 0, 0x80000200), (oPstatSer 0, 0x80000000)]), by decide +kernel, by decide +kernel, by decide +kernel⟩,
   ⟨BitVec.ofNat 16 reqMgmt, 0, 0x00000000000000000040000000001000, (wr hub [(oPwrTile 0, pOn), (oPcfg 0, 0x80000200), (oPstatSer 0, 0x80000000)]), by decide +kernel, by decide +kernel, by decide +kernel, by decide +kernel, by decide +kernel, by decide +kernel, by decide +kernel, by decide +kernel, by decide +kernel, by decide +kernel, by decide +kernel⟩,
   ⟨0, 2, ({ id := 1, addr := 0, len := 60, prio := 0, tsmode := 0, pack := false, tsoff := 0, tsid := 0, frame := some ([1, 2], 0) } : TxFrame), [], [1, 2], 0, sers (wr hub [(oPwrTile 0, pOn), (oPcfg 0, 0x80000200), (oPstatSer 0, 0x80000000)]) { ports := [(0, { queues := [(2, [({ id := 1, addr := 0, len := 60, prio := 0, tsmode := 0, pack := false, tsoff := 0, tsid := 0, frame := some ([1, 2], 0) } : TxFrame)])] })] }, by decide +kernel, by decide +kernel, by decide +kernel, by decide +kernel, by decide +kernel, by decide +kernel, by decide +kernel, by decide +kernel, by decide +kernel⟩,
   ⟨BitVec.ofNat 16 reqMgmt, 0, 5, 9, [], sers (wr hub [(oPwrTile 0, pOn), (oPcfg 0, 0x80000200), (oPstatSer 0, 0x80000000)]) { ports := [(0, { stamps := [(5, 9)] })] }, by decide +kernel, by decide +kernel, by decide +kernel, by decide +kernel, by decide +kernel, by decide +kernel, by decide +kernel, by decide +kernel⟩⟩

theorem met_DieLinksComplete :
    (∃ (m : LMod) (s : State), State.regsWf s = true ∧ s.lnkDiesUp m.val = true ∧ (s.lnkMod m.val).oosDue = false ∧ s.nightState ≠ 3 ∧ (s.lstate m.val = 1 ∨ s.lstate m.val = 2)) ∧
    (∃ (m : LMod) (s : State), State.regsWf s = true ∧ s.lnkDiesUp m.val = true ∧ (s.lnkMod m.val).oosDue = false ∧ s.nightState ≠ 3 ∧ s.lstate m.val = 3) ∧
    (∃ (m : LMod) (w : Nat) (g : Nat) (s : State), State.regsWf s = true ∧ s.lnkDiesUp m.val = true ∧ (s.lnkMod m.val).oosDue = false ∧ s.nightState ≠ 3 ∧ s.lstate m.val = 4 ∧ agreedWidth (s.bothMaps m.val) = some (w, g)) ∧
    (∃ (m : LMod) (r : LinkReport) (s : State), Inv s ∧ s.lnkDiesUp m.val = true ∧ (s.lnkMod m.val).oosDue = false ∧ s.nightState ≠ 3 ∧ s.lstate m.val = 6 ∧ partnerOk r.partner = true ∧ bitsOf r.partner 8 8 = 1 ∧ (s.lnkMod m.val).held = []) ∧
    (∃ (m : LMod) (s : State), State.regsWf s = true ∧ isTc m.val = false ∧ s.lnkDiesUp m.val = true ∧ 1 ≤ s.lstate m.val ∧ s.lstate m.val ≤ 6 ∧ (s.lnkMod m.val).retraining = false ∧ s.nightState ≠ 3 ∧ s.fld (oLstat m.val) 17 16 < 3) ∧
    (∃ (m : LMod) (s : State), State.regsWf s = true ∧ isTc m.val = false ∧ s.lnkDiesUp m.val = true ∧ 1 ≤ s.lstate m.val ∧ s.lstate m.val ≤ 6 ∧ (s.lnkMod m.val).retraining = false ∧ s.nightState ≠ 3 ∧ s.fld (oLstat m.val) 17 16 = 3) ∧
    (∃ (m : LMod) (s : State), State.regsWf s = true ∧ s.lstate m.val = 5 ∧ s.lsafe m.val = false ∧ (s.lnkMod m.val).oosDue = false) ∧
    (∃ (m : LMod) (w : Nat) (g : Nat) (s : State), State.regsWf s = true ∧ s.lstate m.val = 5 ∧ s.lsafe m.val = false ∧ s.fld (oLstat m.val) 15 14 < 3 ∧ stepDown (s.bothMaps m.val) (s.lwidth m.val) (s.lgroup m.val) = some (w, g)) ∧
    (∃ (m : LMod) (s : State), State.regsWf s = true ∧ s.lstate m.val = 7 ∧ (s.lnkMod m.val).narrow = none ∧ (s.lnkMod m.val).repAB + 1 < 8 ∧ (s.lnkMod m.val).win + 1 ≤ s.fld (oLthr m.val) 23 12) ∧
    (∃ (m : LMod) (s : State), State.regsWf s = true ∧ s.lstate m.val = 7 ∧ (s.lnkMod m.val).narrow = none ∧ 8 ≤ (s.lnkMod m.val).repBA + 1 ∧ s.lsafe m.val = false) ∧
    (∃ (s : State), Inv s) ∧
    (∃ (m : LMod) (lane : Fin 68) (i : Nat) (s : State), State.regsWf s = true ∧ s.lstate m.val = 7 ∧ (s.lnkMod m.val).narrow = none ∧ s.carried m.val false lane.val = some i ∧ laneInUse (s.lwidth m.val) (s.lgroup m.val) i = true ∧ s.repairFree m.val false (i / 32) = true) ∧
    (∃ (m : LMod) (w : Nat) (g : Nat) (lane : Nat) (ba : Bool) (s : State), Inv s ∧ (s.lnkMod m.val).narrow = some (w, g, ba, lane) ∧ isTc m.val = false ∧ w ≤ 2 ∧ g ≤ 3 ∧ (s.lnkMod m.val).held = []) ∧
    (∃ (m : LMod) (s : State), State.regsWf s = true ∧ 2 ≤ s.lstate m.val ∧ s.lstate m.val ≤ 8) ∧
    (∃ (req : Req) (m : LMod) (s : State), State.regsWf s = true ∧ s.sys.hubOn = true ∧ reservedDie req.toNat = false ∧ s.lstate m.val = 7 ∧ s.lastWay m.val = false ∧ isTc m.val = false ∧ s.bit (oLnk m.val) 0 = false) ∧
    (∃ (req : Req) (m : LMod) (s : State), State.regsWf s = true ∧ s.sys.hubOn = true ∧ reservedDie req.toNat = false ∧ s.lstate m.val = 7 ∧ (s.lnkMod m.val).narrow = none) ∧
    (∃ (m : LMod) (s : State), State.regsWf s = true ∧ s.lstate m.val = 7) :=
  ⟨⟨0, modIn 1, by decide +kernel, by decide +kernel, by decide +kernel, by decide +kernel, by decide +kernel⟩,
   ⟨0, modIn 3, by decide +kernel, by decide +kernel, by decide +kernel, by decide +kernel, by decide +kernel⟩,
   ⟨0, 0, 0, modIn 4, by decide +kernel, by decide +kernel, by decide +kernel, by decide +kernel, by decide +kernel, by decide +kernel⟩,
   ⟨0, ⟨0, 0, 0x1E0⟩, modIn 6, by unfold Stated.Inv; decide +kernel, by decide +kernel, by decide +kernel, by decide +kernel, by decide +kernel, by decide +kernel, by decide +kernel, by decide +kernel⟩,
   ⟨0, modIn 1, by decide +kernel, by decide +kernel, by decide +kernel, by decide +kernel, by decide +kernel, by decide +kernel, by decide +kernel, by decide +kernel⟩,
   ⟨0, (modIn 1).setFld (oLstat 0) 17 16 3, by decide +kernel, by decide +kernel, by decide +kernel, by decide +kernel, by decide +kernel, by decide +kernel, by decide +kernel, by decide +kernel⟩,
   ⟨0, modIn 5, by decide +kernel, by decide +kernel, by decide +kernel, by decide +kernel⟩,
   ⟨0, 1, 0, modIn 5, by decide +kernel, by decide +kernel, by decide +kernel, by decide +kernel, by decide +kernel⟩,
   ⟨0, modIn 7, by decide +kernel, by decide +kernel, by decide +kernel, by decide +kernel, by decide +kernel⟩,
   ⟨0, { modIn 7 with lnk := [(0, { repBA := 7 })] }, by decide +kernel, by decide +kernel, by decide +kernel, by decide +kernel, by decide +kernel⟩,
   ⟨modIn 7, by unfold Stated.Inv; decide +kernel⟩,
   ⟨0, 0, 0, modIn 7, by decide +kernel, by decide +kernel, by decide +kernel, by decide +kernel, by decide +kernel, by decide +kernel⟩,
   ⟨0, 1, 0, 3, false, { modIn 7 with lnk := [(0, { narrow := some (1, 0, false, 3) })] }, by unfold Stated.Inv; decide +kernel, by decide +kernel, by decide +kernel, by decide +kernel, by decide +kernel, by decide +kernel⟩,
   ⟨0, modIn 3, by decide +kernel, by decide +kernel, by decide +kernel⟩,
   ⟨BitVec.ofNat 16 reqMgmt, 0, modIn 7, by decide +kernel, by decide +kernel, by decide +kernel, by decide +kernel, by decide +kernel, by decide +kernel, by decide +kernel⟩,
   ⟨BitVec.ofNat 16 reqMgmt, 0, modIn 7, by decide +kernel, by decide +kernel, by decide +kernel, by decide +kernel, by decide +kernel⟩,
   ⟨0, modIn 7, by decide +kernel, by decide +kernel⟩⟩

theorem met_DramChannelsComplete :
    (∃ (k : Chan) (s : State), State.regsWf s = true ∧ s.fld (oTrain k.val) 31 29 = 1 ∧ s.pwr (oPwrMem k.val) = 1 ∧ s.nightState ≠ 3 ∧ s.fld (oTrain k.val) 27 24 < 9) ∧
    (∃ (k : Chan) (s : State), State.regsWf s = true ∧ s.fld (oTrain k.val) 31 29 = 1 ∧ s.pwr (oPwrMem k.val) = 1 ∧ s.nightState ≠ 3 ∧ s.fld (oTrain k.val) 27 24 = 9) ∧
    (∃ (k : Chan) (s : State), State.regsWf s = true ∧ s.fld (oTrain k.val) 31 29 = 1 ∧ s.pwr (oPwrMem k.val) = 1 ∧ s.nightState ≠ 3 ∧ (s.chan k.val).second = false) ∧
    (∃ (k : Chan) (s : State), State.regsWf s = true ∧ s.fld (oTrain k.val) 31 29 = 1 ∧ s.pwr (oPwrMem k.val) = 1 ∧ s.nightState ≠ 3 ∧ (s.chan k.val).second = true) ∧
    (∃ (k : Chan) (s : State), State.regsWf s = true ∧ Stated.MemActive s k.val) ∧
    (∃ (k : Chan) (s : State), Stated.MemActive s k.val) ∧
    (∃ (k : Chan) (e : RdEnt) (s : State), State.regsWf s = true ∧ Stated.MemActive s k.val ∧ (s.chan k.val).rq = [e] ∧ e.issued = false ∧ (s.chan k.val).wq = [] ∧ (s.chan k.val).nr = [] ∧ ((∀ r, (s.chan k.val).owedOf r ≤ 4)) ∧ (s.chan k.val).thr = [] ∧ s.rangeAt e.line = none) ∧
    (∃ (k : Chan) (s : State), Inv s ∧ Stated.MemActive s k.val ∧ (s.chan k.val).rq = [] ∧ (s.chan k.val).wq = [] ∧ (s.chan k.val).nr = [] ∧ ((∀ r, (s.chan k.val).owedOf r ≤ 4)) ∧ 0 < (s.chan k.val).owedOf 0 ∧ SMap.wf (fun _ => (0 : Nat)) (s.chan k.val).owed = true) ∧
    (∃ (k : Chan) (n : Nat) (fl : List (Bool × Nat)) (e : RdEnt) (r : MemReq) (s : State), Inv s ∧ (s.chan k.val).flight = (false, n) :: fl ∧ (s.chan k.val).rq.find? (fun x => x.seq == n) = some e ∧ e.retry = false ∧ s.rangeAt e.line = none ∧ (Stated.lineFound s k.val e.line []).bad = 0 ∧ (Stated.lineFound s k.val e.line []).corr = [] ∧ (Stated.lineFound s k.val e.line []).poison = false ∧ (s.chan k.val).reqs.find? (fun x => x.id == e.req) = some r ∧ r.left = 1 ∧ r.parts = [] ∧ r.poison = false ∧ r.err = false ∧ r.write = false) ∧
    (∃ (k : Chan) (r : Fin 2) (s : State), s.memOn k.val = true ∧ s.srState k.val ≤ 1 ∧ r.val < s.ranks k.val) ∧
    (∃ (s : State), Inv s) ∧
    (∃ (k : Chan) (j : Fin 16) (p : Pkt) (l : Nat) (rest : List (Bool × Pkt)) (s : State), Inv s ∧ Stated.MemActive s k.val ∧ (s.chan k.val).heldBy j.val = (false, p) :: rest ∧ 2 ≤ (s.chan k.val).tokens j.val ∧ pktLines p = [l] ∧ s.rangeAt l = none ∧ s.metaAt l = none ∧ (s.chan k.val).rq.length < 64 ∧ (s.chan k.val).wq = [] ∧ SMap.wf (fun _ => ([] : List (Bool × Pkt))) (s.chan k.val).held = true ∧ SMap.wf (fun _ => (0 : Int)) (s.chan k.val).tok = true) ∧
    (∃ (k : Chan) (s : State), State.regsWf s = true ∧ Stated.MemActive s k.val ∧ s.fld (oMem k.val + 0x14) 31 16 ≠ 0 ∧ s.memIdle k.val = true) ∧
    (∃ (k : Chan) (s : State), State.regsWf s = true ∧ s.memOn k.val = true ∧ s.srState k.val = 2 ∧ s.memIdle k.val = false) ∧
    (∃ (k : Chan) (s : State), Inv s ∧ s.srState k.val = 4 ∧ (s.chan k.val).retrain = false) ∧
    (∃ (k : Chan) (s : State), Inv s ∧ s.srState k.val = 4 ∧ (s.chan k.val).retrain = true) ∧
    (∃ (k : Chan) (s : State), State.regsWf s = true ∧ Stated.MemActive s k.val ∧ s.bit (oMem k.val) 28 = true ∧ (s.chan k.val).reissue = false) ∧
    (∃ (k : Chan) (s : State), (s.chan k.val).alert = true) ∧
    (∃ (k : Chan) (a : Nat) (flips : List (BitVec 64 × BitVec 16)) (s : State), State.regsWf s = true ∧ Stated.MemActive s k.val ∧ s.bit (oIce + 0x300) 31 = true ∧ s.chooseCmd k.val = none ∧ (s.chan k.val).pos = none ∧ (s.chan k.val).wq = [] ∧ s.scrubNext k.val 0 s.scrubWins = some a ∧ (s.scrubNext k.val (a / 128 * 128 + 128) s.scrubWins).isSome = true ∧ (Stated.lineFound s k.val (a / 128 * 128) (flips.take 16)).bad = 0 ∧ (Stated.lineFound s k.val (a / 128 * 128) (flips.take 16)).corr = []) :=
  ⟨⟨0, wr hub [(oPwrMem 0, 0x81000000), (oDramil, 1), (oTrain 0, 0x21000000)], by decide +kernel, by decide +kernel, by decide +kernel, by decide +kernel, by decide +kernel⟩,
   ⟨0, wr hub [(oPwrMem 0, 0x81000000), (oDramil, 1), (oTrain 0, 0x29000000)], by decide +kernel, by decide +kernel, by decide +kernel, by decide +kernel, by decide +kernel⟩,
   ⟨0, wr hub [(oPwrMem 0, 0x81000000), (oDramil, 1), (oTrain 0, 0x22000000)], by decide +kernel, by decide +kernel, by decide +kernel, by decide +kernel, by decide +kernel⟩,
   ⟨0, chans (wr hub [(oPwrMem 0, 0x81000000), (oDramil, 1), (oTrain 0, 0x22000000)]) { second := true }, by decide +kernel, by decide +kernel, by decide +kernel, by decide +kernel, by decide +kernel⟩,
   ⟨0, memOnWith [], by decide +kernel, by decide +kernel⟩,
   ⟨0, memOnWith [], by decide +kernel⟩,
   ⟨0, { seq := 1, req := 0, line := 0, laid := noBytes, at_ := 0 }, chans (memOnWith []) { rq := [{ seq := 1, req := 0, line := 0, laid := noBytes, at_ := 0 }] }, by decide +kernel, by decide +kernel, by decide +kernel, by decide +kernel, by decide +kernel, by decide +kernel, fun _ => Nat.zero_le _, by decide +kernel, by decide +kernel⟩,
   ⟨0, chans (memOnWith []) { owed := [(0, 1)] }, by unfold Stated.Inv; decide +kernel, by decide +kernel, by decide +kernel, by decide +kernel, by decide +kernel, fun r => by cases r <;> simp [State.chan, ChanSt.owedOf, SMap.get, SMap.find], by decide +kernel, by decide +kernel⟩,
   ⟨0, 1, [], { seq := 1, req := 0, line := 0, laid := noBytes, at_ := 0 }, { id := 0, pkt := pkt0, write := false, left := 1 }, (chans (memOnWith []) { rq := [{ seq := 1, req := 0, line := 0, laid := noBytes, at_ := 0 }], flight := [(false, 1)], reqs := [{ id := 0, pkt := pkt0, write := false, left := 1 }] }) |> zeroLine, by unfold Stated.Inv; decide +kernel, by decide +kernel, by decide +kernel, by decide +kernel, by decide +kernel, by decide +kernel, by decide +kernel, by decide +kernel, by decide +kernel, by decide +kernel, by decide +kernel, by decide +kernel, by decide +kernel, by decide +kernel⟩,
   ⟨0, 0, memOnWith [], by decide +kernel, by decide +kernel, by decide +kernel⟩,
   ⟨memOnWith [], by unfold Stated.Inv; decide +kernel⟩,
   ⟨0, 0, pkt0, 0, [], chans (memOnWith []) { held := [(0, [(false, pkt0)])], tok := [(0, 4)] }, by unfold Stated.Inv; decide +kernel, by decide +kernel, by decide +kernel, by decide +kernel, by decide +kernel, by decide +kernel, by decide +kernel, by decide +kernel, by decide +kernel, by decide +kernel, by decide +kernel⟩,
   ⟨0, memOnWith [(oMem 0 + 0x14, 0x10000)], by decide +kernel, by decide +kernel, by decide +kernel, by decide +kernel⟩,
   ⟨0, chans (memOnWith [(oMemStat 0, 0x40000000)]) { reqs := [{ id := 0, pkt := pkt0, write := false, left := 1 }] }, by decide +kernel, by decide +kernel, by decide +kernel, by decide +kernel⟩,
   ⟨0, memOnWith [(oMemStat 0, 0x80000000)], by unfold Stated.Inv; decide +kernel, by decide +kernel, by decide +kernel⟩,
   ⟨0, chans (memOnWith [(oMemStat 0, 0x80000000)]) { retrain := true }, by unfold Stated.Inv; decide +kernel, by decide +kernel, by decide +kernel⟩,
   ⟨0, memOnWith [(oMem 0, 0x10000000)], by decide +kernel, by decide +kernel, by decide +kernel, by decide +kernel⟩,
   ⟨0, chans hub { alert := true }, by decide +kernel⟩,
   ⟨0, 0, [], zeroLine (memOnWith [(oIce + 0x300, 0x80000000), (oIce + 0x404, 0x80000001)]), by decide +kernel, by decide +kernel, by decide +kernel, by decide +kernel, by decide +kernel, by decide +kernel, by decide +kernel, by decide +kernel, by decide +kernel, by decide +kernel⟩⟩

theorem met_ProtectedRangesComplete :
    (∃ (s : State), State.regsWf s = true ∧ s.sys.hubOn = true) ∧
    (∃ (s : State), State.regsWf s = true ∧ s.sys.hubOn = true) ∧
    (∃ (req : Req) (s : State), s.sys.hubOn = true ∧ reservedDie req.toNat = false ∧ s.bit (oIce + 8) 31 = true ∧ req.toNat ≠ reqDbg) ∧
    (∃ (req : Req) (r : Rng) (v : Word) (s : State), State.regsWf s = true ∧ s.sys.hubOn = true ∧ reservedDie req.toNat = false ∧ bitsOf v 31 31 = 1 ∧ s.rngEn r.val = false ∧ s.prCheck r.val = none) ∧
    (∃ (r : Rng) (s : State), State.regsWf s = true ∧ Stated.RangesWf s ∧ s.rngState r.val = 1) ∧
    (∃ (req : Req) (r : Rng) (s : State), State.regsWf s = true ∧ Stated.RangesWf s ∧ s.sys.hubOn = true ∧ reservedDie req.toNat = false ∧ s.rngEn r.val = true ∧ s.rngState r.val = 2) ∧
    (∃ (req : Req) (r : Rng) (s : State), State.regsWf s = true ∧ Stated.RangesWf s ∧ s.sys.hubOn = true ∧ reservedDie req.toNat = false ∧ s.rngState r.val = 2) ∧
    (∃ (r : Rng) (s : State), State.regsWf s = true ∧ Stated.RangesWf s ∧ s.rngState r.val = 4) ∧
    (∃ (r : Rng) (page : Nat) (b : CtrBlk) (s : State), Stated.RangesWf s ∧ (s.range r.val).busy.contains page = true ∧ s.cached r.val 0 page = some b) ∧
    (∃ (r : Rng) (lvl : Fin 6) (n : Nat) (b : CtrBlk) (s : State), 2 ≤ s.rngState r.val ∧ s.atTop r.val lvl.val = true ∧ n < (s.rngLevels r.val).getD lvl.val 0 ∧ s.ice.cache = [] ∧ s.damaged r.val (n * 32 ^ lvl.val) = false ∧ (decodeLine true (s.rawLine (s.blkAddr r.val lvl.val n))).bad = 0 ∧ (decodeLine true (s.rawLine (s.blkAddr r.val lvl.val n))).poison = false ∧ (decodeLine true (s.rawLine (s.blkAddr r.val lvl.val n))).corr = [] ∧ openCtr (s.range r.val).key (s.range r.val).root.major ((s.range r.val).root.minor n) n lvl.val (decodeLine true (s.rawLine (s.blkAddr r.val lvl.val n))).gr = some b) :=
  ⟨⟨hub, by decide +kernel, by decide +kernel⟩,
   ⟨hub, by decide +kernel, by decide +kernel⟩,
   ⟨BitVec.ofNat 16 reqMgmt, wr hub [(oIce + 8, 0x80000000)], by decide +kernel, by decide +kernel, by decide +kernel, by decide +kernel⟩,
   ⟨BitVec.ofNat 16 reqMgmt, 0, 0x80000000, rangeIn false 0, by decide +kernel, by decide +kernel, by decide +kernel, by decide +kernel, by decide +kernel, by decide +kernel⟩,
   ⟨0, rangeIn true 1, by decide +kernel, by decide +kernel, by decide +kernel⟩,
   ⟨BitVec.ofNat 16 reqMgmt, 0, rangeIn true 2, by decide +kernel, by decide +kernel, by decide +kernel, by decide +kernel, by decide +kernel, by decide +kernel⟩,
   ⟨BitVec.ofNat 16 reqMgmt, 0, rangeIn true 2, by decide +kernel, by decide +kernel, by decide +kernel, by decide +kernel, by decide +kernel⟩,
   ⟨0, rangeIn true 4, by decide +kernel, by decide +kernel, by decide +kernel⟩,
   ⟨0, 0, { major := 1, minors := [(0, 3)] }, ices (rangeIn true 2) { ranges := [(0, { busy := [0] })], cache := [(cacheKey 0 0 0, { major := 1, minors := [(0, 3)] })] }, by decide +kernel, by decide +kernel, by decide +kernel⟩,
   ⟨0, 1, 0, {}, (ices (rangeIn true 2) { ranges := [(0, { key := zeroKey })] }).putLine ((rangeIn true 2).blkAddr 0 1 0) ((sealCtr zeroKey 0 0 0 1 {}).map some), by decide +kernel, by decide +kernel, by decide +kernel, by decide +kernel, by decide +kernel, by decide +kernel, by decide +kernel, by decide +kernel, by decide +kernel⟩⟩

theorem met_MailboxesComplete :
    (∃ (req : Req) (n : Sys2Proof.Mbx) (x : Side) (s : State), s.sys.hubOn = true ∧ reservedDie req.toNat = false ∧ (s.mbxParty n.val (Stated.sideB x)).holds req.toNat = true ∧ s.mbxDown n.val (!Stated.sideB x) = false ∧ (s.mbxQ n.val (!Stated.sideB x)).length < 16) ∧
    (∃ (req : Req) (n : Sys2Proof.Mbx) (x : Side) (v : Word) (i : Nat) (q : List (Word × Nat)) (s : State), Inv s ∧ s.sys.hubOn = true ∧ reservedDie req.toNat = false ∧ req.toNat ≠ reqDbg ∧ (s.mbxParty n.val (Stated.sideB x)).holds req.toNat = true ∧ s.mbxQ n.val (Stated.sideB x) = (v, i) :: q) ∧
    (∃ (req : Req) (n : Sys2Proof.Mbx) (x : Side) (v : Word) (s : State), State.regsWf s = true ∧ s.sys.hubOn = true ∧ reservedDie req.toNat = false ∧ (s.mbxParty n.val (Stated.sideB x)).holds req.toNat = true ∧ s.mbxDown n.val (!Stated.sideB x) = false ∧ bitsOf v 31 30 = 0 ∧ s.bit (oSide n.val (!Stated.sideB x) + 0x24) 31 = false) ∧
    (∃ (req : Req) (n : Sys2Proof.Mbx) (x : Side) (v : Word) (s : State), State.regsWf s = true ∧ s.sys.hubOn = true ∧ reservedDie req.toNat = false ∧ (s.mbxParty n.val (Stated.sideB x)).holds req.toNat = true ∧ s.mbxDown n.val (!Stated.sideB x) = false ∧ bitsOf v 31 30 = 0 ∧ s.bit (oSide n.val (!Stated.sideB x) + 0x24) 31 = true ∧ s.mbxParty n.val (!Stated.sideB x) = .mgmt ∧ s.mbxRings n.val (!Stated.sideB x) = false ∧ v &&& s.reg (oSide n.val (!Stated.sideB x) + 0x20) ≠ 0) ∧
    (∃ (req : Req) (n : Sys2Proof.Mbx) (x : Side) (s : State), State.regsWf s = true ∧ s.sys.hubOn = true ∧ reservedDie req.toNat = false ∧ (s.mbxParty n.val (Stated.sideB x)).holds req.toNat = true ∧ s.bit (oSide n.val (Stated.sideB x) + 0x24) 31 = false) ∧
    (∃ (n : Sys2Proof.Mbx) (s : State), State.regsWf s = true ∧ s.mbxQ n.val false ≠ [] ∧ s.mbxQ n.val true ≠ [] ∧ s.bit (oMbx n.val + 8) 31 = false ∧ s.bit (oSide n.val false + 0x24) 31 = false ∧ s.bit (oSide n.val true + 0x24) 31 = false) :=
  ⟨⟨BitVec.ofNat 16 reqMgmt, 0, .a, { hub with sys := { hub.sys with linkUp := true, perstN := true, epReady := true } }, by decide +kernel, by decide +kernel, by decide +kernel, by decide +kernel, by decide +kernel⟩,
   ⟨BitVec.ofNat 16 reqMgmt, 0, .a, 5, 2, [], mboxs hub { a := { q := [(5, 2)] } }, by unfold Stated.Inv; decide +kernel, by decide +kernel, by decide +kernel, by decide +kernel, by decide +kernel, by decide +kernel⟩,
   ⟨BitVec.ofNat 16 reqMgmt, 0, .a, 4, { hub with sys := { hub.sys with linkUp := true, perstN := true, epReady := true } }, by decide +kernel, by decide +kernel, by decide +kernel, by decide +kernel, by decide +kernel, by decide +kernel, by decide +kernel⟩,
   ⟨0x400, 8, .a, 4, { wr hub [(0xD00000, 0x40000000), (oSide 8 true + 0x24, 0x80000000), (oSide 8 true + 0x20, 4)] with now := 0 }, by decide +kernel, by decide +kernel, by decide +kernel, by decide +kernel, by decide +kernel, by decide +kernel, by decide +kernel, by decide +kernel, by decide +kernel, by decide +kernel⟩,
   ⟨BitVec.ofNat 16 reqMgmt, 0, .a, hub, by decide +kernel, by decide +kernel, by decide +kernel, by decide +kernel, by decide +kernel⟩,
   ⟨0, mboxs hub { a := { q := [(5, 2)] }, b := { q := [(6, 2)] } }, by decide +kernel, by decide +kernel, by decide +kernel, by decide +kernel, by decide +kernel, by decide +kernel⟩⟩

theorem met_SupervisionComplete :
    (∃ (s : State), Inv s ∧ s.sys.hubOn = true) ∧
    (∃ (s : State), s.sys.hubOn = true) ∧
    (∃ (s : State), Inv s ∧ s.sys.hubOn = true ∧ s.bit (oMgm + 0xC) 31 = true ∧ s.mgm.wd = 0 ∧ s.bit oMcfg 31 = false ∧ s.wdHeld = false) ∧
    (∃ (i : Fin 44) (x : Int) (s : State), State.regsWf s = true ∧ s.dieOn (sensorDie i.val) = true ∧ -880 ≤ x ∧ x ≤ 2400 ∧ (s.sensorRead i.val x).dieTrips (sensorDie i.val) = false) ∧
    (∃ (i : Fin 44) (s : State), State.regsWf s = true ∧ s.dieOn (sensorDie i.val) = true) ∧
    (∃ (i : Fin 24) (s : State), State.regsWf s = true ∧ s.sys.hubOn = true ∧ i.val < 12) ∧
    (∃ (i : Fin 24) (v : BitVec 16) (s : State), State.regsWf s = true ∧ s.sys.hubOn = true ∧ s.fld (oMgm + 0x400 + 4 * i.val) 15 0 ≤ v.toNat ∧ v.toNat ≤ s.fld (oMgm + 0x400 + 4 * i.val) 31 16) ∧
    (∃ (d : PDie) (s : State), State.regsWf s = true ∧ s.dieOn d.val = true) ∧
    (∃ (d : PDie) (s : State), s.dieOn d.val = true) ∧
    (∃ (s : State), State.regsWf s = true ∧ s.sys.hubOn = true) ∧
    (∃ (d : PDie) (b : Nat) (s : State), (s.lpc d.val).msg = some b ∧ s.dieOn d.val = true) ∧
    (∃ (d : PDie) (s : State), s.dieOn d.val = true) ∧
    (∃ (d : PDie) (p : BitVec 12) (s : State), d.val < 4 ∧ s.dieOn d.val = true ∧ s.lpcBudget d.val < p.toNat) :=
  ⟨⟨hub, by unfold Stated.Inv; decide +kernel, by decide +kernel⟩,
   ⟨hub, by decide +kernel⟩,
   ⟨mgms (wr hub [(oMgm + 0xC, 0x80000000)]) { wd := 0 }, by unfold Stated.Inv; decide +kernel, by decide +kernel, by decide +kernel, by decide +kernel, by decide +kernel, by decide +kernel⟩,
   ⟨0, 5, wr hub [(oPwrTile 0, pOn)], by decide +kernel, by decide +kernel, by decide +kernel, by decide +kernel, by decide +kernel⟩,
   ⟨0, wr hub [(oPwrTile 0, pOn)], by decide +kernel, by decide +kernel⟩,
   ⟨0, hub, by decide +kernel, by decide +kernel, by decide +kernel⟩,
   ⟨0, 5, wr hub [(oMgm + 0x400, 0xFFFF0000)], by decide +kernel, by decide +kernel, by decide +kernel, by decide +kernel⟩,
   ⟨0, wr hub [(oPwrTile 0, pOn)], by decide +kernel, by decide +kernel⟩,
   ⟨0, wr hub [(oPwrTile 0, pOn)], by decide +kernel⟩,
   ⟨hub, by decide +kernel, by decide +kernel⟩,
   ⟨0, 3, mgms (wr hub [(oPwrTile 0, pOn)]) { lpc := [(0, { msg := some 3 })] }, by decide +kernel, by decide +kernel⟩,
   ⟨0, wr hub [(oPwrTile 0, pOn)], by decide +kernel⟩,
   ⟨0, 5, mgms (wr hub [(oPwrTile 0, pOn)]) { lpc := [(0, { budget := some 3 })] }, by decide +kernel, by decide +kernel, by decide +kernel⟩⟩

theorem met_RecordsAndFlashComplete :
    (∃ (q : Req) (r : Rec) (s : State), State.regsWf s = true ∧ s.sys.hubOn = true ∧ s.rec_.pend.find? (fun x => x.src == q.toNat) = some r) ∧
    (∃ (ws : List Word) (rest : List (List Word)) (s : State), Inv s ∧ s.rec_.logQ = ws :: rest ∧ s.mgm.scanned = true ∧ s.nvInh = false ∧ s.mgm.flOp = none ∧ s.fld oLogStat 22 16 < 126) ∧
    (∃ (i : Nat) (q : Nat) (s : State), State.regsWf s = true ∧ s.sys.hubOn = true ∧ s.mgm.scanned = false ∧ s.currentSector = some (i, q)) ∧
    (∃ (a : Nat) (n : Nat) (s : State), State.regsWf s = true ∧ s.mgm.flOp = some ⟨0, a, n⟩ ∧ n ≤ 256) ∧
    (∃ (a : Nat) (n : Nat) (s : State), State.regsWf s = true ∧ s.mgm.flOp = some ⟨2, a, n⟩) ∧
    (∃ (f : FlashOp) (s : State), State.regsWf s = true ∧ s.mgm.flOp = some f) :=
  ⟨⟨5, rec0, recs hub { pend := [rec0] }, by decide +kernel, by decide +kernel, by decide +kernel⟩,
   ⟨[1, 2, 3, 4, 5, 6, 7, 8], [], mgms (recs hub { logQ := [[1, 2, 3, 4, 5, 6, 7, 8]] }) { scanned := true }, by unfold Stated.Inv; decide +kernel, by decide +kernel, by decide +kernel, by decide +kernel, by decide +kernel, by decide +kernel⟩,
   ⟨3, 4, mgms hub { flash := (List.range 32).map (fun i => (logSector 3 + i, (logHeader 4).getD i 0)) }, by decide +kernel, by decide +kernel, by decide +kernel, by decide +kernel⟩,
   ⟨0, 4, mgms hub { flOp := some ⟨0, 0, 4⟩ }, by decide +kernel, by decide +kernel, by decide +kernel⟩,
   ⟨0, 4, mgms hub { flOp := some ⟨2, 0, 4⟩ }, by decide +kernel, by decide +kernel⟩,
   ⟨⟨2, 0, 4⟩, mgms hub { flOp := some ⟨2, 0, 4⟩ }, by decide +kernel, by decide +kernel⟩⟩

theorem met_BootAndBusesComplete :
    (∃ (s : State), State.regsWf s = true ∧ s.sys.hubOn = true ∧ s.bit oMcfg 31 = false ∧ s.fld oBoot 31 30 = 0 ∧ s.bootOrder = []) ∧
    (∃ (s : State), s.sys.hubOn = true ∧ s.nvInh = false ∧ s.fuses.imgCount < 63 ∧ s.fuses.imgCount + 1 ≤ s.fld (oCfg + 0x24) 31 24) ∧
    (∃ (s : State), s.sys.hubOn = true ∧ s.nvInh = false ∧ s.fuses.fwCount < 63 ∧ s.fuses.fwCount + 1 ≤ s.mgm.runSvn) ∧
    (∃ (k : Fin 4) (s : State), s.sys.hubOn = true ∧ s.nvInh = false ∧ s.fuses.revoked.testBit k.val = false ∧ ((k.val = s.mgm.runSlot → s.fld oBoot 31 30 ≠ 1))) ∧
    (∃ (v : Word) (d : List Byte) (s : State), State.regsWf s = true ∧ s.mgm.pmb = some v ∧ bitsOf v 29 28 = 1 ∧ bitsOf v 5 0 ≤ 32 ∧ d.length = bitsOf v 5 0) ∧
    (∃ (v : Word) (s : State), State.regsWf s = true ∧ s.mgm.pmb = some v) ∧
    (∃ (s : State), s.sys.hubOn = true) :=
  ⟨⟨hub, by decide +kernel, by decide +kernel, by decide +kernel, by decide +kernel, by decide +kernel⟩,
   ⟨wr hub [(oCfg + 0x24, 0xFF000000)], by decide +kernel, by decide +kernel, by decide +kernel, by decide +kernel⟩,
   ⟨mgms hub { runSvn := 9 }, by decide +kernel, by decide +kernel, by decide +kernel, by decide +kernel⟩,
   ⟨0, mgms hub { runSlot := 1 }, by decide +kernel, by decide +kernel, by decide +kernel, by decide +kernel⟩,
   ⟨0x90000002, [1, 2], mgms hub { pmb := some 0x90000002 }, by decide +kernel, by decide +kernel, by decide +kernel, by decide +kernel, by decide +kernel⟩,
   ⟨0x90000002, mgms hub { pmb := some 0x90000002 }, by decide +kernel, by decide +kernel⟩,
   ⟨hub, by decide +kernel⟩⟩

theorem met_DebugAccessesComplete :
    (∃ (s : State), s.bit 0x390 3 = true ∧ s.sys.hubOn = true) ∧
    (∃ (s : State), State.regsWf s = true ∧ s.bit 0x390 3 = true ∧ s.sys.hubOn = true ∧ s.fuses.dbgLock = false) ∧
    (∃ (s : State), State.regsWf s = true ∧ s.bit 0x390 3 = true) ∧
    (∃ (s : State), State.regsWf s = true ∧ s.sys.hubOn = true) ∧
    (∃ (ch : Fin 2) (v : Word) (s : State), Stated.AccessRuns s ch v 0) ∧
    (∃ (ch : Fin 2) (v : Word) (s : State), Stated.AccessRuns s ch v 1) ∧
    (∃ (ch : Fin 2) (v : Word) (e : Eng) (s : State), Stated.AccessRuns s ch v 2 ∧ Stated.accAddr s ch % 2048 = e.val ∧ Stated.accAddr s ch / 2 ^ 23 % 16 = 0 ∧ s.halted e.val = true) ∧
    (∃ (ch : Fin 2) (v : Word) (e : Eng) (s : State), Inv s ∧ Stated.AccessRuns s ch v 3 ∧ Stated.accAddr s ch % 2048 = e.val ∧ Stated.accAddr s ch / 2 ^ 23 % 16 = 0 ∧ s.halted e.val = true ∧ bankWf (bank s e) = true) ∧
    (∃ (ch : Fin 2) (v : Word) (s : State), Stated.AccessRuns s ch v 4 ∧ s.bit oMcfg 31 = true ∧ Stated.accAddr s ch ≤ 33) ∧
    (∃ (ch : Fin 2) (v : Word) (s : State), Stated.AccessRuns s ch v 5 ∧ s.bit oMcfg 31 = true ∧ Stated.accAddr s ch ≤ 33) ∧
    (∃ (ch : Fin 2) (s : State), State.regsWf s = true ∧ (s.dbgChan ch.val).busy = true) :=
  ⟨⟨wr hub [(0x390, 8)], by decide +kernel, by decide +kernel⟩,
   ⟨wr hub [(0x390, 8)], by decide +kernel, by decide +kernel, by decide +kernel, by decide +kernel⟩,
   ⟨wr hub [(0x390, 8)], by decide +kernel, by decide +kernel⟩,
   ⟨hub, by decide +kernel, by decide +kernel⟩,
   ⟨0, 0x80000000, hub, by decide +kernel⟩,
   ⟨0, 0x81000000, hub, by decide +kernel⟩,
   ⟨0, 0x82000000, 0, wr hub [(oPwrEng 0, pOn), (oEcfg 0, 0x90000000)], by decide +kernel, by decide +kernel, by decide +kernel, by decide +kernel⟩,
   ⟨0, 0x83000000, 0, wr hub [(oPwrEng 0, pOn), (oEcfg 0, 0x90000000)], by unfold Stated.Inv; decide +kernel, by decide +kernel, by decide +kernel, by decide +kernel, by decide +kernel, by decide +kernel⟩,
   ⟨0, 0x84000000, wr hub [(oMcfg, 0x90000000)], by decide +kernel, by decide +kernel, by decide +kernel⟩,
   ⟨0, 0x85000000, wr hub [(oMcfg, 0x90000000)], by decide +kernel, by decide +kernel, by decide +kernel⟩,
   ⟨0, dbgs hub { ch0 := { busy := true } }, by decide +kernel, by decide +kernel⟩⟩

theorem met_RunControlCompletes :
    (∃ (e : Eng) (s : State), State.regsWf s = true ∧ s.sys.hubOn = true ∧ s.isOn (oPwrEng e.val) = true ∧ s.halted e.val = false ∧ (eng s e).haltDue = 0) ∧
    (∃ (s : State), State.regsWf s = true ∧ s.sys.hubOn = true ∧ s.bit oMcfg 31 = false ∧ s.dbg.mHaltDue = 0) ∧
    (∃ (e : Eng) (s : State), Inv s ∧ (eng s e).haltDue ≠ 0 ∧ (eng s e).haltDue < 8 ∧ s.halted e.val = false ∧ s.isOn (oPwrEng e.val) = true ∧ (s.heldTrap e.val).isNone = true ∧ (eng s e).swapDue = false) ∧
    (∃ (s : State), State.regsWf s = true ∧ s.dbg.mHaltDue ≠ 0 ∧ s.dbg.mHaltDue < 8 ∧ s.bit oMcfg 31 = false) ∧
    (∃ (s : State), State.regsWf s = true ∧ s.bit oMcfg 27 = true ∧ s.bit oMcfg 31 = false ∧ s.fld oBoot 31 30 ≠ 0) ∧
    (∃ (e : Eng) (s : State), Inv s ∧ s.sys.hubOn = true ∧ s.halted e.val = true) ∧
    (∃ (s : State), State.regsWf s = true ∧ s.sys.hubOn = true ∧ s.bit oMcfg 31 = true) ∧
    (∃ (e : Eng) (s : State), State.regsWf s = true ∧ s.sys.hubOn = true ∧ s.halted e.val = true ∧ (bank s e).busy = true) ∧
    (∃ (s : State), State.regsWf s = true ∧ s.sys.hubOn = true ∧ s.bit oMcfg 31 = true) ∧
    (∃ (s : State), State.regsWf s = true ∧ s.sys.hubOn = true) ∧
    (∃ (c : Tile) (i : Fin 8) (s : State), State.regsWf s = true ∧ s.isOn (oPwrTile c.val) = true ∧ s.bit (oDbg + 0x80 + 4 * c.val) i.val = true) :=
  ⟨⟨0, wr hub [(oPwrEng 0, pOn)], by decide +kernel, by decide +kernel, by decide +kernel, by decide +kernel, by decide +kernel⟩,
   ⟨hub, by decide +kernel, by decide +kernel, by decide +kernel, by decide +kernel⟩,
   ⟨0, (wr hub [(oPwrEng 0, pOn)]).setEng 0 { haltDue := 3 }, by unfold Stated.Inv; decide +kernel, by decide +kernel, by decide +kernel, by decide +kernel, by decide +kernel, by decide +kernel, by decide +kernel⟩,
   ⟨dbgs hub { mHaltDue := 3 }, by decide +kernel, by decide +kernel, by decide +kernel, by decide +kernel⟩,
   ⟨wr hub [(oMcfg, 0x08000000), (oBoot, 0x40000000)], by decide +kernel, by decide +kernel, by decide +kernel, by decide +kernel⟩,
   ⟨0, wr hub [(oPwrEng 0, pOn), (oEcfg 0, 0x90000000)], by unfold Stated.Inv; decide +kernel, by decide +kernel, by decide +kernel⟩,
   ⟨wr hub [(oMcfg, 0x90000000)], by decide +kernel, by decide +kernel, by decide +kernel⟩,
   ⟨0, (wr hub [(oPwrEng 0, pOn), (oEcfg 0, 0x90000000)]).setEng 0 { b0 := { busy := true } }, by decide +kernel, by decide +kernel, by decide +kernel, by decide +kernel⟩,
   ⟨wr hub [(oMcfg, 0x90000000)], by decide +kernel, by decide +kernel, by decide +kernel⟩,
   ⟨hub, by decide +kernel, by decide +kernel⟩,
   ⟨0, 0, wr hub [(oPwrTile 0, pOn), (oDbg + 0x80, 1)], by decide +kernel, by decide +kernel, by decide +kernel⟩⟩

theorem met_GroupResumeCompletes : ∃ (s : State), Inv s ∧ s.sys.hubOn = true :=
  ⟨wr hub [(oPwrEng 0, pOn), (oEcfg 0, 0x90010000), (oEcfg 1, 0x90020000), (oTrigSt, 3)], by unfold Stated.Inv; decide +kernel, by decide +kernel⟩

theorem met_SysIdReadsTheFusedGrade : ∃ (req : Req) (s : State), State.regsWf s = true ∧ s.sys.hubOn = true ∧ reservedDie req.toNat = false :=
  ⟨BitVec.ofNat 16 reqMgmt, hub, by decide +kernel, by decide +kernel, by decide +kernel⟩

set_option maxRecDepth 10000 in
theorem met_FarAdvances :
    (∃ (a : Nat), faValid a = true) ∧
    (∃ (h : List Byte) (a : Nat) (l : List Word) (s : State), Stated.Taking s h ∧ s.cfg.words = 0x40000001 :: l ∧ s.cfg.far = some a ∧ s.addrCode h a = none) ∧
    (∃ (h : List Byte) (a : Nat) (c : Word) (l : List Word) (s : State), Stated.Taking s h ∧ s.cfg.words = 0x30000001 :: 0 :: 0 :: 0 :: c :: l ∧ s.cfg.far = some a ∧ s.addrCode h a = none ∧ c.toNat = frameCrc 0) ∧
    (∃ (h : List Byte) (a : Nat) (p : List Word) (l : List Word) (s : State), Stated.Taking s h ∧ s.cfg.words = 0x20000001 :: (p ++ l) ∧ p.length = 97 ∧ s.cfg.far = some a ∧ s.addrCode h a = none ∧ (p.getD 96 0).toNat = frameCrc (frameOf p).data) ∧
    (∃ (h : List Byte) (a : Nat) (l : List Word) (s : State), State.regsWf s = true ∧ Stated.Taking s h ∧ hdrPartial h = false ∧ s.cfg.words = 0x40000001 :: l ∧ s.cfg.far = some a ∧ faValid a = false) :=
  ⟨⟨2^30+5, by decide +kernel⟩,
   ⟨[], 31, [], cfgs (wr hub [(oCfgStat, 0x20000000), (oPwrTile 0, pOn)]) { hdr := some [], words := [0x40000001], far := some 31 }, by decide +kernel, by decide +kernel, by decide +kernel, by decide +kernel⟩,
   ⟨[], 31, BitVec.ofNat 32 (frameCrc 0), [], cfgs (wr hub [(oCfgStat, 0x20000000), (oPwrTile 0, pOn)]) { hdr := some [], words := [0x30000001, 0, 0, 0, BitVec.ofNat 32 (frameCrc 0)], far := some 31 }, by decide +kernel, by decide +kernel, by decide +kernel, by decide +kernel, by decide +kernel⟩,
   ⟨[], 31, (List.replicate 96 0 ++ [BitVec.ofNat 32 (frameCrc 0)]), [], cfgs (wr hub [(oCfgStat, 0x20000000), (oPwrTile 0, pOn)]) { hdr := some [], words := 0x20000001 :: ((List.replicate 96 0 ++ [BitVec.ofNat 32 (frameCrc 0)]) ++ []), far := some 31 }, by decide +kernel, by decide +kernel, by decide +kernel, by decide +kernel, by decide +kernel, by decide +kernel⟩,
   ⟨[], 32, [], cfgs (wr hub [(oCfgStat, 0x20000000), (oPwrTile 0, pOn)]) { hdr := some [], words := [0x40000001], far := some 32 }, by decide +kernel, by decide +kernel, by decide +kernel, by decide +kernel, by decide +kernel, by decide +kernel⟩⟩

theorem met_FlitsRoundTrip :
    (∃ (p : Pkt), p.wf = true ∧ p.body.length % 32 = 0 ∧ p.typ.toNat ∉ [2, 3, 5, 6]) ∧
    (∃ (r : Rsp), (r.typ = 2 ∨ r.typ = 3) ∧ ((if r.len = 0 then r.data.length = (if r.typ = 3 ∨ r.status = 1 then 0 else 16) else r.data.length % 32 = 0))) :=
  ⟨⟨pkt0, by decide +kernel, by decide +kernel, by decide +kernel⟩,
   ⟨⟨2, 0, false, 0, 0, 0, false, List.replicate 16 0⟩, by decide +kernel, by decide +kernel⟩⟩

/-! The statements over a shape of a slot say the same of each opcode: the opcodes, and a bundle that issues. `off` is a predicate of no lane. -/

/-- The negated P0: no lane, and no slot, is on (R114). -/
abbrev off : Pred := ⟨true, 0⟩

/-- A state in which engine 0 has a bundle of one control instruction before it, or of one vector or load-store instruction. -/
def CtlReady (k rd imm : Nat) : Prop :=
  Issues (runs (ctlWord k rd 0 imm)) 0 (ctlBundle noPred k ⟨BitVec.ofNat 5 rd, 0, BitVec.ofNat 18 imm⟩)
def VecReady (k d fmt imm : Nat) : Prop :=
  Issues (runs (vecWord k d fmt imm)) 0 (vecBundle noPred k ⟨BitVec.ofNat 5 d, 0, 0, 0, BitVec.ofNat 4 fmt, BitVec.ofNat 8 imm⟩) ∧
    bitsOf (bank (runs (vecWord k d fmt imm)) 0).flags 11 8 = 0
def LsOffReady (k o pd : Nat) : Prop :=
  Issues (runs (lsWord (k + 128) o pd)) 0 (lsBundle off k ⟨0, 0, 0, BitVec.ofNat 14 o, BitVec.ofNat 3 pd, 0⟩) ∧
    predOn off (bank (runs (lsWord (k + 128) o pd)) 0) = false

theorem met_ControlArithmeticCompletes :
    (∀ k ∈ [0x01, 0x02, 0x03, 0x04, 0x05, 0x06, 0x07, 0x08, 0x09, 0x0A, 0x0B, 0x11, 0x13, 0x14, 0x15, 0x16, 0x17, 0x18, 0x1C, 0x35],
      CtlReady k 0 0) ∧
    (∀ k ∈ [0x20, 0x21, 0x22, 0x23, 0x24, 0x25, 0x28, 0x29, 0x30, 0x31, 0x32, 0x33, 0x34], CtlReady k 1 0) := by
  unfold CtlReady; decide +kernel

theorem met_ControlTransfersComplete :
    (∀ k ∈ [0x00, 0x40, 0x41, 0x42, 0x43, 0x4D], Issues (runs (ctlWord k 0 0 0)) 0 (ctlBundle noPred k ⟨0, 0, 0⟩)) ∧
    Issues ((runs (ctlWord 0x44 0 0 2)).setEng 0 (((runs (ctlWord 0x44 0 0 2)).engSt 0).writeWord true 2 0)) 0 (ctlBundle noPred 0x44 ⟨0, 0, 2⟩) ∧
    (∃ b : EBank, b.loops = []) ∧ (∃ k last : Nat, 0 < k ∧ last = 5) ∧ (∃ (b : EBank) (f n : Nat), 1 < n ∧ b.loops = [⟨f, b.pc, n⟩]) ∧
    (∃ (b : EBank) (f : Nat), b.loops = [⟨f, b.pc, 1⟩]) :=
  ⟨by decide +kernel, by decide +kernel, ⟨{}, rfl⟩, ⟨1, 5, by decide, rfl⟩, ⟨{ pc := 7, loops := [⟨2, 7, 3⟩] }, 2, 3, by decide, rfl⟩,
   ⟨{ pc := 7, loops := [⟨2, 7, 1⟩] }, 2, rfl⟩⟩

theorem met_VectorInstructionsComplete :
    (∀ k ∈ [0x00, 0x01, 0x02, 0x03, 0x04, 0x05, 0x06, 0x07, 0x08, 0x09, 0x0A, 0x0B, 0x0C, 0x0D, 0x0E, 0x12, 0x13, 0x18, 0x19, 0x1A, 0x1B, 0x1C,
        0x1D, 0x1E, 0x1F, 0x20, 0x22, 0x28, 0x29, 0x2A, 0x2B, 0x2C], VecReady k 0 0 0) ∧
    (∀ k ∈ [0x10, 0x11], VecReady k 1 0 0) ∧ VecReady 0x30 1 0 1 ∧ (∀ k ∈ [0x21, 0x31, 0x32, 0x33, 0x34, 0x35], VecReady k 0 4 0) := by
  unfold VecReady; decide +kernel

theorem met_VectorResults_forms : ∀ k ∈ [0x05, 0x07, 0x08, 0x09, 0x0A], VecReady k 3 0 0 := by unfold VecReady; decide +kernel

theorem met_control_off :
    ∀ k ∈ [0x48, 0x49, 0x4A, 0x4C, 0x4E, 0x50],
      Issues (runs (ctlWord (k + 2048) 0 0 0)) 0 (ctlBundle off k ⟨0, 0, 0⟩) ∧ predOn off (bank (runs (ctlWord (k + 2048) 0 0 0)) 0) = false := by
  decide +kernel

theorem met_load_store_off :
    (∀ k ∈ [0x1, 0x2, 0x3, 0x4, 0x5, 0x7, 0x8, 0xB], LsOffReady k 0 0) ∧ LsOffReady 0x6 0 1 ∧ (∀ k ∈ [0x9, 0xA], LsOffReady k 1 0) := by
  unfold LsOffReady; decide +kernel

theorem met_FlashBegins :
    ∀ k ∈ [0, 1, 2, 3, 4, 5], State.regsWf hub = true ∧ hub.sys.hubOn = true ∧ hub.bit oFlStat 31 = false ∧ hub.nvInh = false ∧
      hub.fld (oMgm + 0x84) 25 0 = 0 ∧ hub.flashProtected k 0 256 = false ∧
      bitsOf (BitVec.ofNat 32 (0x80000100 + k * 0x10000000)) 30 28 = k := by decide +kernel

theorem met_PmbBegins :
    ∀ k ∈ [0, 1, 2, 3], hub.bit oPmbStat 31 = false ∧ bitsOf (BitVec.ofNat 32 (0x80000004 + k * 0x10000000)) 29 28 = k ∧
      bitsOf (BitVec.ofNat 32 (0x80000004 + k * 0x10000000)) 5 0 ≤ 32 := by decide +kernel

end Sys2Proof.Tests
end

section
/-! SUPPORT. Accesses to control registers, one word at a time (R2, R6, R7, R20, R21, R418): which row of a table an access meets, what a write and a
read of it do, and what the held and kept halves of the 64-bit registers are afterwards. -/

namespace Sys2Proof.Machine

/-! ## Bits of a word -/

/-- A replaced field leaves the bits above and below it, with nothing cut off. -/
theorem toNat_withBits {w : Nat} (x : BitVec w) {hi lo : Nat} (n : Nat) (hlo : lo ≤ hi) (hhi : hi < w) :
    (withBits x hi lo n).toNat = x.toNat / 2 ^ (hi + 1) * 2 ^ (hi + 1) + n % 2 ^ (hi + 1 - lo) * 2 ^ lo + x.toNat % 2 ^ lo := by
  have hlow : x.toNat % 2 ^ lo < 2 ^ lo := Nat.mod_lt _ (Nat.two_pow_pos _)
  have hmid : n % 2 ^ (hi + 1 - lo) < 2 ^ (hi + 1 - lo) := Nat.mod_lt _ (Nat.two_pow_pos _)
  have hsplit : 2 ^ (hi + 1 - lo) * 2 ^ lo = 2 ^ (hi + 1) := by rw [← Nat.pow_add]; congr 1; omega
  have hfield : n % 2 ^ (hi + 1 - lo) * 2 ^ lo + x.toNat % 2 ^ lo < 2 ^ (hi + 1) := by
    have := Nat.mul_le_mul_right (2 ^ lo) (Nat.succ_le_of_lt hmid)
    rw [Nat.succ_mul, hsplit] at this
    omega
  have htop : x.toNat / 2 ^ (hi + 1) < 2 ^ (w - (hi + 1)) := by
    rw [Nat.div_lt_iff_lt_mul (Nat.two_pow_pos _), ← Nat.pow_add, show w - (hi + 1) + (hi + 1) = w by omega]
    exact x.isLt
  have hw : 2 ^ (w - (hi + 1)) * 2 ^ (hi + 1) = 2 ^ w := by rw [← Nat.pow_add]; congr 1; omega
  have := Nat.mul_le_mul_right (2 ^ (hi + 1)) (Nat.succ_le_of_lt htop)
  rw [Nat.succ_mul, hw] at this
  rw [withBits, BitVec.toNat_ofNat, Nat.mod_eq_of_lt (by omega)]

/-- A register that is one RW field takes the whole value (R7). -/
theorem withBits_word (v old : Word) : withBits old 31 0 (bitsOf v 31 0) = v := by
  apply BitVec.eq_of_toNat_eq
  have := v.isLt
  have := old.isLt
  rw [toNat_withBits _ _ (by omega) (by omega)]
  simp only [bitsOf]
  omega

/-! ## The row an access meets -/

theorem findReg_append (l m : List RegDef) (o : Nat) : findReg (l ++ m) o = (findReg l o).or (findReg m o) := by
  induction l with
  | nil => rfl
  | cons r l ih =>
    simp only [List.cons_append, findReg]
    split <;> simp [ih]

/-- A block offset and its base give the control-region offset back. -/
theorem base_add_off_of_locate {o : Nat} {l : RegLoc} (h : locate o = some l) : l.base + l.off = o := by
  obtain ⟨⟨b, k, n, st⟩, -, hx⟩ := List.exists_of_findSome?_eq_some h
  dsimp only at hx
  split at hx
  · cases hx
    have := Nat.div_add_mod (o - b) st
    rw [Nat.mul_comm] at this
    dsimp only
    omega
  · cases hx

theorem locate_of_regAt {o i : Nat} {l : RegLoc} {r : RegDef} (h : regAt o = some (l, r, i)) : locate o = some l := by
  unfold regAt at h
  split at h
  · cases h
  · split at h
    · cases h
    · cases h
      assumption

theorem regAt_of_locate {o : Nat} {l : RegLoc} {r : RegDef} (hl : locate o = some l) (h : (regAt o).map (·.2.1) = some r) :
    ∃ i, regAt o = some (l, r, i) := by
  obtain ⟨⟨k, q, i⟩, hk, rfl⟩ := Option.map_eq_some_iff.mp h
  have := locate_of_regAt hk
  exact ⟨i, by rw [hk]; simp_all⟩

/-- R13: the SYS block is the first 1 MiB of the control region. -/
theorem locate_sys {o : Nat} (h : o < 0x100000) : locate o = some ⟨.sys, 0, 0, o⟩ := by
  simp [locate, blkSpans, h, Nat.mod_eq_of_lt]

theorem regAt_sys {o i : Nat} {r : RegDef} (h : o < 0x100000) (hr : findReg Blk.sys.regs o = some (r, i)) :
    regAt o = some (⟨.sys, 0, 0, o⟩, r, i) := by
  simp [regAt, locate_sys h, hr]

/-- The rows of SYS_STRBASE, its low and its high half. -/
def strBaseLow : RegDef := lowHalf (regN 0x20008 0x40 256 0 [fRw 31 0])
def strBaseHigh : RegDef := regN 0x2000C 0x40 256 0 [fRw 31 0]

theorem findReg_sysPower_none {o : Nat} (h : 0x10000 ≤ o) : findReg regsSysPower o = none := by
  simp only [regsSysPower, regWrstat, reg1, regN, findReg]
  repeat rw [if_neg (by omega)]

/-- A register that the rows of the network give lies in the SYS block. -/
theorem regAt_sysNet {o i : Nat} {r : RegDef} (hlo : 0x10000 ≤ o) (hhi : o < 0x100000) (h : findReg regsSysNet o = some (r, i)) :
    regAt o = some (⟨.sys, 0, 0, o⟩, r, i) :=
  regAt_sys hhi (by simp only [Blk.regs, findReg_append, findReg_sysPower_none hlo, h, Option.none_or, Option.some_or])

theorem regAt_strBase (c : Strm) :
    regAt (oStr c.val + 8) = some (⟨.sys, 0, 0, oStr c.val + 8⟩, strBaseLow, c.val) ∧
      regAt (oStr c.val + 12) = some (⟨.sys, 0, 0, oStr c.val + 12⟩, strBaseHigh, c.val) := by
  have hc := c.isLt
  have ho : oStr c.val = 0x20000 + 0x40 * c.val := rfl
  refine ⟨regAt_sysNet (by omega) (by omega) ?_, regAt_sysNet (by omega) (by omega) ?_⟩
  all_goals
    simp only [regsSysNet, reg1, regN, lowHalf, findReg]
    repeat rw [if_neg (by omega)]
    rw [if_pos (by omega)]
    exact congrArg (fun j => some (_, j)) (by omega)

theorem isHighHalf_strBase (c : Strm) : isHighHalf (oStr c.val + 12) = true := by
  simp [isHighHalf, isLowHalf, (regAt_strBase c).1, strBaseLow, lowHalf]

/-- The rows of SYS_ID (R2) and of SYS_PINFILT (R418). -/
def sysIdRow : RegDef := { off := 0x000, rst := rst 0x102430B0, flds := [fRo 31 16, fRo 15 12, fRo 7 4, fRo 3 0] }
def pinFilterRow : RegDef :=
  { off := 0x040, count := 32, rst := fun _ j => pinFilterReset j, flds := [fRw 31 24, fRw 23 16, fRw 15 8, fRw 7 0] }

theorem regAt_sysId : regAt 0 = some (⟨.sys, 0, 0, 0⟩, sysIdRow, 0) := rfl

theorem regAt_pinFilter (i : Fin 3) : regAt (0x40 + 4 * i.val) = some (⟨.sys, 0, 0, 0x40 + 4 * i.val⟩, pinFilterRow, i.val) := by
  match i with
  | 0 => rfl
  | 1 => rfl
  | 2 => rfl

theorem isHighHalf_pinFilter (i : Fin 3) : isHighHalf (0x40 + 4 * i.val) = false := by
  match i with
  | 0 => rfl
  | 1 => rfl
  | 2 => rfl

/-- A write of SYS_ID changes no bit: every field is read-only. -/
theorem sysIdRow_merge (v old : Word) : sysIdRow.merge v old = old := rfl

theorem sysIdRow_check (v : Word) : sysIdRow.check v = none := rfl

/-- The four fields of SYS_PINFILT cover the word, and all are RW. -/
theorem pinFilterRow_merge (v old : Word) : pinFilterRow.merge v old = v := by
  apply BitVec.eq_of_toNat_eq
  have := v.isLt
  have := old.isLt
  simp only [pinFilterRow, RegDef.merge, List.foldl, Fld.write, fRw]
  repeat rw [toNat_withBits _ _ (by omega) (by omega)]
  simp only [bitsOf]
  omega

theorem pinFilterRow_check (v : Word) : pinFilterRow.check v = none := rfl

/-! ## What an answered write does (R20, R21) -/

variable {s : State} {req : Req} {o : Nat} {l : RegLoc} {r : RegDef} {v : Word}

/-- A register of the SYS block that no post or enqueue address meets answers while the hub is ON. -/
theorem answers_of_sys {i : Nat} (hub : s.sys.hubOn = true) (die : reservedDie req.toNat = false)
    (h : regAt o = some (⟨.sys, 0, 0, o⟩, r, i)) (hpost : o < 0x30000) : Stated.Answers s req o ⟨.sys, 0, 0, o⟩ r := by
  have hbad : s.badPost req.toNat ⟨.sys, 0, 0, o⟩ = none := by
    simp [State.badPost, Nat.not_le.mpr hpost]
  exact ⟨hub, die, locate_of_regAt h, rfl, rfl, hbad, by rw [h]; rfl⟩

/-- A low half is held for its writer. -/
theorem State.cmdWrite_low (h : Stated.Answers s req o l r) (hp : r.pair = true) (hw : r.writable = true) :
    s.cmdWrite req o v = s.holdLow req.toNat l v := by
  obtain ⟨hub, die, hl, hoff, hmay, hbad, hrow⟩ := h
  obtain ⟨i, hr⟩ := regAt_of_locate hl hrow
  simp [State.cmdWrite, State.writeReg, hub, die, hl, hoff, hmay, hbad, hr, hp, hw]

/-- R21: a high half is committed with its low half, or rejected with a code. -/
theorem State.cmdWrite_high (h : Stated.Answers s req o l r) (hp : r.pair = false) (hh : isHighHalf o = true) (hw : r.writable = true) :
    (∀ t, s.writeHigh req.toNat l r v = .ok t → s.cmdWrite req o v = t) ∧
    (∀ c, s.writeHigh req.toNat l r v = .rej c → s.cmdWrite req o v = s.reject l.base l.off c) := by
  obtain ⟨hub, die, hl, hoff, hmay, hbad, hrow⟩ := h
  obtain ⟨i, hr⟩ := regAt_of_locate hl hrow
  constructor <;> intro x hx <;>
    simp [State.cmdWrite, State.writeReg, hub, die, hl, hoff, hmay, hbad, hr, hp, hh, hw, hx]

/-- A register of one word with its fields in range becomes what its own rule makes of it. -/
theorem State.cmdWrite_word (h : Stated.Writable s req o l r) (hc : r.check v = none) :
    (∀ t, s.setRegister req.toNat 0 l v = .ok t → s.cmdWrite req o v = t) ∧
    (∀ c, s.setRegister req.toNat 0 l v = .rej c → s.cmdWrite req o v = s.reject l.base l.off c) ∧
    (∀ t, s.setRegister req.toNat 0 l v = .err t → s.cmdWrite req o v = t.emit (.regErr req.toNat o)) := by
  obtain ⟨⟨hub, die, hl, hoff, hmay, hbad, hrow⟩, hp, hh⟩ := h
  obtain ⟨i, hr⟩ := regAt_of_locate hl hrow
  refine ⟨?_, ?_, ?_⟩ <;> intro x hx <;>
    simp [State.cmdWrite, State.writeReg, hub, die, hl, hoff, hmay, hbad, hr, hp, hh, RegDef.gate, hc, hx, WRes.settle]

/-- A register without a rule of its own takes its writable bits from the value, and nothing else changes (R7). -/
theorem State.plainWrite_of_answers (h : Stated.Answers s req o l r) : s.plainWrite o v = s.setReg o (r.merge v (s.reg o)) := by
  obtain ⟨-, -, hl, -, -, -, hrow⟩ := h
  obtain ⟨i, hr⟩ := regAt_of_locate hl hrow
  simp [State.plainWrite, hr]

/-! ## What an answered read does (R6) -/

/-- R8, R6: a block whose registers have no read effect of their own shows the live word, but for the halves of pairs and the fields that a read
clears. -/
theorem State.readEffect_plain (peek : Bool) (hm : l.blk ≠ .mbx) (hi : l.blk = .ice → l.off ≠ 0xC)
    (ht : l.blk = .tim → l.off < 0x10 ∨ 0x1C < l.off)
    (hr : l.blk = .rtc → l.off < 0x10 ∨ 0x18 < l.off) (hs : l.blk = .ser → l.off ≠ 0x120) :
    s.readEffect req.toNat peek l r = State.readEffect.plain s req.toNat peek l r (l.base + l.off) (s.showReg req.toNat l) := by
  unfold State.readEffect
  cases hb : l.blk <;> simp_all

/-- Reads of a register that answers, in a block of no access check. -/
theorem State.readReg_of_row {i : Nat} {peek : Bool} (hr : regAt o = some (l, r, i)) (hoff : s.regOff l = false) (hm : l.blk ≠ .mbx) :
    s.readReg req.toNat peek o = ((s.readEffect req.toNat peek l r).1, (s.readEffect req.toNat peek l r).2, false) := by
  simp [State.readReg, locate_of_regAt hr, hr, hoff, hm]

theorem State.cmdRead_of_readable (h : Stated.Readable s req o l r) :
    s.cmdRead req o =
      (State.readEffect.plain s req.toNat false l r o (s.showReg req.toNat l)).2.emit
        (.regRead req.toNat o (State.readEffect.plain s req.toNat false l r o (s.showReg req.toNat l)).1) := by
  obtain ⟨hub, die, hpeek, hl, hoff, hrow, hm, hi, ht, hr, hs⟩ := h
  obtain ⟨i, hat⟩ := regAt_of_locate hl hrow
  have hno : (decide (req.toNat = reqDbg) && !s.debugReads) = false := by
    by_cases hq : req.toNat = reqDbg <;> simp [hq, hpeek]
  simp [State.cmdRead, hub, die, hno, State.readReg_of_row hat hoff hm, State.readEffect_plain false hm hi ht hr hs, base_add_off_of_locate hl]

/-- A register of the SYS block answers a read of any requester that does not peek. -/
theorem readable_of_sys {i : Nat} (hub : s.sys.hubOn = true) (die : reservedDie req.toNat = false) (hq : req.toNat = reqDbg → s.debugReads = true)
    (h : regAt o = some (⟨.sys, 0, 0, o⟩, r, i)) : Stated.Readable s req o ⟨.sys, 0, 0, o⟩ r :=
  ⟨hub, die, hq, locate_of_regAt h, rfl, by rw [h]; rfl, by simp, by simp, by simp, by simp, by simp⟩

/-! ## Held and kept halves (R6, R21) -/

/-- The pair state of a block that keeps or holds a half is listed, so it reads back as it was stored. -/
theorem State.pairsOf_setPairs {b : Nat} {p : Pairs} (h : p ≠ {}) : (s.setPairs b p).pairsOf b = p := by
  simp [State.setPairs, State.pairsOf, SMap.set, SMap.get, h, SMap.find_insert_self]

/-- Moving a requester's entries to the end keeps which entries are listed. -/
theorem mem_useLast {α : Type} {f : α → Nat} {q : Nat} {x : α} {l : List α} : x ∈ useLast f q l ↔ x ∈ l := by
  by_cases h : f x = q <;> simp [useLast, h]

/-- R6: the requester that read a low half finds the high half kept with it, and no other one of the same register. -/
theorem State.find_snap_takeSnap (q : Nat) (hi : Word) :
    ((s.takeSnap q l hi).pairsOf l.base).snaps.find? (fun x => x.req == q && x.off == l.off + 4) = some ⟨q, l.off + 4, hi⟩ := by
  have hnone : (useLast Snap.req q ((slotFor Snap.req q (s.pairsOf l.base).snaps).filter
      (fun x => !(x.req == q && x.off == l.off + 4)))).find? (fun x => x.req == q && x.off == l.off + 4) = none := by
    rw [List.find?_eq_none]
    intro x hx
    have := (List.mem_filter.mp (mem_useLast.mp hx)).2
    simpa [imp_iff_not_or] using this
  rw [State.takeSnap, State.pairsOf_setPairs (by simp), List.find?_append, hnone]
  simp

/-- R6: a read of a low half answers the live word, keeps the high half for the requester, and changes nothing else. -/
theorem State.cmdRead_low (h : Stated.Readable s req o l r) (hp : r.pair = true) :
    ∃ p, s.cmdRead req o = { s with pairs := p, out := s.out ++ [.regRead req.toNat o (s.showReg req.toNat l)] } ∧
      (SMap.get (fun _ => {}) p l.base).snaps.find? (fun x => x.req == req.toNat && x.off == l.off + 4) =
        some ⟨req.toNat, l.off + 4, s.showReg req.toNat { l with off := l.off + 4 }⟩ := by
  refine ⟨_, ?_, State.find_snap_takeSnap (s := s) req.toNat _⟩
  simp only [State.cmdRead_of_readable h, State.readEffect.plain, hp, if_true]
  rfl

/-- R6: a requester reads the half kept for it, or the live word. -/
theorem State.useSnap_fst (q : Nat) (live : Word) :
    (s.useSnap q l live).1 = ((s.pairsOf l.base).snaps.find? (fun x => x.req == q && x.off == l.off)).elim live Snap.val := by
  unfold State.useSnap
  dsimp only
  split <;> simp [*]

/-- A read of a high half changes nothing but which requester used its snapshots last. -/
theorem State.useSnap_frame (q : Nat) (live : Word) : ∃ p, (s.useSnap q l live).2 = { s with pairs := p } := by
  unfold State.useSnap
  dsimp only
  split
  · exact ⟨s.pairs, rfl⟩
  · exact ⟨_, rfl⟩

/-- R6: a read of a high half answers the half kept for the requester, or the live word, and changes nothing else. -/
theorem State.cmdRead_high (h : Stated.Readable s req o l r) (hp : r.pair = false) (hh : isHighHalf o = true) :
    ∃ p, s.cmdRead req o = { s with pairs := p, out := s.out ++ [.regRead req.toNat o
      (((s.pairsOf l.base).snaps.find? (fun x => x.req == req.toNat && x.off == l.off)).elim (s.showReg req.toNat l) Snap.val)] } := by
  obtain ⟨p, hframe⟩ := State.useSnap_frame (s := s) (l := l) req.toNat (s.showReg req.toNat l)
  refine ⟨p, ?_⟩
  simp [State.cmdRead_of_readable h, State.readEffect.plain, hp, hh, hframe, State.useSnap_fst, State.emit]

/-- R21: one low half is held for a requester in a block, the one it wrote last. -/
theorem State.held_holdLow (q : Nat) (lo : Word) :
    ((s.holdLow q l lo).pairsOf l.base).held.filter (fun x => x.req == q) = [⟨q, l.off, lo⟩] := by
  rw [State.holdLow, State.pairsOf_setPairs (by simp), List.filter_append, List.filter_filter]
  simp

/-- R21: the low half a requester has written is the one its write of the high half finds. -/
theorem State.find_held_holdLow (q : Nat) (lo : Word) :
    ((s.holdLow q l lo).pairsOf l.base).held.find? (fun x => x.req == q && x.off == l.off) = some ⟨q, l.off, lo⟩ := by
  have hnone : ((slotFor Snap.req q (s.pairsOf l.base).held).filter (fun x => x.req != q)).find?
      (fun x => x.req == q && x.off == l.off) = none := by
    rw [List.find?_eq_none]
    intro x hx
    have := (List.mem_filter.mp hx).2
    simp_all
  rw [State.holdLow, State.pairsOf_setPairs (by simp), List.find?_append, hnone]
  simp

/-- R21: without its low half a high half is rejected. -/
theorem State.writeHigh_unheld {q : Nat} (h : (s.pairsOf l.base).held.find? (fun x => x.req == q && x.off == l.off - 4) = none) :
    s.writeHigh q l r v = .rej 0x05 := by
  simp [State.writeHigh, h]

/-- The state whose requester holds no low half in the block any more. -/
def State.releaseHeld (s : State) (q b : Nat) : State :=
  s.setPairs b { s.pairsOf b with held := (s.pairsOf b).held.filter (fun y => !(y.req == q)) }

/-- R21: with its low half the pair commits, once both halves are in range. -/
theorem State.writeHigh_commit {q i : Nat} {x : Snap} {k : RegLoc} {rl : RegDef} {t : State}
    (hx : (s.pairsOf l.base).held.find? (fun x => x.req == q && x.off == l.off - 4) = some x)
    (hl : regAt (l.base + l.off - 4) = some (k, rl, i)) (hlo : rl.check x.val = none) (hhi : r.check v = none)
    (ht : (s.releaseHeld q l.base).commitPair l (l.off - 4) (rl.merge x.val (s.reg (l.base + l.off - 4)))
      (r.merge v (s.reg (l.base + l.off))) = .ok t) :
    s.writeHigh q l r v = .ok t := by
  simp only [State.releaseHeld] at ht
  simp [State.writeHigh, hx, hl, hlo, hhi, RegDef.gate, ht]

/-! ## The commands -/

section
variable {off : COff} {t : State}

theorem exec_registerWrite (ho : off.toNat = o) (h : s.cmdWrite req o v = t) : exec (.registerWrite req off v) s = .next t := by
  subst ho; exact congrArg _ h
theorem exec_pairLowRead (ho : off.toNat = o) (h : s.cmdRead req o = t) : exec (.pairLowRead req off) s = .next t := by
  subst ho; exact congrArg _ h
theorem exec_pairHighRead (ho : off.toNat = o) (h : s.cmdRead req o = t) : exec (.pairHighRead req off) s = .next t := by
  subst ho; exact congrArg _ h
theorem exec_pairLowWrite (ho : off.toNat = o) (h : s.cmdWrite req o v = t) : exec (.pairLowWrite req off v) s = .next t := by
  subst ho; exact congrArg _ h
theorem exec_pairHighWrite (ho : off.toNat = o) (h : s.cmdWrite req o v = t) : exec (.pairHighWrite req off v) s = .next t := by
  subst ho; exact congrArg _ h

end

/-- An offset of the control region is no more than its 25 bits. -/
theorem toNat_cOff {o : Nat} (h : o < 0x2000000) : (BitVec.ofNat 25 o : COff).toNat = o := by
  rw [BitVec.toNat_ofNat, Nat.mod_eq_of_lt h]

theorem toNat_strBase (c : Strm) :
    (BitVec.ofNat 25 (oStr c.val + 8) : COff).toNat = oStr c.val + 8 ∧ (BitVec.ofNat 25 (oStr c.val + 12) : COff).toNat = oStr c.val + 12 := by
  have hc := c.isLt
  have ho : oStr c.val = 0x20000 + 0x40 * c.val := rfl
  exact ⟨toNat_cOff (by omega), toNat_cOff (by omega)⟩

/-- A register word put in place of itself changes no register. -/
theorem State.reg_setReg_own (h : State.regsWf s = true) (o p : Nat) : (s.setReg o (s.reg o)).reg p = s.reg p := by
  by_cases hp : o = p
  · subst hp; exact State.reg_setReg_self h o _
  · exact State.reg_setReg_ne hp _

/-- R2: SYS_ID reads the grade that is fused, to a debugger that peeks as to any requester. -/
theorem State.cmdRead_sysId (hub : s.sys.hubOn = true) (die : reservedDie req.toNat = false) :
    s.cmdRead req 0 = s.emit (.regRead req.toNat 0 s.sysId) := by
  have heff (peek : Bool) : s.readEffect req.toNat peek ⟨.sys, 0, 0, 0⟩ sysIdRow = (s.sysId, s) := by cases peek <;> rfl
  have hread (peek : Bool) : s.readReg req.toNat peek 0 = (s.sysId, s, false) := by
    rw [State.readReg_of_row regAt_sysId rfl (by decide), heff]
  simp [State.cmdRead, hub, die, hread]

theorem writable_sysId (hub : s.sys.hubOn = true) (die : reservedDie req.toNat = false) :
    Stated.Writable s req 0 ⟨.sys, 0, 0, 0⟩ sysIdRow :=
  ⟨answers_of_sys hub die regAt_sysId (by omega), rfl, rfl⟩

/-- R2, R7: a write of SYS_ID leaves its word. -/
theorem State.cmdWrite_sysId (hub : s.sys.hubOn = true) (die : reservedDie req.toNat = false) : s.cmdWrite req 0 v = s.setReg 0 (s.reg 0) := by
  have hw : Stated.Writable s req 0 _ sysIdRow := writable_sysId hub die
  rw [(State.cmdWrite_word hw (sysIdRow_check v)).1 (s.plainWrite 0 v) rfl, State.plainWrite_of_answers hw.1, sysIdRow_merge]

/-- R2: the fields of SYS_ID: part number, grade, a reserved field, revision B and step 0. -/
theorem State.sysId_fields :
    bitsOf s.sysId 31 16 = 0x1024 ∧ bitsOf s.sysId 15 12 = (if s.fuses.grade3 then 3 else 2) ∧ bitsOf s.sysId 11 8 = 0 ∧
      bitsOf s.sysId 7 4 = 0xB ∧ bitsOf s.sysId 3 0 = 0 ∧ (s.fuses.grade3 = true → s.sysId = 0x102430B0) := by
  unfold State.sysId
  cases s.fuses.grade3 <;> decide

/-! ## Pin filters (R418) and SYS_STRBASE (R6, R21) -/

/-- R418: a write of a pin filter sets its word. -/
theorem State.cmdWrite_pinFilter (i : Fin 3) (hub : s.sys.hubOn = true) (die : reservedDie req.toNat = false) :
    s.cmdWrite req (0x40 + 4 * i.val) v = s.setReg (0x40 + 4 * i.val) v := by
  have hans : Stated.Answers s req _ _ pinFilterRow := answers_of_sys hub die (regAt_pinFilter i) (by omega)
  have hset : s.setRegister req.toNat 0 ⟨.sys, 0, 0, 0x40 + 4 * i.val⟩ v = .ok (s.plainWrite (0x40 + 4 * i.val) v) := by
    match i with
    | 0 => rfl
    | 1 => rfl
    | 2 => rfl
  rw [(State.cmdWrite_word ⟨hans, rfl, isHighHalf_pinFilter i⟩ (pinFilterRow_check v)).1 _ hset,
    State.plainWrite_of_answers hans, pinFilterRow_merge]

theorem strBase_merge (v old : Word) : strBaseLow.merge v old = v ∧ strBaseHigh.merge v old = v :=
  ⟨withBits_word v old, withBits_word v old⟩

/-- R6: SYS_STRBASE shows the words its registers hold. -/
theorem State.showReg_str {o : Nat} (hlo : 0x20000 ≤ o) (hhi : o < 0x30000) : s.showReg req.toNat ⟨.sys, 0, 0, o⟩ = s.reg o := by
  simp only [State.showReg, State.sysRegRead]
  repeat rw [if_neg (by omega)]

/-- R6: the read of a low half, and then of its high half, answers two words that the registers held together. -/
theorem State.cmdRead_strBase (c : Strm) (hub : s.sys.hubOn = true) (die : reservedDie req.toNat = false) (hq : req.toNat ≠ reqDbg) :
    ∃ t, s.cmdRead req (oStr c.val + 8) = t ∧
      t.out = s.out ++ [.regRead req.toNat (oStr c.val + 8) (s.reg (oStr c.val + 8))] ∧ t.regs = s.regs ∧
      ∃ u, t.cmdRead req (oStr c.val + 12) = u ∧
        u.out = t.out ++ [.regRead req.toNat (oStr c.val + 12) (s.reg (oStr c.val + 12))] ∧ u.regs = s.regs := by
  have hc := c.isLt
  have ho : oStr c.val = 0x20000 + 0x40 * c.val := rfl
  obtain ⟨p, hlow, hkept⟩ := State.cmdRead_low (readable_of_sys hub die (absurd · hq) (regAt_strBase c).1) rfl
  rw [State.showReg_str (by omega) (by omega)] at hlow
  rw [State.showReg_str (by dsimp only; omega) (by dsimp only; omega)] at hkept
  refine ⟨_, hlow, rfl, rfl, ?_⟩
  obtain ⟨p', hhigh⟩ := State.cmdRead_high (readable_of_sys
    (s := { s with pairs := p, out := s.out ++ [.regRead req.toNat (oStr c.val + 8) (s.reg (oStr c.val + 8))] })
    hub die (absurd · hq) (regAt_strBase c).2) rfl (isHighHalf_strBase c)
  refine ⟨_, hhigh, ?_, rfl⟩
  exact congrArg (fun x => _ ++ [Out.regRead req.toNat (oStr c.val + 12) (Option.elim x _ Snap.val)]) hkept

theorem State.commitPair_strBase (c : Strm) (lo hi : Word) (hen : s.strEn c.val = false) :
    s.commitPair ⟨.sys, 0, 0, oStr c.val + 12⟩ (oStr c.val + 8) lo hi = .ok ((s.setReg (oStr c.val + 8) lo).setReg (oStr c.val + 12) hi) := by
  have hc := c.isLt
  have ho : oStr c.val = 0x20000 + 0x40 * c.val := rfl
  simp only [State.commitPair]
  rw [if_neg (by omega), if_neg (by omega), State.strPairCommit, show (oStr c.val + 8 - 0x20000) / 0x40 = c.val by omega, hen]
  rfl

/-- R21: the high half of SYS_STRBASE of a channel that is off sets both words when the low half is held. -/
theorem State.writeHigh_strBase {c : Strm} {q : Nat} {lo hi : Word} (hen : s.strEn c.val = false)
    (hheld : (s.pairsOf 0).held.find? (fun x => x.req == q && x.off == oStr c.val + 8) = some ⟨q, oStr c.val + 8, lo⟩) :
    s.writeHigh q ⟨.sys, 0, 0, oStr c.val + 12⟩ strBaseHigh hi =
      .ok (((s.releaseHeld q 0).setReg (oStr c.val + 8) lo).setReg (oStr c.val + 12) hi) := by
  have hrow : regAt (0 + (oStr c.val + 12) - 4) = some (⟨.sys, 0, 0, oStr c.val + 8⟩, strBaseLow, c.val) := by
    rw [Nat.zero_add]; exact (regAt_strBase c).1
  refine State.writeHigh_commit (r := strBaseHigh) hheld hrow rfl rfl ?_
  rw [(strBase_merge _ _).1, (strBase_merge _ _).2]
  exact State.commitPair_strBase c lo hi hen

/-- R21: the write of a low half, and then of its high half, sets both words of the pair of a channel that is off. -/
theorem State.cmdWrite_strBase (c : Strm) (lo hi : Word) (hub : s.sys.hubOn = true) (die : reservedDie req.toNat = false)
    (hwf : State.regsWf s = true) (hen : s.strEn c.val = false) :
    ∃ t, s.cmdWrite req (oStr c.val + 8) lo = t ∧ t.regs = s.regs ∧
      ∃ u, t.cmdWrite req (oStr c.val + 12) hi = u ∧ u.reg (oStr c.val + 8) = lo ∧ u.reg (oStr c.val + 12) = hi := by
  have hc := c.isLt
  have ho : oStr c.val = 0x20000 + 0x40 * c.val := rfl
  refine ⟨_, State.cmdWrite_low (answers_of_sys hub die (regAt_strBase c).1 (by omega)) rfl rfl, rfl, ?_⟩
  have hcommit := State.writeHigh_strBase (s := s.holdLow req.toNat ⟨.sys, 0, 0, oStr c.val + 8⟩ lo) (hi := hi) hen
    (State.find_held_holdLow (l := ⟨.sys, 0, 0, oStr c.val + 8⟩) req.toNat lo)
  have hhigh := State.cmdWrite_high (s := s.holdLow req.toNat ⟨.sys, 0, 0, oStr c.val + 8⟩ lo) (v := hi)
    (answers_of_sys hub die (regAt_strBase c).2 (by omega)) rfl (isHighHalf_strBase c) rfl
  refine ⟨_, hhigh.1 _ hcommit, ?_, State.reg_setReg_self (State.wf_setReg hwf _ _) _ _⟩
  rw [State.reg_setReg_ne (by omega)]
  exact State.reg_setReg_self hwf _ _

end Sys2Proof.Machine

open Sys2Proof Sys2Proof.Machine

/-- Settles O58: SYS_ID shows the fuses alone, and every field of its row is read-only. -/
theorem sysIdReadsTheFusedGrade : Obligations.SysIdReadsTheFusedGrade := by
  intro req v s hwf hub die
  obtain ⟨hpart, hgrade, hrsv, hrev, hstep, hword⟩ := s.sysId_fields
  have hread := State.cmdRead_sysId (s := s) hub die
  have hagain := State.cmdRead_sysId (s := s.setReg 0 (s.reg 0)) hub die
  exact ⟨s.sysId, s.setReg 0 (s.reg 0), exec_pairLowRead rfl hread, hpart, hgrade, hrsv, hrev, hstep, hword,
    exec_registerWrite rfl (State.cmdWrite_sysId hub die), State.reg_setReg_own hwf 0, rfl, exec_pairLowRead rfl hagain⟩

/-- Settles O19: each access meets its row, a read or write of a half goes through the pair state of its block, and SYS_STRBASE shows both. -/
theorem registerAccessesComplete : Obligations.RegisterAccessesComplete := by
  refine ⟨?word, ?plain, ?pinFilter, ?lowRead, ?highRead, ?lowWrite, ?highWrite, ?strBaseRead, ?strBaseWrite⟩
  case word =>
    intro req off val s l r h hc
    obtain ⟨hok, hrej, herr⟩ := State.cmdWrite_word h hc
    exact ⟨fun t ht => exec_registerWrite rfl (hok t ht), fun c hr => exec_registerWrite rfl (hrej c hr),
      fun t ht => exec_registerWrite rfl (herr t ht)⟩
  case plain =>
    intro req off val s l r h hc hwf hset
    have hok := (State.cmdWrite_word h hc).1 _ hset
    rw [State.plainWrite_of_answers h.1] at hok
    exact ⟨_, exec_registerWrite rfl hok, State.reg_setReg_self hwf _ _, fun o ho => State.reg_setReg_ne ho.symm _, rfl⟩
  case pinFilter =>
    intro req i val s hub die hwf
    exact ⟨_, exec_registerWrite (toNat_cOff (by omega)) (State.cmdWrite_pinFilter i hub die),
      State.reg_setReg_self hwf _ val, fun o ho => State.reg_setReg_ne ho.symm _, rfl⟩
  case lowRead =>
    intro req off s l r h hp _
    obtain ⟨p, hread, hkept⟩ := State.cmdRead_low h hp
    exact ⟨_, exec_pairLowRead rfl hread, rfl, rfl, hkept⟩
  case highRead =>
    intro req off s l r h hp hh
    obtain ⟨p, hread⟩ := State.cmdRead_high h hp hh
    refine ⟨_, exec_pairHighRead rfl hread, rfl, ?_⟩
    cases (s.pairsOf l.base).snaps.find? (fun x => x.req == req.toNat && x.off == l.off) <;> rfl
  case lowWrite =>
    intro req off lo s l r h hp hw _
    exact ⟨_, exec_pairLowWrite rfl (State.cmdWrite_low h hp hw), rfl, State.held_holdLow _ _⟩
  case highWrite =>
    intro req off hi s l r h hp hh hw
    obtain ⟨hok, hrej⟩ := State.cmdWrite_high (v := hi) h hp hh hw
    exact ⟨fun hx => exec_pairHighWrite rfl (hrej _ (State.writeHigh_unheld hx)),
      fun x k rl i t hx hl hlo hhi ht => exec_pairHighWrite rfl (hok t (State.writeHigh_commit hx hl hlo hhi ht))⟩
  case strBaseRead =>
    intro req c s hub die hq
    obtain ⟨t, ht, hout, hregs, u, hu, huout, huregs⟩ := State.cmdRead_strBase c hub die hq
    obtain ⟨hlow, hhigh⟩ := toNat_strBase c
    exact ⟨t, exec_pairLowRead hlow ht, hout, hregs, u, exec_pairHighRead hhigh hu, huout, huregs⟩
  case strBaseWrite =>
    intro req c lo hi s hub die hwf hen _ _ _
    obtain ⟨t, ht, hregs, u, hu, hreads⟩ := State.cmdWrite_strBase c lo hi hub die hwf hen
    obtain ⟨hlow, hhigh⟩ := toNat_strBase c
    exact ⟨t, exec_pairLowWrite hlow ht, hregs, u, exec_pairHighWrite hhigh hu, hreads⟩
end

section
/-! SUPPORT. Fields of registers: a field read back after it was written, and beside a field that was written (R7); what a rejected write leaves
(R20). -/

namespace Sys2Proof.Machine

/-! ## Fields of a word -/

theorem testBit_bitsOf {w : Nat} (x : BitVec w) (hi lo i : Nat) :
    (bitsOf x hi lo).testBit i = (decide (i < hi + 1 - lo) && x.toNat.testBit (lo + i)) := by
  rw [bitsOf, Nat.testBit_mod_two_pow, Nat.testBit_div_two_pow, Nat.add_comm i lo]

/-- Inside the field the bits of the number stand, outside it those the word had. -/
theorem testBit_withBits {w : Nat} (x : BitVec w) {hi lo : Nat} (n i : Nat) (hlo : lo ≤ hi) (hhi : hi < w) :
    (withBits x hi lo n).toNat.testBit i = if lo ≤ i ∧ i ≤ hi then n.testBit (i - lo) else x.toNat.testBit i := by
  have hlow : x.toNat % 2 ^ lo < 2 ^ lo := Nat.mod_lt _ (Nat.two_pow_pos _)
  have hfield : 2 ^ lo * (n % 2 ^ (hi + 1 - lo)) + x.toNat % 2 ^ lo < 2 ^ (hi + 1) := by
    have := Nat.mul_le_mul_left (2 ^ lo) (Nat.succ_le_of_lt (Nat.mod_lt n (Nat.two_pow_pos (hi + 1 - lo))))
    rw [← Nat.pow_add, Nat.mul_succ, show lo + (hi + 1 - lo) = hi + 1 by omega] at this
    omega
  rw [toNat_withBits x n hlo hhi, Nat.add_assoc, Nat.mul_comm _ (2 ^ (hi + 1)), Nat.mul_comm _ (2 ^ lo),
    Nat.testBit_two_pow_mul_add _ hfield, Nat.testBit_two_pow_mul_add _ hlow]
  simp only [Nat.testBit_mod_two_pow, Nat.testBit_div_two_pow]
  by_cases htop : i < hi + 1
  · by_cases hbot : i < lo
    · simp [htop, hbot, Nat.not_le.mpr hbot]
    · simp [htop, hbot, Nat.le_of_lt_succ htop, Nat.le_of_not_lt hbot]
      omega
  · rw [if_neg htop, if_neg (by omega), Nat.sub_add_cancel (by omega)]

/-- A replaced field reads as the low bits of the number. -/
theorem bitsOf_withBits_same {w : Nat} (x : BitVec w) {hi lo : Nat} (n : Nat) (hlo : lo ≤ hi) (hhi : hi < w) :
    bitsOf (withBits x hi lo n) hi lo = n % 2 ^ (hi + 1 - lo) := by
  refine Nat.eq_of_testBit_eq fun i => ?_
  rw [testBit_bitsOf, testBit_withBits x n _ hlo hhi, Nat.testBit_mod_two_pow]
  by_cases hi' : i < hi + 1 - lo
  · rw [if_pos (by omega), Nat.add_sub_cancel_left]
  · simp [hi']

/-- A field that lies beside the replaced one keeps its value. -/
theorem bitsOf_withBits_beside {w : Nat} (x : BitVec w) {hi lo h l : Nat} (n : Nat) (hlo : lo ≤ hi) (hhi : hi < w) (hbeside : h < lo ∨ hi < l) :
    bitsOf (withBits x hi lo n) h l = bitsOf x h l := by
  refine Nat.eq_of_testBit_eq fun i => ?_
  rw [testBit_bitsOf, testBit_bitsOf, testBit_withBits x n _ hlo hhi]
  by_cases hi' : i < h + 1 - l
  · rw [if_neg (by omega)]
  · simp [hi']

/-! ## Fields of a register -/

variable {s : State}

theorem State.fld_setReg_self (hwf : State.regsWf s = true) (o : Nat) (v : Word) (h l : Nat) : (s.setReg o v).fld o h l = bitsOf v h l := by
  rw [State.fld, State.reg_setReg_self hwf]

theorem State.fld_setBit_beside (hwf : State.regsWf s = true) (o : Nat) {k h l : Nat} (b : Bool) (hk : k < 32) (hbeside : h < k ∨ k < l) :
    (s.setBit o k b).fld o h l = s.fld o h l := by
  rw [State.setBit, State.setFld, State.fld_setReg_self hwf, bitsOf_withBits_beside _ _ (Nat.le_refl k) hk hbeside, State.fld]

theorem State.bit_setBit_self (hwf : State.regsWf s = true) (o : Nat) {k : Nat} (b : Bool) (hk : k < 32) : (s.setBit o k b).bit o k = b := by
  rw [State.bit, State.setBit, State.setFld, State.fld_setReg_self hwf, bitsOf_withBits_same _ _ (Nat.le_refl k) hk]
  cases b <;> simp

/-! ## Rejected writes (R20) -/

/-- The write-status word of a first rejection: VALID, the code and the word offset of the register; OVF as it was. -/
def rejectedWord (x : Word) (off code : Nat) : Word := withBits (withBits (withBits x 31 31 1) 27 20 code) 19 0 (off / 4)

/-- A first rejection is kept; one that follows before software has read it sets OVF alone. -/
theorem State.reject_first {base : Nat} (off code : Nat) (h : s.bit (base + 4) 31 = false) :
    s.reject base off code = s.setReg (base + 4) (rejectedWord (s.reg (base + 4)) off code) := by
  simp [State.reject, h, rejectedWord]

theorem State.reject_again {base : Nat} (off code : Nat) (h : s.bit (base + 4) 31 = true) :
    s.reject base off code = s.setBit (base + 4) 30 true := by
  simp [State.reject, h]

/-- A rejection writes the write-status register of its block and nothing else. -/
theorem State.reject_setReg (s : State) (base off code : Nat) : ∃ v, s.reject base off code = s.setReg (base + 4) v := by
  cases h : s.bit (base + 4) 31 with
  | false => exact ⟨_, State.reject_first off code h⟩
  | true => exact ⟨_, State.reject_again off code h⟩

theorem bitsOf_rejectedWord (x : Word) (off : Nat) {code : Nat} (hcode : code < 256) :
    bitsOf (rejectedWord x off code) 31 31 = 1 ∧ bitsOf (rejectedWord x off code) 27 20 = code ∧
      bitsOf (rejectedWord x off code) 19 0 = off / 4 % 2 ^ 20 ∧ bitsOf (rejectedWord x off code) 30 30 = bitsOf x 30 30 := by
  unfold rejectedWord
  refine ⟨?valid, ?code, ?offset, ?ovf⟩
  case valid =>
    rw [bitsOf_withBits_beside _ _ (by omega) (by omega) (by omega), bitsOf_withBits_beside _ _ (by omega) (by omega) (by omega),
      bitsOf_withBits_same _ _ (by omega) (by omega)]
    rfl
  case code =>
    rw [bitsOf_withBits_beside _ _ (by omega) (by omega) (by omega), bitsOf_withBits_same _ _ (by omega) (by omega)]
    exact Nat.mod_eq_of_lt hcode
  case offset => exact bitsOf_withBits_same _ _ (by omega) (by omega)
  case ovf =>
    rw [bitsOf_withBits_beside _ _ (by omega) (by omega) (by omega), bitsOf_withBits_beside _ _ (by omega) (by omega) (by omega),
      bitsOf_withBits_beside _ _ (by omega) (by omega) (by omega)]

/-- R20: a register of one word with a field out of range rejects the value. -/
theorem State.cmdWrite_rejected {req : Req} {o c : Nat} {l : RegLoc} {r : RegDef} {v : Word} (h : Stated.Writable s req o l r)
    (hc : r.check v = some c) : s.cmdWrite req o v = s.reject l.base l.off c := by
  obtain ⟨⟨hub, die, hl, hoff, hmay, hbad, hrow⟩, hp, hh⟩ := h
  obtain ⟨i, hr⟩ := regAt_of_locate hl hrow
  simp [State.cmdWrite, State.writeReg, hub, die, hl, hoff, hmay, hbad, hr, hp, hh, RegDef.gate, hc, WRes.settle]

end Sys2Proof.Machine

open Sys2Proof Sys2Proof.Machine

/-- Settles O18: the check of the row comes before anything else of the register, and a rejection is one write of the write-status word. -/
theorem rejectedWritesOnlyReport : Obligations.RejectedWritesOnlyReport := by
  refine ⟨fun req off val s l r c h hc => exec_registerWrite rfl (State.cmdWrite_rejected h hc), fun s base off code hwf hcode => ?_⟩
  obtain ⟨v, hv⟩ := s.reject_setReg base off code
  refine ⟨fun o ho => ?others, ?frame, fun hfree => ?first, fun hvalid => ?again⟩
  case others => rw [hv, State.reg_setReg_ne ho.symm]
  case frame => rw [hv]; rfl
  case first =>
    obtain ⟨hset, hcode, hoff, hovf⟩ := bitsOf_rejectedWord (s.reg (base + 4)) off hcode
    simp only [State.reject_first off code hfree, State.bit, State.fld_setReg_self hwf]
    exact ⟨decide_eq_true hset, hcode, hoff, congrArg (fun n => decide (n = 1)) hovf⟩
  case again =>
    rw [State.reject_again off code hvalid]
    exact ⟨State.bit_setBit_self hwf _ true (by omega), State.fld_setBit_beside hwf _ true (by omega) (by omega)⟩
end

section
/-! SUPPORT. Requests of the host and the routes of the network: one packet for an aligned word of a memory window (R17), a read that nobody answers
(R18), a new epoch at a port (R147), a module that leaves service and the pairs that wait for a new route (R206). -/

namespace Sys2Proof.Machine

variable {s : State}

/-! ## A record leaves the network and the outputs alone -/

@[simp] theorem State.log_net (s : State) (r : Rec) : (s.log r).net = s.net := by
  obtain ⟨regs, rec, h⟩ := s.log_frame r
  rw [h]

@[simp] theorem State.log_out (s : State) (r : Rec) : (s.log r).out = s.out := by
  obtain ⟨regs, rec, h⟩ := s.log_frame r
  rw [h]

/-! ## One word of the host (R17, R201) -/

/-- Bytes that are all enabled. -/
def enabledBytes (l : List Byte) : List (Bool × Byte) := l.map (fun b => (true, b))

theorem takeWhile_enabledBytes (l : List Byte) : (enabledBytes l).takeWhile Prod.fst = enabledBytes l := by
  refine List.takeWhile_eq_self_iff.mpr fun x hx => ?_
  obtain ⟨b, -, rfl⟩ := List.mem_map.mp hx
  rfl

theorem padded_word {a : Nat} {l : List (Bool × Byte)} (ha : a % 16 = 0) (hl : l.length = 16) : padded a l = l := by
  simp [padded, ha, hl]

/-- The byte enables of `n` enabled bytes are `n` ones. -/
theorem foldr_enables (l : List Byte) :
    (enabledBytes l).foldr (fun x n => 2 * n + if x.1 then 1 else 0) 0 = 2 ^ l.length - 1 := by
  induction l with
  | nil => rfl
  | cons b l ih =>
    have := Nat.two_pow_pos l.length
    rw [enabledBytes, List.map_cons, List.foldr_cons, ← enabledBytes, ih, List.length_cons, Nat.pow_succ]
    simp only [if_true]
    omega

/-- R201: an enabled word of 16 bytes goes as one inline word. -/
theorem hostPieces_word (n a : Nat) {l : List Byte} (hl : l.length = 16) : hostPieces (n + 1) a (enabledBytes l) = [⟨a, 0, 0xFFFF, l⟩] := by
  have hlen : (enabledBytes l).length = 16 := by rw [enabledBytes, List.length_map, hl]
  have hne : enabledBytes l ≠ [] := List.ne_nil_of_length_pos (by omega)
  have hany : (enabledBytes l).any Prod.fst = true := by
    obtain ⟨x, hx⟩ := List.exists_mem_of_ne_nil _ hne
    obtain ⟨b, -, rfl⟩ := List.mem_map.mp hx
    exact List.any_eq_true.mpr ⟨_, hx, rfl⟩
  have hdata : (enabledBytes l).map Prod.snd = l := by simp [enabledBytes]
  have hrest (b : Nat) : hostPieces n b [] = [] := by cases n <;> rfl
  have htake : (enabledBytes l).take 16 = enabledBytes l := List.take_of_length_le hlen.le
  have hdrop : (enabledBytes l).drop 16 = [] := List.drop_of_length_le hlen.le
  simp [hostPieces, hne, takeWhile_enabledBytes, hlen, pieceLen, pieceBytes, htake, hdrop, hany, hdata, hrest, foldr_enables, hl]

/-- The bytes of an enabled dword. -/
theorem dwordBytes_enabled (w : Word) : dwordBytes (0xF, w) = enabledBytes (bytesLE 4 w.toNat) := by
  simp [dwordBytes, dwordBytes.byteOf, enabledBytes, bytesLE, List.range_succ, Nat.div_div_eq_div_mul]

theorem length_bytesLE (n x : Nat) : (bytesLE n x).length = n := by
  induction n generalizing x with
  | zero => rfl
  | succ n ih => rw [bytesLE, List.length_cons, ih]

theorem ofBytesLE_bytesLE (n x : Nat) : ofBytesLE (bytesLE n x) = x % 256 ^ n := by
  induction n generalizing x with
  | zero => simp [bytesLE, ofBytesLE, Nat.mod_one]
  | succ n ih =>
    rw [bytesLE, ofBytesLE, ih, BitVec.toNat_ofNat, show 256 ^ (n + 1) = 256 * 256 ^ n from Nat.pow_succ', Nat.mod_mul]

theorem ofBytesLE_append (l m : List Byte) : ofBytesLE (l ++ m) = ofBytesLE l + 256 ^ l.length * ofBytesLE m := by
  induction l with
  | nil => simp [ofBytesLE]
  | cons b l ih => rw [List.cons_append, ofBytesLE, ih, ofBytesLE, List.length_cons]; ring

/-- The bytes of four dwords, the first one lowest. -/
def bytesOfDwords (x : Fin 4 → Word) : List Byte := (List.ofFn x).flatMap (fun w => bytesLE 4 w.toNat)

theorem length_bytesOfDwords (x : Fin 4 → Word) : (bytesOfDwords x).length = 16 := by
  simp [bytesOfDwords, length_bytesLE, List.ofFn_succ]

/-- The 16-byte word that four dwords make. -/
theorem ofBytesLE_bytesOfDwords (x : Fin 4 → Word) : BitVec.ofNat 128 (ofBytesLE (bytesOfDwords x)) = x 3 ++ x 2 ++ x 1 ++ x 0 := by
  have hword (w : Word) : w.toNat % 256 ^ 4 = w.toNat := Nat.mod_eq_of_lt w.isLt
  have hshift (a b : Nat) (hb : b < 2 ^ 32) : a <<< 32 ||| b = a * 2 ^ 32 + b := by
    rw [← Nat.shiftLeft_add_eq_or_of_lt hb, Nat.shiftLeft_eq]
  have hbytes : ofBytesLE (bytesOfDwords x) =
      (((x 3).toNat * 2 ^ 32 + (x 2).toNat) * 2 ^ 32 + (x 1).toNat) * 2 ^ 32 + (x 0).toNat := by
    simp only [bytesOfDwords, List.ofFn_succ, List.ofFn_zero, List.flatMap_cons, List.flatMap_nil, ofBytesLE_append, ofBytesLE_bytesLE,
      length_bytesLE, hword, List.append_nil]
    change (x 0).toNat + 256 ^ 4 * ((x 1).toNat + 256 ^ 4 * ((x 2).toNat + 256 ^ 4 * (x 3).toNat)) = _
    omega
  apply BitVec.eq_of_toNat_eq
  simp only [BitVec.toNat_append, hshift _ _ (BitVec.isLt _), hbytes, BitVec.toNat_ofNat]
  have h0 := (x 0).isLt
  have h1 := (x 1).isLt
  have h2 := (x 2).isLt
  have h3 := (x 3).isLt
  omega

/-- R17: an access of the memory window to an aligned word is one packet. -/
theorem State.hostTlp_word {t : Tlp} {a : Nat} {l : List Byte} (hlink : s.sys.linkUp = true) (hhub : s.sys.hubOn = true) (hbar : t.bar = .memory)
    (ha : s.hostAddr t = some a) (halign : a % 16 = 0) (hl : l.length = 16) (hep : t.write = true → t.ep = false)
    (hbytes : (if t.write then t.data.flatMap dwordBytes else List.replicate (4 * t.dwords) (true, 0)) = enabledBytes l) :
    s.hostTlp t =
      if t.write then s.issueWr (hostReq t.fn) 0 0 a 0 0xFFFF t.ep l (.host t.tag.toNat true 0 0)
      else s.hostRead t.fn t.tag.toNat ⟨a, 0, 0xFFFF, l⟩ := by
  have hlen : (enabledBytes l).length = 16 := by rw [enabledBytes, List.length_map, hl]
  have hnoPoison : ¬(t.write = true ∧ t.ep = true) := fun ⟨hw, he⟩ => by simp [hep hw] at he
  have haddr : a / 16 * 16 = a := by omega
  simp only [State.hostTlp, hlink, hhub, hbar, ha, hbytes, hnoPoison, haddr, padded_word halign hlen, hostPieces_word _ a hl]
  simp

theorem State.hostTlp_read {t : Tlp} {a : Nat} (hlink : s.sys.linkUp = true) (hhub : s.sys.hubOn = true) (hbar : t.bar = .memory)
    (hw : t.write = false) (hn : t.dwords = 4) (ha : s.hostAddr t = some a) (halign : a % 16 = 0) :
    s.hostTlp t = s.hostRead t.fn t.tag.toNat ⟨a, 0, 0xFFFF, List.replicate 16 0⟩ := by
  rw [State.hostTlp_word (l := List.replicate 16 0) hlink hhub hbar ha halign (by simp) (by simp [hw]) (by simp [hw, hn, enabledBytes])]
  simp [hw]

theorem State.hostTlp_write {t : Tlp} {a : Nat} {x : Fin 4 → Word} (hlink : s.sys.linkUp = true) (hhub : s.sys.hubOn = true) (hbar : t.bar = .memory)
    (hw : t.write = true) (hep : t.ep = false) (hdata : t.data = [(0xF, x 0), (0xF, x 1), (0xF, x 2), (0xF, x 3)])
    (ha : s.hostAddr t = some a) (halign : a % 16 = 0) :
    s.hostTlp t = s.issueWr (hostReq t.fn) 0 0 a 0 0xFFFF false (bytesOfDwords x) (.host t.tag.toNat true 0 0) := by
  have hbytes : t.data.flatMap dwordBytes = enabledBytes (bytesOfDwords x) := by
    simp only [hdata, List.flatMap_cons, List.flatMap_nil, dwordBytes_enabled]
    simp [bytesOfDwords, List.ofFn_succ, enabledBytes]
  rw [State.hostTlp_word hlink hhub hbar ha halign (length_bytesOfDwords x) (fun _ => hep) (by simpa [hw] using hbytes)]
  simp [hw, hep]

/-- The read of a whole word asks for the four dwords of its response. -/
theorem State.hostRead_word (fn : Fin 17) (tag a : Nat) (l : List Byte) :
    (s.hostRead fn tag ⟨a, 0, 0xFFFF, l⟩).out = s.out ∧
      (s.hostRead fn tag ⟨a, 0, 0xFFFF, l⟩).net.outst =
        s.net.outst ++ [outReq (hostReq fn) (s.freeTag (hostReq fn)) a false (.host tag false 0 4)] := by
  have hlanes : (List.range 4).map (fun i => (0xFFFF : BitVec 16).getLsbD (4 * i)) = [true, true, true, true] := by decide
  refine ⟨rfl, ?_⟩
  simp only [State.hostRead, hlanes]
  rfl

/-! ## A host read without an answer (R18) -/

/-- R18: the only outstanding read of the host completes with Completer Abort; what answers it later is of no use to anyone. -/
theorem State.rspTmo_read {tag q n a k m : Nat} (h : s.net.outst = [outReq q n a false (.host tag false k m)]) :
    s.rspTmo tag = (({ s with net := { s.net with outst := [outReq q n a false .other] } }).log (mkRec reqHostUnit 0x004 a 1 q)).emit
      (.hostCpl tag 1 false []) := by
  simp [State.rspTmo, h, outReq]

/-! ## A port takes an epoch (R147) -/

/-- A value other than the default is listed, so it reads back whatever the map. -/
theorem SMap.get_set_of_ne {α : Type} [DecidableEq α] {d : Nat → α} {m : SMap α} {k : Nat} {v : α} (h : v ≠ d k) :
    SMap.get d (SMap.set d m k v) k = v := by
  simp [SMap.get, SMap.set, h, SMap.find_insert_self]

theorem State.le_setLe_self (h : SMap.wf lengReset s.leng = true) (l : Nat) (x : LEngSt) : (s.setLe l x).le l = x := SMap.get_set_self h

theorem State.portEpoch_setPortEpoch_self {p l n : Nat} (h : n ≠ 0) : (s.setPortEpoch p l n).portEpoch p l = n := SMap.get_set_of_ne h

/-- A logical engine that no takeover moves is not placed anew. -/
theorem State.placeIfReady_of_no_takeover {l : Nat} (h : (s.le l).takeover = none) : s.placeIfReady l = s := by
  simp [State.placeIfReady, h]

/-- R147: outside a takeover the port holds the epoch and is no longer waited for. -/
theorem State.epochTo_of_no_takeover {p l : Nat} (hwf : SMap.wf lengReset s.leng = true) (hwait : (s.le l).waiting.contains p = true)
    (htake : (s.le l).takeover = none) :
    s.epochTo p l =
      (s.setPortEpoch p l (s.le l).epoch).setLe l { s.le l with waiting := (s.le l).waiting.filter (fun y => y ≠ p) } := by
  have hle := State.le_setLe_self (s := s.setPortEpoch p l (s.le l).epoch) hwf l
  simp only [State.epochTo, hwait, if_true]
  exact State.placeIfReady_of_no_takeover (by rw [hle]; exact htake)

/-! ## Modules and pairs (R206) -/

/-- What a stop of streams and the loss of a path leave: which modules are in service, and which pairs wait. -/
def State.SameRoutes (s t : State) : Prop := t.reg oNocstat = s.reg oNocstat ∧ t.net.waits = s.net.waits

theorem State.SameRoutes.refl (s : State) : s.SameRoutes s := ⟨rfl, rfl⟩

theorem State.SameRoutes.trans {s t u : State} (h : s.SameRoutes t) (h' : t.SameRoutes u) : s.SameRoutes u :=
  ⟨h'.1.trans h.1, h'.2.trans h.2⟩

theorem State.SameRoutes.foldl {α : Type} {f : State → α → State} (l : List α) (s : State) (h : ∀ t : State, ∀ x ∈ l, t.SameRoutes (f t x)) :
    s.SameRoutes (l.foldl f s) :=
  List.foldlRecOn l f (State.SameRoutes.refl s) fun t ht x hx => ht.trans (h t x hx)

theorem State.sameRoutes_setFld {o : Nat} (h : o ≠ oNocstat) (s : State) (hi lo n : Nat) : s.SameRoutes (s.setFld o hi lo n) :=
  ⟨State.reg_setFld_ne h hi lo n, rfl⟩

theorem State.sameRoutes_log (s : State) (r : Rec) : s.SameRoutes (s.log r) :=
  ⟨State.reg_log_ne (by decide) r, by rw [State.log_net]⟩

theorem State.sameRoutes_cutEmission (s : State) (c : Nat) : s.SameRoutes (s.cutEmission c) := by
  unfold State.cutEmission
  dsimp only
  split
  · split <;> exact ⟨rfl, rfl⟩
  · exact ⟨rfl, rfl⟩

/-- The registers of the channels lie above SYS_NOCSTAT. -/
theorem State.sameRoutes_strStop (s : State) (c : Nat) : s.SameRoutes (s.strStop c) := by
  unfold State.strStop
  split
  · have hdrop : oStrdrop c ≠ oNocstat := by simp only [oStrdrop, oStr, oNocstat]; omega
    have hstat : oStrstat c ≠ oNocstat := by simp only [oStrstat, oStr, oNocstat]; omega
    have hforget (t : State) (y : StrmSt) : t.SameRoutes ((t.strForget c).setStrm c y) := ⟨rfl, rfl⟩
    exact (((s.sameRoutes_cutEmission c).trans (hforget _ _)).trans (State.sameRoutes_setFld hdrop _ _ _ _)).trans
      ((State.sameRoutes_setFld hstat _ _ _ _).trans (State.sameRoutes_setFld hstat _ _ _ _))
  · exact State.SameRoutes.refl s

theorem State.sameRoutes_strStopTile (s : State) (t : Nat) : s.SameRoutes (s.strStopTile t) :=
  State.SameRoutes.foldl _ s fun r j _ => r.sameRoutes_strStop (64 * t + j)

theorem State.sameRoutes_unsync (s : State) : s.SameRoutes s.unsync := by
  refine State.SameRoutes.foldl _ s fun t k _ => ?_
  unfold State.unsyncDie
  split
  · exact (State.sameRoutes_setFld (by decide) t k k 1).trans (State.sameRoutes_log _ _)
  · exact State.SameRoutes.refl t

theorem State.sameRoutes_lostPaths (s : State) : s.SameRoutes s.lostPaths := by
  refine s.sameRoutes_unsync.trans (State.SameRoutes.foldl _ _ fun t n _ => ?_)
  dsimp only
  split
  · exact State.SameRoutes.trans ⟨rfl, rfl⟩ (State.sameRoutes_log _ _)
  · exact State.SameRoutes.refl t

/-- R206: the bit of the module sets, the pairs over it wait, and what follows from it changes neither. -/
theorem State.leavesService_routes {m : Nat} (hact : s.lstate m ≠ 7) (hin : s.bit oNocstat m = false) :
    (s.leavesService m).reg oNocstat = (s.setBit oNocstat m true).reg oNocstat ∧ (s.leavesService m).net.waits = s.net.waits ++ s.pairsOver m := by
  have hlog := (s.setBit oNocstat m true).sameRoutes_log (mkRec (lnkRouter m false) 0x061 m m (lnkRouter m false))
  have hguard : ¬(s.lstate m = 7 ∨ s.bit oNocstat m = true) := by simp [hact, hin]
  simp only [State.leavesService, if_neg hguard]
  set w : State := { (s.setBit oNocstat m true).log _ with net := _ }
  have hstop : w.SameRoutes (if 24 ≤ m then w.strStopTile (m - 24) else w) := by
    split
    · exact w.sameRoutes_strStopTile _
    · exact State.SameRoutes.refl w
  obtain ⟨hreg, hwaits⟩ := hstop.trans (State.sameRoutes_lostPaths _)
  exact ⟨hreg.trans hlog.1, hwaits.trans (congrArg (· ++ s.pairsOver m) hlog.2)⟩

/-- R206: a pair none of whose old packets is outstanding waits no longer. -/
theorem State.pairMoves_ready {q d : Nat} {l : List Nat} (h : ∀ x ∈ l, ∀ o ∈ s.net.outst, ¬(o.src = q ∧ o.tag = x)) :
    (q, d, l) ∉ (s.pairMoves q d).net.waits := by
  have hidle : l.any (fun t => s.net.outst.any (fun o => o.src == q && o.tag == t)) = false := by
    simpa using h
  simp [State.pairMoves, hidle]

end Sys2Proof.Machine

open Sys2Proof Sys2Proof.Machine

/-- Settles O36: one packet for an aligned word, one completion for a lost read, and for the epoch and the routes the one update that each event
makes, which nothing that follows from it undoes. -/
theorem hostRequestsAndRoutesComplete : Obligations.HostRequestsAndRoutesComplete := by
  refine ⟨?read, ?write, ?abort, ?epoch, ?leaves, ?moves⟩
  case read =>
    intro t a s hlink hhub hbar hw hn ha halign
    obtain ⟨hout, houtst⟩ := State.hostRead_word (s := s) t.fn t.tag.toNat a (List.replicate 16 0)
    exact ⟨_, congrArg Host.Outcome.next (State.hostTlp_read hlink hhub hbar hw hn ha halign), hout, _, houtst⟩
  case write =>
    intro t a x s hlink hhub hbar hw hep hdata ha halign
    refine ⟨_, congrArg Host.Outcome.next (State.hostTlp_write hlink hhub hbar hw hep hdata ha halign), rfl, _, rfl, ?_⟩
    rw [← ofBytesLE_bytesOfDwords x]
    rfl
  case abort =>
    intro tag q n a k m s h
    exact ⟨_, congrArg Host.Outcome.next (State.rspTmo_read h), by simp, by simp⟩
  case epoch =>
    intro p l s ⟨_, _, _, _, hwf, _⟩ hwait htake hne
    exact ⟨_, congrArg Host.Outcome.next (State.epochTo_of_no_takeover hwf hwait htake), State.portEpoch_setPortEpoch_self hne,
      State.le_setLe_self hwf _ _, rfl⟩
  case leaves =>
    intro m s hwf hact hin
    obtain ⟨hreg, hwaits⟩ := State.leavesService_routes hact hin
    refine ⟨_, rfl, ?_, hwaits⟩
    rw [State.bit, State.fld, hreg]
    exact State.bit_setBit_self hwf oNocstat true (by omega)
  case moves =>
    intro q d l s _ hdone
    exact ⟨_, rfl, State.pairMoves_ready hdone, rfl⟩
end
section
/-! SUPPORT. The SYS power block under the operations of the other blocks (R34 to R44): which operations keep its registers, the pins, resets and
modes, and the fuses, and keep the registers and the engines in canonical form. -/

namespace Sys2Proof.Machine

-- The lemmas below are many and short: proved side by side, they would take a thread each.
set_option Elab.async false

/-! ## Registers above the SYS power block -/

/-- The register lies above the power, reset and mode registers of the SYS block. -/
def Above (o : Nat) : Prop := 0x400 ≤ o

section
variable {o : Nat} (k n m : Nat)

theorem Above.of_le {a : Nat} (ha : 0x400 ≤ a) : Above (a + n) := Nat.le_add_right_of_le ha

@[simp] theorem above_add (h : Above o) : Above (o + n) := Above.of_le n h
@[simp] theorem above_ite {p : Prop} [Decidable p] {o' : Nat} (h : Above o) (h' : Above o') : Above (if p then o else o') := by split <;> assumption

@[simp] theorem above_oEng : Above (oEng n) := Above.of_le _ (by decide)
@[simp] theorem above_oPlace : Above (oPlace n) := above_add _ (above_oEng n)
@[simp] theorem above_oDbg : Above oDbg := by unfold Above; decide
@[simp] theorem above_oTrigSt : Above oTrigSt := above_add _ above_oDbg
@[simp] theorem above_oMcfg : Above oMcfg := above_add _ above_oDbg
@[simp] theorem above_oPstatDbg : Above oPstatDbg := above_add _ above_oDbg
@[simp] theorem above_oEcfg : Above (oEcfg n) := above_add _ (above_add _ above_oDbg)
@[simp] theorem above_oRed : Above (oRed n) := Above.of_le _ (by decide)
@[simp] theorem above_oStr : Above (oStr n) := Above.of_le _ (by decide)
@[simp] theorem above_oStridx : Above (oStridx n) := above_add _ (above_oStr n)
@[simp] theorem above_oStrstat : Above (oStrstat n) := above_add _ (above_oStr n)
@[simp] theorem above_oStrdrop : Above (oStrdrop n) := above_add _ (above_oStr n)
@[simp] theorem above_oCnv : Above (oCnv n) := Above.of_le _ (by decide)
@[simp] theorem above_oDstat : Above (oDstat n) := above_add _ (above_oCnv n)
@[simp] theorem above_oChavail : Above (oChavail n) := above_add _ (above_oCnv n)
@[simp] theorem above_oCfg : Above oCfg := by unfold Above; decide
@[simp] theorem above_oCfgStat : Above oCfgStat := above_add _ above_oCfg
@[simp] theorem above_oDiscard : Above oDiscard := above_add _ above_oCfg
@[simp] theorem above_oPld : Above oPld := by unfold Above; decide
@[simp] theorem above_oPgeom : Above (oPgeom n) := above_add _ (above_add _ above_oPld)
@[simp] theorem above_oPldStat : Above (oPldStat n) := above_add _ (above_oPgeom n)
@[simp] theorem above_oTim : Above oTim := by unfold Above; decide
@[simp] theorem above_oTimStat : Above oTimStat := above_add _ above_oTim
@[simp] theorem above_oSrcSt : Above (oSrcSt n) := above_add _ (above_add _ above_oTim)
@[simp] theorem above_oHoStat : Above oHoStat := above_add _ above_oTim
@[simp] theorem above_oDist : Above oDist := above_add _ above_oTim
@[simp] theorem above_oRtc : Above oRtc := by unfold Above; decide
@[simp] theorem above_oRtcStat : Above oRtcStat := above_add _ above_oRtc
@[simp] theorem above_oPstatSer : Above (oPstatSer n) := above_add _ (Above.of_le _ (by decide))
@[simp] theorem above_oMem : Above (oMem n) := Above.of_le _ (by decide)
@[simp] theorem above_oMemStat : Above (oMemStat n) := above_add _ (above_oMem n)
@[simp] theorem above_oTrain : Above (oTrain n) := above_add _ (above_oMem n)
@[simp] theorem above_oIce : Above oIce := by unfold Above; decide
@[simp] theorem above_oDecc : Above (oDecc n) := above_add _ (above_add _ above_oIce)
@[simp] theorem above_oRange : Above (oRange n) := above_add _ (above_add _ above_oIce)
@[simp] theorem above_oPrstat : Above (oPrstat n) := above_add _ (above_oRange n)
@[simp] theorem above_oMbx : Above (oMbx n) := Above.of_le _ (by decide)
@[simp] theorem above_oSide (b : Bool) : Above (oSide n b) := above_add _ (above_oMbx n)
@[simp] theorem above_oMgm : Above oMgm := by unfold Above; decide
@[simp] theorem above_oBoot : Above oBoot := above_oMgm
@[simp] theorem above_oAlarm : Above oAlarm := above_add _ above_oMgm
@[simp] theorem above_oRecCnt : Above oRecCnt := by unfold Above; decide
@[simp] theorem above_oLnk : Above (oLnk n) := Above.of_le _ (by decide)
@[simp] theorem above_oLstat : Above (oLstat n) := above_add _ (above_oLnk n)
@[simp] theorem above_oNocstat : Above oNocstat := by unfold Above; decide

/-- The buckets and counters of the SRAMs. -/
theorem above_sramBucket : Above (sramBucket n).1 ∧ Above (sramBucket n).2.1 := by
  unfold sramBucket
  dsimp only
  split
  · unfold Above; decide
  · split <;> unfold Above <;> dsimp only <;> omega

end

namespace State

/-- What an operation of another block leaves alone: the registers of the SYS power block that `P` holds of, the fuses, and the pins, resets and modes
but for the tiles that keep their cells in OFF. The tables of registers and engines stay canonical. -/
structure Steady (P : Nat → Prop) (s t : State) : Prop where
  wf : State.regsWf s = true → State.regsWf t = true
  eng : SMap.wf engReset s.eng = true → SMap.wf engReset t.eng = true
  reg : ∀ o, P o → ¬Above o → t.reg o = s.reg o
  sys : ∃ k, t.sys = { s.sys with kept := k }
  fuses : t.fuses = s.fuses

variable {P : Nat → Prop} {s t u : State}

namespace Steady

/-! ## The relation -/

theorem refl (P : Nat → Prop) (s : State) : Steady P s s := ⟨id, id, fun _ _ _ => rfl, ⟨s.sys.kept, rfl⟩, rfl⟩

/-- An update behind the registers, the engines, the pins and the fuses. -/
theorem behind (h : Steady P s t) (hr : u.regs = t.regs := by rfl) (he : u.eng = t.eng := by rfl) (hs : u.sys = t.sys := by rfl)
    (hf : u.fuses = t.fuses := by rfl) : Steady P s u where
  wf := by simpa only [State.regsWf, hr] using h.wf
  eng := by simpa only [he] using h.eng
  reg := by simpa only [State.reg, hr] using h.reg
  sys := by simpa only [hs] using h.sys
  fuses := hf.trans h.fuses

theorem ite {c : Prop} [Decidable c] (ht : c → Steady P s t) (hu : ¬c → Steady P s u) : Steady P s (if c then t else u) := by
  split
  · exact ht ‹_›
  · exact hu ‹_›

/-- An operation that has a condition. -/
theorem when {c : Prop} [Decidable c] (hu : Steady P s u) (h : Steady P s t) : Steady P s (if c then u else t) := by split <;> assumption

theorem foldl {α : Type} {f : State → α → State} {l : List α} (h : Steady P s t) (hf : ∀ (r : State) (x : α), x ∈ l → Steady P s r → Steady P s (f r x)) :
    Steady P s (l.foldl f t) :=
  List.foldlRecOn l f h fun r hr x hx => hf r x hx hr

/-- The table of an engine's state is written in its canonical form. -/
theorem setEng {e : Nat} {x : EngSt} (h : Steady P s t) : Steady P s (t.setEng e x) :=
  ⟨h.wf, fun hwf => SMap.wf_set (h.eng hwf), h.reg, h.sys, h.fuses⟩

/-- A write of a register that is not among the kept ones. -/
theorem setPower {o : Nat} {v : Word} (h : Steady P s t) (ho : P o → Above o) : Steady P s (t.setReg o v) where
  wf hwf := State.wf_setReg (h.wf hwf) o v
  eng := h.eng
  reg p hP hp := (State.reg_setReg_ne (by rintro rfl; exact hp (ho hP)) v).trans (h.reg p hP hp)
  sys := h.sys
  fuses := h.fuses

/-- A tile starts to keep its cells in OFF, or no longer keeps them (R38). -/
theorem setKept (k : List Nat) (h : Steady P s t) : Steady P s { t with sys := { t.sys with kept := k } } where
  wf := h.wf
  eng := h.eng
  reg := h.reg
  sys := by
    obtain ⟨k', hk'⟩ := h.sys
    exact ⟨k, by rw [hk']⟩
  fuses := h.fuses

section
variable {o hi l n k : Nat} {v : Word} {b : Bool} (h : Steady P s t) (ho : Above o := by simp)
include h ho

theorem setReg : Steady P s (t.setReg o v) := h.setPower fun _ => ho
theorem setFld : Steady P s (t.setFld o hi l n) := h.setReg ho
theorem setBit : Steady P s (t.setBit o k b) := h.setFld ho
theorem count : Steady P s (t.count o hi l n) := h.setFld ho

end

/-! ## Records, corrections and event posts -/

theorem log {r : Rec} (h : Steady P s t) : Steady P s (t.log r) := by
  rcases t.log_cases r with e | e | e <;> rw [e]
  · exact h.behind
  · exact h.behind
  · exact h.count

theorem logLim {k : Nat} {r : Rec} (h : Steady P s t) : Steady P s (t.logLim k r) := h.behind.when h.behind.log

theorem bucket {o : Nat} (h : Steady P s t) (ho : Above o) : Steady P s (t.bucket o).1 := by
  unfold State.bucket
  split <;> exact h.setFld ho

/-! The counter of a correction and its bucket stand for any operations in the two proofs below: the kernel would compute the words they write. -/

theorem sramCount {unit loc : Nat} (h : Steady P s t) : Steady P s (t.sramCount unit loc) := by
  have hdef := Eq.refl @State.sramCount
  conv_rhs at hdef => delta State.sramCount
  have hb := (h.count (hi := 31) (l := 0) (n := 1) (above_sramBucket unit).2).bucket (above_sramBucket unit).1
  obtain ⟨count, hcount⟩ := exists_eq (a' := @State.count)
  obtain ⟨bucket, hbucket⟩ := exists_eq (a' := @State.bucket)
  rw [hdef, ← hcount, ← hbucket]
  rw [← hcount, ← hbucket] at hb
  clear hdef hcount hbucket
  dsimp only
  exact hb.behind.log.when hb.behind

theorem oneCorrection {k a : Nat} (h : Steady P s t) : Steady P s (t.oneCorrection k a) := by
  have hdef := Eq.refl @State.oneCorrection
  conv_rhs at hdef => delta State.oneCorrection
  have hb := (h.count (o := oDecc k + 4) (hi := 31) (l := 0) (n := 1)).bucket (above_oDecc k)
  obtain ⟨count, hcount⟩ := exists_eq (a' := @State.count)
  obtain ⟨bucket, hbucket⟩ := exists_eq (a' := @State.bucket)
  rw [hdef, ← hcount, ← hbucket]
  rw [← hcount, ← hbucket] at hb
  clear hdef hcount hbucket
  dsimp only
  exact hb.behind.log.when hb.behind

theorem setFlag {x f : Nat} (h : Steady P s t) : Steady P s (t.setFlag x f) := h.behind.when h.behind

theorem postEvent {x f : Nat} (h : Steady P s t) : Steady P s (t.postEvent x f) := h.behind.when h.setFlag

/-! ## Streams and reduction groups -/

theorem cutEmission (c : Nat) (h : Steady P s t) : Steady P s (t.cutEmission c) := by
  unfold State.cutEmission
  dsimp only
  split
  · exact h.behind.when h
  · exact h

theorem strStop {c : Nat} (h : Steady P s t) : Steady P s (t.strStop c) :=
  ((h.cutEmission c).behind.count.setFld.setFld).when h

theorem strStopTile {n : Nat} (h : Steady P s t) : Steady P s (t.strStopTile n) := h.foldl fun _ _ _ hr => hr.strStop

theorem redTileOff {n : Nat} (h : Steady P s t) : Steady P s (t.redTileOff n) :=
  h.foldl fun _ _ _ hr => hr.behind.setBit.when hr

/-! ## Time -/

theorem timLog {c n : Nat} (h : Steady P s t) : Steady P s (t.timLog c n) := h.log

theorem setFfo {x : Int} (h : Steady P s t) : Steady P s (t.setFfo x) := h.behind.setReg

theorem lockTo {n : Nat} (h : Steady P s t) : Steady P s (t.lockTo n) := by
  unfold State.lockTo
  dsimp only
  have h1 (x : TimSt) (c : Nat) : Steady P s (((t.setTim x).setFld oTimStat 31 29 n).timLog 0x070 c) := h.behind.setFld.timLog
  split
  · exact h
  · split
    · exact (h1 _ _).setFfo.when (h1 _ _).setFfo
    · exact (h1 _ _).behind.setReg.setBit.setBit
    · exact h1 _ _

theorem select (h : Steady P s t) : Steady P s t.select := h.setFld.setFld.lockTo

theorem sourceFails {i n : Nat} (h : Steady P s t) : Steady P s (t.sourceFails i n) :=
  h.setFld.setFld.timLog.setFld.when h.setFld.setFld.timLog

theorem disqualifyAll {l : List (Nat × Nat)} (h : Steady P s t) : Steady P s (t.disqualifyAll l) :=
  h.when (h.foldl fun _ _ _ hr => hr.sourceFails).select

theorem laneSources {x : Option Nat} (h : Steady P s t) : Steady P s (t.laneSources x) := h.disqualifyAll
theorem nightSources (h : Steady P s t) : Steady P s t.nightSources := h.disqualifyAll

theorem setReplica {k : Nat} {x : Option Replica} (h : Steady P s t) : Steady P s (t.setReplica k x) := h.behind
theorem timeDieOff {k : Nat} (h : Steady P s t) : Steady P s (t.timeDieOff k) := h.setBit.setReplica

theorem unsyncDie {k : Nat} (h : Steady P s t) : Steady P s (t.unsyncDie k) := h.setBit.timLog.when h
theorem unsync (h : Steady P s t) : Steady P s t.unsync := h.foldl fun _ _ _ hr => hr.unsyncDie

theorem lostPaths (h : Steady P s t) : Steady P s t.lostPaths := h.unsync.foldl fun _ _ _ hr => hr.behind.log.when hr

/-! ## Lanes and die links -/

theorem chainPump (n : Nat) (h : Steady P s t) : Steady P s (State.chainPump n t) := by
  induction n generalizing t with
  | zero => exact h
  | succ n ih => exact h.when (ih h.behind)

theorem relink {l : Nat} (h : Steady P s t) : Steady P s (t.relink l) := by
  unfold State.relink
  split
  · exact h
  · exact h.setBit.setBit

theorem laneTo {l : Nat} {x : LaneSt} (h : Steady P s t) : Steady P s (t.laneTo l x) := h.behind.relink.when (h.behind.chainPump 16)
theorem laneOn {l : Nat} (h : Steady P s t) : Steady P s (t.laneOn l) := h.laneTo
theorem laneOff {l : Nat} (h : Steady P s t) : Steady P s (t.laneOff l) := h.laneTo.disqualifyAll

theorem setLnk {m : Nat} {x : LnkMod} (h : Steady P s t) : Steady P s (t.setLnk m x) := h.behind

theorem discardTrained {m : Nat} (h : Steady P s t) : Steady P s (t.discardTrained m) :=
  h.setFld.setFld.setBit.setFld.setReg.setReg.setReg.setReg.setReg.setReg.setReg.setLnk

theorem setLstate {m n : Nat} (h : Steady P s t) : Steady P s (t.setLstate m n) := h.setFld.setBit

theorem lnkRestart {m : Nat} (h : Steady P s t) : Steady P s (t.lnkRestart m) :=
  h.discardTrained.setLstate.setFld.when h.discardTrained.setLstate

theorem lnkDie {m : Nat} (h : Steady P s t) : Steady P s (t.lnkDie m) := h.lnkRestart.setBit.setLnk

theorem lnkDieChanged {o : Nat} (h : Steady P s t) : Steady P s (t.lnkDieChanged o) :=
  h.foldl fun _ _ _ hr => hr.when ((hr.lnkDie.when hr).when (hr.when hr.lnkDie))

/-! ## The counter caches -/

theorem putLine {a : Nat} {l : List (Option DGran)} (h : Steady P s t) : Steady P s (t.putLine a l) := by
  unfold State.putLine
  split
  · exact h
  · exact h.behind

theorem emit {x : Out} (h : Steady P s t) : Steady P s (t.emit x) := h.behind
theorem setRange {r : Nat} {x : RangeSt} (h : Steady P s t) : Steady P s (t.setRange r x) := h.behind

theorem ctrFail {r l n : Nat} (h : Steady P s t) : Steady P s (t.ctrFail r l n) := by
  unfold State.ctrFail
  extract_lets x s1 a s2
  have h1 : Steady P s s1 := h.setRange
  have h2 : Steady P s s2 := h1.when h1.setBit.setReg.setReg
  exact h2.log.emit

theorem dropCached {r l n : Nat} (h : Steady P s t) : Steady P s (t.dropCached r l n) := h.behind
theorem setCached {r l n : Nat} {b : CtrBlk} (h : Steady P s t) : Steady P s (t.setCached r l n b) := h.behind

theorem readBlk {r l n : Nat} (h : Steady P s t) : Steady P s (t.readBlk r l n) := by
  unfold State.readBlk
  split
  · exact h
  · have h1 (x : List (Nat × Gran)) (f : Nat × Gran → Nat) (unit : Nat) :
        Steady P s (x.foldl (fun (u : State) e => u.sramCount unit (f e)) t) := h.foldl fun _ _ _ hr => hr.sramCount
    exact h.when ((h1 _ _ _).setCached.when (((h1 _ _ _).ctrFail.when (h1 _ _ _)).dropCached))

theorem setParent {r l n : Nat} {b : CtrBlk} (h : Steady P s t) : Steady P s (t.setParent r l n b) := h.setRange.when h.setCached

theorem retag {r l n : Nat} {b b' : CtrBlk} (h : Steady P s t) : Steady P s (t.retag r l n b b') := by
  refine h.foldl fun u i _ hu => ?_
  dsimp only
  split
  · exact hu
  · split
    · exact hu.when hu.putLine
    · split
      · exact hu.putLine
      · exact hu.ctrFail

/-! Where the proofs below take `parentBlk` and its like as any function, the kernel would compute the levels of a range. -/

theorem bumpParent {r l n : Nat} (h : Steady P s t) (hu : t.bumpParent r l n = some u) : Steady P s u := by
  have hdef := Eq.refl @State.bumpParent
  conv_rhs at hdef => delta State.bumpParent
  obtain ⟨parentBlk, hp⟩ := exists_eq (a' := @State.parentBlk)
  rw [hdef, ← hp] at hu
  clear hdef hp
  dsimp only at hu
  split at hu
  · cases hu
  · split at hu
    · cases hu
      exact h.setParent
    · split at hu
      · cases hu
      · cases hu
        exact h.setParent.retag

theorem storeBlk {r l n : Nat} {b : CtrBlk} (h : Steady P s t) : Steady P s (t.storeBlk r l n b) := by
  have hdef := Eq.refl @State.storeBlk
  conv_rhs at hdef => delta State.storeBlk
  obtain ⟨parentBlk, hp⟩ := exists_eq (a' := @State.parentBlk)
  rw [hdef, ← hp]
  clear hdef hp
  dsimp only
  split
  · exact h
  · exact h.putLine

theorem majorWrap {r a q : Nat} (h : Steady P s t) : Steady P s (t.majorWrap r a q) := h.setFld.setBit.log

theorem evict {r l n : Nat} (h : Steady P s t) : Steady P s (t.evict r l n) := by
  have hdef := Eq.refl @State.evict
  conv_rhs at hdef => delta State.evict
  have h2 : Steady P s (if (t.readBlk r l n).atTop r l then t.readBlk r l n else (t.readBlk r l n).readBlk r (l + 1) (n / 32)) :=
    h.readBlk.when h.readBlk.readBlk
  have hbump (t u : State) (ht : Steady P s t) : t.bumpParent r l n = some u → Steady P s u := ht.bumpParent
  obtain ⟨cached, hc⟩ := exists_eq (a' := @State.cached)
  obtain ⟨bumpParent, hb⟩ := exists_eq (a' := @State.bumpParent)
  rw [← hb] at hbump
  rw [hdef, ← hc, ← hb]
  clear hdef hc hb
  dsimp only
  split
  · exact h2
  · split
    · split
      · next hu => exact (hbump _ _ h2 hu).storeBlk.dropCached
      · exact h2.majorWrap
    · exact h2.dropCached

theorem evictTree {r l n : Nat} (h : Steady P s t) : Steady P s (t.evictTree r l n) :=
  h.foldl fun _ _ _ hr => hr.foldl fun _ _ _ hu => hu.evict

theorem iceFlush {n : Nat} (h : Steady P s t) : Steady P s (t.iceFlush n) := h.foldl fun _ _ _ hr => hr.evictTree

theorem iceLost {n : Nat} (h : Steady P s t) : Steady P s (t.iceLost n) := by
  refine h.foldl fun u e _ hu => ?_
  split
  · exact (hu.ctrFail.when hu).dropCached
  · exact hu

/-! ## Polders and tiles -/

theorem setFab {n : Nat} {f : FabTile} (h : Steady P s t) : Steady P s (t.setFab n f) := h.behind
theorem scrubAbandon {n : Nat} (h : Steady P s t) : Steady P s (t.scrubAbandon n) := h.behind
theorem setPstate {p n : Nat} (h : Steady P s t) : Steady P s (t.setPstate p n) := h.setFld
theorem loseFrames {n : Nat} (h : Steady P s t) : Steady P s (t.loseFrames n) := h.behind

theorem clearFrames {n : Nat} {f : Nat → Bool} (h : Steady P s t) : Steady P s (t.clearFrames n f) :=
  h.behind.when (h.behind.foldl fun _ _ _ hr => hr.behind)

theorem pldOff {p : Nat} {keep : Bool} (h : Steady P s t) : Steady P s (t.pldOff p keep) := by
  unfold State.pldOff
  extract_lets st held s1 rest _ s2
  have hp : Steady P s ((t.unstart p).setPstate p 1) := (h.behind (u := t.unstart p)).setPstate
  have h2 : Steady P s s2 := hp.behind
  exact h.when (h2.when h2.clearFrames)

/-! ## Engines -/

theorem setCtx {x : Nat} {c : TaskCtx} (h : Steady P s t) : Steady P s (t.setCtx x c) := h.behind

theorem clearBank {e : Nat} {w : Bool} (h : Steady P s t) : Steady P s (t.clearBank e w) := (h.behind (u := t.abandon e w _)).setEng

theorem clearPair {x : Nat} (h : Steady P s t) : Steady P s (t.clearPair x) := by
  unfold State.clearPair
  split
  · exact h
  · exact h.foldl fun _ _ _ hr => hr.clearBank.when hr

theorem countRestart {x : Nat} (h : Steady P s t) : Steady P s (t.countRestart x) :=
  (h.count (by unfold Above; decide)).setCtx

theorem makeRestart {x : Nat} (h : Steady P s t) : Steady P s (t.makeRestart x) := h.behind

theorem unlockFlow {x : Nat} (h : Steady P s t) : Steady P s (t.unlockFlow x) := h.behind.when h
theorem toCompleting {x : Nat} {r : EndReport} (h : Steady P s t) : Steady P s (t.toCompleting x r) := h.unlockFlow.setCtx

theorem revokedTask {x n : Nat} (h : Steady P s t) : Steady P s (t.revokedTask x n) :=
  h.clearPair.countRestart.makeRestart.when (h.countRestart.makeRestart.when h.toCompleting)

theorem taskRegs {e : Nat} {b : EBank} (h : Steady P s t) : Steady P s (t.taskRegs e b) := h.setReg.setReg.setReg.setReg
theorem trapRegs {e : Nat} {x : TrapInfo} (h : Steady P s t) : Steady P s (t.trapRegs e x) := h.setReg.setReg.setReg.setReg.count

theorem trapLog {e : Nat} {x : TrapInfo} (h : Steady P s t) : Steady P s (t.trapLog e x) :=
  h.log.when (h.log.when (h.log.when (h.setEng.log.when h)))

theorem withdrawEng {e : Nat} (h : Steady P s t) : Steady P s (t.withdrawEng e) := h.behind

theorem revokeBank {e : Nat} {w reach : Bool} (h : Steady P s t) : Steady P s (t.revokeBank e w reach) := by
  unfold State.revokeBank
  extract_lets x b s1 s2
  have h1 : Steady P s s1 := h.trapRegs.trapLog.taskRegs.when h
  have h2 : Steady P s s2 := h1.withdrawEng.when h1
  exact h2.clearBank.revokedTask.when h

theorem revokeEngine {e : Nat} {reach : Bool} (h : Steady P s t) : Steady P s (t.revokeEngine e reach) := h.revokeBank.revokeBank.setEng

theorem setLe {l : Nat} {x : LEngSt} (h : Steady P s t) : Steady P s (t.setLe l x) := h.behind

theorem engineStale {e : Nat} {kept : Bool} (h : Steady P s t) : Steady P s (t.engineStale e kept) := by
  unfold State.engineStale
  extract_lets s1 x s2 s3 s4 l
  have h3 : Steady P s s3 := h.revokeEngine.setEng.setBit
  have h4 : Steady P s s4 := h3.setFld.when h3.setBit
  exact h4.setFld.setLe.when h4

theorem unhalt {e : Nat} (h : Steady P s t) : Steady P s (t.unhalt e) := h.setFld.setEng

/-! ## DRAM channels and converters -/

theorem setChan {k : Nat} {x : ChanSt} (h : Steady P s t) : Steady P s (t.setChan k x) := h.behind
theorem setSr {k n : Nat} (h : Steady P s t) : Steady P s (t.setSr k n) := h.setFld
theorem memLose {k : Nat} (h : Steady P s t) : Steady P s (t.memLose k) := h.setChan
theorem memForced {k : Nat} (h : Steady P s t) : Steady P s (t.memForced k) := h.setChan.memLose

theorem memOff {k : Nat} {ret : Bool} (h : Steady P s t) : Steady P s (t.memOff k ret) := by
  unfold State.memOff
  extract_lets x ok s1 _ s2
  have h2 : Steady P s s2 := (h.when h.setSr.count.setChan).setChan
  exact h2.when h2.memLose

theorem memStart {k : Nat} (h : Steady P s t) : Steady P s (t.memStart k) :=
  h.setSr.setChan.when h.memLose.setFld.setFld.setSr.setChan

theorem cnvBringUp {n : Nat} (h : Steady P s t) : Steady P s (t.cnvBringUp n) := h.setReg.setReg

/-! ## Mailboxes and halts -/

theorem mbxUncross {n : Nat} (h : Steady P s t) : Steady P s (t.mbxUncross n) := h.setBit.when h

theorem mbxSignal {n : Nat} {b : Bool} (h : Steady P s t) : Steady P s (t.mbxSignal n b) := by
  unfold State.mbxSignal
  dsimp only
  split
  · exact h.emit
  · exact h.emit
  · exact h.emit
  · exact h.postEvent

theorem ring {n : Nat} {b : Bool} {v : Word} (h : Steady P s t) : Steady P s (t.ring n b v) :=
  (h.setReg (o := oSide n b + 0x14)).mbxSignal.when h.setReg

theorem setMbx {n : Nat} {x : MbxSt} (h : Steady P s t) : Steady P s (t.setMbx n x) := h.behind

theorem mbxResetSide {n : Nat} {b : Bool} (h : Steady P s t) : Steady P s (t.mbxResetSide n b) :=
  h.setMbx.setReg.setReg.setReg.mbxUncross.setBit.setFld.log

theorem mbxReset {l : List (Nat × Bool)} (h : Steady P s t) : Steady P s (t.mbxReset l) :=
  (h.foldl fun _ _ _ hr => hr.mbxResetSide).foldl fun _ _ _ hr => hr.ring

theorem fire {m : Nat} (h : Steady P s t) : Steady P s (t.fire m) := by
  unfold State.fire
  extract_lets old rise s1 s2
  have h1 : Steady P s s1 := h.setFld
  have h2 : Steady P s s2 := h1.foldl fun _ _ _ hr => hr.setEng.when hr
  exact h.when (h2.behind.when h2)

theorem haltMgmt {c : Nat} (h : Steady P s t) : Steady P s (t.haltMgmt c) := by
  unfold State.haltMgmt
  extract_lets _ _ s1 s2
  have h1 : Steady P s s1 := h.behind
  have h2 : Steady P s s2 := h1.setBit.setFld
  exact h2.when h2.fire

theorem catchHalts (h : Steady P s t) : Steady P s t.catchHalts := by
  unfold State.catchHalts
  extract_lets c s1 s2
  have h1 : Steady P s s1 := h.setFld
  have h2 : Steady P s s2 := h1.haltMgmt.when h1
  exact h2.behind

/-! ## Units that stop and start -/

theorem stopHook {v : Sys2Proof.PUnit} {c : Nat} (h : Steady P s t) : Steady P s (t.stopHook v c) := by
  cases v with
  | eng e => exact h.revokeEngine
  | conv n => exact h.strStopTile.timeDieOff
  | lane l => exact h.laneOff
  | pld p => exact h.pldOff
  | tile n => exact h.strStopTile.redTileOff.scrubAbandon.setFab.timeDieOff.lnkDieChanged.lostPaths
  | dram k => exact h
  | clu c => exact h

theorem leaveOff {v : Sys2Proof.PUnit} (h : Steady P s t) : Steady P s (t.leaveOff v) := by
  cases v with
  | tile n => exact ((h.setKept _).when (h.setKept _).loseFrames).when h
  | eng e => exact h.setEng.setBit.when h
  | conv n => exact h
  | dram k => exact h
  | lane l => exact h
  | pld p => exact h
  | clu c => exact h

section
variable {v : Sys2Proof.PUnit} (h : Steady P s t) (hv : P (pwrOff v) → Above (pwrOff v))
include h hv

theorem startUnit : Steady P s (t.startUnit v) := by
  have h1 : Steady P s (((t.leaveOff v).setPwr (pwrOff v) 1).setBit (pwrOff v) 29 false) := (h.leaveOff.setPower hv).setPower hv
  cases v with
  | tile n => exact h1.lnkDieChanged
  | conv n => exact h1.cnvBringUp.lnkDieChanged
  | dram k => exact h1.memStart
  | lane l => exact h1
  | pld p => exact h1
  | eng e => exact h1
  | clu c => exact h1

theorem stopOne {c : Nat} : Steady P s (t.stopOne c v) := (((h.setPower hv).setPower hv).setPower hv).stopHook.when h

/-- R34: a forced stop of a unit that is not STARTING. -/
theorem forceStop {c : Nat} (hne : t.pwr (pwrOff v) ≠ 1) : Steady P s (t.forceStop (pwrOff v) c) := by
  unfold State.forceStop
  split
  · contradiction
  · exact ((h.setPower hv).setPower hv).setPower hv
  · exact h

theorem forceChild : Steady P s (t.forceChild v) := by
  have hstop (c : Nat) (hon : t.pwr (pwrOff v) = 2 ∨ t.pwr (pwrOff v) = 3) : Steady P s (t.forceStop (pwrOff v) c) := h.forceStop hv (by omega)
  cases v with
  | eng e => exact ite (fun hon => (hstop 1 (.inl hon)).revokeEngine) fun _ => h
  | dram k => exact ite (fun hon => (hstop 1 hon).memForced) fun _ => h
  | tile n => exact ite (fun hon => (hstop 1 (.inl hon)).stopHook) fun _ => h
  | conv n => exact ite (fun hon => (hstop 1 (.inl hon)).stopHook) fun _ => h
  | lane l => exact ite (fun hon => (hstop 1 (.inl hon)).stopHook) fun _ => h
  | pld p => exact ite (fun hon => (hstop 1 (.inl hon)).stopHook) fun _ => h
  | clu c => exact ite (fun hon => (hstop 1 (.inl hon)).stopHook) fun _ => h

end

theorem startAll {l : List Sys2Proof.PUnit} (h : Steady P s t) (hl : ∀ v ∈ l, P (pwrOff v) → Above (pwrOff v)) : Steady P s (t.startAll l) :=
  h.foldl fun _ v hv hr => (hr.startUnit (hl v hv)).when hr

theorem exitPump (h : Steady P s t) (hP : ∀ v, P (pwrOff v) → Above (pwrOff v)) : Steady P s t.exitPump := by
  refine List.foldlRecOn (motive := fun p : State × Bool => Steady P s p.1) nightOrder _ h fun p hp l _ => ?_
  split
  · exact hp.startAll fun v _ => hP v
  · exact hp

theorem startWaiting {l : List Sys2Proof.PUnit} (h : Steady P s t) (hP : ∀ v, P (pwrOff v) → Above (pwrOff v)) : Steady P s (t.startWaiting l) :=
  (h.startAll fun v _ => hP v).when ((h.exitPump hP).when h)

theorem stopUnit {v : Sys2Proof.PUnit} {c : Nat} (h : Steady P s t) (hP : ∀ v, P (pwrOff v) → Above (pwrOff v)) : Steady P s (t.stopUnit v c) := by
  have hall {u : State} (l : List Sys2Proof.PUnit) (hu : Steady P s u) : Steady P s (l.foldl (State.stopOne · 1 ·) u) :=
    hu.foldl fun _ w _ hr => hr.stopOne (hP w)
  unfold State.stopUnit
  refine h.when ?_
  cases v with
  | clu n => exact (hall _ h).stopOne (hP _)
  | tile n => exact (hall _ (h.iceFlush.laneSources.setPower (hP (.tile n)))).stopOne (hP _)
  | conv n => exact h.stopOne (hP _)
  | dram k => exact h.stopOne (hP _)
  | lane l => exact h.stopOne (hP _)
  | pld p => exact h.stopOne (hP _)
  | eng e => exact h.stopOne (hP _)

/-! ## What a steady state reads -/

section
variable {o : Nat} (h : Steady P s t) (hP : P o) (ho : ¬Above o)
include h hP ho

theorem fld (hi lo : Nat) : t.fld o hi lo = s.fld o hi lo := by rw [State.fld, State.fld, h.reg o hP ho]
theorem bit (k : Nat) : t.bit o k = s.bit o k := by rw [State.bit, State.bit, h.fld hP ho]
theorem pwr : t.pwr o = s.pwr o := h.fld hP ho 26 24

end

/-- Whatever of the pins, resets and modes does not ask which tiles keep their cells. -/
theorem sysOf {α : Type} (h : Steady P s t) (f : SysSt → α) (hf : ∀ x k, f { x with kept := k } = f x := by intros; rfl) : f t.sys = f s.sys := by
  obtain ⟨k, hk⟩ := h.sys
  rw [hk, hf]

end Steady
end State
end Sys2Proof.Machine
end

section
/-! SUPPORT. The power cycles of a unit (R34 to R37): fields of power registers read back, the write of a power register, and what starts and stops
leave in it. -/

namespace Sys2Proof.Machine

variable {s t : State}

/-! ## Fields of a register, written and read -/

theorem State.fld_congr (h : t.regs = s.regs) (o hi lo : Nat) : t.fld o hi lo = s.fld o hi lo := by simp only [State.fld, State.reg, h]

theorem State.fld_setFld_self (hwf : State.regsWf s = true) (o : Nat) {hi lo : Nat} (n : Nat) (hlo : lo ≤ hi) (hhi : hi < 32) :
    (s.setFld o hi lo n).fld o hi lo = n % 2 ^ (hi + 1 - lo) := by
  rw [State.setFld, State.fld_setReg_self hwf, bitsOf_withBits_same _ _ hlo hhi]

theorem State.fld_setFld_beside (hwf : State.regsWf s = true) (o : Nat) {hi lo h l : Nat} (n : Nat) (hlo : lo ≤ hi) (hhi : hi < 32)
    (hbeside : h < lo ∨ hi < l) : (s.setFld o hi lo n).fld o h l = s.fld o h l := by
  rw [State.setFld, State.fld_setReg_self hwf, bitsOf_withBits_beside _ _ hlo hhi hbeside, State.fld]

theorem State.fld_setFld_ne {o p : Nat} (hne : o ≠ p) (hi lo n h l : Nat) : (s.setFld o hi lo n).fld p h l = s.fld p h l := by
  rw [State.fld, State.reg_setFld_ne hne, State.fld]

theorem State.bit_setFld_beside (hwf : State.regsWf s = true) (o : Nat) {hi lo k : Nat} (n : Nat) (hlo : lo ≤ hi) (hhi : hi < 32)
    (hbeside : k < lo ∨ hi < k) : (s.setFld o hi lo n).bit o k = s.bit o k := by
  rw [State.bit, State.fld_setFld_beside hwf o n hlo hhi hbeside, State.bit]

theorem State.bit_setBit_beside (hwf : State.regsWf s = true) (o : Nat) {j k : Nat} (b : Bool) (hj : j < 32) (hne : k ≠ j) :
    (s.setBit o j b).bit o k = s.bit o k := by
  rw [State.bit, State.fld_setBit_beside hwf o b hj (by omega), State.bit]

/-- A register that a unit enters a state in. -/
theorem State.startWord (hwf : State.regsWf s = true) (o : Nat) {n : Nat} (hn : n < 8) :
    ((s.setPwr o n).setBit o 29 false).pwr o = n ∧ ((s.setPwr o n).setBit o 29 false).bit o 31 = s.bit o 31 := by
  have h1 : State.regsWf (s.setPwr o n) = true := State.wf_setFld hwf ..
  constructor
  · rw [State.pwr, State.fld_setBit_beside h1 o _ (by omega) (by omega), State.setPwr, State.fld_setFld_self hwf o n (by omega) (by omega)]
    exact Nat.mod_eq_of_lt hn
  · rw [State.bit_setBit_beside h1 o _ (by omega) (by omega), State.setPwr, State.bit_setFld_beside hwf o n (by omega) (by omega) (by omega)]

/-- R34: the register of a unit that enters STOPPING with a CAUSE. -/
theorem State.stopWord (hwf : State.regsWf s = true) (o : Nat) {c : Nat} (hc : c < 16) :
    (((s.setPwr o 3).setFld o 23 20 c).setBit o 29 false).pwr o = 3 ∧ (((s.setPwr o 3).setFld o 23 20 c).setBit o 29 false).fld o 23 20 = c ∧
      (((s.setPwr o 3).setFld o 23 20 c).setBit o 29 false).bit o 31 = s.bit o 31 := by
  have h1 : State.regsWf (s.setPwr o 3) = true := State.wf_setFld hwf ..
  have h2 : State.regsWf ((s.setPwr o 3).setFld o 23 20 c) = true := State.wf_setFld h1 ..
  refine ⟨?_, ?_, ?_⟩
  · rw [State.pwr, State.fld_setBit_beside h2 o _ (by omega) (by omega), State.fld_setFld_beside h1 o _ (by omega) (by omega) (by omega), State.setPwr,
      State.fld_setFld_self hwf o 3 (by omega) (by omega)]
    rfl
  · rw [State.fld_setBit_beside h2 o _ (by omega) (by omega), State.fld_setFld_self h1 o c (by omega) (by omega)]
    exact Nat.mod_eq_of_lt hc
  · rw [State.bit_setBit_beside h2 o _ (by omega) (by omega), State.bit_setFld_beside h1 o _ (by omega) (by omega) (by omega), State.setPwr,
      State.bit_setFld_beside hwf o _ (by omega) (by omega) (by omega)]

/-! ## A write of a register of the SYS power block -/

/-- The 64-bit registers of the SYS block lie above the power block. -/
theorem sysPairs_above : Blk.sys.regs.all (fun r => !r.pair || decide (0x400 ≤ r.off)) = true := by decide

theorem off_le_of_findReg {l : List RegDef} {o i : Nat} {r : RegDef} (h : findReg l o = some (r, i)) : r ∈ l ∧ r.off ≤ o := by
  induction l with
  | nil => cases h
  | cons q l ih =>
    simp only [findReg] at h
    split at h
    · cases h
      exact ⟨List.mem_cons_self, by omega⟩
    · exact ⟨List.mem_cons_of_mem _ (ih h).1, (ih h).2⟩

theorem pair_of_findReg_sys {o i : Nat} {r : RegDef} (ho : o < 0x400) (h : findReg Blk.sys.regs o = some (r, i)) : r.pair = false := by
  obtain ⟨hmem, hle⟩ := off_le_of_findReg h
  have hr := List.all_eq_true.mp sysPairs_above r hmem
  simp only [Bool.or_eq_true, Bool.not_eq_true', decide_eq_true_eq] at hr
  exact hr.resolve_right (by omega)

theorem isHighHalf_sysPower {o : Nat} (ho : o < 0x400) : isHighHalf o = false := by
  have hlow : isLowHalf (o - 4) = false := by
    unfold isLowHalf
    split
    · rfl
    · next h =>
      simp only [regAt, locate_sys (show o - 4 < 0x100000 by omega)] at h
      split at h
      · cases h
      · cases h
        exact pair_of_findReg_sys (o := o - 4) (by omega) ‹_›
  simp [isHighHalf, hlow]

/-- R20: a write of a register of the SYS power block with its fields in range is what its own rule makes of it. -/
theorem State.cmdWrite_sysPower {req : Req} {o i : Nat} {r : RegDef} {v : Word} (hub : s.sys.hubOn = true) (die : reservedDie req.toNat = false)
    (ho : o < 0x400) (hne : o ≠ 4) (hr : findReg regsSysPower o = some (r, i)) (hc : r.check v = none) (ht : s.sysRegWrite o v = .ok t) :
    s.cmdWrite req o v = t := by
  have hrow : findReg Blk.sys.regs o = some (r, i) := by simp only [Blk.regs, findReg_append, hr, Option.some_or]
  have hans := answers_of_sys (s := s) hub die (regAt_sys (by omega) hrow) (by omega)
  refine (State.cmdWrite_word ⟨hans, pair_of_findReg_sys ho hrow, isHighHalf_sysPower ho⟩ hc).1 t ?_
  simpa [State.setRegister, hne] using ht

/-! ## The power register of a lane -/

/-- The row of SYS_PWRLANE (R34). -/
def lanePwrRow : RegDef := regN 0x140 4 48 0 pwrFlds

theorem findReg_lane (l : Lane) : findReg regsSysPower (oPwrLane l.val) = some (lanePwrRow, l.val) := by
  have hl := l.isLt
  simp only [oPwrLane, regsSysPower, regWrstat, reg1, regN, findReg]
  repeat rw [if_neg (by omega)]
  rw [if_pos (by omega)]
  exact congrArg (fun j => some (_, j)) (by omega)

theorem pwrUnitAt_lane : ∀ l : Lane, pwrUnitAt (oPwrLane l.val) = some (.lane l) := by decide

theorem State.cmdWrite_lane {req : Req} {l : Lane} {v : Word} (hub : s.sys.hubOn = true) (die : reservedDie req.toNat = false)
    (ht : s.pwrWrite (.lane l) v = .ok t) : s.cmdWrite req (oPwrLane l.val) v = t := by
  have hl := l.isLt
  have ho : oPwrLane l.val < 0x400 := by simp only [oPwrLane]; omega
  refine State.cmdWrite_sysPower hub die ho (by simp only [oPwrLane]; omega) (findReg_lane l) rfl ?_
  rw [State.sysRegWrite, pwrUnitAt_lane]
  · exact ht
  all_goals simp only [oPwrLane]; omega
end Sys2Proof.Machine
end

section
/-! SUPPORT. A lane through its power cycle (R36): the starts and stops of other units, and what a lane does as it comes and goes, leave its register. -/

namespace Sys2Proof.Stated

theorem Inv.regsWf {s : Machine.State} (h : Inv s) : Machine.State.regsWf s = true := h.1
theorem Inv.engWf {s : Machine.State} (h : Inv s) : Machine.SMap.wf Machine.engReset s.eng = true := h.2.2.1

end Sys2Proof.Stated

namespace Sys2Proof.Machine

set_option Elab.async false

variable {s t : State}

theorem not_above_lane (l : Lane) : ¬Above (oPwrLane l.val) := by
  have hl := l.isLt
  simp only [Above, oPwrLane]
  omega

theorem State.isOn_congr {o : Nat} (h : t.pwr o = s.pwr o) : t.isOn o = s.isOn o := by rw [State.isOn, State.isOn, h]

theorem State.mayStart_congr {u : Sys2Proof.PUnit} (hpwr : t.pwr (pwrOff u) = s.pwr (pwrOff u)) (hon : t.parentOn u = s.parentOn u) (hsys : t.sys = s.sys) :
    t.mayStart u = s.mayStart u := by
  unfold State.mayStart State.offMinRuns
  rw [hpwr, hon, hsys]

/-- A field of a lane's own register bears on whether it may start only by its STATE. -/
theorem State.mayStart_lane_setFld (hwf : State.regsWf s = true) (l : Lane) (n : Nat) :
    (s.setFld (oPwrLane l.val) 30 30 n).mayStart (.lane l) = s.mayStart (.lane l) := by
  have hne : oPwrLane l.val ≠ oPwrTile (l.val / 12 % 4) := by simp only [oPwrLane, oPwrTile]; omega
  have hpwr : (s.setFld (oPwrLane l.val) 30 30 n).pwr (oPwrLane l.val) = s.pwr (oPwrLane l.val) :=
    State.fld_setFld_beside hwf _ n (by omega) (by omega) (by omega)
  have htile : (s.setFld (oPwrLane l.val) 30 30 n).pwr (oPwrTile (l.val / 12 % 4)) = s.pwr (oPwrTile (l.val / 12 % 4)) := State.fld_setFld_ne hne ..
  have hon : (s.setFld (oPwrLane l.val) 30 30 n).parentOn (.lane l) = s.parentOn (.lane l) := State.isOn_congr htile
  exact State.mayStart_congr hpwr hon (State.setFld_sys ..)

/-- R36: EN = 1 of a lane in OFF that may start. -/
theorem State.requestOn_lane (hwf : State.regsWf s = true) {l : Lane} (hmay : s.mayStart (.lane l) = true) (hact : s.nightState = 0) :
    (s.requestOn (.lane l)).pwr (oPwrLane l.val) = 1 ∧ (s.requestOn (.lane l)).bit (oPwrLane l.val) 31 = true := by
  have hoff : s.pwr (oPwrLane l.val) = 0 := by simp only [State.mayStart, Bool.and_eq_true, decide_eq_true_eq] at hmay; exact hmay.1.1.1
  have h1 : State.regsWf (s.setBit (oPwrLane l.val) 31 true) = true := State.wf_setBit hwf ..
  have h2 : State.regsWf (((s.setBit (oPwrLane l.val) 31 true).setPwr (oPwrLane l.val) 1).setBit (oPwrLane l.val) 29 false) = true :=
    State.wf_setBit (State.wf_setFld h1 ..) ..
  obtain ⟨hst, hen⟩ := State.startWord h1 (oPwrLane l.val) (n := 1) (by omega)
  obtain ⟨hst', hen'⟩ := State.startWord h2 (oPwrLane l.val) (n := 1) (by omega)
  rw [State.bit_setBit_self hwf _ _ (by omega)] at hen
  have hreq : s.requestOn (.lane l) = (((s.setBit (oPwrLane l.val) 31 true).setPwr (oPwrLane l.val) 1).setBit (oPwrLane l.val) 29 false).startUnit
      (.lane l) := by
    simp only [State.requestOn, State.enableUnit, pwrOff, hoff, hmay, hact, and_self, if_true, hst]
  rw [hreq]
  exact ⟨hst', hen'.trans hen⟩

/-- R36: EN = 1 of a lane that may start, as a write of its register. -/
theorem State.pwrWrite_lane_on {l : Lane} (hmay : s.mayStart (.lane l) = true) :
    s.pwrWrite (.lane l) 0x80000000 = .ok ((s.setFld (oPwrLane l.val) 30 30 0).requestOn (.lane l)) := by
  simp only [State.mayStart, Bool.and_eq_true, decide_eq_true_eq] at hmay
  obtain ⟨⟨⟨hoff, -⟩, hpar⟩, -⟩ := hmay
  have hcode : s.pwrCode (.lane l) 0x80000000 = none := by
    simp only [State.pwrCode, State.enCheck, hoff, hpar]
    rfl
  simp only [State.pwrWrite, hcode]
  rfl

/-- R36: EN = 0 of a lane, as a write of its register. -/
theorem State.pwrWrite_lane_off (l : Lane) : s.pwrWrite (.lane l) 0 = .ok ((s.setFld (oPwrLane l.val) 30 30 0).disableUnit (.lane l)) := rfl

/-- R34: a lane that is ON enters STOPPING. -/
theorem State.stopUnit_lane (hwf : State.regsWf s = true) {l : Lane} (hon : s.pwr (oPwrLane l.val) = 2) {c : Nat} (hc : c < 16) :
    (s.stopUnit (.lane l) c).pwr (oPwrLane l.val) = 3 ∧ (s.stopUnit (.lane l) c).fld (oPwrLane l.val) 23 20 = c ∧
      (s.stopUnit (.lane l) c).bit (oPwrLane l.val) 31 = s.bit (oPwrLane l.val) 31 := by
  have hstop : s.stopUnit (.lane l) c =
      (((s.setPwr (oPwrLane l.val) 3).setFld (oPwrLane l.val) 23 20 c).setBit (oPwrLane l.val) 29 false).laneOff l.val := by
    simp only [State.stopUnit, State.stopOne, pwrOff, hon, ne_eq, not_true_eq_false, if_false, if_true, State.stopHook]
  obtain ⟨hst, hcause, hen⟩ := State.stopWord hwf (oPwrLane l.val) hc
  have hoff := (State.Steady.refl (· = oPwrLane l.val)
    (((s.setPwr (oPwrLane l.val) 3).setFld (oPwrLane l.val) 23 20 c).setBit (oPwrLane l.val) 29 false)).laneOff (l := l.val)
  rw [hstop, hoff.pwr rfl (not_above_lane l), hoff.fld rfl (not_above_lane l), hoff.bit rfl (not_above_lane l)]
  exact ⟨hst, hcause, hen⟩

/-- R36: EN = 0 of a unit that is ON stops it. -/
theorem State.disableUnit_of_on {u : Sys2Proof.PUnit} (hon : s.pwr (pwrOff u) = 2) :
    ∃ r : State, s.disableUnit u = r.stopUnit u 0 ∧ r.regs = (s.setBit (pwrOff u) 31 false).regs := by
  unfold State.disableUnit
  extract_lets o s1 _ s2
  split
  · exact ⟨s2, rfl, rfl⟩
  · next h => exact absurd (h.symm.trans hon) (by decide)
  · next h _ => exact absurd hon h

/-- R36: EN = 0 of a lane that is ON. -/
theorem State.disableUnit_lane (hwf : State.regsWf s = true) {l : Lane} (hon : s.pwr (oPwrLane l.val) = 2) :
    (s.disableUnit (.lane l)).pwr (oPwrLane l.val) = 3 ∧ (s.disableUnit (.lane l)).bit (oPwrLane l.val) 31 = false ∧
      (s.disableUnit (.lane l)).fld (oPwrLane l.val) 23 20 = 0 := by
  obtain ⟨u, hdis, hregs⟩ := State.disableUnit_of_on (u := .lane l) hon
  have hreg (hi lo : Nat) : u.fld (oPwrLane l.val) hi lo =
      (s.setBit (oPwrLane l.val) 31 false).fld (oPwrLane l.val) hi lo := by
    simp only [State.fld, State.reg, hregs, pwrOff]
  have hwf' : State.regsWf u = true := by
    simp only [State.regsWf, hregs]
    exact State.wf_setBit hwf ..
  have hon' : u.pwr (oPwrLane l.val) = 2 := (hreg 26 24).trans ((State.fld_setBit_beside hwf _ _ (by omega) (by omega)).trans hon)
  have hen' : u.bit (oPwrLane l.val) 31 = false := by
    rw [State.bit, hreg, ← State.bit]
    exact State.bit_setBit_self hwf _ _ (by omega)
  obtain ⟨hst, hcause, hen⟩ := State.stopUnit_lane hwf' hon' (c := 0) (by omega)
  rw [hdis]
  exact ⟨hst, hen.trans hen', hcause⟩

/-- R36: no stop of a lane that comes ON has become due. -/
theorem State.dueCause_lane (hparent : s.parentOn (.lane l) = true) (hact : s.nightState = 0) (hen : s.bit (oPwrLane l.val) 31 = true)
    (hdue : SMap.find s.sys.due (oPwrLane l.val) = none) : s.dueCause (.lane l) = none := by
  simp [State.dueCause, pwrOff, hact, hdue, hparent, State.pwrEn, hen]

/-- UNIT_START_DONE of a unit that no stop awaits. -/
theorem State.startDone_of_none {u : Sys2Proof.PUnit} {r : State} (hst : s.pwr (pwrOff u) = 1 ∧ s.startReady u = true)
    (hr : ((s.setPwr (pwrOff u) 2).setBit (pwrOff u) 29 false).onHook u = r) (hdue : r.dueCause u = none) :
    s.startDone u = r.startWaiting (childUnits u) := by
  unfold State.startDone
  rw [if_pos hst]
  dsimp only
  rw [hr, hdue]

/-- UNIT_START_DONE of a lane whose EN and parent have stayed. -/
theorem State.startDone_lane (hwf : State.regsWf s = true) {l : Lane} (hst : s.pwr (oPwrLane l.val) = 1) (hen : s.bit (oPwrLane l.val) 31 = true)
    (hparent : s.parentOn (.lane l) = true) (hact : s.nightState = 0) (hdue : SMap.find s.sys.due (oPwrLane l.val) = none) :
    (s.startDone (.lane l)).pwr (oPwrLane l.val) = 2 := by
  have h1 : State.regsWf (s.setPwr (oPwrLane l.val) 2) = true := State.wf_setFld hwf ..
  have hne : oPwrLane l.val ≠ oPwrTile (l.val / 12 % 4) := by simp only [oPwrLane, oPwrTile]; omega
  have hne' : oPwrLane l.val ≠ 0x394 := by have := l.isLt; simp only [oPwrLane]; omega
  have hon := (State.Steady.refl (fun _ => True) ((s.setPwr (oPwrLane l.val) 2).setBit (oPwrLane l.val) 29 false)).laneOn (l := l.val)
  generalize hr : ((s.setPwr (oPwrLane l.val) 2).setBit (oPwrLane l.val) 29 false).laneOn l.val = r at hon
  have hword (h lo : Nat) (hbeside : h < 24 ∨ 26 < lo) (hbeside' : h < 29 ∨ 29 < lo) : r.fld (oPwrLane l.val) h lo = s.fld (oPwrLane l.val) h lo := by
    rw [hon.fld trivial (not_above_lane l), State.fld_setBit_beside h1 _ _ (by omega) hbeside', State.setPwr,
      State.fld_setFld_beside hwf _ _ (by omega) (by omega) hbeside]
  have hpwr : r.pwr (oPwrLane l.val) = 2 := (hon.pwr trivial (not_above_lane l)).trans (State.startWord hwf _ (by omega)).1
  have hen' : r.bit (oPwrLane l.val) 31 = true := by rw [State.bit, hword 31 31 (by omega) (by omega), ← State.bit, hen]
  have hpar' : r.parentOn (.lane l) = true :=
    (State.isOn_congr ((hon.pwr trivial (by simp [Above, oPwrTile]; omega)).trans
      ((State.fld_setFld_ne hne ..).trans (State.fld_setFld_ne hne ..)))).trans hparent
  have hact' : r.nightState = 0 := (hon.fld trivial (by simp [Above]) 9 8).trans
    (((State.fld_setFld_ne hne' ..).trans (State.fld_setFld_ne hne' ..)).trans hact)
  have hdue' : SMap.find r.sys.due (oPwrLane l.val) = none := by
    rw [hon.sysOf (·.due), State.setBit_sys, State.setPwr_sys, hdue]
  have hdone : s.startDone (.lane l) = r := by
    rw [State.startDone_of_none (u := .lane l) ⟨hst, rfl⟩ hr (State.dueCause_lane hpar' hact' hen' hdue')]
    simp [State.startWaiting, hact', State.startAll, childUnits]
  rw [hdone, hpwr]

theorem State.addOffMin_regs {o : Nat} : (s.addOffMin o).regs = s.regs := by
  unfold State.addOffMin
  split <;> rfl

theorem State.offMinRuns_addOffMin (s : State) (o : Nat) : (s.addOffMin o).offMinRuns o = true := by
  unfold State.addOffMin
  split
  · assumption
  · simp [State.offMinRuns]

/-- UNIT_STOP_DONE of a lane. -/
theorem State.stopDone_lane (hwf : State.regsWf s = true) {l : Lane} (hst : s.pwr (oPwrLane l.val) = 3) :
    (s.stopDone (.lane l)).pwr (oPwrLane l.val) = 0 ∧ (s.stopDone (.lane l)).offMinRuns (oPwrLane l.val) = true := by
  have hdone : s.stopDone (.lane l) = (s.setPwr (oPwrLane l.val) 0).addOffMin (oPwrLane l.val) := if_pos ⟨hst, rfl⟩
  rw [hdone, State.pwr, State.fld_congr State.addOffMin_regs, State.setPwr, State.fld_setFld_self hwf _ _ (by omega) (by omega)]
  exact ⟨rfl, State.offMinRuns_addOffMin ..⟩

/-- UNIT_OFF_MIN_EXPIRY of a unit with EN = 0 ends t_off_min and starts nothing of it. -/
theorem State.offMinOver_off {u : Sys2Proof.PUnit} (hrun : s.offMinRuns (pwrOff u) = true) (hen : s.pwrEn u = false) :
    (s.offMinOver u).offMinRuns (pwrOff u) = false := by
  unfold State.offMinOver State.startWaiting
  rw [if_pos hrun]
  generalize hr : ({ s with sys := { s.sys with offMin := s.sys.offMin.filter (· ≠ pwrOff u) } } : State) = r
  have hover : r.offMinRuns (pwrOff u) = false := by simp [← hr, State.offMinRuns]
  have hen' : r.pwrEn u = false := by rw [← hr]; exact hen
  split
  · simpa [State.startAll, hen'] using hover
  · split
    · have hpump := (State.Steady.refl (fun _ => False) r).exitPump fun _ => False.elim
      rw [State.offMinRuns, hpump.sysOf (·.offMin), ← State.offMinRuns, hover]
    · exact hover

end Sys2Proof.Machine
end

section
open Sys2Proof Sys2Proof.Machine

/-- Settles O20: a write of a lane's register is the lane's request, whose steps leave its STATE and EN as R36 says; what a lane's coming and going
does in other blocks does not reach the power registers. -/
theorem unitPowerCyclesComplete : Obligations.UnitPowerCyclesComplete := by
  refine ⟨fun req l s hinv hub die hmay hact => ?_, fun l s hinv hst hen hpar hact hdue => ?_, fun req l s hinv hub die hon => ?_,
    fun l s hinv hst => ?_, fun u s hrun hen => ?_⟩
  · have hwf := hinv.regsWf
    have hact' : (s.setFld (oPwrLane l.val) 30 30 0).nightState = 0 :=
      (State.fld_setFld_ne (by have := l.isLt; simp only [oPwrLane]; omega) ..).trans hact
    exact ⟨_, congrArg Host.Outcome.next (State.cmdWrite_lane hub die (State.pwrWrite_lane_on hmay)),
      State.requestOn_lane (State.wf_setFld hwf ..) ((State.mayStart_lane_setFld hwf l 0).trans hmay) hact'⟩
  · exact ⟨_, rfl, State.startDone_lane hinv.regsWf hst hen hpar hact hdue⟩
  · have hwf := hinv.regsWf
    have hon' : (s.setFld (oPwrLane l.val) 30 30 0).pwr (oPwrLane l.val) = 2 :=
      (State.fld_setFld_beside hwf _ _ (by omega) (by omega) (by omega)).trans hon
    exact ⟨_, congrArg Host.Outcome.next (State.cmdWrite_lane hub die (State.pwrWrite_lane_off l)), State.disableUnit_lane (State.wf_setFld hwf ..) hon'⟩
  · exact ⟨_, rfl, State.stopDone_lane hinv.regsWf hst⟩
  · exact ⟨_, rfl, State.offMinOver_off hrun hen⟩

end

section
/-! SUPPORT. The start of the device (R29 to R31): the straps, and what the hub and the release of the power-on reset reach. -/

namespace Sys2Proof.Machine

set_option Elab.async false

variable {P : Nat → Prop} {s t : State}

namespace State.Steady

theorem modelRestore (h : Steady P s t) : Steady P s t.modelRestore :=
  (h.foldl fun _ _ _ hr => hr.setReg).setFld.setBit.setBit

theorem setNow {n : Nat} (h : Steady P s t) : Steady P s { t with now := n } := h.behind
theorem setTim {x : TimSt} (h : Steady P s t) : Steady P s (t.setTim x) := h.behind
theorem timSeed (h : Steady P s t) : Steady P s t.timSeed := h.setNow.setTim.setBit.modelRestore.when h.setNow.setBit.timLog

end State.Steady

/-- The word of the straps: MODE, DBG_EN and the mark of a reserved MODE (R30). -/
theorem bitsOf_strapWord (mode : BitVec 3) (bad d : Bool) :
    let v := BitVec.ofNat 32 ((if bad then 2 ^ 31 else 0) + (if d then 8 else 0) + mode.toNat)
    bitsOf v 2 0 = mode.toNat ∧ bitsOf v 3 3 = d.toNat ∧ bitsOf v 31 31 = bad.toNat := by
  have hmode := mode.isLt
  have hbad := bad.toNat_le
  have hd := d.toNat_le
  have hmark : (if bad then 2 ^ 31 else 0) = 2 ^ 31 * bad.toNat := by cases bad <;> rfl
  have hen : (if d then 8 else 0) = 8 * d.toNat := by cases d <;> rfl
  simp only [bitsOf, BitVec.toNat_ofNat, hmark, hen]
  omega

theorem State.strapBits (hwf : State.regsWf s = true) (mode : BitVec 3) (bad d : Bool) :
    let t := s.setReg oStrap (BitVec.ofNat 32 ((if bad then 2 ^ 31 else 0) + (if d then 8 else 0) + mode.toNat))
    t.fld oStrap 2 0 = mode.toNat ∧ t.bit oStrap 3 = d ∧ t.bit oStrap 31 = bad := by
  obtain ⟨hmode, hd, hbad⟩ := bitsOf_strapWord mode bad d
  dsimp only at hmode hd hbad ⊢
  simp only [State.bit, State.fld_setReg_self hwf, hmode, hd, hbad]
  cases d <;> cases bad <;> simp

end Sys2Proof.Machine
end

section
open Sys2Proof Sys2Proof.Machine

/-- Settles O21: a pin, a rail or the link is one assignment; the sampled straps read back; what follows the hub's start and the release of the
power-on reset does not reach the pins. -/
theorem startUpComplete : Obligations.StartUpComplete := by
  refine ⟨fun s => ⟨_, rfl, rfl, rfl⟩, fun s => ⟨_, rfl, rfl, rfl⟩, fun s => ⟨_, rfl, rfl, rfl⟩, fun s => ⟨_, rfl, rfl, rfl⟩, fun s => ⟨_, rfl, rfl, rfl⟩,
    fun s hact hpor h1 h2 h3 h4 hlow => ?_, fun mode d s hwf hact hstrap => ?_, fun s hact hstrap hhub => ?_, fun s hhub => ?_, fun s => rfl,
    fun s hperst hhub => ?_, fun s hlink => ?_, fun s hlink => ?_, fun s => rfl, fun tag s hlink hready => ?_⟩
  · have hclear : s.porClear = true := by simp [State.porClear, hpor, h1, h2, h3, h4, hlow]
    refine ⟨_, congrArg Host.Outcome.next (if_pos ⟨hact, hclear⟩), ?_⟩
    exact (State.Steady.refl (fun _ => False) _).catchHalts.sysOf (·.porActive)
  · obtain ⟨hmode, hd, hbad⟩ := State.strapBits hwf mode (decide (2 < mode.toNat)) d
    exact ⟨_, if_pos ⟨hact, hstrap⟩, hmode, hd, hbad, rfl, fun h => by simp [h]⟩
  · refine ⟨_, congrArg Host.Outcome.next (if_pos ⟨hact, hstrap, hhub⟩), ?_⟩
    exact ((State.Steady.refl (fun _ => False) _).timSeed.startWaiting fun _ => False.elim).sysOf (·.hubOn)
  · exact congrArg Host.Outcome.next (if_pos hhub)
  · exact congrArg Host.Outcome.next (if_pos ⟨hperst, hhub⟩)
  · exact ⟨_, congrArg Host.Outcome.next (if_pos hlink), rfl, rfl, rfl⟩
  · exact congrArg Host.Outcome.next (if_pos hlink)
  · exact (if_neg (by simp [hlink])).trans (if_pos hready)

end

section
/-! SUPPORT. The power-on reset (R29, R43, R260): what it leaves outside the registers and the channels, and the flash operation it ends. -/

namespace Sys2Proof.Machine

set_option Elab.async false

variable {P : Nat → Prop} {s t : State}

namespace State.Steady

theorem setFlash {f : SMap Byte} (h : Steady P s t) : Steady P s (t.setFlash f) := h.behind

theorem putData {base : Nat} (l : List Byte) (h : Steady P s t) (hb : Above base) (i : Nat) : Steady P s (t.putData base i l) := by
  induction l generalizing t i with
  | nil => exact h
  | cons b l ih => exact ih (h.setFld (ho := by simp [hb])) (i + 1)

theorem flashProgram (l : List Byte) (h : Steady P s t) (a : Nat) : Steady P s (t.flashProgram a l) := by
  induction l generalizing t a with
  | nil => exact h
  | cons b l ih => exact ih h.setFlash (a + 1)

theorem flashEffect {f : FlashOp} {d : List Byte} (h : Steady P s t) : Steady P s (t.flashEffect f d) := by
  have hbuf (l : List Byte) : Steady P s (t.putData (oMgm + 0x1000) 0 l) := h.putData l (by simp) 0
  unfold State.flashEffect
  split
  · exact hbuf _
  · exact h.flashProgram _ _
  · exact h.setFlash
  · exact h.setFlash
  · exact hbuf _

theorem flashTorn {a : Nat} (n : Nat) (h : Steady P s t) : Steady P s (t.flashTorn a n) := by
  induction n with
  | zero => exact h
  | succ n ih => exact ih.setFlash

theorem flashBroken {f : FlashOp} (h : Steady P s t) : Steady P s (t.flashBroken f) := by
  unfold State.flashBroken
  split
  · exact (h.flashTorn _).behind
  · exact h

end State.Steady

/-- The state but for its registers and DRAM channels. -/
def State.bare (s : State) : State := { s with regs := [], mem := [] }

theorem State.bare_setReg (s : State) (o : Nat) (v : Word) : (s.setReg o v).bare = s.bare := rfl

theorem State.bare_ite {c : Prop} [Decidable c] {s t : State} (h : t.bare = s.bare) : (if c then s else t).bare = s.bare := by
  split
  · rfl
  · exact h

theorem State.bare_foldl {α : Type} {f : State → α → State} (hf : ∀ (r : State) (x : α), (f r x).bare = r.bare) (l : List α) (s : State) :
    (l.foldl f s).bare = s.bare := by
  induction l generalizing s with
  | nil => rfl
  | cons x l ih => exact (ih _).trans (hf s x)

/-- What a power-on reset keeps of the pins: those of the rails and of the resets, and the brown-out monitors (R29, R43). -/
def SysSt.porKept (y : SysSt) : SysSt :=
  { porN := y.porN, g1 := y.g1, g2 := y.g2, g3 := y.g3, g4 := y.g4, perstN := y.perstN, warn := y.warn, low := y.low }

/-- R29: everything the power-on reset does not keep is as at reset. -/
theorem State.bare_porReset (s : State) (trip : Bool) : ∃ c e f, (s.porReset trip).bare = { State.reset with
    pending := s.pending, fuses := s.fuses, rtc := { s.rtc with snaps := [] }, out := s.out, freeCtr := c, eng := e, mgm := { flash := f },
    sys := s.sys.porKept } := by
  unfold State.porReset
  extract_lets s0 s1 _ _ r r1 r2 r3
  have hr : r.bare = _ := rfl
  have h1 : r1.bare = r.bare := State.bare_foldl (by intros; rfl) ..
  have h2 : r2.bare = r1.bare := State.bare_setReg ..
  have h3 : r3.bare = r2.bare := State.bare_ite (State.bare_foldl (fun _ _ => State.bare_setReg ..) ..)
  clear_value r3 r2 r1
  exact ⟨s1.freeCtr, s1.eng, s0.mgm.flash, (State.bare_ite (State.bare_setReg r3 ..).symm).trans ((State.bare_setReg ..).trans (h3.trans (h2.trans (h1.trans hr))))⟩

theorem State.afterPor_porReset (s : State) (trip : Bool) : Stated.AfterPor s (s.porReset trip) := by
  obtain ⟨c, e, f, hbare⟩ := State.bare_porReset s trip
  have hof {α : Type} (g : State → α) : g (s.porReset trip).bare = g _ := congrArg g hbare
  have hsys := hof (·.sys)
  exact ⟨congrArg SysSt.porActive hsys, congrArg SysSt.hubOn hsys, congrArg SysSt.strapped hsys, hof (·.fuses), hof (·.pending), hof (·.sch),
    hof (·.mbx), hof (·.ser), hof (·.leng), hof (·.lnk), hof (·.rec_), hof (·.dbg)⟩

theorem State.addLow_fuses (s : State) (m : BorMon) : (s.addLow m).fuses = s.fuses := by unfold State.addLow; split <;> rfl
theorem State.addLow_pending (s : State) (m : BorMon) : (s.addLow m).pending = s.pending := by unfold State.addLow; split <;> rfl

theorem State.addWarn_fuses (s : State) (m : BorMon) : (s.addWarn m).fuses = s.fuses := by
  unfold State.addWarn
  split
  · exact s.addLow_fuses m
  · rw [State.setBit_fuses, State.setBit_fuses, State.addLow_fuses]

theorem State.addWarn_pending (s : State) (m : BorMon) : (s.addWarn m).pending = s.pending := by
  unfold State.addWarn
  split
  · exact s.addLow_pending m
  · rw [State.setBit_pending, State.setBit_pending, State.addLow_pending]

/-- The reset from a state that has noted its pins. -/
theorem State.afterPor_pins (hf : t.fuses = s.fuses) (hp : t.pending = s.pending) {y : SysSt} {trip : Bool} :
    Stated.AfterPor s (State.porReset { t with sys := y } trip) := by
  obtain ⟨hact, hhub, hstrap, hfuses, hpending, hrest⟩ := State.afterPor_porReset { t with sys := y } trip
  exact ⟨hact, hhub, hstrap, hfuses.trans hf, hpending.trans hp, hrest⟩

/-- R29: the rails, POR_N and the link's pin are as before. -/
theorem State.sys_porReset (s : State) (trip : Bool) : (s.porReset trip).sys = s.sys.porKept := by
  obtain ⟨c, e, f, hbare⟩ := State.bare_porReset s trip
  exact congrArg State.sys hbare

theorem State.rtc_porReset (s : State) (trip : Bool) : (s.porReset trip).rtc = { s.rtc with snaps := [] } := by
  obtain ⟨c, e, f, hbare⟩ := State.bare_porReset s trip
  exact congrArg State.rtc hbare

/-- R43: the reset cause of a trip. -/
theorem State.rstCause_porReset (s : State) : (s.porReset true).reg oRstCause = 3 := by
  unfold State.porReset
  exact SMap.get_set_of_ne (d := regReset) (k := oRstCause) (v := 3) (by decide)

theorem State.wf_foldl {α : Type} {f : State → α → State} {l : List α} (h : State.regsWf s = true)
    (hf : ∀ (r : State) (x : α), State.regsWf r = true → State.regsWf (f r x) = true) : State.regsWf (l.foldl f s) = true :=
  List.foldlRecOn (motive := fun r => State.regsWf r = true) l f h fun r hr x _ => hf r x hr

theorem State.wf_pins (hwf : State.regsWf s = true) (y : SysSt) : State.regsWf { s with sys := y } = true := hwf

/-- The calendar's registers stay canonical. -/
theorem State.wf_porReset (hwf : State.regsWf s = true) (trip : Bool) : State.regsWf (s.porReset trip) = true := by
  unfold State.porReset
  extract_lets s0 s1 _ _ r r1 r2 r3
  have h0 : State.regsWf s0 = true := by
    unfold s0
    split
    · exact ((State.Steady.refl (fun _ => False) s).flashEffect).wf hwf
    · exact hwf
  have hr : State.regsWf r = true := SMap.wf_filter h0
  have h1 : State.regsWf r1 = true := State.wf_foldl hr fun _ _ h => h
  have h2 : State.regsWf r2 = true := State.wf_setBit h1 ..
  have h3 : State.regsWf r3 = true := by
    unfold r3
    split
    · exact h2
    · exact State.wf_foldl h2 fun _ _ h => State.wf_setReg h ..
  split
  · exact State.wf_setReg h3 ..
  · exact h3

/-- What the loss of VBAT and G1 leaves of a state whose flash operation has broken off (R39, R260). -/
def State.powerLost (s0 : State) : State :=
  let s1 := ({ s0 with sys := { s0.sys with porN := false, g1 := false, g2 := false, g3 := false, g4 := false } }).porReset false
  let s2 := { s1 with rtc := {}, regs := s1.regs.filter (fun e => !(decide (0xE00000 ≤ e.1) && decide (e.1 < 0xF00000))) }
  (s2.setBit oRtcStat 31 false).setBit oRtcStat 30 true

theorem State.powerLoss_eq (s : State) : ∃ s0 : State, State.Steady (fun _ => False) s s0 ∧ exec .powerLoss s = .next s0.powerLost := by
  refine ⟨_, ?_, rfl⟩
  split
  · exact (State.Steady.refl _ s).flashBroken.behind
  · exact State.Steady.refl _ s

/-- The marks of a calendar that has lost its time. -/
theorem State.calendarLost (hwf : State.regsWf s = true) :
    ((s.setBit oRtcStat 31 false).setBit oRtcStat 30 true).bit oRtcStat 31 = false ∧
      ((s.setBit oRtcStat 31 false).setBit oRtcStat 30 true).bit oRtcStat 30 = true := by
  have h1 : State.regsWf (s.setBit oRtcStat 31 false) = true := State.wf_setBit hwf ..
  refine ⟨?_, State.bit_setBit_self h1 _ _ (by omega)⟩
  rw [State.bit_setBit_beside h1 _ _ (by omega) (by omega), State.bit_setBit_self hwf _ _ (by omega)]

theorem State.powerLost_spec (hwf : State.regsWf s = true) : s.powerLost.sys.hubOn = false ∧ s.powerLost.sys.g1 = false ∧ s.powerLost.rtc = {} ∧
    s.powerLost.fuses = s.fuses ∧ s.powerLost.bit oRtcStat 31 = false ∧ s.powerLost.bit oRtcStat 30 = true := by
  unfold State.powerLost
  extract_lets _ s1 s2
  have h1 : State.regsWf s1 = true := State.wf_porReset (State.wf_pins hwf _) _
  have hsys : s1.sys.hubOn = false ∧ s1.sys.g1 = false := by
    unfold s1
    rw [State.sys_porReset]
    exact ⟨rfl, rfl⟩
  obtain ⟨-, -, -, hfuses, -⟩ : Stated.AfterPor s s1 := State.afterPor_pins rfl rfl
  clear_value s1
  rw [State.setBit_sys, State.setBit_sys, State.setBit_rtc, State.setBit_rtc, State.setBit_fuses, State.setBit_fuses]
  exact ⟨hsys.1, hsys.2, rfl, hfuses, State.calendarLost (SMap.wf_filter h1)⟩

end Sys2Proof.Machine
end

section
open Sys2Proof Sys2Proof.Machine

/-- Settles O22: the power-on reset leaves AfterPor whatever asks for it, a trip writes the cause last, and the loss of VBAT leaves the calendar at
its reset. -/
theorem powerOnResetsComplete : Obligations.PowerOnResetsComplete := by
  refine ⟨fun s hpor => ?_, fun s _ => ?_, fun s _ => ?_, fun s hwf => ?_, fun s hwf => ⟨s.setBit oRtcStat 29 true, rfl, State.bit_setBit_self hwf _ _ (by omega)⟩⟩
  · refine ⟨_, congrArg Host.Outcome.next (if_pos hpor), State.afterPor_pins rfl rfl, ?_, ?_⟩
    · rw [State.sys_porReset]
      rfl
    · rw [State.rtc_porReset]
  · exact ⟨_, rfl, State.afterPor_pins (State.addWarn_fuses s _) (State.addWarn_pending s _), State.rstCause_porReset _⟩
  · exact ⟨_, rfl, State.afterPor_pins (State.addWarn_fuses s _) (State.addWarn_pending s _), State.rstCause_porReset _⟩
  · obtain ⟨s0, hs0, hexec⟩ := State.powerLoss_eq s
    obtain ⟨hhub, hg1, hrtc, hfuses, hvalid, hlost⟩ := State.powerLost_spec (hs0.wf hwf)
    exact ⟨_, hexec, hhub, hg1, hrtc, hfuses.trans hs0.fuses, hvalid, hlost⟩

end

section
/-! SUPPORT. The DRAM channels and their controllers (R321 to R357): what they do does not reach the SYS power block. -/

namespace Sys2Proof.Machine

set_option Elab.async false

namespace State.Steady

variable {P : Nat → Prop} {s t u : State}

/-! ## The data of an access -/

theorem draw (h : Steady P s t) : Steady P s t.draw.2 := h.behind
theorem send {m : NetMsg} (h : Steady P s t) : Steady P s (t.send m) := h.behind
theorem answer {p : Pkt} {w e : Bool} {n : Nat} {l : List Byte} (h : Steady P s t) : Steady P s (t.answer p w n e l) := h.send

theorem noteLine {k a g n : Nat} {ue m : Bool} (h : Steady P s t) : Steady P s (t.noteLine k a ue m g n) := h.setReg.setReg.setReg

theorem uncorrectable {k a q c : Nat} {f : Found} {l : List DGran} {m : Bool} (h : Steady P s t) : Steady P s (t.uncorrectable k a f l m q c) :=
  h.count.noteLine.log

theorem corrections {k a : Nat} {f : Found} {l : List DGran} (h : Steady P s t) : Steady P s (t.corrections k a f l) := by
  unfold State.corrections
  split
  · exact h
  · exact (h.foldl fun _ _ _ hr => hr.oneCorrection).noteLine

theorem putMarker {a : Nat} (h : Steady P s t) : Steady P s (t.putMarker a) := h.putLine
theorem tagFail {r a q : Nat} (h : Steady P s t) : Steady P s (t.tagFail r a q) := h.count.logLim

theorem plainOf {l q : Nat} {f : Found} (h : Steady P s t) : Steady P s (t.plainOf l q f).1 := by
  unfold State.plainOf
  split
  · exact h
  · split
    · exact h
    · dsimp only
      split
      · exact h
      · split
        · exact h
        · split
          · exact h
          · exact h.tagFail

theorem lineDone {k id line : Nat} {l : List Byte} {p e : Bool} (h : Steady P s t) : Steady P s (t.lineDone k id line l p e) := by
  unfold State.lineDone
  dsimp only
  split
  · exact h
  · split
    · exact h.setChan.answer
    · exact h.setChan

theorem setWq {k : Nat} {e : WrEnt} (h : Steady P s t) : Steady P s (t.setWq k e) := h.setChan
theorem partRefused {k line q : Nat} (h : Steady P s t) : Steady P s (t.partRefused k line q) := h.log

theorem refuseParts {k : Nat} {e : WrEnt} (h : Steady P s t) : Steady P s (t.refuseParts k e) :=
  h.setChan.foldl fun _ _ _ hr => hr.partRefused.lineDone

theorem writeBack {k line n : Nat} {l : List DGran} {b : Bool} (h : Steady P s t) : Steady P s (t.writeBack k line n l b) :=
  h.when (h.putLine.when (h.setChan.when h.putLine))

theorem readData {k : Nat} {e : RdEnt} {l : List (BitVec 64 × BitVec 16)} (h : Steady P s t) : Steady P s (t.readData k e l) := by
  unfold State.readData
  extract_lets asRead f x q s1 mark s2 s2' s3
  have h1 : Steady P s s1 := h.setChan
  have h2 : Steady P s s2 := h1.uncorrectable
  have h2' : Steady P s s2' := h1.count.when h1
  have h3 : Steady P s s3 := h2'.when h2'.corrections.writeBack
  refine h.setChan.when ((h2.putMarker.when h2).lineDone.when ?_)
  split
  next s4 d hplain =>
    have h4 : Steady P s s4 := by simpa only [hplain] using h3.plainOf (l := e.line) (q := q) (f := f)
    split <;> exact h4.lineDone

theorem mergeData {k : Nat} {e : WrEnt} {l : List (BitVec 64 × BitVec 16)} (h : Steady P s t) : Steady P s (t.mergeData k e l) := by
  unfold State.mergeData
  extract_lets asRead f x s1 done settled s2 s3
  have h1 : Steady P s s1 := h.setChan
  have h2 : Steady P s s2 := h1.count.when h1
  have h3 : Steady P s s3 := h2.when h2.corrections
  refine h.setWq.when (when (((h1.when h1.uncorrectable).setWq).when (h1.refuseParts.when h1.uncorrectable.putMarker.refuseParts)) (h3.setWq.when ?_))
  split
  next s4 d hplain =>
    have h4 : Steady P s s4 := by simpa only [hplain] using h3.plainOf (l := e.line) (q := e.src) (f := f)
    split
    · exact h4.refuseParts
    · exact h4.setWq.foldl fun _ _ _ hr => hr.lineDone

theorem readLeaf {a : Nat} (h : Steady P s t) : Steady P s (t.readLeaf a) := by
  unfold State.readLeaf
  split
  · exact h
  · exact h.readBlk

theorem memData {k : Nat} {l : List (BitVec 64 × BitVec 16)} (h : Steady P s t) : Steady P s (t.memData k l) := by
  unfold State.memData
  dsimp only
  split
  · exact h
  · split
    · split
      · exact h.setChan
      · exact h.readLeaf.mergeData.when h.readLeaf
    · split
      · exact h.setChan
      · exact h.readLeaf.readData.when h.readLeaf

/-! ## The cycle of a controller -/

theorem hammer {k b r q : Nat} (h : Steady P s t) : Steady P s (t.hammer k b r q) := h.when (h.setChan.setFld.count.logLim.when h.setChan)

theorem activate {k b r q : Nat} (h : Steady P s t) : Steady P s (t.activate k b r q) := by
  unfold State.activate
  extract_lets x x1 s1 s2 pn s3 y n s4
  have h1 : Steady P s s1 := h.setChan
  have h2 : Steady P s s2 := h1.hammer.when h1
  have h3 : Steady P s s3 := h2.when (h2.draw.setChan.when h2.draw)
  have h4 : Steady P s s4 := h3.setChan
  exact (h4.setChan.when h4).when h3

theorem dropWq {k n : Nat} (h : Steady P s t) : Steady P s (t.dropWq k n) := h.setChan

theorem storeEntry {k : Nat} {e : WrEnt} (h : Steady P s t) : Steady P s (t.storeEntry k e) := by
  unfold State.storeEntry
  split
  · exact h.putLine.dropWq
  · refine h.putMarker.putLine.dropWq.when ?_
    split
    · exact h.putLine.dropWq
    · dsimp only
      refine h.readBlk.dropWq.when ?_
      split
      · exact h.readBlk
      · exact (h.readBlk.when h.readBlk.setRange.count).when h.readBlk.setCached.putLine.dropWq

theorem afterAccess {k : Nat} {c : MemCmd} (h : Steady P s t) : Steady P s (t.afterAccess k c) := h.setChan
theorem drainMode {k : Nat} (h : Steady P s t) : Steady P s (t.drainMode k) := h.setChan.setBit
theorem issueRefresh {k r : Nat} (h : Steady P s t) : Steady P s (t.issueRefresh k r) := h.setChan
theorem issueNr {k n : Nat} (h : Steady P s t) : Steady P s (t.issueNr k n) := h.setChan.count.when h.setChan.count

/-! The choice of a row and the entry of a store stand for any operations below: the kernel would compute the queues they leave. -/

theorem issueAccess {k : Nat} {c : MemCmd} (h : Steady P s t) : Steady P s (t.issueAccess k c) := by
  have hdef := Eq.refl @State.issueAccess
  conv_rhs at hdef => delta State.issueAccess
  have h0 : Steady P s (if c.hit then t else t.activate k c.bank c.row c.req) := h.when h.activate
  have hstore (u : State) (e : WrEnt) (hu : Steady P s u) : Steady P s (u.storeEntry k e) := hu.storeEntry
  obtain ⟨activate, ha⟩ := exists_eq (a' := @State.activate)
  obtain ⟨storeEntry, hst⟩ := exists_eq (a' := @State.storeEntry)
  rw [← ha] at h0
  rw [← hst] at hstore
  rw [hdef, ← ha, ← hst]
  clear hdef ha hst
  beta_reduce
  extract_lets s0 x s1
  have h1 : Steady P s s1 := by
    refine h0.setChan.when ?_
    split
    · exact h0
    · exact h0.setChan.when (hstore _ _ h0)
  exact h1.afterAccess.drainMode

theorem memCycle {k : Nat} (h : Steady P s t) : Steady P s (t.memCycle k) := by
  have hdef := Eq.refl @State.memCycle
  conv_rhs at hdef => delta State.memCycle
  have h0 := (h.drainMode (k := k)).setChan (k := k) (x := { (t.drainMode k).chan k with reissue := false, reissues := 0 })
  obtain ⟨drainMode, hd⟩ := exists_eq (a' := @State.drainMode)
  rw [← hd] at h0
  rw [hdef, ← hd]
  clear hdef hd
  dsimp only
  refine h.when ?_
  split
  · split
    · exact h0.issueRefresh.when (h0.issueNr.when h0.issueAccess)
    · split
      · exact h0.issueRefresh
      · exact h0
  · split
    · exact h.issueRefresh
    · exact h.setSr.count.setChan
  · exact h.setSr.setChan
  · exact h

theorem memFinish {k : Nat} (n : Nat) (h : Steady P s t) : Steady P s (State.memFinish k n t) := by
  induction n generalizing t with
  | zero => exact h
  | succ n ih => exact h.when (ih h.setChan.memCycle.memData)

end State.Steady

end Sys2Proof.Machine
end

section
/-! SUPPORT. Resets of the scheduler (R39, R194): every context is free and no flow is locked, and what follows a reset keeps it so. -/

namespace Sys2Proof.Machine

set_option Elab.async false

/-- No context holds a task, and no flow is known. -/
def State.Taskless (s : State) : Prop := (∀ e ∈ s.sch.ctx, e.2.st = .free) ∧ s.sch.flow = []

theorem SMap.mem_of_find {α : Type} {m : SMap α} {k : Nat} {v : α} (h : SMap.find m k = some v) : (k, v) ∈ m := by
  induction m with
  | nil => cases h
  | cons e m ih =>
    simp only [SMap.find] at h
    split at h
    · next hk =>
      cases h
      exact hk ▸ List.mem_cons_self
    · exact List.mem_cons_of_mem _ (ih h)

namespace State.Taskless

variable {s t u : State}

theorem ctx_free (h : t.Taskless) (x : Nat) : (t.ctx x).st = .free := by
  unfold State.ctx SMap.get
  cases hx : SMap.find t.sch.ctx x with
  | none => rfl
  | some c => exact h.1 _ (SMap.mem_of_find hx)

theorem flow_default (h : t.Taskless) (f : Nat) : t.flow f = {} := by
  unfold State.flow
  rw [h.2]
  rfl

/-! ## Operations that have no part in the scheduler -/

theorem behind (h : t.Taskless) (hs : u.sch = t.sch := by rfl) : u.Taskless := by
  unfold State.Taskless
  rw [hs]
  exact h

theorem when {c : Prop} [Decidable c] (hu : u.Taskless) (ht : t.Taskless) : State.Taskless (if c then u else t) := by split <;> assumption

theorem foldl {α : Type} {f : State → α → State} {l : List α} (h : t.Taskless) (hf : ∀ (r : State) (x : α), r.Taskless → (f r x).Taskless) :
    (l.foldl f t).Taskless :=
  List.foldlRecOn l f h fun r hr x _ => hf r x hr

section
variable (h : t.Taskless) {o hi l n k e m : Nat} {b : Bool} {v : Word}
include h

theorem setReg : (t.setReg o v).Taskless := h.behind
theorem setFld : (t.setFld o hi l n).Taskless := h.behind
theorem setBit : (t.setBit o k b).Taskless := h.behind
theorem setPwr : (t.setPwr o n).Taskless := h.setFld
theorem emit {x : Out} : (t.emit x).Taskless := h.behind
theorem setEng {x : EngSt} : (t.setEng e x).Taskless := h.behind
theorem setLe {x : LEngSt} : (t.setLe l x).Taskless := h.behind
theorem setMbx {x : MbxSt} : (t.setMbx n x).Taskless := h.behind
theorem setLnk {x : LnkMod} : (t.setLnk m x).Taskless := h.behind
theorem setChan {x : ChanSt} : (t.setChan k x).Taskless := h.behind
theorem setFab {f : FabTile} : (t.setFab n f).Taskless := h.behind
theorem setBorder {x : Border} : (t.setBorder n x).Taskless := h.behind
theorem setStrm {x : StrmSt} : (t.setStrm n x).Taskless := h.behind
theorem strForget : (t.strForget n).Taskless := h.behind

theorem log {r : Rec} : (t.log r).Taskless := by
  rcases t.log_cases r with hlog | hlog | hlog <;> rw [hlog]
  · exact h.behind
  · exact h.behind
  · exact h.behind

theorem cutEmission : (t.cutEmission n).Taskless := by
  unfold State.cutEmission
  dsimp only
  split
  · exact h.emit.when h
  · exact h

theorem replace : (t.replace e).Taskless := by
  unfold State.replace
  dsimp only
  refine h.when ?_
  split
  · exact h.setReg.setLe
  · exact h.setLe

theorem fabReset : (t.fabReset n).Taskless := h.setFab.foldl fun _ _ hr => hr.setBorder.when hr

theorem strSoftReset : t.strSoftReset.Taskless :=
  h.foldl fun _ _ hr => hr.cutEmission.strForget.setStrm.setBit.setReg.setReg.when hr.setReg.setReg

theorem redSoftReset : t.redSoftReset.Taskless :=
  (h.behind (u := { t with net := _ })).foldl fun _ _ hr => hr.setFld.setReg.setReg.setReg.setReg

/-! ## Events -/

theorem setCtx_free {c : TaskCtx} (hc : c.st = .free) : (t.setCtx n c).Taskless := by
  refine ⟨fun x hx => ?_, h.2⟩
  change x ∈ SMap.set (fun _ => {}) t.sch.ctx n c at hx
  unfold SMap.set at hx
  split at hx
  · exact h.1 x (SMap.mem_drop hx)
  · rcases SMap.mem_insert hx with rfl | hx
    · exact hc
    · exact h.1 x hx

/-- A free context that gets a flag stays free. -/
theorem setFlag : (t.setFlag n k).Taskless := by
  have hfree := h.ctx_free n
  unfold State.setFlag
  dsimp only
  rw [if_neg (by simp [hfree])]
  exact h.setCtx_free hfree

theorem postEvent : (t.postEvent n k).Taskless := when ⟨h.1, h.2⟩ h.setFlag

theorem mbxSignal : (t.mbxSignal n b).Taskless := by
  unfold State.mbxSignal
  dsimp only
  split
  · exact h.emit
  · exact h.emit
  · exact h.emit
  · exact h.postEvent

theorem ring : (t.ring n b v).Taskless := h.setReg.mbxSignal.when h.setReg
theorem mbxUncross : (t.mbxUncross n).Taskless := h.setBit.when h

theorem mbxResetSide : (t.mbxResetSide n b).Taskless := h.setMbx.setReg.setReg.setReg.mbxUncross.setBit.setFld.log

theorem mbxReset {l : List (Nat × Bool)} : (t.mbxReset l).Taskless := (h.foldl fun _ _ hr => hr.mbxResetSide).foldl fun _ _ hr => hr.ring

/-! ## Halts and starts -/

theorem fire : (t.fire m).Taskless := by
  unfold State.fire
  extract_lets old rise s1 s2
  have h2 : s2.Taskless := (h.setFld (t := t)).foldl fun _ _ hr => hr.setEng.when hr
  exact h.when (h2.behind.when h2)

theorem haltMgmt : (t.haltMgmt k).Taskless := by
  unfold State.haltMgmt
  extract_lets _ _ s1 s2
  have h1 : s1.Taskless := h.behind
  have h2 : s2.Taskless := h1.setBit.setFld
  exact h2.when h2.fire

theorem catchHalts : t.catchHalts.Taskless := by
  unfold State.catchHalts
  extract_lets c s1 s2
  have h2 : s2.Taskless := h.setFld.haltMgmt.when h.setFld
  exact h2.behind

theorem discardTrained : (t.discardTrained m).Taskless :=
  h.setFld.setFld.setBit.setFld.setReg.setReg.setReg.setReg.setReg.setReg.setReg.setLnk

theorem setLstate : (t.setLstate m n).Taskless := h.setFld.setBit
theorem lnkRestart : (t.lnkRestart m).Taskless := h.discardTrained.setLstate.setFld.when h.discardTrained.setLstate
theorem lnkDie : (t.lnkDie m).Taskless := h.lnkRestart.setBit.setLnk

theorem lnkDieChanged : (t.lnkDieChanged o).Taskless :=
  h.foldl fun _ _ hr => hr.when ((hr.lnkDie.when hr).when (hr.when hr.lnkDie))

theorem leaveOff {v : Sys2Proof.PUnit} : (t.leaveOff v).Taskless := by
  cases v with
  | tile n => exact (h.behind.when h.behind).when h
  | eng e => exact h.setEng.setBit.when h
  | conv n => exact h
  | dram k => exact h
  | lane l => exact h
  | pld p => exact h
  | clu c => exact h

theorem memStart : (t.memStart k).Taskless := h.setFld.setChan.when h.setChan.setFld.setFld.setFld.setChan

theorem startUnit {v : Sys2Proof.PUnit} : (t.startUnit v).Taskless := by
  have h1 : (((t.leaveOff v).setPwr (pwrOff v) 1).setBit (pwrOff v) 29 false).Taskless := h.leaveOff.setPwr.setBit
  cases v with
  | tile n => exact h1.lnkDieChanged
  | conv n => exact (h1.setReg.setReg (t := _)).lnkDieChanged
  | dram k => exact h1.memStart
  | lane l => exact h1
  | pld p => exact h1
  | eng e => exact h1
  | clu c => exact h1

theorem startAll {l : List Sys2Proof.PUnit} : (t.startAll l).Taskless := h.foldl fun _ _ hr => hr.startUnit.when hr

theorem exitPump : t.exitPump.Taskless := by
  refine List.foldlRecOn (motive := fun p : State × Bool => p.1.Taskless) nightOrder _ h fun p hp l _ => ?_
  split
  · exact hp.startAll
  · exact hp

theorem startWaiting {l : List Sys2Proof.PUnit} : (t.startWaiting l).Taskless := h.startAll.when (h.exitPump.when h)

end

end State.Taskless

end Sys2Proof.Machine
end

section
/-! SUPPORT. The intake of the configuration controller (R58 to R82): what ends a load does not reach the SYS power block. -/

namespace Sys2Proof.Machine

set_option Elab.async false

namespace State.Steady

variable {P : Nat → Prop} {s t u : State} {c k v n : Nat}

theorem setCfg {x : CfgSt} (h : Steady P s t) : Steady P s { t with cfg := x } := h.behind
theorem setBorder {x : Border} (h : Steady P s t) : Steady P s (t.setBorder n x) := h.behind
theorem setCfgState (h : Steady P s t) : Steady P s (t.setCfgState n) := h.setFld
theorem cfgLog (h : Steady P s t) : Steady P s (t.cfgLog c k v) := h.setFld.setReg.log
theorem cfgDiscard (h : Steady P s t) : Steady P s (t.cfgDiscard n) := h.count
theorem cfgAfail (h : Steady P s t) : Steady P s (t.cfgAfail c) := h.count.when h
theorem cfgIrq (h : Steady P s t) : Steady P s t.cfgIrq := h.emit.emit.when h.emit
theorem cfgNote (h : Steady P s t) : Steady P s (t.cfgNote c k v) := h.cfgAfail.cfgLog.setFld.cfgIrq
theorem fullFail (h : Steady P s t) : Steady P s (t.fullFail c k v) := h.cfgNote.setCfgState.setCfg.cfgDiscard
theorem cfgLocked (h : Steady P s t) : Steady P s t.cfgLocked := h.setCfgState.cfgLog.setCfg
theorem cfgReport (h : Steady P s t) : Steady P s (t.cfgReport c) := h.emit.when h

theorem partialOver (h : Steady P s t) : Steady P s (t.partialOver n) :=
  (h.setCfg.cfgReport.cfgLocked.when h.setCfg.cfgReport.setCfgState).when h

theorem cfgDrop (h : Steady P s t) : Steady P s t.cfgDrop := by
  unfold State.cfgDrop
  extract_lets n new _ s1
  have h1 : Steady P s s1 := h.setCfg.cfgDiscard
  clear_value s1
  split <;> exact h1.partialOver

theorem unstart (h : Steady P s t) : Steady P s (t.unstart n) := h.behind

theorem partFail {l : List Byte} (h : Steady P s t) : Steady P s (t.partFail l c k v) := by
  unfold State.partFail
  extract_lets p known s1 s2 s3 left _ _
  have h1 : Steady P s s1 := h.cfgNote.emit.setCfgState.setFld
  have h2 : Steady P s s2 := h1.setFld.setBit.when h1
  have h3 : Steady P s s3 := h2.unstart.setPstate.setBorder.when h2
  exact h3.setCfg.cfgDrop

theorem cfgFail (h : Steady P s t) : Steady P s (t.cfgFail c k v) := by
  unfold State.cfgFail
  split
  · exact h.partFail.when h.fullFail
  · exact h.partFail.when h.fullFail

theorem cfgPull (h : Steady P s t) : Steady P s t.cfgPull := h.when (h.setCfg.cfgDiscard.when (h.when h.setCfg))

theorem cfgBegin (h : Steady P s t) : Steady P s (t.cfgBegin n) := h.setCfgState.setFld.setFld.setReg.setReg
theorem partBegin (h : Steady P s t) : Steady P s t.partBegin := h.setCfgState.setFld.setFld.when h
theorem windowFilter (h : Steady P s t) : Steady P s t.windowFilter := h.when (h.setCfg.cfgDrop.when (h.when h.setCfg.cfgDrop))

theorem releaseBegin (h : Steady P s t) : Steady P s t.releaseBegin := by
  unfold State.releaseBegin
  split
  · exact h
  · refine h.when ?_
    split
    · exact h
    · exact h.cfgFail
    · exact h.setCfg.setCfgState

theorem cfgStep (h : Steady P s t) : Steady P s t.cfgStep := by
  unfold State.cfgStep
  extract_lets s1 s2 s3
  have h1 : Steady P s s1 := h.cfgDrop
  have h2 : Steady P s s2 := h1.cfgBegin.when h1
  have h3 : Steady P s s3 := (h2.chainPump 256).windowFilter.partBegin.releaseBegin
  exact h3.fullFail.when h3

theorem cfgTurns (n : Nat) (h : Steady P s t) : Steady P s (State.cfgTurns n t) := by
  induction n generalizing t with
  | zero => exact h
  | succ n ih => exact (ih h.cfgStep.cfgPull).when h.cfgStep

theorem cfgPerst (h : Steady P s t) : Steady P s t.cfgPerst := (h.cfgFail.cfgTurns _).when h
theorem orphan {f : ReqKind → Bool} (h : Steady P s t) : Steady P s (t.orphan f) := h.behind

end State.Steady

end Sys2Proof.Machine
end

section
/-! SUPPORT. The warm reset (R39): what is completed before anything stops, the registers that come through, and what starts again. -/

namespace Sys2Proof.Machine

set_option Elab.async false

namespace State.Steady

variable {P : Nat → Prop} {s t u : State}

/-- An update of registers and engines that keeps them canonical, where no register matters. -/
theorem wipe (h : Steady (fun _ => False) s t) (hr : State.regsWf t = true → State.regsWf u = true) (he : u.eng = t.eng := by rfl)
    (hs : u.sys = t.sys := by rfl) (hf : u.fuses = t.fuses := by rfl) : Steady (fun _ => False) s u :=
  ⟨hr ∘ h.wf, by simpa only [he] using h.eng, fun _ => False.elim, by simpa only [hs] using h.sys, hf.trans h.fuses⟩

theorem clearEng (h : Steady P s t) : Steady P s { t with eng := [] } := ⟨h.wf, fun _ => SMap.wf_nil, h.reg, h.sys, h.fuses⟩

theorem engLose (h : Steady P s t) : Steady P s t.engLose := h.clearEng.foldl fun _ _ _ hr => hr.setEng

theorem unhaltMgmt (h : Steady P s t) : Steady P s t.unhaltMgmt := by
  unfold State.unhaltMgmt
  extract_lets s1
  have h1 : Steady P s s1 := h.setFld
  exact h1.behind

theorem warmKept {k : Nat} (h : Steady P s t) : Steady P s (t.warmKept k) := h.setChan

theorem warmDram {k : Nat} (h : Steady (fun _ => False) s t) : Steady (fun _ => False) s (t.warmDram k) := by
  have hp {u : State} {hi l n : Nat} (hu : Steady (fun _ => False) s u) : Steady (fun _ => False) s (u.setFld (oPwrMem k) hi l n) := hu.setPower False.elim
  unfold State.warmDram
  extract_lets o s1
  have h1 : Steady (fun _ => False) s s1 := by
    unfold s1
    split
    · exact hp (h.memFinish 1024).memOff.warmKept
    · exact (h.memFinish 1024).memOff
    · exact h.memForced
    · exact h
  exact hp (hp h1)

theorem cfgWarm (h : Steady (fun _ => False) s t) : Steady (fun _ => False) s t.cfgWarm := by
  unfold State.cfgWarm
  extract_lets lock afail s1
  have h1 : Steady (fun _ => False) s s1 := h.wipe fun hwf => SMap.wf_dropRange (SMap.wf_dropRange hwf)
  exact h1.setFld.setCfgState

theorem mgmWarm {b : Bool} (h : Steady (fun _ => False) s t) : Steady (fun _ => False) s (t.mgmWarm b) := by
  unfold State.mgmWarm
  extract_lets s0 keep lsrst fault m s1
  have h0 : Steady (fun _ => False) s s0 := by
    unfold s0
    split
    · exact h.flashEffect
    · exact h
  have h1 : Steady (fun _ => False) s s1 := h0.wipe fun hwf => SMap.wf_filter hwf
  exact h1.setFld.setBit

theorem replace {e : Nat} (h : Steady P s t) : Steady P s (t.replace e) := by
  unfold State.replace
  dsimp only
  refine h.when ?_
  split
  · exact (h.setReg (o := oPlace _)).setLe
  · exact h.setLe

end State.Steady

end Sys2Proof.Machine
end

section
/-! SUPPORT. What a warm reset leaves of SYS_PSTATE, SYS_RSTCAUSE and the scheduler (R39). -/

namespace Sys2Proof.Machine

set_option Elab.async false

variable {s t : State}

theorem pwrOff_power (u : Sys2Proof.PUnit) : pwrOff u < 0x380 ∨ Above (pwrOff u) := by
  cases u with
  | eng e => exact .inr (above_add _ (above_oEng _))
  | tile n => exact .inl (by have := n.isLt; simp only [pwrOff, oPwrTile]; omega)
  | conv n => exact .inl (by have := n.isLt; simp only [pwrOff, oPwrCnv]; omega)
  | dram k => exact .inl (by have := k.isLt; simp only [pwrOff, oPwrMem]; omega)
  | lane l => exact .inl (by have := l.isLt; simp only [pwrOff, oPwrLane]; omega)
  | clu c => exact .inl (by have := c.isLt; simp only [pwrOff, oPwrClu]; omega)
  | pld p => exact .inl (by have := p.isLt; simp only [pwrOff, oPwrPld]; omega)

/-- The resets and modes lie above the power registers. -/
theorem above_of_modes (u : Sys2Proof.PUnit) (h : 0x380 ≤ pwrOff u) : Above (pwrOff u) := (pwrOff_power u).resolve_left (by omega)

/-- A register whose bit is 0 at reset reads back a 1 written to it. -/
theorem State.bit_setBit_true (s : State) {o k : Nat} (hk : k < 32) (hreset : bitsOf (regReset o) k k = 0) : (s.setBit o k true).bit o k = true := by
  have hbit : bitsOf (withBits (s.reg o) k k 1) k k = 1 := bitsOf_withBits_same _ 1 (le_refl k) hk ▸ by simp
  have hne : withBits (s.reg o) k k 1 ≠ regReset o := fun h => by rw [h, hreset] at hbit; exact absurd hbit (by decide)
  have hread : (s.setBit o k true).reg o = withBits (s.reg o) k k 1 := SMap.get_set_of_ne hne
  rw [State.bit, State.fld, hread, hbit, decide_eq_true_eq]

/-- The marks of a warm reset. -/
def State.warmMarked (s : State) : State :=
  (((s.setBit oRstStat 31 false).setFld oPstate 9 8 0).setBit oPstate 0 false).setBit oRstCause 2 true

theorem State.sys_warmMarked (s : State) : s.warmMarked.sys = s.sys := by
  rw [State.warmMarked, State.setBit_sys, State.setBit_sys, State.setFld_sys, State.setBit_sys]

theorem State.fuses_warmMarked (s : State) : s.warmMarked.fuses = s.fuses := by
  rw [State.warmMarked, State.setBit_fuses, State.setBit_fuses, State.setFld_fuses, State.setBit_fuses]

theorem State.Taskless.warmMarked (h : s.Taskless) : s.warmMarked.Taskless := h.setBit.setFld.setBit.setBit

theorem State.rstCause_warmMarked (s : State) : s.warmMarked.bit oRstCause 2 = true := State.bit_setBit_true _ (by omega) (by decide)

theorem State.nightState_warmMarked (hwf : State.regsWf s = true) : s.warmMarked.nightState = 0 := by
  have h1 : State.regsWf (s.setBit oRstStat 31 false) = true := State.wf_setBit hwf ..
  have h2 : State.regsWf ((s.setBit oRstStat 31 false).setFld oPstate 9 8 0) = true := State.wf_setFld h1 ..
  rw [State.nightState, State.warmMarked, State.setBit, State.fld_setFld_ne (by decide), ← show oPstate = 0x394 from rfl,
    State.fld_setBit_beside h2 _ _ (by omega) (by omega), State.fld_setFld_self h1 _ _ (by omega) (by omega)]
  rfl

/-- What a warm reset leaves behind the registers, with `off` the units whose t_off_min runs (R35, R39). -/
def State.warmLeft (s : State) (off : List Nat) : State :=
  { s with
    regs := s.regs.filter (fun e => warmKeeps e.1),
    pairs := s.pairs.filter (fun e => warmKeeps e.1),
    sys := { s.sys with offMin := off, forced := [], due := [], kept := [], nightUnits := [], nightStops := false, nightLatch := none },
    leng := [], sch := {}, ser := {}, lnk := [],
    net := { outst := s.net.outst.filter (fun o => o.kind.ofHost || o.kind.ofDebug) } }

theorem State.wf_warmLeft (hwf : State.regsWf s = true) (off : List Nat) : State.regsWf (s.warmLeft off) = true := SMap.wf_filter hwf
theorem State.hubOn_warmLeft (s : State) (off : List Nat) : (s.warmLeft off).sys.hubOn = s.sys.hubOn := rfl
theorem State.fuses_warmLeft (s : State) (off : List Nat) : (s.warmLeft off).fuses = s.fuses := rfl
theorem State.taskless_warmLeft (s : State) (off : List Nat) : (s.warmLeft off).Taskless := ⟨fun _ => (nomatch ·), rfl⟩

/-- R39: the warm reset. -/
theorem State.warmReset_spec (hwf : State.regsWf s = true) (hhub : s.sys.hubOn = true) :
    (s.warmReset false).bit oRstCause 2 = true ∧ (s.warmReset false).nightState = 0 ∧ (s.warmReset false).sys.hubOn = true ∧
      (s.warmReset false).fuses = s.fuses ∧ (s.warmReset false).Taskless := by
  unfold State.warmReset
  extract_lets s1 s2 s3 iso isoRegs s4 _ s5 s6 s7 s8 s9
  have h1 : Steady (fun _ => False) s s1 := (Steady.refl _ s).foldl fun _ _ _ hr => hr.iceFlush.when hr
  have h2 : Steady (fun _ => False) s s2 := (h1.foldl fun _ _ _ hr => hr.warmDram).laneSources
  have h3 : Steady (fun _ => False) s s3 := (h2.foldl fun _ _ _ hr => hr.unhalt).unhaltMgmt
  have h4 : Steady (fun _ => False) s s4 := h3.engLose.cfgWarm.mgmWarm
  clear_value s4 s3
  have hleft : s5 = s4.warmLeft s4.warmOffMin := rfl
  clear_value s5
  have hwf5 : State.regsWf s5 = true := hleft ▸ State.wf_warmLeft (h4.wf hwf) _
  have hhub5 : s5.sys.hubOn = true := by rw [hleft, State.hubOn_warmLeft, h4.sysOf (·.hubOn), hhub]
  have hfuses5 : s5.fuses = s.fuses := by rw [hleft, State.fuses_warmLeft, h4.fuses]
  have hfree5 : s5.Taskless := hleft ▸ State.taskless_warmLeft ..
  have h6 : Steady (fun _ => True) s5 s6 := (Steady.refl _ s5).foldl fun r p hp hr => hr.setReg (by
    obtain ⟨e, -, rfl⟩ := List.mem_map.mp hp
    simp)
  have hfree6 : s6.Taskless := hfree5.foldl fun _ _ hr => hr.setReg
  have h8 : Steady (fun _ => True) s5 s8 := (h6.foldl fun _ _ _ hr => hr.replace).mbxReset
  have hfree8 : s8.Taskless := (hfree6.foldl fun _ _ hr => hr.replace).mbxReset
  clear_value s8
  have hmarked : s9 = s8.warmMarked := rfl
  clear_value s9
  have hfree9 : s9.Taskless := hmarked ▸ hfree8.warmMarked
  have h10 : Steady (fun o => 0x380 ≤ o) s9 (s9.catchHalts.startWaiting tileUnits) := (Steady.refl _ s9).catchHalts.startWaiting fun v hv => above_of_modes v hv
  refine ⟨?_, ?_, ?_, ?_, hfree9.catchHalts.startWaiting⟩
  · rw [h10.bit (by decide) (by unfold Above; decide), hmarked, State.rstCause_warmMarked]
  · rw [State.nightState, h10.fld (by decide) (by unfold Above; decide), ← State.nightState, hmarked, State.nightState_warmMarked (h8.wf hwf5)]
  · rw [h10.sysOf (·.hubOn), hmarked, State.sys_warmMarked, h8.sysOf (·.hubOn), hhub5]
  · rw [h10.fuses, hmarked, State.fuses_warmMarked, h8.fuses, hfuses5]

end Sys2Proof.Machine
end

section
/-! SUPPORT. The soft reset and the resets of units (R39, R40): what they keep, and the unit that SYS_RSTSTAT then names. -/

namespace Sys2Proof.Machine

set_option Elab.async false

variable {s t : State}

namespace State.Steady

variable {P : Nat → Prop}

theorem softEngine {e : Nat} (h : Steady P s t) : Steady P s (t.softEngine e) := h.clearBank.clearBank.setEng.setFld.unhalt

theorem setInput {i : Nat} {l : List EnqItem} (h : Steady P s t) : Steady P s (t.setInput i l) := h.behind
theorem schSoft (h : Steady P s t) : Steady P s t.schSoft := (h.behind.orphan).foldl fun _ _ _ hr => hr.setInput
theorem strForget {c : Nat} (h : Steady P s t) : Steady P s (t.strForget c) := h.behind
theorem setStrm {c : Nat} {x : StrmSt} (h : Steady P s t) : Steady P s (t.setStrm c x) := h.behind

theorem strSoftReset (h : Steady P s t) : Steady P s t.strSoftReset :=
  h.foldl fun _ _ _ hr => (hr.cutEmission _).strForget.setStrm.setBit.setReg.setReg.when hr.setReg.setReg

theorem redSoftReset (h : Steady P s t) : Steady P s t.redSoftReset :=
  (h.behind (u := { t with net := _ })).foldl fun _ _ _ hr => hr.setFld.setReg.setReg.setReg.setReg

theorem fabReset {n : Nat} (h : Steady P s t) : Steady P s (t.fabReset n) := h.setFab.foldl fun _ _ _ hr => hr.setBorder.when hr

end State.Steady

theorem State.taskless_schSoft (s : State) : s.schSoft.Taskless :=
  State.Taskless.foldl (t := State.orphan { s with sch := { s.sch with ctx := [], flow := [], delay := [], cqWait := [] } } ReqKind.ofSched)
    ⟨fun _ => (nomatch ·), rfl⟩ fun _ _ hr => ⟨hr.1, hr.2⟩

/-- R39, R194: the soft reset. -/
theorem State.softReset_spec (s : State) : s.softReset.bit oRstCause 4 = true ∧ s.softReset.fuses = s.fuses ∧ s.softReset.Taskless := by
  unfold State.softReset
  extract_lets s1 s2 s3
  have h1 : Steady (fun _ => False) s s1 := (Steady.refl _ s).foldl fun _ _ _ hr => hr.softEngine
  clear_value s1
  have h2 : Steady (fun _ => False) s s2 := h1.wipe fun hwf => SMap.wf_filter hwf
  clear_value s2
  have h3 : Steady (fun _ => False) s s3 := h2.schSoft.strSoftReset.redSoftReset.foldl fun _ _ _ hr => hr.fabReset.when hr
  have hfree3 : s3.Taskless := (s2.taskless_schSoft.strSoftReset.redSoftReset).foldl fun _ _ hr => hr.fabReset.when hr
  clear_value s3
  refine ⟨State.bit_setBit_true _ (by omega) (by decide), ?_, hfree3.mbxReset.setBit⟩
  rw [State.setBit_fuses, (h3.mbxReset).fuses]

/-! ## The reset of a unit -/

/-- SYS_RSTSTAT names the unit whose reset is under way. -/
theorem State.rstStat_unit (s : State) {ty i : Nat} (hty : ty < 8) (hi : i < 2048) :
    let t := s.setReg oRstStat (BitVec.ofNat 32 (2 ^ 31 + ty * 2 ^ 16 + i))
    t.bit oRstStat 31 = true ∧ t.fld oRstStat 18 16 = ty ∧ t.fld oRstStat 10 0 = i := by
  intro t
  have hne : BitVec.ofNat 32 (2 ^ 31 + ty * 2 ^ 16 + i) ≠ regReset oRstStat := fun h => by
    have hval := congrArg BitVec.toNat h
    rw [BitVec.toNat_ofNat, show (regReset oRstStat).toNat = 0 from by decide] at hval
    omega
  have hread : t.reg oRstStat = BitVec.ofNat 32 (2 ^ 31 + ty * 2 ^ 16 + i) := SMap.get_set_of_ne hne
  simp only [State.bit, State.fld, hread, bitsOf, BitVec.toNat_ofNat, decide_eq_true_eq]
  omega

/-- The fields of a word of SYS_RSTUNIT. -/
theorem bitsOf_rstunitWord {ty i : Nat} (hty : ty < 8) (hi : i < 2048) :
    let v := BitVec.ofNat 32 (0x5A000000 + ty * 0x10000 + i)
    bitsOf v 31 24 = 0x5A ∧ bitsOf v 18 16 = ty ∧ bitsOf v 10 0 = i := by
  simp only [bitsOf, BitVec.toNat_ofNat]
  omega

/-- R40: a write of SYS_RSTUNIT that no check rejects. -/
theorem State.cmdWrite_rstunit {req : Req} {ty i : Nat} (hhub : s.sys.hubOn = true) (hdie : reservedDie req.toNat = false) (hty : ty < 8) (hi : i < 2048)
    (hcode : s.rstunitCode (BitVec.ofNat 32 (0x5A000000 + ty * 0x10000 + i)) = none) :
    s.cmdWrite req 0x384 (BitVec.ofNat 32 (0x5A000000 + ty * 0x10000 + i)) =
      (s.unitReset ty i).setReg oRstStat (BitVec.ofNat 32 (2 ^ 31 + ty * 2 ^ 16 + i)) := by
  obtain ⟨-, hfty, hfi⟩ := bitsOf_rstunitWord hty hi
  generalize BitVec.ofNat 32 (0x5A000000 + ty * 0x10000 + i) = v at *
  refine State.cmdWrite_sysPower hhub hdie (by decide) (by decide) (show findReg regsSysPower 0x384 = some (_, _) from rfl) rfl ?_
  have hwrite : s.rstunitWrite v = .ok ((s.unitReset ty i).setReg oRstStat (BitVec.ofNat 32 (2 ^ 31 + ty * 2 ^ 16 + i))) := by
    simp only [State.rstunitWrite, hcode, hfty, hfi]
  exact hwrite

end Sys2Proof.Machine
end

section
/-! SUPPORT. The reset of an engine (R39, R154): its banks are empty and its epoch is stale. -/

namespace Sys2Proof.Machine

set_option Elab.async false

variable {s t : State}

theorem State.engSt_setEng_self (h : SMap.wf engReset s.eng = true) (e : Nat) (x : EngSt) : (s.setEng e x).engSt e = x := SMap.get_set_self h

theorem State.engSt_congr (h : t.eng = s.eng) (e : Nat) : t.engSt e = s.engSt e := by rw [State.engSt, State.engSt, h]

/-- No task is in a bank of the engine, and its epoch is stale. -/
def State.Emptied (s : State) (e : Nat) : Prop := (s.engSt e).b0.busy = false ∧ (s.engSt e).b1.busy = false ∧ s.engStale e = true

namespace State.Emptied

variable {e o hi lo n k : Nat} {b : Bool}

theorem setReg {v : Word} (h : s.Emptied e) (ho : o ≠ oPlace e) : (s.setReg o v).Emptied e := by
  obtain ⟨h0, h1, hst⟩ := h
  rw [State.Emptied, State.engSt_congr (State.setReg_eng ..), State.engStale, State.bit, State.fld, State.reg_setReg_ne ho]
  exact ⟨h0, h1, hst⟩

theorem setFld (h : s.Emptied e) (ho : o ≠ oPlace e) : (s.setFld o hi lo n).Emptied e := h.setReg ho
theorem setBit (h : s.Emptied e) (ho : o ≠ oPlace e) : (s.setBit o k b).Emptied e := h.setFld ho

theorem setPlaceSt (h : s.Emptied e) (hwf : State.regsWf s = true) : (s.setFld (oPlace e) 31 29 n).Emptied e := by
  obtain ⟨h0, h1, hst⟩ := h
  rw [State.Emptied, State.engSt_congr (State.setFld_eng ..), State.engStale, State.bit_setFld_beside hwf _ _ (by omega) (by omega) (by omega)]
  exact ⟨h0, h1, hst⟩

theorem congr (h : s.Emptied e) (he : t.eng = s.eng) (hr : t.regs = s.regs) : t.Emptied e := by
  obtain ⟨h0, h1, hst⟩ := h
  rw [State.Emptied, State.engSt_congr he, State.engStale, State.bit, State.fld_congr hr]
  exact ⟨h0, h1, hst⟩

theorem setLe {l : Nat} {x : LEngSt} (h : s.Emptied e) : (s.setLe l x).Emptied e := h.congr rfl rfl

/-- An update of an engine that leaves its banks alone. -/
theorem setEng {x : EngSt} (h : s.Emptied e) (heng : SMap.wf engReset s.eng = true) (h0 : x.b0 = (s.engSt e).b0) (h1 : x.b1 = (s.engSt e).b1) :
    (s.setEng e x).Emptied e := by
  obtain ⟨hb0, hb1, hst⟩ := h
  rw [State.Emptied, State.engSt_setEng_self heng, h0, h1]
  exact ⟨hb0, hb1, hst⟩

theorem banks_unhalted (x : EngSt) : ({ x with haltDue := 0, stepping := false } : EngSt).b0 = x.b0 ∧
    ({ x with haltDue := 0, stepping := false } : EngSt).b1 = x.b1 := ⟨rfl, rfl⟩

theorem unhalt (h : s.Emptied e) (heng : SMap.wf engReset s.eng = true) (he : oEcfg e ≠ oPlace e) : (s.unhalt e).Emptied e := by
  unfold State.unhalt
  extract_lets s1
  have heng1 : SMap.wf engReset s1.eng = true := by rw [show s1.eng = s.eng from State.setFld_eng ..]; exact heng
  exact (h.setFld he).setEng heng1 (banks_unhalted _).1 (banks_unhalted _).2

end State.Emptied

/-- R154: an engine that completes its reset. -/
theorem State.emptied_engineStale (hwf : State.regsWf s = true) (heng : SMap.wf engReset s.eng = true) (e : Nat) (kept : Bool) :
    (s.engineStale e kept).Emptied e := by
  unfold State.engineStale
  extract_lets s1 x s2 s3 s4 l
  have hrev := (Steady.refl (fun _ => False) s).revokeEngine (e := e) (reach := true)
  have hwf2 : State.regsWf s2 = true := hrev.wf hwf
  have hst : s2.engSt e = _ := State.engSt_setEng_self (hrev.eng heng) e _
  have hempty : (s2.engSt e).b0.busy = false ∧ (s2.engSt e).b1.busy = false := by rw [hst]; exact ⟨rfl, rfl⟩
  clear_value s2
  have hwf3 : State.regsWf s3 = true := State.wf_setBit hwf2 ..
  have h3 : s3.Emptied e := ⟨hempty.1, hempty.2, State.bit_setBit_self hwf2 _ _ (by omega)⟩
  clear_value s3
  have hne : oEng e + 0x10 ≠ oPlace e := by simp only [oPlace]; omega
  have hwf4 : State.regsWf s4 = true := by unfold s4; split <;> exact State.wf_setFld hwf3 ..
  have h4 : s4.Emptied e := by
    unfold s4
    split
    · exact h3.setFld hne
    · exact h3.setBit hne
  split
  · exact (h4.setPlaceSt hwf4).setLe
  · exact h4

/-- R39: the reset of an engine that is ON. -/
theorem State.emptied_engineReset (hwf : State.regsWf s = true) (heng : SMap.wf engReset s.eng = true) {e : Nat} (hlt : e < 1088)
    (hon : s.isOn (oPwrEng e) = true) : (s.engineReset e).Emptied e := by
  have hrev := (Steady.refl (fun _ => False) s).revokeEngine (e := e) (reach := false)
  have hne : oEcfg e ≠ oPlace e := by simp only [oEcfg, oDbg, oPlace, oEng]; omega
  rw [State.engineReset, if_pos hon]
  exact (State.emptied_engineStale (hrev.wf hwf) (hrev.eng heng) e true).unhalt (hrev.engineStale.eng heng) hne

end Sys2Proof.Machine
end

section
/-! SUPPORT. Mailbox sides that are reset (R371, R373): their queues are empty. -/

namespace Sys2Proof.Machine

set_option Elab.async false

variable {s t : State}

/-! ## Operations that leave the mailboxes alone -/

theorem State.mbx_log (s : State) (r : Rec) : (s.log r).mbx = s.mbx := by
  obtain ⟨regs, rec, hlog⟩ := s.log_frame r
  rw [hlog]

theorem State.mbx_mbxUncross (s : State) (n : Nat) : (s.mbxUncross n).mbx = s.mbx := by
  unfold State.mbxUncross
  split
  · rw [State.setBit_mbx]
  · rfl

theorem State.mbx_postEvent (s : State) (x f : Nat) : (s.postEvent x f).mbx = s.mbx := by
  unfold State.postEvent State.setFlag
  dsimp only
  split
  · rfl
  · split <;> rfl

theorem State.mbx_mbxSignal (s : State) (n : Nat) (b : Bool) : (s.mbxSignal n b).mbx = s.mbx := by
  unfold State.mbxSignal
  dsimp only
  split
  · rfl
  · rfl
  · rfl
  · rw [State.mbx_postEvent]

theorem State.mbx_ring (s : State) (n : Nat) (b : Bool) (v : Word) : (s.ring n b v).mbx = s.mbx := by
  unfold State.ring State.mbxNotice
  split
  · rw [State.mbx_mbxSignal]
    rfl
  · rfl

/-! ## Queues -/

theorem State.mbxQ_congr (h : t.mbx = s.mbx) (n : Nat) (b : Bool) : t.mbxQ n b = s.mbxQ n b := by
  rw [State.mbxQ, State.mbxQ, State.mbxAt, State.mbxAt, h]

theorem State.mbx_mbxResetSide (s : State) (n : Nat) (b : Bool) : ∃ i, (s.mbxResetSide n b).mbx =
    (s.setMbx n ((s.mbxAt n).setSide b { (s.mbxAt n).side b with q := [], inc := i })).mbx := by
  refine ⟨(((s.mbxAt n).side b).inc + 1) % 16, ?_⟩
  unfold State.mbxResetSide
  rw [State.mbx_log, State.setFld_mbx, State.setBit_mbx, State.mbx_mbxUncross]
  rfl

theorem MbxSt.q_setSide_self (x : MbxSt) (b : Bool) (y : MbxSide) : (x.setSide b y).side b = y := by cases b <;> rfl
theorem MbxSt.q_setSide_other (x : MbxSt) {b c : Bool} (h : b ≠ c) (y : MbxSide) : (x.setSide b y).side c = x.side c := by
  obtain rfl : c = !b := Bool.eq_not.mpr h.symm
  cases b <;> rfl

/-- A reset of a side empties its queue, and no queue gets longer. -/
theorem State.mbxQ_mbxResetSide (hwf : SMap.wf (fun _ => ({} : MbxSt)) s.mbx = true) (n : Nat) (b : Bool) :
    SMap.wf (fun _ => ({} : MbxSt)) (s.mbxResetSide n b).mbx = true ∧ (s.mbxResetSide n b).mbxQ n b = [] ∧
      ∀ m c, s.mbxQ m c = [] → (s.mbxResetSide n b).mbxQ m c = [] := by
  obtain ⟨i, hmbx⟩ := s.mbx_mbxResetSide n b
  have hsame : ((s.setMbx n ((s.mbxAt n).setSide b { (s.mbxAt n).side b with q := [], inc := i })).mbxAt n) = _ := SMap.get_set_self hwf
  have hself : (s.mbxResetSide n b).mbxQ n b = [] := by rw [State.mbxQ_congr hmbx, State.mbxQ, hsame, MbxSt.q_setSide_self]
  refine ⟨hmbx ▸ SMap.wf_set hwf, hself, fun m c hq => ?_⟩
  by_cases hm : n = m
  · subst hm
    by_cases hb : b = c
    · exact hb ▸ hself
    · rw [State.mbxQ_congr hmbx, State.mbxQ, hsame, MbxSt.q_setSide_other _ hb]
      exact hq
  · rw [State.mbxQ_congr hmbx, State.mbxQ, State.mbxAt, State.setMbx, SMap.get_set_ne hm]
    exact hq

theorem State.mbxQ_resetSides (l : List (Nat × Bool)) (hwf : SMap.wf (fun _ => ({} : MbxSt)) s.mbx = true) :
    (∀ p ∈ l, (l.foldl (fun t x => t.mbxResetSide x.1 x.2) s).mbxQ p.1 p.2 = []) ∧
      ∀ m c, s.mbxQ m c = [] → (l.foldl (fun t x => t.mbxResetSide x.1 x.2) s).mbxQ m c = [] := by
  induction l generalizing s with
  | nil => exact ⟨fun _ => (nomatch ·), fun _ _ => id⟩
  | cons x l ih =>
    obtain ⟨hwf', hself, hkeep⟩ := State.mbxQ_mbxResetSide hwf x.1 x.2
    obtain ⟨hall, hkeep'⟩ := ih hwf'
    refine ⟨fun p hp => ?_, fun m c hq => hkeep' m c (hkeep m c hq)⟩
    rcases List.mem_cons.mp hp with rfl | hp
    · exact hkeep' _ _ hself
    · exact hall p hp

theorem State.mbx_rings (l : List (Nat × Bool)) (s : State) : (l.foldl (fun t x => t.ring x.1 (!x.2) 0x40000000) s).mbx = s.mbx := by
  induction l generalizing s with
  | nil => rfl
  | cons x l ih => exact (ih _).trans (s.mbx_ring ..)

/-- R373: the queues towards the sides of a reset are empty. -/
theorem State.mbxQ_mbxReset (hwf : SMap.wf (fun _ => ({} : MbxSt)) s.mbx = true) {l : List (Nat × Bool)} {p : Nat × Bool} (hp : p ∈ l) :
    (s.mbxReset l).mbxQ p.1 p.2 = [] :=
  (State.mbxQ_congr (State.mbx_rings l _) ..).trans ((State.mbxQ_resetSides l hwf).1 p hp)

end Sys2Proof.Machine
end

section
/-! SUPPORT. The resets as commands (R39, R40, R63, R373). -/

namespace Sys2Proof.Stated

theorem Inv.mbxWf {s : Machine.State} (h : Inv s) : Machine.SMap.wf (fun _ => ({} : Machine.MbxSt)) s.mbx = true := h.2.2.2.2.2.1

end Sys2Proof.Stated

namespace Sys2Proof.Machine

set_option Elab.async false

variable {s t : State}

theorem State.cmdWrite_rstctl {req : Req} {v : Word} (hhub : s.sys.hubOn = true) (hdie : reservedDie req.toNat = false)
    (hr : s.rstctlWrite v = .ok t) : s.cmdWrite req 0x380 v = t :=
  State.cmdWrite_sysPower hhub hdie (by decide) (by decide) (show findReg regsSysPower 0x380 = some (_, _) from rfl) rfl hr

theorem State.rstctlWrite_warm (s : State) : s.rstctlWrite 0xA5000002 = .ok (s.warmReset false) := by
  unfold State.rstctlWrite
  rfl

theorem State.rstctlWrite_soft (s : State) : s.rstctlWrite 0xA5000001 = .ok s.softReset := by
  unfold State.rstctlWrite
  rfl

/-- R40: no check of a reset of an engine or of a die-link module fails but that no reset is under way. -/
theorem State.rstunitCode_none {ty i : Nat} (hty : ty = 1 ∧ i < 1088 ∨ ty = 3 ∧ i < 28) (hbusy : s.bit oRstStat 31 = false) :
    s.rstunitCode (BitVec.ofNat 32 (0x5A000000 + ty * 0x10000 + i)) = none := by
  obtain ⟨hkey, hfty, hfi⟩ := bitsOf_rstunitWord (ty := ty) (i := i) (by omega) (by omega)
  unfold State.rstunitCode
  rw [hkey, hfty, hfi, hbusy]
  rcases hty with ⟨rfl, hi⟩ | ⟨rfl, hi⟩
  · simp [rstCount, hi]
  · simp [rstCount, hi]

/-- R39: the end of the reset of a unit frees SYS_RSTSTAT and writes no other register. -/
theorem State.unitResetDone_spec (hwf : State.regsWf s = true) : s.unitResetDone.bit oRstStat 31 = false ∧
    ∀ o, o ≠ oRstStat → s.unitResetDone.reg o = s.reg o := by
  have hdone : s.bit oRstStat 31 = false ∧ s.unitResetDone = s ∨ s.unitResetDone.regs = (s.setBit oRstStat 31 false).regs := by
    unfold State.unitResetDone
    dsimp only
    split
    · exact .inl ⟨‹_›, rfl⟩
    · refine .inr ?_
      split
      · split <;> rfl
      · rfl
      · rfl
  rcases hdone with ⟨hidle, hsame⟩ | hregs
  · rw [hsame]
    exact ⟨hidle, fun _ _ => rfl⟩
  · refine ⟨?_, fun o ho => ?_⟩
    · rw [State.bit, State.fld_congr hregs, ← State.bit, State.bit_setBit_self hwf _ _ (by omega)]
    · rw [State.reg, hregs, ← State.reg, State.reg_setBit_ne (Ne.symm ho)]

/-- R39, R63: the host reset. -/
theorem State.perstNFall_spec (hperst : s.sys.perstN = true) : ∃ t, exec .perstNFall s = .next t ∧ t.sys.perstN = false ∧ t.sys.linkUp = false ∧
    t.bit oRstCause 5 = true := by
  refine ⟨_, if_pos hperst, ?_⟩
  generalize hr : ({ s with sys := { s.sys with perstN := false, linkUp := false, epReady := false, l1 := false, aerPoisoned := false, epRegs := [] } } : State) = r
  have hpins : r.sys.perstN = false ∧ r.sys.linkUp = false := by rw [← hr]; exact ⟨rfl, rfl⟩
  have h1 := (Steady.refl (fun _ => False) r).cfgPerst.orphan (f := ReqKind.ofHost)
  have h2 := h1.mbxReset (l := (r.cfgPerst.orphan ReqKind.ofHost).mbxOf Party.isHost)
  refine ⟨?_, ?_, State.bit_setBit_true _ (by omega) (by decide)⟩
  · rw [State.setBit_sys, h2.sysOf (·.perstN), hpins.1]
  · rw [State.setBit_sys, h2.sysOf (·.linkUp), hpins.2]

theorem State.mbxQ_mbxReset_pins (hwf : SMap.wf (fun _ => ({} : MbxSt)) s.mbx = true) {l : List (Nat × Bool)} {p : Nat × Bool} (hp : p ∈ l) (y : SysSt) :
    (State.mbxReset { s with sys := y } l).mbxQ p.1 p.2 = [] :=
  State.mbxQ_mbxReset (s := { s with sys := y }) hwf hp

end Sys2Proof.Machine
end

section
open Sys2Proof Sys2Proof.Machine

/-- Settles O23: the warm and the soft reset leave no task, each reset marks its cause last, SYS_RSTSTAT names the unit, and a function's reset
empties the queues of its sides. -/
theorem resetsComplete : Obligations.ResetsComplete := by
  refine ⟨fun req s hinv hhub hdie => ?_, fun req s _ hhub hdie => ?_, fun req c s _ hhub hdie hcode => ?_, fun req e s hinv hhub hdie hbusy hon => ?_,
    fun req p s _ hhub hdie hcode => ?_, fun req m s _ hhub hdie hbusy => ?_, fun s hwf => ?_, fun s _ hperst => ?_, fun f s hinv hlink => ?_⟩
  · obtain ⟨hcause, hact, hon, hfuses, hfree⟩ := State.warmReset_spec hinv.regsWf hhub
    exact ⟨_, congrArg Host.Outcome.next (State.cmdWrite_rstctl hhub hdie s.rstctlWrite_warm), hcause, hact, hon, hfuses, hfree.ctx_free⟩
  · obtain ⟨hcause, hfuses, hfree⟩ := s.softReset_spec
    exact ⟨_, congrArg Host.Outcome.next (State.cmdWrite_rstctl hhub hdie s.rstctlWrite_soft), hcause, hfuses, hfree.ctx_free, hfree.flow_default⟩
  · have hc := c.isLt
    exact ⟨_, congrArg Host.Outcome.next (State.cmdWrite_rstunit (ty := 0) hhub hdie (by omega) (by omega) hcode), State.rstStat_unit _ (by omega) (by omega)⟩
  · have he := e.isLt
    obtain ⟨hst, hty, hi⟩ := (s.unitReset 1 e.val).rstStat_unit (ty := 1) (i := e.val) (by omega) (by omega)
    have hempty : ((s.unitReset 1 e.val).setReg oRstStat (BitVec.ofNat 32 (2 ^ 31 + 1 * 2 ^ 16 + e.val))).Emptied e.val :=
      (State.emptied_engineReset hinv.regsWf hinv.engWf he hon).setReg (by simp only [oRstStat, oPlace, oEng]; omega)
    exact ⟨_, congrArg Host.Outcome.next (State.cmdWrite_rstunit (ty := 1) hhub hdie (by omega) (by omega)
      (State.rstunitCode_none (.inl ⟨rfl, he⟩) hbusy)), hst, hty, hi, hempty⟩
  · have hp := p.isLt
    exact ⟨_, congrArg Host.Outcome.next (State.cmdWrite_rstunit (ty := 2) hhub hdie (by omega) (by omega) hcode), State.rstStat_unit _ (by omega) (by omega)⟩
  · have hm := m.isLt
    exact ⟨_, congrArg Host.Outcome.next (State.cmdWrite_rstunit (ty := 3) hhub hdie (by omega) (by omega) (State.rstunitCode_none (.inr ⟨rfl, hm⟩) hbusy)),
      State.rstStat_unit _ (by omega) (by omega)⟩
  · exact ⟨_, rfl, State.unitResetDone_spec hwf⟩
  · exact State.perstNFall_spec hperst
  · refine ⟨_, congrArg Host.Outcome.next (if_pos hlink), fun p hp => ?_⟩
    exact State.mbxQ_mbxReset_pins hinv.mbxWf hp _

end

section
/-! SUPPORT. Deep night (R41, R42): what the entry records, the stops at its drain limit, and the exit. -/

namespace Sys2Proof.Machine

set_option Elab.async false

variable {s t : State}

namespace State.Steady

variable {P : Nat → Prop} {p : State × List (Nat × Nat)}

theorem modelCopy (h : Steady P s t) : Steady P s t.modelCopy := (h.foldl fun _ _ _ hr => hr.setReg).setReg

theorem drainEngine {e : Nat} (h : Steady P s t) : Steady P s (t.drainEngine e).1 :=
  (h.foldl fun _ _ _ hr => (hr.withdrawEng.when hr).clearBank).setEng

theorem drainTask {x c : Nat} (h : Steady P s t) : Steady P s (t.drainTask x c).1 := by
  unfold State.drainTask
  dsimp only
  split
  · exact h.clearPair.makeRestart
  · split
    · exact h.makeRestart
    · exact h.toCompleting

theorem drainAll (h : Steady P s t) : Steady P s t.drainAll := by
  have h1 (l : List Nat) (f : State × List (Nat × Nat) → Nat → List (Nat × Nat)) (y : List (Nat × Nat)) :
      Steady P s (l.foldl (fun (p : State × List (Nat × Nat)) e => ((p.1.drainEngine e).1, f p e)) (t, y)).1 :=
    List.foldlRecOn (motive := fun p : State × List (Nat × Nat) => Steady P s p.1) l _ h fun p hp e _ => hp.drainEngine
  have h2 (l : List (Nat × Nat)) (u : State) (hu : Steady P s u) (f : State × Nat → Nat × Nat → Nat) :
      Steady P s (l.foldl (fun (p : State × Nat) y => ((p.1.drainTask y.1 y.2).1, f p y)) (u, 0)).1 :=
    List.foldlRecOn (motive := fun p : State × Nat => Steady P s p.1) l _ hu fun p hp y _ => hp.drainTask
  unfold State.drainAll
  exact (h2 _ _ (h1 _ _ _) _).when (h2 _ _ (h1 _ _ _) _).log

end State.Steady

/-! ## The write of SYS_PSTATE -/

theorem State.cmdWrite_pstate {req : Req} {v : Word} (hhub : s.sys.hubOn = true) (hdie : reservedDie req.toNat = false)
    (hv : v = 0 ∨ v = 1) (hr : s.pstateWrite v = .ok t) : s.cmdWrite req 0x394 v = t := by
  have hrow : findReg regsSysPower 0x394 = some (_, _) := rfl
  rcases hv with rfl | rfl <;> exact State.cmdWrite_sysPower hhub hdie (by decide) (by decide) hrow rfl hr

theorem State.nightState_eq (s : State) : s.nightState = s.fld oPstate 9 8 := rfl

theorem not_above_oPstate : ¬Above oPstate := by unfold Above; decide

theorem oPstate_ne_pwrOff (u : Sys2Proof.PUnit) : oPstate ≠ pwrOff u := by
  rcases pwrOff_power u with h | h
  · simp only [oPstate]; omega
  · unfold Above at h
    simp only [oPstate]; omega

theorem State.pstateWrite_night (hact : s.nightState = 0) (hcfg : [1, 2, 4].contains s.cfgState = false) :
    s.pstateWrite 1 = .ok (s.setBit oPstate 0 true).nightEnter := by
  unfold State.pstateWrite
  rw [hcfg, hact]
  rfl

theorem State.pstateWrite_day (hnight : s.nightState = 2) : s.pstateWrite 0 = .ok ((s.setBit oPstate 0 false).nightLeave 1) := by
  unfold State.pstateWrite
  rw [hnight]
  rfl

/-- R41: the device enters ENTERING and has recorded its units. -/
theorem State.nightEnter_spec (hwf : State.regsWf s = true) : s.nightEnter.nightState = 1 ∧ s.nightEnter.sys.nightStops = false ∧
    ∀ u ∈ nightOrder.flatten, s.pwrEn u = true → pwrOff u ∈ s.nightEnter.sys.nightUnits := by
  unfold State.nightEnter
  extract_lets us _
  generalize hr : ({ s with sys := { s.sys with nightUnits := us, nightStops := false, nightLatch := none } } : State) = r
  have hwfr : State.regsWf r = true := hr ▸ State.wf_pins hwf _
  have hstops : r.sys.nightStops = false := by rw [← hr]
  have hunits : r.sys.nightUnits = us := by rw [← hr]
  have hcopy := (Steady.refl (fun _ => True) (r.setFld oPstate 9 8 1)).modelCopy
  refine ⟨?_, ?_, fun u hu hen => ?_⟩
  · rw [State.nightState_eq, hcopy.fld trivial not_above_oPstate, State.fld_setFld_self hwfr _ _ (by omega) (by omega)]
    rfl
  · rw [hcopy.sysOf (·.nightStops), State.setFld_sys, hstops]
  · rw [hcopy.sysOf (·.nightUnits), State.setFld_sys, hunits]
    exact List.mem_map_of_mem (List.mem_filter.mpr ⟨hu, hen⟩)

/-- R42: the device is EXITING and shows what woke it. -/
theorem State.nightLeave_spec (hwf : State.regsWf s = true) {w : Nat} (hw : w < 16) :
    (s.nightLeave w).nightState = 3 ∧ (s.nightLeave w).fld oPstate 15 12 = w := by
  unfold State.nightLeave
  extract_lets _ s1
  have h1 : State.regsWf s1 = true := State.wf_pins hwf _
  clear_value s1
  have h2 : State.regsWf (s1.setFld oPstate 9 8 3) = true := State.wf_setFld h1 ..
  have hpump := (Steady.refl (0x380 ≤ ·) ((s1.setFld oPstate 9 8 3).setFld oPstate 15 12 w)).exitPump fun v hv => above_of_modes v hv
  constructor
  · rw [State.nightState_eq, hpump.fld (by decide) not_above_oPstate, State.fld_setFld_beside h2 _ _ (by omega) (by omega) (by omega),
      State.fld_setFld_self h1 _ _ (by omega) (by omega)]
    rfl
  · rw [hpump.fld (by decide) not_above_oPstate, State.fld_setFld_self h2 _ _ (by omega) (by omega)]
    exact Nat.mod_eq_of_lt hw

/-! ## The stops -/

/-- A unit that is not ON does not come ON as others stop. -/
theorem State.pwr_stopOne_ne_on {o : Nat} (ho : ¬Above o) (h : s.pwr o ≠ 2) (c : Nat) (v : Sys2Proof.PUnit) : (s.stopOne c v).pwr o ≠ 2 := by
  by_cases hv : pwrOff v = o
  · rw [State.stopOne, hv, if_neg h]
    exact h
  · have hstop := (Steady.refl (· = o) s).stopOne (v := v) (c := c) fun h => absurd h hv
    rw [hstop.pwr rfl ho]
    exact h

theorem State.pwr_stops_ne_on {o : Nat} (ho : ¬Above o) (l : List Sys2Proof.PUnit) (c : Nat) (h : s.pwr o ≠ 2) :
    (l.foldl (State.stopOne · c ·) s).pwr o ≠ 2 :=
  List.foldlRecOn (motive := fun r : State => r.pwr o ≠ 2) l _ h fun _ hr v _ => State.pwr_stopOne_ne_on ho hr c v

theorem State.pwr_stopUnit_ne_on {o : Nat} (ho : ¬Above o) (htile : ∀ n : Tile, o ≠ oPwrTile n.val) (h : s.pwr o ≠ 2) (v : Sys2Proof.PUnit) (c : Nat) :
    (s.stopUnit v c).pwr o ≠ 2 := by
  unfold State.stopUnit
  split
  · exact h
  · cases v with
    | clu n => exact State.pwr_stopOne_ne_on ho (State.pwr_stops_ne_on ho _ 1 h) c _
    | tile n =>
      have hcause := ((Steady.refl (· = o) s).iceFlush (n := n.val)).laneSources (x := some n.val)
      refine State.pwr_stopOne_ne_on ho (State.pwr_stops_ne_on ho _ 1 ?_) c _
      rw [State.pwr, State.fld_setFld_ne (htile n).symm, ← State.pwr, hcause.pwr rfl ho]
      exact h
    | conv n => exact State.pwr_stopOne_ne_on ho h c _
    | dram k => exact State.pwr_stopOne_ne_on ho h c _
    | lane l => exact State.pwr_stopOne_ne_on ho h c _
    | pld p => exact State.pwr_stopOne_ne_on ho h c _
    | eng e => exact State.pwr_stopOne_ne_on ho h c _

theorem State.pwr_stopOne_dram (hwf : State.regsWf s = true) (k : Chan) {c : Nat} (hc : c < 16) : (s.stopOne c (.dram k)).pwr (oPwrMem k.val) ≠ 2 := by
  unfold State.stopOne
  dsimp only [pwrOff, State.stopHook]
  split
  · rw [(State.stopWord hwf _ hc).1]
    decide
  · assumption

theorem not_above_dram (k : Chan) : ¬Above (oPwrMem k.val) := by
  have hk := k.isLt
  simp only [Above, oPwrMem]
  omega

/-- Stops of DRAM channels leave none of them ON. -/
theorem State.pwr_stopDrams (hwf : State.regsWf s = true) (l : List Chan) {k : Chan} (h : k ∈ l ∨ s.pwr (oPwrMem k.val) ≠ 2) {c : Nat} (hc : c < 16) :
    ((l.map PUnit.dram).foldl (State.stopOne · c ·) s).pwr (oPwrMem k.val) ≠ 2 := by
  induction l generalizing s with
  | nil => exact h.resolve_left List.not_mem_nil
  | cons j l ih =>
    have hstop := (Steady.refl (fun _ => False) s).stopOne (v := .dram j) (c := c) False.elim
    refine ih (hstop.wf hwf) ?_
    by_cases hj : k = j
    · exact .inr (hj ▸ State.pwr_stopOne_dram hwf j hc)
    · rcases h with hmem | hoff
      · exact .inl ((List.mem_cons.mp hmem).resolve_left hj)
      · exact .inr (State.pwr_stopOne_ne_on (not_above_dram k) hoff c _)

theorem dramUnits_eq : dramUnits = (List.finRange 8).map PUnit.dram := by decide

/-- R41 steps 2 to 5. -/
theorem State.nightStop_spec (hwf : State.regsWf s = true) : s.nightStop.sys.nightStops = true ∧ ∀ k : Chan, s.nightStop.pwr (oPwrMem k.val) ≠ 2 := by
  unfold State.nightStop
  generalize hr : ({ s with sys := { s.sys with nightStops := true } } : State) = r
  have hwfr : State.regsWf r = true := hr ▸ State.wf_pins hwf _
  have hstops : r.sys.nightStops = true := by rw [← hr]
  extract_lets s1 s2 s3 s4
  have h1 : Steady (fun _ => False) r s1 := (Steady.refl _ r).nightSources
  have h2 : Steady (fun _ => False) r s2 := h1.foldl fun _ _ _ hr => hr.stopOne False.elim
  have h3 : Steady (fun _ => False) r s3 := h2.foldl fun _ _ _ hr => hr.iceFlush.when hr
  have h4 : Steady (fun _ => False) r s4 := h3.foldl fun _ _ _ hr => hr.stopOne False.elim
  have h5 : Steady (fun _ => False) r (tileUnits.foldl (State.stopUnit · · 3) s4) := h4.foldl fun _ _ _ hr => hr.stopUnit fun _ => False.elim
  refine ⟨(h5.sysOf (·.nightStops)).trans hstops, fun k => ?_⟩
  clear_value s3
  have hoff : s4.pwr (oPwrMem k.val) ≠ 2 := by
    unfold s4
    rw [dramUnits_eq]
    exact State.pwr_stopDrams (h3.wf hwfr) _ (.inl (List.mem_finRange k)) (by omega)
  have htile (n : Tile) : oPwrMem k.val ≠ oPwrTile n.val := by
    have hn := n.isLt
    simp only [oPwrMem, oPwrTile]
    omega
  exact List.foldlRecOn (motive := fun u : State => u.pwr (oPwrMem k.val) ≠ 2) tileUnits _ hoff fun _ hu v _ =>
    State.pwr_stopUnit_ne_on (not_above_dram k) htile hu v 3

/-! ## The ends of the entry and of the exit -/

theorem tileUnits_off (h : ∀ c : Tile, s.pwr (oPwrTile c.val) = 0) : tileUnits.all (fun u => decide (s.pwr (pwrOff u) = 0)) = true := by
  refine List.all_eq_true.mpr fun u hu => ?_
  obtain ⟨n, -, rfl⟩ := List.mem_map.mp hu
  exact decide_eq_true (h _)

/-- NIGHT_ENTRY_DONE with no exit latched. -/
theorem State.nightEntryDone_spec (hwf : State.regsWf s = true) (hst : s.nightState = 1) (hstops : s.sys.nightStops = true)
    (hlatch : s.sys.nightLatch = none) (htiles : ∀ c : Tile, s.pwr (oPwrTile c.val) = 0) : ∃ t, exec .nightEntryDone s = .next t ∧ t.nightState = 2 := by
  have hexec : ∃ t, exec .nightEntryDone s = .next t ∧ t.regs = (s.setFld oPstate 9 8 2).regs := by
    refine ⟨{ s.setFld oPstate 9 8 2 with sys := { (s.setFld oPstate 9 8 2).sys with nightStops := false } }, ?_, rfl⟩
    refine (if_pos ⟨hst, hstops, tileUnits_off htiles⟩).trans ?_
    rw [hlatch]
  obtain ⟨t, hexec, hregs⟩ := hexec
  refine ⟨t, hexec, ?_⟩
  rw [State.nightState_eq, State.fld_congr hregs, State.fld_setFld_self hwf _ _ (by omega) (by omega)]
  rfl

theorem State.restarted_of_none (h : s.sys.nightUnits = []) (l : List Sys2Proof.PUnit) : s.restarted l = true := by
  have hnone : s.recorded l = [] := by simp [State.recorded, h]
  rw [State.restarted, hnone]
  rfl

/-- NIGHT_EXIT_DONE with no entry latched. -/
theorem State.nightExitDone_spec (hwf : State.regsWf s = true) (hst : s.nightState = 3) (hunits : s.sys.nightUnits = []) (hlatch : s.sys.nightLatch = none) :
    ∃ t, exec .nightExitDone s = .next t ∧ t.nightState = 0 := by
  have hall : nightOrder.all s.restarted = true := List.all_eq_true.mpr fun l _ => State.restarted_of_none hunits l
  refine ⟨_, (if_pos ⟨hst, hall⟩).trans (congrArg Host.Outcome.next (if_neg (by simp [hlatch]))), ?_⟩
  generalize hr : ({ s.setFld oPstate 9 8 0 with sys := { (s.setFld oPstate 9 8 0).sys with nightUnits := [], nightLatch := none } } : State) = r
  have hregs : r.regs = (s.setFld oPstate 9 8 0).regs := by rw [← hr]
  have hwait := (Steady.refl (0x380 ≤ ·) r).startWaiting (l := nightOrder.flatten) fun v hv => above_of_modes v hv
  rw [State.nightState_eq, hwait.fld (by decide) not_above_oPstate, State.fld_congr hregs, State.fld_setFld_self hwf _ _ (by omega) (by omega)]
  rfl

end Sys2Proof.Machine
end

section
/-! SUPPORT. Brown-out (R43, R44): the warning of a rail, and the trip of a tile with its children. -/

namespace Sys2Proof.Machine

set_option Elab.async false

variable {s t : State}

/-! ## Warnings -/

theorem warnBit_lt (m : BorMon) : warnBit m < 31 := by cases m <;> simp [warnBit]

theorem State.addLow_regs (s : State) (m : BorMon) : (s.addLow m).regs = s.regs := by unfold State.addLow; split <;> rfl
theorem State.addLow_warn (s : State) (m : BorMon) : (s.addLow m).sys.warn = s.sys.warn := by unfold State.addLow; split <;> rfl

/-- The notes of a warning, apart from SYS_BORSTAT. -/
def State.warned (s : State) (m : BorMon) : State := { s with sys := { s.sys with warn := s.sys.warn ++ [m] } }.addLow m

theorem State.warned_regs (s : State) (m : BorMon) : (s.warned m).regs = s.regs := State.addLow_regs ..
theorem State.warned_warn (s : State) (m : BorMon) : (s.warned m).sys.warn = s.sys.warn ++ [m] := State.addLow_warn ..

theorem State.addWarn_new {m : BorMon} (h : s.sys.warn.contains m = false) :
    s.addWarn m = ((s.warned m).setBit 0x39C 31 true).setBit 0x39C (warnBit m) true := if_neg (Bool.eq_false_iff.mp h)

/-- R44: a new warning inhibits the non-volatile stores. -/
theorem State.addWarn_spec (hwf : State.regsWf s = true) {m : BorMon} (h : s.sys.warn.contains m = false) :
    (s.addWarn m).nvInh = true ∧ (s.addWarn m).bit 0x39C (warnBit m) = true ∧ (s.addWarn m).sys.warn = s.sys.warn ++ [m] := by
  have hbit := warnBit_lt m
  have h1 : State.regsWf (s.warned m) = true := by rw [State.regsWf, State.warned_regs]; exact hwf
  have h2 : State.regsWf ((s.warned m).setBit 0x39C 31 true) = true := State.wf_setBit h1 ..
  rw [State.addWarn_new h]
  refine ⟨?_, State.bit_setBit_self h2 _ _ (by omega), ?_⟩
  · rw [State.nvInh, State.bit_setBit_beside h2 _ _ (by omega) (by omega), State.bit_setBit_self h1 _ _ (by omega)]
  · rw [State.setBit_sys, State.setBit_sys, State.warned_warn]

/-- The registers but SYS_BORSTAT, and their canonical form, are not the warning's. -/
theorem State.addWarn_keeps (hwf : State.regsWf s = true) (m : BorMon) : State.regsWf (s.addWarn m) = true ∧
    ∀ o, o ≠ 0x39C → (s.addWarn m).reg o = s.reg o := by
  cases h : s.sys.warn.contains m with
  | true =>
    have hlow : s.addWarn m = s.addLow m := if_pos h
    rw [hlow, State.regsWf, State.addLow_regs]
    exact ⟨hwf, fun o _ => by rw [State.reg, State.addLow_regs, ← State.reg]⟩
  | false =>
    have h1 : State.regsWf (s.warned m) = true := by rw [State.regsWf, State.warned_regs]; exact hwf
    rw [State.addWarn_new h]
    refine ⟨State.wf_setBit (State.wf_setBit h1 ..) .., fun o ho => ?_⟩
    rw [State.reg_setBit_ne ho.symm, State.reg_setBit_ne ho.symm, State.reg, State.warned_regs, ← State.reg]

/-! ## The trip of a tile -/

theorem pwrOff_belowTile {t : Nat} {v : Sys2Proof.PUnit} (hv : v ∈ belowTile t) : 0x110 ≤ pwrOff v := by
  cases v with
  | tile n => simp [belowTile, tileDirect, uEng, uConv, uLane, uClu, uDram, uPld] at hv
  | conv n => simp only [pwrOff, oPwrCnv]; omega
  | dram k => simp only [pwrOff, oPwrMem]; omega
  | lane l => simp only [pwrOff, oPwrLane]; omega
  | clu c => simp only [pwrOff, oPwrClu]; omega
  | pld p => simp only [pwrOff, oPwrPld]; omega
  | eng e => simp only [pwrOff, oPwrEng, oEng]; omega

theorem State.addForced_regs (s : State) (o : Nat) : (s.addForced o).regs = s.regs := by unfold State.addForced; split <;> rfl

theorem State.mem_addForced (s : State) (o : Nat) : o ∈ (s.addForced o).sys.forced := by
  unfold State.addForced
  split
  · next h => exact List.contains_iff_mem.mp h
  · exact List.mem_append_right _ List.mem_cons_self

/-- R34: a unit that is ON and is forced off enters STOPPING. -/
theorem State.forceStop_on {o : Nat} (hon : s.pwr o = 2) (c : Nat) : s.forceStop o c = ((s.setPwr o 3).setFld o 23 20 c).setBit o 29 false := by
  unfold State.forceStop
  split
  · next h => exact absurd (h.symm.trans hon) (by decide)
  · rfl
  · next h => exact absurd hon h

/-- R43: the trip of a tile that is ON. -/
theorem State.tileTrip_spec (hwf : State.regsWf s = true) (c : Tile) (hon : s.pwr (oPwrTile c.val) = 2) :
    (s.tileTrip c.val).pwr (oPwrTile c.val) = 3 ∧ (s.tileTrip c.val).fld (oPwrTile c.val) 23 20 = 2 ∧
      oPwrTile c.val ∈ (s.tileTrip c.val).sys.forced := by
  have hc := c.isLt
  have hlow : ¬Above (oPwrTile c.val) := by simp only [Above, oPwrTile]; omega
  have hlost := (Steady.refl (fun _ => True) s).iceLost (n := c.val)
  have hwf0 : State.regsWf ((s.iceLost c.val).setFld (oPwrTile c.val) 23 20 2) = true := State.wf_setFld (hlost.wf hwf) ..
  have hon0 : ((s.iceLost c.val).setFld (oPwrTile c.val) 23 20 2).pwr (oPwrTile c.val) = 2 :=
    (State.fld_setFld_beside (hlost.wf hwf) _ _ (by omega) (by omega) (by omega)).trans ((hlost.pwr trivial hlow).trans hon)
  have hbelow := (Steady.refl (· = oPwrTile c.val) ((s.iceLost c.val).setFld (oPwrTile c.val) 23 20 2)).foldl (f := State.forceChild) (l := belowTile c.val)
    fun r v hv hr => hr.forceChild fun h => by
      have := pwrOff_belowTile hv
      simp only [oPwrTile] at h
      omega
  have htrip : s.tileTrip c.val = ((((belowTile c.val).foldl State.forceChild ((s.iceLost c.val).setFld (oPwrTile c.val) 23 20 2)).addForced
      (oPwrTile c.val)).forceStop (oPwrTile c.val) 2).stopHook (uTile c.val) 2 := by
    unfold State.tileTrip
    dsimp only
    split
    · next h => exact absurd (h.symm.trans hon) (by decide)
    · rfl
    · next h => exact absurd hon h
  rw [htrip]
  generalize (belowTile c.val).foldl State.forceChild ((s.iceLost c.val).setFld (oPwrTile c.val) 23 20 2) = r at hbelow
  have hwfr : State.regsWf (r.addForced (oPwrTile c.val)) = true := by
    rw [State.regsWf, State.addForced_regs]
    exact hbelow.wf hwf0
  have honr : (r.addForced (oPwrTile c.val)).pwr (oPwrTile c.val) = 2 :=
    (State.fld_congr (State.addForced_regs ..) ..).trans ((hbelow.pwr rfl hlow).trans hon0)
  have hforced := r.mem_addForced (oPwrTile c.val)
  generalize r.addForced (oPwrTile c.val) = u at *
  obtain ⟨hst, hcause, -⟩ := State.stopWord hwfr (oPwrTile c.val) (c := 2) (by omega)
  have hhook := (Steady.refl (fun _ => True) (((u.setPwr (oPwrTile c.val) 3).setFld (oPwrTile c.val) 23 20 2).setBit (oPwrTile c.val) 29 false)).stopHook
    (v := uTile c.val) (c := 2)
  rw [State.forceStop_on honr]
  refine ⟨(hhook.pwr trivial hlow).trans hst, (hhook.fld trivial hlow 23 20).trans hcause, ?_⟩
  rw [hhook.sysOf (·.forced), State.setBit_sys, State.setFld_sys, State.setPwr_sys]
  exact hforced

end Sys2Proof.Machine
end

section
open Sys2Proof Sys2Proof.Machine

/-- Settles O24: the modes stand in SYS_PSTATE, which no power register and no operation of another block overlaps; the stops of the entry reach every
DRAM channel; a trip writes the tile's own register after its children's. -/
theorem nightAndBrownOutComplete : Obligations.NightAndBrownOutComplete := by
  refine ⟨fun req s hinv hhub hdie hact hcfg => ?_, fun s hinv hst hstops => ?_, fun s hinv hst hstops hlatch htiles => ?_, fun req s hinv hhub hdie hst => ?_,
    fun s hinv hst hpin => ?_, fun s hinv hst hunits hlatch => ?_, fun m s hwf hnew => ?_, fun m s hwf => ?_, fun c s hinv hon => ?_⟩
  · obtain ⟨hnight, hstops, hunits⟩ := State.nightEnter_spec (s := s.setBit oPstate 0 true) (State.wf_setBit hinv.regsWf ..)
    refine ⟨_, congrArg Host.Outcome.next (State.cmdWrite_pstate hhub hdie (.inr rfl) (State.pstateWrite_night hact hcfg)), hnight, hstops, fun u hu hen => ?_⟩
    refine hunits u hu ?_
    rw [State.pwrEn, State.bit, State.setBit, State.fld_setFld_ne (oPstate_ne_pwrOff u), ← State.bit, ← State.pwrEn, hen]
  · have hdrain := (State.Steady.refl (fun _ => False) s).drainAll
    exact ⟨_, congrArg Host.Outcome.next (if_pos ⟨hst, hstops⟩), State.nightStop_spec (hdrain.wf hinv.regsWf)⟩
  · exact State.nightEntryDone_spec hinv.regsWf hst hstops hlatch htiles
  · exact ⟨_, congrArg Host.Outcome.next (State.cmdWrite_pstate hhub hdie (.inl rfl) (State.pstateWrite_day hst)),
      State.nightLeave_spec (State.wf_setBit hinv.regsWf ..) (by omega)⟩
  · have hcode : s.wakeCode .pin = some 3 := if_pos hpin
    have hexec : exec (.wakeSource .pin) s = .next (s.nightLeave 3) := by
      change execWakeSource .pin s = _
      rw [execWakeSource, hcode]
      exact if_pos hst
    exact ⟨_, hexec, State.nightLeave_spec hinv.regsWf (by omega)⟩
  · exact State.nightExitDone_spec hinv.regsWf hst hunits hlatch
  · obtain ⟨hinh, hbit, hwarn⟩ := State.addWarn_spec hwf hnew
    have hlog := (State.Steady.refl (fun _ => True) (s.addWarn m)).log (r := mkRec 0x4000 0x010 0 1 0x4000)
    have hlow : ¬Above 0x39C := by unfold Above; decide
    refine ⟨_, congrArg Host.Outcome.next (if_neg (Bool.eq_false_iff.mp hnew)), ?_, ?_, ?_⟩
    · rw [State.nvInh, hlog.bit trivial hlow, ← State.nvInh, hinh]
    · rw [hlog.bit trivial hlow, hbit]
    · rw [hlog.sysOf (·.warn), hwarn]
  · exact ⟨_, rfl, by rw [State.setBit_sys], State.bit_setBit_self (State.wf_pins hwf _) _ _ (by omega)⟩
  · obtain ⟨hwf1, hkeep⟩ := State.addWarn_keeps hinv.regsWf (.tile c)
    have hne : oPwrTile c.val ≠ 0x39C := by have := c.isLt; simp only [oPwrTile]; omega
    have hlow : ¬Above (oPwrTile c.val) := by have := c.isLt; simp only [Above, oPwrTile]; omega
    have hon1 : (s.addWarn (.tile c)).pwr (oPwrTile c.val) = 2 := by
      rw [State.pwr, State.fld, hkeep _ hne]
      exact hon
    obtain ⟨hst, hcause, hforced⟩ := State.tileTrip_spec hwf1 c hon1
    generalize hu : (s.addWarn (.tile c)).tileTrip c.val = u at hst hcause hforced
    have hlog := (State.Steady.refl (fun _ => True) (u.setBit 0x39C (8 + c.val) true)).log (r := mkRec 0x4000 0x011 0 1 0x4000)
    have hexec : exec (.borTrip (.tile c)) s = .next ((u.setBit 0x39C (8 + c.val) true).log (mkRec 0x4000 0x011 0 1 0x4000)) := by
      rw [← hu]
      rfl
    refine ⟨_, hexec, ?_, ?_, ?_, ?_⟩
    · rw [hlog.pwr trivial hlow, State.pwr, State.setBit, State.fld_setFld_ne hne.symm, ← State.pwr, hst]
    · rw [hlog.fld trivial hlow, State.setBit, State.fld_setFld_ne hne.symm, hcause]
    · rw [hlog.bit trivial (by unfold Above; decide)]
      exact State.bit_setBit_true _ (by have := c.isLt; omega) (by rw [show regReset 0x39C = 0 from by decide]; simp [bitsOf])
    · rw [hlog.sysOf (·.forced), State.setBit_sys]
      exact hforced

end

section
/-! SUPPORT. The flow of bytes through the configuration controller (R58 to R66): where nothing is due, it changes nothing; while a section goes on, or once
a load has failed, it moves bytes alone. -/

namespace Stated

open Sys2Proof

variable {s : Machine.State} {h : List Byte}

theorem Taking.hdr (ht : Taking s h) : s.cfg.hdr = some h := ht.1
theorem Taking.loading (ht : Taking s h) : s.cfgState = 1 := ht.2.1
theorem Taking.notEnding (ht : Taking s h) : s.cfg.ending = false := ht.2.2.1
theorem Taking.notEnded (ht : Taking s h) : s.cfg.ended = false := ht.2.2.2
theorem Quiet.noDrop (hq : Quiet s) : s.cfg.drop = 0 := hq.1
theorem Quiet.noForward (hq : Quiet s) : s.cfg.chain.fwdLeft = 0 := hq.2.1
theorem Quiet.noWait (hq : Quiet s) : s.cfg.wait = [] := hq.2.2

end Stated

namespace Sys2Proof.Machine

set_option Elab.async false

/-! ## A value written back -/

theorem SMap.drop_of_find_none {α : Type} {m : SMap α} {lo k : Nat} (h : SMap.rising lo m = true) (hf : SMap.find m k = none) : SMap.drop m k = m := by
  induction m generalizing lo with
  | nil => rfl
  | cons e m ih =>
    simp only [SMap.rising, Bool.and_eq_true, decide_eq_true_eq] at h
    by_cases hk : e.1 = k
    · simp [SMap.find, hk] at hf
    · simp only [SMap.find, hk, if_false] at hf
      simp only [SMap.drop, hk, if_false, ih h.2 hf, ite_self]

theorem SMap.insert_of_find {α : Type} {m : SMap α} {lo k : Nat} {v : α} (h : SMap.rising lo m = true) (hf : SMap.find m k = some v) :
    SMap.insert m k v = m := by
  induction m generalizing lo with
  | nil => cases hf
  | cons e m ih =>
    obtain ⟨j, x⟩ := e
    simp only [SMap.rising, Bool.and_eq_true, decide_eq_true_eq] at h
    by_cases hk : j = k
    · simp only [SMap.find, hk, if_true, Option.some.injEq] at hf
      simp only [SMap.insert, hk, if_true, hf]
    · simp only [SMap.find, hk, if_false] at hf
      have hlt : j < k := by
        by_contra hge
        rw [SMap.find_below h.2 (by omega)] at hf
        cases hf
      simp only [SMap.insert, hk, if_false, if_pos hlt, ih h.2 hf]

/-- A write of the value that stands there changes nothing. -/
theorem SMap.set_get {α : Type} [DecidableEq α] {d : Nat → α} {m : SMap α} (h : SMap.wf d m = true) (k : Nat) : SMap.set d m k (SMap.get d m k) = m := by
  have hrise : SMap.rising 0 m = true := by
    simp only [SMap.wf, Bool.and_eq_true] at h
    exact h.1
  have hfind := SMap.find_of_get h (k := k)
  unfold SMap.set
  split
  · next hd => exact SMap.drop_of_find_none hrise (by rw [hfind, if_pos hd])
  · next hd => exact SMap.insert_of_find hrise (by rw [hfind, if_neg hd])

variable {s t u : State}

/-- Nothing discarded: the counter is written back as it stands. -/
theorem State.cfgDiscard_zero (hwf : State.regsWf s = true) : s.cfgDiscard 0 = s := by
  have hword : withBits (s.reg oDiscard) 31 0 (satAdd (2 ^ 32 - 1) (s.fld oDiscard 31 0) 0) = s.reg oDiscard := by
    have hle : s.fld oDiscard 31 0 + 0 ≤ 2 ^ 32 - 1 := by simp only [State.fld, bitsOf]; omega
    rw [satAdd, if_pos hle]
    exact withBits_word _ _
  have hregs : SMap.set regReset s.regs oDiscard (s.reg oDiscard) = s.regs := SMap.set_get hwf _
  rw [State.cfgDiscard, State.count, State.setFld, hword, State.setReg, hregs]

@[simp] theorem State.cfgDiscard_cfg (s : State) (n : Nat) : (s.cfgDiscard n).cfg = s.cfg := State.setFld_cfg ..

theorem State.reg_cfgDiscard {o : Nat} (h : o ≠ oDiscard) (s : State) (n : Nat) : (s.cfgDiscard n).reg o = s.reg o := State.reg_count_ne h.symm _ _ _

@[simp] theorem State.cfgState_cfgDiscard (s : State) (n : Nat) : (s.cfgDiscard n).cfgState = s.cfgState := by
  rw [State.cfgState, State.fld, State.reg_cfgDiscard (by decide), ← State.fld, ← State.cfgState]

/-! ## Nothing is due -/

/-- No byte is to be forwarded, discarded or moved, no section begins or ends: the controller waits for what comes next. -/
structure State.Resting (s : State) : Prop where
  quiet : Stated.Quiet s
  ending : s.cfg.ending = false
  idle : s.cfgState = 0 → s.cfg.buf = []
  between : s.cfg.hdr = none → s.cfgState = 1 ∨ s.cfgState = 3 → s.cfg.buf = []
  open_ : ∀ h, s.cfg.hdr = some h → s.cfgState = 1 → s.cfg.ended = false ∨ s.cfg.writers ≠ [] ∨ s.cfg.blk < hdrBlocks h

theorem State.partialOver_of_not_ending (h : s.cfg.ending = false) (p : Nat) : s.partialOver p = s := by
  rw [State.partialOver, if_neg (by simp [h])]

theorem State.cfgDrop_of_not_ending (h : s.cfg.ending = false) : s.cfgDrop =
    { s with cfg := { s.cfg with
        buf := s.cfg.buf.drop (min s.cfg.drop s.cfg.buf.length), drop := s.cfg.drop - min s.cfg.drop s.cfg.buf.length,
        us := if s.cfg.drop ≠ 0 then 0 else s.cfg.us, starved := if s.cfg.drop ≠ 0 then 0 else s.cfg.starved } }.cfgDiscard
      (min s.cfg.drop s.cfg.buf.length) := by
  unfold State.cfgDrop
  simp only [decide_eq_true_eq]
  split <;> exact State.partialOver_of_not_ending (by rw [State.cfgDiscard_cfg]; exact h) _

theorem State.cfgDrop_of_no_drop (h : s.cfg.ending = false) (hdrop : s.cfg.drop = 0) : s.cfgDrop = s.cfgDiscard 0 := by
  rw [State.cfgDrop_of_not_ending h]
  simp [hdrop]
  simp only [← hdrop]

theorem State.chainPump_of_no_forward (n : Nat) (h : s.cfg.chain.fwdLeft = 0) : State.chainPump n s = s := by
  cases n with
  | zero => rfl
  | succ n => exact if_pos (.inl h)

theorem State.cfgPull_of_no_wait (h : s.cfg.wait = []) : s.cfgPull = s := if_pos h

theorem State.windowFilter_of_section (h : s.cfg.hdr.isSome = true ∨ s.cfgState ≠ 3 ∨ s.cfg.buf = []) : s.windowFilter = s := by
  refine if_pos ?_
  rcases h with h | h | h
  · exact .inr (.inr (.inr (.inl h)))
  · exact .inr (.inr (.inl h))
  · exact .inr (.inr (.inr (.inr (.inr (by simp [h])))))

theorem State.partBegin_of_section (h : s.cfg.hdr.isSome = true ∨ s.cfgState ≠ 3 ∨ s.cfg.buf = []) : s.partBegin = s := by
  refine if_neg ?_
  rcases h with h | h | h
  · simp [Option.isSome_iff_ne_none.mp h]
  · simp [h]
  · simp [h]

theorem State.restNops_of_missing {h : List Byte} (hb : s.cfg.blk < hdrBlocks h) : s.restNops h = none := if_pos hb

theorem State.releaseBegin_of_open
    (h : ∀ h, s.cfg.hdr = some h → s.cfgState = 1 → s.cfg.ended = false ∨ s.cfg.writers ≠ [] ∨ s.cfg.blk < hdrBlocks h) : s.releaseBegin = s := by
  unfold State.releaseBegin
  split
  · rfl
  · next hd heq =>
    split
    · rfl
    · next hc =>
      simp only [not_or, Decidable.not_not] at hc
      obtain ⟨-, hst, hended, hwr⟩ := hc
      have hmissing : s.cfg.blk < hdrBlocks hd := by
        rcases h hd heq hst with hno | hne | hlt
        · exact absurd hno hended
        · exact absurd hwr hne
        · exact hlt
      rw [State.restNops_of_missing hmissing]

theorem State.Resting.section_ (h : s.Resting) : s.cfg.hdr.isSome = true ∨ s.cfgState ≠ 3 ∨ s.cfg.buf = [] := by
  cases hh : s.cfg.hdr with
  | some _ => exact .inl rfl
  | none => exact or_iff_not_imp_left.mpr fun _ => or_iff_not_imp_left.mpr fun hst => h.between hh (.inr (Decidable.not_not.mp hst))

theorem State.Resting.cfgDiscard (h : s.Resting) (n : Nat) : (s.cfgDiscard n).Resting where
  quiet := by
    rw [Stated.Quiet, State.cfgDiscard_cfg]
    exact h.quiet
  ending := by simpa using h.ending
  idle := by simpa using h.idle
  between := by simpa using h.between
  open_ := by simpa using h.open_

/-- A step of a controller that rests. -/
theorem State.Resting.cfgStep (h : s.Resting) : s.cfgStep = s.cfgDiscard 0 := by
  have hr := h.cfgDiscard 0
  unfold State.cfgStep
  rw [State.cfgDrop_of_no_drop h.ending h.quiet.noDrop]
  generalize s.cfgDiscard 0 = r at hr ⊢
  have hidle : ¬(r.cfgState = 0 ∧ r.cfg.buf ≠ []) := fun ⟨h0, hne⟩ => hne (hr.idle h0)
  have hmagic : ¬(r.cfgState = 1 ∧ r.cfg.done = false ∧ r.cfg.hdr.isNone = true ∧ 4 ≤ r.cfg.buf.length ∧ hdrMagic r.cfg.buf = false) := by
    rintro ⟨h1, -, hnone, hlen, -⟩
    rw [hr.between (Option.isNone_iff_eq_none.mp hnone) (.inl h1)] at hlen
    exact absurd hlen (by decide)
  dsimp only
  rw [if_neg hidle, State.chainPump_of_no_forward _ hr.quiet.noForward, State.windowFilter_of_section hr.section_, State.partBegin_of_section hr.section_,
    State.releaseBegin_of_open hr.open_, if_neg hmagic]

/-- One turn, where no window data waits after its step. -/
theorem State.cfgFlow_of_no_wait (h : s.cfgStep.cfg.wait = []) : s.cfgFlow = s.cfgStep := by
  unfold State.cfgFlow State.cfgTurns
  dsimp only
  rw [State.cfgPull_of_no_wait h]
  exact if_neg (lt_irrefl _)

theorem State.Resting.cfgFlow_eq_discard (h : s.Resting) : s.cfgFlow = s.cfgDiscard 0 := by
  have hwait : s.cfgStep.cfg.wait = [] := by
    rw [h.cfgStep, State.cfgDiscard_cfg]
    exact h.quiet.noWait
  rw [State.cfgFlow_of_no_wait hwait, h.cfgStep]

/-- The flow leaves a controller that rests as it is. -/
theorem State.Resting.cfgFlow (h : s.Resting) (hwf : State.regsWf s = true) : s.cfgFlow = s := by
  rw [h.cfgFlow_eq_discard, State.cfgDiscard_zero hwf]

/-- While a section is taken, the controller rests when no byte waits. -/
theorem State.resting_of_taking {h : List Byte} (ht : Stated.Taking s h) (hq : Stated.Quiet s) : s.Resting := by
  refine ⟨hq, ht.notEnding, fun h0 => ?_, fun hnone _ => ?_, fun _ _ _ => .inl ht.notEnded⟩
  · cases ht.loading.symm.trans h0
  · cases ht.hdr.symm.trans hnone

/-! ## Bytes that move -/

/-- What the controller holds but for the bytes on their way. -/
def CfgSt.held (c : CfgSt) : CfgSt := { c with buf := [], drop := 0, wait := [], src := 0, us := 0, starved := 0, chain := {} }

/-- Bytes have moved, and nothing else has changed but the count of those discarded. -/
def State.Moved (s t : State) : Prop := t.cfg.held = s.cfg.held ∧ ∀ o, o ≠ oDiscard → t.reg o = s.reg o

namespace State.Moved

theorem refl (s : State) : s.Moved s := ⟨rfl, fun _ _ => rfl⟩

theorem trans (h : s.Moved t) (h' : t.Moved u) : s.Moved u := ⟨h'.1.trans h.1, fun o ho => (h'.2 o ho).trans (h.2 o ho)⟩

/-- An update of the bytes on their way. -/
theorem bytes (h : s.Moved t) (hc : u.cfg.held = t.cfg.held := by rfl) (hr : u.regs = t.regs := by rfl) : s.Moved u :=
  h.trans ⟨hc, fun o _ => by rw [State.reg, hr, ← State.reg]⟩

theorem cfgDiscard (h : s.Moved t) (n : Nat) : s.Moved (t.cfgDiscard n) :=
  h.trans ⟨by rw [State.cfgDiscard_cfg], fun _ ho => State.reg_cfgDiscard ho t n⟩

/-- Whatever of the controller is not of the bytes on their way. -/
theorem cfgOf {α : Type} (h : s.Moved t) (f : CfgSt → α) (hf : ∀ c : CfgSt, f c.held = f c := by intro _; rfl) : f t.cfg = f s.cfg := by
  rw [← hf t.cfg, h.1, hf]

theorem fld (h : s.Moved t) {o : Nat} (ho : o ≠ oDiscard) (hi lo : Nat) : t.fld o hi lo = s.fld o hi lo := by rw [State.fld, State.fld, h.2 o ho]

theorem cfgState (h : s.Moved t) : t.cfgState = s.cfgState := h.fld (by decide) 31 29

theorem cfgDrop (h : s.Moved t) (hend : t.cfg.ending = false) : s.Moved t.cfgDrop := by
  rw [State.cfgDrop_of_not_ending hend]
  exact (h.bytes).cfgDiscard _

theorem chainPump (n : Nat) (h : s.Moved t) : s.Moved (State.chainPump n t) := by
  induction n generalizing t with
  | zero => exact h
  | succ n ih =>
    unfold State.chainPump
    dsimp only
    split
    · exact h
    · exact ih h.bytes

theorem windowFilter (h : s.Moved t) (hend : t.cfg.ending = false) : s.Moved t.windowFilter := by
  unfold State.windowFilter
  dsimp only
  split
  · exact h
  · split
    · exact h.bytes.cfgDrop hend
    · split
      · exact h
      · exact h.bytes.cfgDrop hend

theorem cfgPull (h : s.Moved t) : s.Moved t.cfgPull := by
  unfold State.cfgPull
  dsimp only
  split
  · exact h
  · split
    · exact h.bytes.cfgDiscard _
    · split
      · exact h
      · exact h.bytes

end State.Moved

/-- A section goes on, or a load has failed: no section begins or ends before software or the next command says so. -/
def State.Holding (s : State) : Prop :=
  s.cfg.ending = false ∧ (s.cfgState = 4 ∨ s.cfgState = 1 ∧ s.cfg.hdr.isSome = true ∧ s.cfg.ended = false)

theorem State.holding_of_taking {h : List Byte} (ht : Stated.Taking s h) : s.Holding :=
  ⟨ht.notEnding, .inr ⟨ht.loading, Option.isSome_of_eq_some ht.hdr, ht.notEnded⟩⟩

namespace State.Holding

theorem moved (h : s.Holding) (hm : s.Moved t) : t.Holding := by
  rw [State.Holding, hm.cfgOf (·.ending), hm.cfgState, hm.cfgOf (·.hdr), hm.cfgOf (·.ended)]
  exact h

theorem section_ (h : s.Holding) : s.cfg.hdr.isSome = true ∨ s.cfgState ≠ 3 ∨ s.cfg.buf = [] := by
  obtain ⟨-, hst | ⟨-, hhdr, -⟩⟩ := h
  · exact .inr (.inl (by omega))
  · exact .inl hhdr

theorem open_ (h : s.Holding) (d : List Byte) (_ : s.cfg.hdr = some d) (h1 : s.cfgState = 1) :
    s.cfg.ended = false ∨ s.cfg.writers ≠ [] ∨ s.cfg.blk < hdrBlocks d := by
  obtain ⟨-, hst | ⟨-, -, hended⟩⟩ := h
  · omega
  · exact .inl hended

theorem cfgStep (h : s.Holding) : s.Moved s.cfgStep := by
  have h1 : s.Moved s.cfgDrop := (State.Moved.refl s).cfgDrop h.1
  have h2 : s.Moved (s.cfgDrop.chainPump 256).windowFilter := (h1.chainPump 256).windowFilter (h.moved (h1.chainPump 256)).1
  have hno : s.cfgDrop.cfgState ≠ 0 := by
    rw [h1.cfgState]
    obtain ⟨-, hst | ⟨hst, -⟩⟩ := h <;> omega
  have hstep : s.cfgStep = (s.cfgDrop.chainPump 256).windowFilter := by
    unfold State.cfgStep
    dsimp only
    rw [if_neg (show ¬(s.cfgDrop.cfgState = 0 ∧ s.cfgDrop.cfg.buf ≠ []) from fun hc => hno hc.1)]
    have hr := h.moved h2
    generalize (s.cfgDrop.chainPump 256).windowFilter = r at hr ⊢
    rw [State.partBegin_of_section hr.section_, State.releaseBegin_of_open hr.open_]
    refine if_neg ?_
    obtain ⟨-, hst | ⟨-, hhdr, -⟩⟩ := hr
    · simp [hst]
    · simp [Option.isSome_iff_ne_none.mp hhdr]
  rw [hstep]
  exact h2

theorem cfgTurns (n : Nat) (h : s.Holding) : s.Moved (State.cfgTurns n s) := by
  induction n generalizing s with
  | zero => exact State.Moved.refl s
  | succ n ih =>
    have h1 := h.cfgStep
    unfold State.cfgTurns
    dsimp only
    split
    · exact h1.cfgPull.trans (ih (h.moved h1.cfgPull))
    · exact h1

/-- The flow moves bytes alone. -/
theorem cfgFlow (h : s.Holding) : s.Moved s.cfgFlow := h.cfgTurns _

end State.Holding

end Sys2Proof.Machine
end

section
/-! SUPPORT. A full load that fails (R72, R74): what its registers and the controller then hold. -/

namespace Sys2Proof.Machine

set_option Elab.async false

variable {s t : State} {code kind value : Nat}

/-! ## Records of the controller -/

theorem State.log_cfg (s : State) (r : Rec) : (s.log r).cfg = s.cfg := by
  obtain ⟨regs, rec, hlog⟩ := s.log_frame r
  rw [hlog]

theorem State.fld_log {o : Nat} (ho : o ≠ oRecCnt) (s : State) (r : Rec) (hi lo : Nat) : (s.log r).fld o hi lo = s.fld o hi lo := by
  rw [State.fld, State.fld, State.reg_log_ne ho.symm]

theorem State.cfgAfail_cfg (s : State) (c : Nat) : (s.cfgAfail c).cfg = s.cfg := by
  unfold State.cfgAfail
  split
  · exact State.setFld_cfg ..
  · rfl

theorem State.wf_cfgAfail (hwf : State.regsWf s = true) (c : Nat) : State.regsWf (s.cfgAfail c) = true := by
  unfold State.cfgAfail
  split
  · exact State.wf_count hwf _ _ _ _
  · exact hwf

theorem State.cfgLog_cfg (s : State) (c k v : Nat) : (s.cfgLog c k v).cfg = s.cfg := by
  rw [State.cfgLog, State.log_cfg, State.setReg_cfg, State.setFld_cfg]

theorem State.wf_cfgLog (hwf : State.regsWf s = true) (c k v : Nat) : State.regsWf (s.cfgLog c k v) = true :=
  State.wf_log (State.wf_setReg (State.wf_setFld hwf ..) ..) _

/-- The kind of the failing position stands in CFG_STAT. -/
theorem State.poskind_cfgLog (hwf : State.regsWf s = true) (hkind : kind < 4) (c v : Nat) : (s.cfgLog c kind v).fld oCfgStat 25 24 = kind := by
  have hne : oCfg + 0x18 ≠ oCfgStat := by decide
  rw [State.cfgLog, State.fld_log (by decide), State.fld, State.reg_setReg_ne hne, ← State.fld, State.fld_setFld_self hwf _ _ (by omega) (by omega)]
  exact Nat.mod_eq_of_lt hkind

/-- An interrupt and a report change the outputs alone. -/
theorem State.cfgIrq_frame (s : State) : ∃ l, s.cfgIrq = { s with out := l } := by
  unfold State.cfgIrq
  dsimp only
  split
  · exact ⟨_, rfl⟩
  · exact ⟨_, rfl⟩

theorem State.cfgReport_frame (s : State) (c : Nat) : ∃ l, s.cfgReport c = { s with out := l } := by
  unfold State.cfgReport
  split
  · exact ⟨_, rfl⟩
  · exact ⟨s.out, rfl⟩

theorem State.cfgIrq_cfg (s : State) : s.cfgIrq.cfg = s.cfg := by
  obtain ⟨l, hirq⟩ := s.cfgIrq_frame
  rw [hirq]

theorem State.cfgIrq_regs (s : State) : s.cfgIrq.regs = s.regs := by
  obtain ⟨l, hirq⟩ := s.cfgIrq_frame
  rw [hirq]

/-! ## The failure -/

theorem State.cfgNote_cfg (s : State) (c k v : Nat) : (s.cfgNote c k v).cfg = s.cfg := by
  rw [State.cfgNote, State.cfgIrq_cfg, State.setFld_cfg, State.cfgLog_cfg, State.cfgAfail_cfg]

theorem State.cfgNote_regs (s : State) (c k v : Nat) : (s.cfgNote c k v).regs = (((s.cfgAfail c).cfgLog c k v).setFld oCfgStat 23 12 c).regs :=
  State.cfgIrq_regs _

/-- R74: the code and the kind of its position stand in CFG_STAT. -/
theorem State.cfgNote_spec (hwf : State.regsWf s = true) (hcode : code < 4096) (hkind : kind < 4) : State.regsWf (s.cfgNote code kind value) = true ∧
    (s.cfgNote code kind value).fld oCfgStat 23 12 = code ∧ (s.cfgNote code kind value).fld oCfgStat 25 24 = kind := by
  have hafail := State.wf_cfgAfail hwf code
  have hlog := State.wf_cfgLog hafail code kind value
  refine ⟨?_, ?_, ?_⟩
  · rw [State.regsWf, State.cfgNote_regs]
    exact State.wf_setFld hlog ..
  · rw [State.fld_congr (State.cfgNote_regs ..), State.fld_setFld_self hlog _ _ (by omega) (by omega)]
    exact Nat.mod_eq_of_lt hcode
  · rw [State.fld_congr (State.cfgNote_regs ..), State.fld_setFld_beside hlog _ _ (by omega) (by omega) (by omega), State.poskind_cfgLog hafail hkind]

/-- STATE takes its new value, and the other fields of CFG_STAT stay. -/
theorem State.setCfgState_spec (hwf : State.regsWf s = true) {n : Nat} (hn : n < 8) : State.regsWf (s.setCfgState n) = true ∧
    (s.setCfgState n).cfgState = n ∧ ∀ hi lo, hi < 29 → (s.setCfgState n).fld oCfgStat hi lo = s.fld oCfgStat hi lo := by
  refine ⟨State.wf_setFld hwf .., ?_, fun hi lo hhi => State.fld_setFld_beside hwf _ _ (by omega) (by omega) (.inl hhi)⟩
  rw [State.cfgState, State.setCfgState, State.fld_setFld_self hwf _ _ (by omega) (by omega)]
  exact Nat.mod_eq_of_lt hn

theorem State.setCfgState_cfg (s : State) (n : Nat) : (s.setCfgState n).cfg = s.cfg := State.setFld_cfg ..

/-- R72: a full load that fails. -/
structure State.Failed (s t : State) (code kind : Nat) : Prop where
  wf : State.regsWf t = true
  state : t.cfgState = 4
  code : t.fld oCfgStat 23 12 = code
  poskind : t.fld oCfgStat 25 24 = kind
  cfg : t.cfg = { s.cfg.clearLoad with err := true, buf := [], writers := [] }

theorem State.failed_fullFail (hwf : State.regsWf s = true) (hcode : code < 4096) (hkind : kind < 4) :
    s.Failed (s.fullFail code kind value) code kind := by
  obtain ⟨hnote, hc, hk⟩ := State.cfgNote_spec (value := value) hwf hcode hkind
  obtain ⟨hwf1, hst, hbeside⟩ := State.setCfgState_spec hnote (n := 4) (by omega)
  have hcfg : ((s.cfgNote code kind value).setCfgState 4).cfg = s.cfg := by rw [State.setCfgState_cfg, State.cfgNote_cfg]
  unfold State.fullFail
  dsimp only
  generalize (s.cfgNote code kind value).setCfgState 4 = r at *
  rw [hcfg]
  generalize hu : ({ r with cfg := { s.cfg.clearLoad with err := true, buf := [], writers := [] } } : State) = u
  have hregs : u.regs = r.regs := by rw [← hu]
  have hread (hi lo : Nat) : (u.cfgDiscard s.cfg.buf.length).fld oCfgStat hi lo = r.fld oCfgStat hi lo := by
    rw [State.fld, State.reg_cfgDiscard (by decide), ← State.fld, State.fld_congr hregs]
  refine ⟨?_, ?_, ?_, ?_, ?_⟩
  · refine State.wf_count ?_ _ _ _ _
    rw [hregs]
    exact hwf1
  · rw [State.cfgState, hread, ← State.cfgState, hst]
  · rw [hread, hbeside _ _ (by omega), hc]
  · rw [hread, hbeside _ _ (by omega), hk]
  · rw [State.cfgDiscard_cfg, ← hu]

/-- A failed load rests, when no byte is to be forwarded, discarded or moved. -/
theorem State.Failed.resting (h : s.Failed t code kind) (hq : Stated.Quiet s) (hend : s.cfg.ending = false) : t.Resting where
  quiet := by
    rw [Stated.Quiet, h.cfg]
    exact hq
  ending := by
    rw [h.cfg]
    exact hend
  idle _ := by rw [h.cfg]
  between _ _ := by rw [h.cfg]
  open_ _ _ h1 := by rw [h.state] at h1; cases h1

theorem State.Failed.holding (h : s.Failed t code kind) (hend : s.cfg.ending = false) : t.Holding := by
  refine ⟨?_, .inl h.state⟩
  rw [h.cfg]
  exact hend

/-- The flow after a failure of a load from which no byte is on its way. -/
theorem State.Failed.cfgFlow (h : s.Failed t code kind) (hq : Stated.Quiet s) (hend : s.cfg.ending = false) : t.cfgFlow = t :=
  (h.resting hq hend).cfgFlow h.wf

/-- Before CFG_DONE, and in a section that is not partial, it is the full load that fails. -/
theorem State.cfgFail_of_no_section (hhdr : s.cfg.hdr = none) (hdone : s.cfg.done = false) (c k v : Nat) : s.cfgFail c k v = s.fullFail c k v := by
  simp [State.cfgFail, hhdr, hdone]

theorem State.cfgFail_of_full {h : List Byte} (hhdr : s.cfg.hdr = some h) (hfull : hdrPartial h = false) (c k v : Nat) :
    s.cfgFail c k v = s.fullFail c k v := by
  simp [State.cfgFail, hhdr, hfull]

end Sys2Proof.Machine
end

section
/-! SUPPORT. The image commands (R48, R50 to R53, R76): a command with its payload at the head of the stream, and the frames it gives to the writers. -/

namespace Sys2Proof.Machine

set_option Elab.async false

variable {s t : State} {h : List Byte} {a : Nat} {f : CFrame} {w : Word} {p l : List Word}

/-! ## A command is taken -/

/-- The command at the head of the stream has been taken with `n` words of payload; `l` follows. -/
def State.taken (s : State) (n : Nat) (l : List Word) : State := { s with cfg := { s.cfg with words := l, pos := s.cfg.pos + 1 + n } }

/-- R48: a command with the operand it needs and its whole payload is taken. -/
theorem State.cfgTake_go {op n : Nat} {need : Nat → List Word → Need} {m : List Word} (ht : Stated.Taking s h) (hw : s.cfg.words = w :: m)
    (hop : bitsOf w 31 28 = op) (hlt : op < 8) (hneed : need (bitsOf w 27 0) m = .words n) (hlen : n ≤ m.length) :
    s.cfgTake op need = .go h (bitsOf w 27 0) (m.take n) (s.taken n (m.drop n)) := by
  obtain ⟨hhdr, hst, hending, hended⟩ := ht
  simp [State.cfgTake, hhdr, hst, hending, hended, hw, hop, Nat.not_le.mpr hlt, hneed, Nat.not_lt.mpr hlen, State.taken]

/-- The payload `p` is taken, and the flow follows what is made of it. -/
theorem State.run_cfgTake {op : Nat} {need : Nat → List Word → Need} (g : List Byte → Nat → List Word → State → State) (ht : Stated.Taking s h)
    (hw : s.cfg.words = w :: (p ++ l)) (hop : bitsOf w 31 28 = op) (hlt : op < 8) (hneed : need (bitsOf w 27 0) (p ++ l) = .words p.length) :
    (s.cfgTake op need).run s g = .next (g h (bitsOf w 27 0) p (s.taken p.length l)).cfgFlow := by
  rw [State.cfgTake_go ht hw hop hlt hneed (by simp), List.take_left, List.drop_left]
  rfl

/-! ## Frames -/

/-- A frame has gone to the writer of its tile (R54). -/
def State.queued (s : State) (a : Nat) (f : CFrame) : State :=
  { s with cfg := { s.cfg with
      writers := SMap.set (fun _ => []) s.cfg.writers (faTile a) (SMap.get (fun _ => []) s.cfg.writers (faTile a) ++ [(a, f)]),
      written := a :: s.cfg.written, anyFrame := true } }

/-- A frame has gone to the writer of its tile, and FAR has advanced (R52). -/
def State.queuedAtFar (s : State) (a : Nat) (f : CFrame) : State := { s.queued a f with cfg := { (s.queued a f).cfg with far := some (faAdvance a) } }

/-- The queue of a tile ends with the frame it was given. -/
theorem State.writers_queued (s : State) (a : Nat) (f : CFrame) :
    SMap.get (fun _ => []) (s.queued a f).cfg.writers (faTile a) = SMap.get (fun _ => []) s.cfg.writers (faTile a) ++ [(a, f)] :=
  SMap.get_set_of_ne (by simp)

/-- A frame that waits for its writer goes on waiting as another one joins. -/
theorem State.mem_writers_queued {c b : Nat} {e : Nat × CFrame} (he : e ∈ SMap.get (fun _ => []) s.cfg.writers c) :
    e ∈ SMap.get (fun _ => []) (s.queued b f).cfg.writers c := by
  by_cases hc : faTile b = c
  · subst hc
    rw [State.writers_queued]
    exact List.mem_append_left _ he
  · rw [State.queued, SMap.get_set_ne hc]
    exact he

/-- R54: a frame at a good address with the check word of its data. -/
theorem State.putFrame_ok (haddr : s.addrCode h a = none) (hcrc : w.toNat = frameCrc f.data) : s.putFrame h a f w = (s.queued a f, true) := by
  simp [State.putFrame, haddr, hcrc, State.queued]

/-- R53: another address is as good once a frame has been given. -/
theorem State.addrCode_queued {b : Nat} (hne : b ≠ a) (hb : s.addrCode h b = none) : (s.queued a f).addrCode h b = none := by
  have hsame : (s.queued a f).addrCode h b = s.addrCode h b := by
    have hcontains : (a :: s.cfg.written).contains b = s.cfg.written.contains b := by simp [hne]
    unfold State.addrCode
    rw [show (s.queued a f).cfg.written = a :: s.cfg.written from rfl, hcontains]
    rfl
  rw [hsame, hb]

theorem State.putAtFar_one (haddr : s.addrCode h a = none) (hcrc : w.toNat = frameCrc f.data) : State.putAtFar h [(f, w)] a s = s.queuedAtFar a f := by
  simp [State.putAtFar, State.putFrame_ok haddr hcrc, State.queuedAtFar]

set_option maxRecDepth 10000 in
/-- R49: the check of 384 zero bytes. -/
theorem frameCrc_zero : frameCrc 0 = 0xEC83 := by decide +kernel

theorem State.putZeros_one (haddr : s.addrCode h a = none) : State.putZeros h 1 a s = s.queuedAtFar a zeroFrame := by
  have hcrc : (0xEC83 : Word).toNat = frameCrc zeroFrame.data := frameCrc_zero.symm
  rw [State.putZeros, State.putFrame_ok haddr hcrc]
  rfl

/-- One frame at each of two addresses (MFW). -/
theorem State.putMany_two {b : Word} {c : Word} (hne : c.toNat ≠ b.toNat) (hb : s.addrCode h b.toNat = none) (hc : s.addrCode h c.toNat = none)
    (hcrc : w.toNat = frameCrc f.data) : State.putMany h f w [b, c] s = (s.queued b.toNat f).queued c.toNat f := by
  simp [State.putMany, State.putFrame_ok hb hcrc, State.putFrame_ok (State.addrCode_queued hne hc) hcrc]

/-- The frame of a payload is made of its first 97 words. -/
theorem frameOf_append (hp : p.length = 97) (m : List Word) : frameOf (p ++ m) = frameOf p := by
  rw [frameOf, frameOf, List.take_append_of_le_length (by omega), List.getD_append _ _ _ _ (by omega)]

/-- Zero data words with their check word. -/
theorem frameOf_zeros (c : Word) : frameOf (List.replicate 96 0 ++ [c]) = ⟨0, c.setWidth 16⟩ := by
  have htake : (List.replicate 96 (0 : Word) ++ [c]).take 96 = List.replicate 96 0 := List.take_left' (by simp)
  have hdata : (List.replicate 96 (0 : Word)).foldr (fun w n => w.toNat + 2 ^ 32 * n) 0 = 0 := by decide +kernel
  rw [frameOf, htake, hdata, List.getD_append_right _ _ _ _ (by simp)]
  simp

/-- R50: a sparse frame with an empty mask is its check word alone. -/
theorem sparseFrames_empty (c : Word) : sparseFrames 1 [0, 0, 0, c] = [(⟨0, c.setWidth 16⟩, c)] := by
  have hmask : ([0, 0, 0] : List Word).flatMap (fun w => (List.range 32).map (fun j => w.getLsbD j)) = List.replicate 96 false := by decide +kernel
  have hspread : spread (List.replicate 96 false) [] = List.replicate 96 (0 : Word) := rfl
  rw [sparseFrames, show ([0, 0, 0, c] : List Word).take 3 = [0, 0, 0] from rfl, hmask]
  change [(frameOf (spread (List.replicate 96 false) [] ++ [c]), c)] = _
  rw [hspread, frameOf_zeros]

theorem sparseLen_empty (c : Word) (l : List Word) : sparseLen 1 (0 :: 0 :: 0 :: c :: l) = some 4 := by
  have hpop : popCount 0 = 0 := by decide
  simp only [sparseLen, hpop]
  simp

end Sys2Proof.Machine
end

section
/-! SUPPORT. Each image command as it is carried out (R48, R50 to R53, R70, R76). -/

namespace Sys2Proof.Machine

set_option Elab.async false

variable {s t : State} {h : List Byte} {a : Nat} {f : CFrame} {p l : List Word}

/-! ## Frames at FAR (R50, R52) -/

/-- A frame command has an operand in range and a FAR. -/
theorem farNeed_ok {top n : Nat} {k : Nat → List Word → Need} (hfar : s.cfg.far = some a) (hn : 1 ≤ n) (htop : n ≤ top) (l : List Word) :
    farNeed s top k n l = k n l := by
  have hok : ¬(n = 0 ∨ top < n ∨ s.cfg.far.isNone = true) := by
    rintro (h0 | habove | hnone)
    · omega
    · omega
    · simp [hfar] at hnone
  exact if_neg hok

theorem State.exec_wfr (ht : Stated.Taking s h) (hw : s.cfg.words = 0x20000001 :: (p ++ l)) (hp : p.length = 97) (hfar : s.cfg.far = some a)
    (haddr : s.addrCode h a = none) (hcrc : (p.getD 96 0).toNat = frameCrc (frameOf p).data) :
    exec .wfr s = .next ((s.taken 97 l).queuedAtFar a (frameOf p)).cfgFlow := by
  have hrun := State.run_cfgTake (op := 2) (need := farNeed s 4096 (fun n _ => .words (97 * n)))
    (fun h n l t => State.putAtFar h (wholeFrames n l) (s.cfg.far.getD 0) t) ht hw rfl (by omega)
    ((farNeed_ok hfar (by decide) (by decide) _).trans (by rw [hp]; rfl))
  refine hrun.trans ?_
  rw [hp, hfar]
  exact congrArg (fun t => Host.Outcome.next (State.cfgFlow t)) (State.putAtFar_one haddr hcrc)

theorem State.exec_sfr {c : Word} (ht : Stated.Taking s h) (hw : s.cfg.words = 0x30000001 :: 0 :: 0 :: 0 :: c :: l) (hfar : s.cfg.far = some a)
    (haddr : s.addrCode h a = none) (hcrc : c.toNat = frameCrc 0) :
    exec .sfr s = .next ((s.taken 4 l).queuedAtFar a ⟨0, c.setWidth 16⟩).cfgFlow := by
  have hrun := State.run_cfgTake (op := 3) (p := [0, 0, 0, c]) (l := l)
    (need := farNeed s 4096 (fun n l => match sparseLen n l with | some k => .words k | none => .more))
    (fun h n l t => State.putAtFar h (sparseFrames n l) (s.cfg.far.getD 0) t) ht hw rfl (by omega)
    ((farNeed_ok hfar (by decide) (by decide) _).trans (by
      change (match sparseLen 1 (0 :: 0 :: 0 :: c :: l) with | some k => Need.words k | none => Need.more) = Need.words 4
      rw [sparseLen_empty]))
  refine hrun.trans ?_
  rw [hfar]
  change Host.Outcome.next (State.putAtFar h (sparseFrames 1 [0, 0, 0, c]) a (s.taken 4 l)).cfgFlow = _
  rw [sparseFrames_empty, State.putAtFar_one (s := s.taken 4 l) (f := ⟨0, c.setWidth 16⟩) haddr hcrc]

/-- A ZFR of one frame: what is made of the zero frame at FAR is up to the address. -/
theorem State.exec_zfr_one (ht : Stated.Taking s h) (hw : s.cfg.words = 0x40000001 :: l) (hfar : s.cfg.far = some a) :
    exec .zfr s = .next (State.putZeros h 1 a (s.taken 0 l)).cfgFlow := by
  have hrun := State.run_cfgTake (op := 4) (p := []) (l := l) (need := farNeed s 227328 (fun _ _ => .words 0))
    (fun h n _ t => State.putZeros h n (s.cfg.far.getD 0) t) ht hw rfl (by omega) (farNeed_ok hfar (by decide) (by decide) _)
  refine hrun.trans ?_
  rw [hfar]
  rfl

theorem State.exec_zfr (ht : Stated.Taking s h) (hw : s.cfg.words = 0x40000001 :: l) (hfar : s.cfg.far = some a) (haddr : s.addrCode h a = none) :
    exec .zfr s = .next ((s.taken 0 l).queuedAtFar a zeroFrame).cfgFlow := by
  rw [State.exec_zfr_one ht hw hfar, State.putZeros_one (s := s.taken 0 l) haddr]

/-- R51: a ZFR at an address that is not valid fails the load. -/
theorem State.exec_zfr_invalid (ht : Stated.Taking s h) (hw : s.cfg.words = 0x40000001 :: l) (hfar : s.cfg.far = some a) (hfull : hdrPartial h = false)
    (hbad : faValid a = false) : exec .zfr s = .next ((s.taken 0 l).fullFail 0x027 1 a).cfgFlow := by
  have hcode : (s.taken 0 l).addrCode h a = some 0x027 := by simp [State.addrCode, hfull, hbad]
  rw [State.exec_zfr_one ht hw hfar, State.putZeros, State.putFrame, hcode]
  exact congrArg (fun t => Host.Outcome.next (State.cfgFlow t)) (State.cfgFail_of_full (s := s.taken 0 l) ht.hdr hfull _ _ _)

/-- What is left of a frame given to the writer of its tile, once the flow has moved the bytes that wait. -/
theorem State.queuedAtFar_flow (ht : Stated.Taking s h) (n : Nat) (l : List Word) (a : Nat) (f : CFrame) :
    let t := ((s.taken n l).queuedAtFar a f).cfgFlow
    t.cfg.words = l ∧ t.cfg.far = some (faAdvance a) ∧ t.cfg.written = a :: s.cfg.written ∧
      SMap.get (fun _ => []) t.cfg.writers (faTile a) = SMap.get (fun _ => []) s.cfg.writers (faTile a) ++ [(a, f)] := by
  intro t
  have hm : ((s.taken n l).queuedAtFar a f).Moved t := (State.holding_of_taking (h := h) (s := (s.taken n l).queuedAtFar a f) ht).cfgFlow
  rw [hm.cfgOf (·.words), hm.cfgOf (·.far), hm.cfgOf (·.written), hm.cfgOf (·.writers)]
  exact ⟨rfl, rfl, rfl, (s.taken n l).writers_queued a f⟩

/-- R52: FAR after a frame. -/
theorem State.far_queuedAtFar_flow (ht : Stated.Taking s h) (n : Nat) (l : List Word) (a : Nat) (f : CFrame) :
    ((s.taken n l).queuedAtFar a f).cfgFlow.cfg.far = some (faAdvance a) := by
  obtain ⟨-, hfar, -⟩ := State.queuedAtFar_flow ht n l a f
  exact hfar

/-! ## Frames at listed addresses (R50) -/

theorem State.exec_mfw {b c : Word} (ht : Stated.Taking s h) (hw : s.cfg.words = 0x50000002 :: (p ++ b :: c :: l)) (hp : p.length = 97)
    (hne : b ≠ c) (hb : s.addrCode h b.toNat = none) (hc : s.addrCode h c.toNat = none) (hcrc : (p.getD 96 0).toNat = frameCrc (frameOf p).data) :
    exec .mfw s = .next (((s.taken 99 l).queued b.toNat (frameOf p)).queued c.toNat (frameOf p)).cfgFlow := by
  have hlen : (p ++ [b, c]).length = 99 := by simp [hp]
  have hdrop : (p ++ [b, c]).drop 97 = [b, c] := List.drop_left' hp
  have hget : (p ++ [b, c]).getD 96 0 = p.getD 96 0 := List.getD_append _ _ _ _ (by omega)
  have hne' : c.toNat ≠ b.toNat := fun heq => hne (BitVec.eq_of_toNat_eq heq.symm)
  have hrun := State.run_cfgTake (op := 5) (p := p ++ [b, c]) (l := l) (need := fun n _ => if 2 ≤ n ∧ n ≤ 1024 then .words (97 + n) else .bad)
    (fun h _ l t => State.putMany h (frameOf l) (l.getD 96 0) (l.drop 97) t) ht (by simpa using hw) rfl (by omega) (by rw [hlen]; rfl)
  refine hrun.trans ?_
  rw [hlen, hdrop, hget, frameOf_append hp, State.putMany_two (s := s.taken 99 l) hne' hb hc hcrc]

theorem State.queuedTwice_flow (ht : Stated.Taking s h) (n : Nat) (l : List Word) (b c : Nat) (f : CFrame) :
    let t := (((s.taken n l).queued b f).queued c f).cfgFlow
    t.cfg.words = l ∧ t.cfg.far = s.cfg.far ∧ t.cfg.written = c :: b :: s.cfg.written ∧
      (b, f) ∈ SMap.get (fun _ => []) t.cfg.writers (faTile b) ∧ (c, f) ∈ SMap.get (fun _ => []) t.cfg.writers (faTile c) := by
  intro t
  have hm : (((s.taken n l).queued b f).queued c f).Moved t :=
    (State.holding_of_taking (h := h) (s := ((s.taken n l).queued b f).queued c f) ht).cfgFlow
  rw [hm.cfgOf (·.words), hm.cfgOf (·.far), hm.cfgOf (·.written), hm.cfgOf (·.writers)]
  refine ⟨rfl, rfl, rfl, State.mem_writers_queued ?_, ?_⟩
  · rw [State.writers_queued]
    exact List.mem_append_right _ List.mem_cons_self
  · rw [State.writers_queued]
    exact List.mem_append_right _ List.mem_cons_self

/-! ## FAR, NOP and declarations -/

/-- A command that only changes what the controller holds, while no byte waits. -/
theorem State.flow_taking (hwf : State.regsWf s = true) (ht : Stated.Taking s h) (hq : Stated.Quiet s) : s.cfgFlow = s :=
  (State.resting_of_taking ht hq).cfgFlow hwf

theorem State.exec_cmdNop (hwf : State.regsWf s = true) (ht : Stated.Taking s h) (hq : Stated.Quiet s) (hw : s.cfg.words = 0x00000000 :: l) :
    exec .cmdNop s = .next (s.taken 0 l) := by
  have hrun := State.run_cfgTake (op := 0) (p := []) (l := l) (need := zeroNeed 0) (fun _ _ _ t => t) ht hw rfl (by omega) rfl
  exact hrun.trans (congrArg Host.Outcome.next (State.flow_taking (s := s.taken 0 l) hwf ht hq))

theorem State.exec_far {a : Word} (hwf : State.regsWf s = true) (ht : Stated.Taking s h) (hq : Stated.Quiet s)
    (hw : s.cfg.words = 0x10000000 :: a :: l) : exec .far s = .next { s.taken 1 l with cfg := { (s.taken 1 l).cfg with far := some a.toNat } } := by
  have hrun := State.run_cfgTake (op := 1) (p := [a]) (l := l) (need := zeroNeed 1)
    (fun _ _ l t => { t with cfg := { t.cfg with far := some (l.getD 0 0).toNat } }) ht hw rfl (by omega) rfl
  exact hrun.trans (congrArg Host.Outcome.next
    (State.flow_taking (s := { s.taken 1 l with cfg := { (s.taken 1 l).cfg with far := some a.toNat } }) hwf ht hq))

/-- The fields of the word of a declaration. -/
theorem bitsOf_pdeclWord (n : Pld) : bitsOf (BitVec.ofNat 32 (0x60000000 + n.val)) 31 28 = 6 ∧ bitsOf (BitVec.ofNat 32 (0x60000000 + n.val)) 27 0 = n.val := by
  have hn := n.isLt
  simp only [bitsOf, BitVec.toNat_ofNat]
  omega

/-- The polder declared as number `n` with the words `d`. -/
def State.declared (s : State) (n : Nat) (d : List Word) : State := { s with cfg := { s.cfg with decls := s.cfg.decls ++ [(n, d)] } }

theorem State.exec_pdecl {n : Pld} {d : List Word} (hwf : State.regsWf s = true) (ht : Stated.Taking s h) (hq : Stated.Quiet s)
    (hfull : hdrPartial h = false) (hany : s.cfg.anyFrame = false) (hw : s.cfg.words = BitVec.ofNat 32 (0x60000000 + n.val) :: (d ++ l))
    (hd : d.length = 4) (hok : declOk d = true) (hclash : s.cfg.decls.any (declClash n.val d) = false) :
    exec .pdecl s = .next ((s.taken 4 l).declared n.val d) := by
  obtain ⟨hop, hnum⟩ := bitsOf_pdeclWord n
  have hn : ¬32 ≤ n.val := Nat.not_le.mpr n.isLt
  have htake : (d ++ l).take 4 = d := List.take_left' hd
  have hlen : ¬(d ++ l).length < 4 := by simp [hd]
  have hrun := State.run_cfgTake (op := 6) (p := d) (l := l) (need := fun n l =>
      if 32 ≤ n ∨ (s.cfg.hdr.map hdrPartial).getD true ∨ s.cfg.anyFrame then .bad
      else if l.length < 4 then .more
      else if !declOk (l.take 4) ∨ s.cfg.decls.any (declClash n (l.take 4)) then .bad
      else .words 4)
    (fun _ n l t => { t with cfg := { t.cfg with decls := t.cfg.decls ++ [(n, l)] } }) ht hw hop (by omega)
    (by simp only [hnum, hn, ht.hdr, hany, hlen, htake, hok, hclash, hd]; simp [hfull])
  refine hrun.trans ?_
  rw [hnum, hd]
  exact congrArg Host.Outcome.next (State.flow_taking (s := (s.taken 4 l).declared n.val d) hwf ht hq)

/-! ## END (R70) -/

/-- END has been taken: `l` follows in the stream. -/
def State.ended (s : State) (l : List Word) : State := { s.taken 0 l with cfg := { (s.taken 0 l).cfg with ended := true } }

theorem State.exec_imgEnd (ht : Stated.Taking s h) (hfull : hdrPartial h = false) (hw : s.cfg.words = 0x70000000 :: l) :
    exec .imgEnd s = .next (s.ended l).cfgFlow := by
  have hrun := State.run_cfgTake (op := 7) (p := []) (l := l) (need := zeroNeed 0) (fun h _ _ t =>
    let t1 := { t with cfg := { t.cfg with ended := true } }
    if hdrPartial h = true ∧ t.pstate (hdrTarget h) = 3 then t1.setPstate (hdrTarget h) 4 else t1) ht hw rfl (by omega) rfl
  refine hrun.trans ?_
  dsimp only
  rw [if_neg (by simp [hfull])]
  rfl

/-- A load whose END has come goes on while frames or blocks are missing. -/
theorem State.resting_ended (ht : Stated.Taking s h) (hq : Stated.Quiet s) (hopen : s.cfg.writers ≠ [] ∨ s.cfg.blk < hdrBlocks h) :
    (s.ended l).Resting := by
  have hst : (s.ended l).cfgState = 1 := ht.loading
  refine ⟨hq, ht.notEnding, fun h0 => ?_, fun hnone _ => ?_, fun d hd _ => .inr ?_⟩
  · cases hst.symm.trans h0
  · cases ht.hdr.symm.trans hnone
  · cases ht.hdr.symm.trans hd
    exact hopen

/-- Once END has come and every frame and block is there, a step begins the release, or finds what is no NOP. -/
theorem State.cfgStep_ended (ht : Stated.Taking s h) (hq : Stated.Quiet s) (hwf : State.regsWf s = true) (hst : (s.ended l).releaseBegin.cfgState ≠ 1) :
    (s.ended l).cfgStep = (s.ended l).releaseBegin := by
  have hsome : (s.ended l).cfg.hdr.isSome = true := Option.isSome_of_eq_some ht.hdr
  have hload : (s.ended l).cfgState = 1 := ht.loading
  have hbegun : ¬((s.ended l).cfgState = 0 ∧ (s.ended l).cfg.buf ≠ []) := by simp [hload]
  unfold State.cfgStep
  rw [State.cfgDrop_of_no_drop (s := s.ended l) ht.notEnding hq.noDrop, State.cfgDiscard_zero (s := s.ended l) hwf]
  dsimp only
  rw [if_neg hbegun, State.chainPump_of_no_forward (s := s.ended l) _ hq.noForward, State.windowFilter_of_section (.inl hsome),
    State.partBegin_of_section (.inl hsome)]
  exact if_neg fun hc => hst hc.1

theorem State.releaseBegin_ended (ht : Stated.Taking s h) (hfull : hdrPartial h = false) (hwr : s.cfg.writers = []) (hblk : hdrBlocks h ≤ s.cfg.blk) :
    (s.ended l).releaseBegin = match l.findIdx? (fun w => w != 0) with
      | some i => (s.ended l).cfgFail 0x026 2 (streamPos (s.cfg.pos + 1 + i))
      | none => { s.ended l with cfg := { (s.ended l).cfg with key := none } }.setCfgState 2 := by
  have hhdr : (s.ended l).cfg.hdr = some h := ht.hdr
  have hst : (s.ended l).cfgState = 1 := ht.loading
  have hopen : ¬(hdrPartial h = true ∨ (s.ended l).cfgState ≠ 1 ∨ (s.ended l).cfg.ended = false ∨ (s.ended l).cfg.writers ≠ []) := by
    rintro (hpart | hne | hno | hne)
    · simp [hfull] at hpart
    · exact hne hst
    · cases hno
    · exact hne hwr
  have hrest : (s.ended l).restNops h = some ((l.findIdx? (fun w => w != 0)).map (fun i => streamPos (s.cfg.pos + 1 + i))) :=
    if_neg (Nat.not_lt.mpr hblk)
  unfold State.releaseBegin
  rw [hhdr]
  dsimp only
  rw [if_neg hopen, hrest]
  cases l.findIdx? (fun w => w != 0) <;> rfl

end Sys2Proof.Machine
end

section
open Sys2Proof Sys2Proof.Machine

/-- Settles O26: each command is taken with its payload, and the flow that follows leaves what it made alone; END with nothing missing is what begins
the release or the failure. -/
theorem imageCommandsComplete : Obligations.ImageCommandsComplete := by
  refine ⟨?nop, ?far, ?wfr, ?sfr, ?zfr, ?mfw, ?pdecl, ?imgEnd⟩
  case nop => exact fun h l s hwf ht hq hw => State.exec_cmdNop hwf ht hq hw
  case far => exact fun h a l s hwf ht hq hw => State.exec_far hwf ht hq hw
  case wfr =>
    exact fun h a p l s ht _ hw hp hfar haddr hcrc => ⟨_, State.exec_wfr ht hw hp hfar haddr hcrc, State.queuedAtFar_flow ht ..⟩
  case sfr => exact fun h a c l s ht hw hfar haddr hcrc => ⟨_, State.exec_sfr ht hw hfar haddr hcrc, State.queuedAtFar_flow ht ..⟩
  case zfr => exact fun h a l s ht _ hw hfar haddr => ⟨_, State.exec_zfr ht hw hfar haddr, State.queuedAtFar_flow ht ..⟩
  case mfw =>
    exact fun h p a b l s ht _ hw hp hne ha hb hcrc => ⟨_, State.exec_mfw ht hw hp hne ha hb hcrc, State.queuedTwice_flow ht ..⟩
  case pdecl =>
    exact fun h p d l s hwf ht hq hfull hany hw hd hok hclash => ⟨_, State.exec_pdecl hwf ht hq hfull hany hw hd hok hclash, rfl, rfl, rfl⟩
  case imgEnd =>
    intro h l s hwf ht hq hfull hw
    have hexec := State.exec_imgEnd ht hfull hw
    refine ⟨fun hopen => ?going, fun hwr hblk hnops => ?release, fun hwr hblk hother => ?fail⟩
    case going => exact hexec.trans (congrArg Host.Outcome.next ((State.resting_ended ht hq hopen).cfgFlow hwf))
    case release =>
      have hnone : l.findIdx? (fun w => w != 0) = none := by simpa [List.findIdx?_eq_none_iff] using hnops
      have hrel := State.releaseBegin_ended (l := l) ht hfull hwr hblk
      rw [hnone] at hrel
      obtain ⟨-, hst, -⟩ := State.setCfgState_spec (s := { s.ended l with cfg := { (s.ended l).cfg with key := none } }) hwf (n := 2) (by omega)
      have hstep := State.cfgStep_ended (l := l) ht hq hwf (by rw [hrel, hst]; decide)
      rw [hrel] at hstep
      refine ⟨_, hexec, ?_⟩
      rw [State.cfgFlow_of_no_wait (by rw [hstep, State.setCfgState_cfg]; exact hq.noWait), hstep]
      exact ⟨hst, State.setCfgState_cfg ..⟩
    case fail =>
      obtain ⟨i, hi⟩ : ∃ i, l.findIdx? (fun w => w != 0) = some i := by
        refine Option.ne_none_iff_exists'.mp fun hnone => ?_
        obtain ⟨w, hw, hne⟩ := hother
        exact hne (by simpa using List.findIdx?_eq_none_iff.mp hnone w hw)
      have hrel := State.releaseBegin_ended (l := l) ht hfull hwr hblk
      rw [hi] at hrel
      dsimp only at hrel
      rw [State.cfgFail_of_full (s := s.ended l) ht.hdr hfull] at hrel
      have hf := State.failed_fullFail (s := s.ended l) (code := 0x026) (kind := 2) (value := streamPos (s.cfg.pos + 1 + i)) hwf (by omega) (by omega)
      have hstep := State.cfgStep_ended (l := l) ht hq hwf (by rw [hrel, hf.state]; decide)
      rw [hrel] at hstep
      refine ⟨_, hexec, ?_⟩
      rw [State.cfgFlow_of_no_wait (by rw [hstep, hf.cfg]; exact hq.noWait), hstep]
      exact ⟨hf.state, hf.code, hf.poskind, by rw [hf.cfg]⟩

end

section
/-! SUPPORT. The advance of FAR (R52). -/

namespace Sys2Proof.Machine

/-- A class of frames has at most 192 minors and 280 columns. -/
theorem minorCount_le (c : Nat) : minorCount c ≤ 192 := by
  unfold minorCount
  match c with
  | 0 | 1 | 2 | 3 | 4 | 5 => decide
  | n + 6 => simp

theorem colCount_le (c : Nat) : colCount c ≤ 280 := by
  unfold colCount
  match c with
  | 0 | 1 | 2 | 3 | 4 | 5 => decide
  | n + 6 => simp

variable {a : Nat}

/-- R52: past the last minor of its class a frame address goes on with minor 0 of the next column. -/
theorem faAdvance_lastMinor (hlast : faMinor a + 1 = minorCount (faClass a)) (hcol : faCol a < 280) :
    faMinor (faAdvance a) = 0 ∧ faCol (faAdvance a) = faCol a + 1 ∧ faTile (faAdvance a) = faTile a ∧ faBand (faAdvance a) = faBand a ∧
      faClass (faAdvance a) = faClass a := by
  rw [faAdvance, if_pos hlast]
  clear hlast
  simp only [faMinor, faCol, faTile, faBand, faClass] at *
  omega

/-- R52: else it goes on with the next minor. -/
theorem faAdvance_nextMinor (hnext : faMinor a + 1 ≠ minorCount (faClass a)) (hminor : faMinor a < 192) :
    faMinor (faAdvance a) = faMinor a + 1 ∧ faCol (faAdvance a) = faCol a ∧ faTile (faAdvance a) = faTile a ∧ faBand (faAdvance a) = faBand a ∧
      faClass (faAdvance a) = faClass a := by
  rw [faAdvance, if_neg hnext]
  clear hnext
  simp only [faMinor, faCol, faTile, faBand, faClass] at *
  omega

/-- R52: FAR after a frame at a valid address. -/
theorem faAdvance_valid (hvalid : faValid a = true) :
    faMinor (faAdvance a) = (if faMinor a + 1 = minorCount (faClass a) then 0 else faMinor a + 1) ∧
      faCol (faAdvance a) = (if faMinor a + 1 = minorCount (faClass a) then faCol a + 1 else faCol a) ∧
      faTile (faAdvance a) = faTile a ∧ faBand (faAdvance a) = faBand a ∧ faClass (faAdvance a) = faClass a := by
  simp only [faValid, Bool.and_eq_true, decide_eq_true_eq] at hvalid
  obtain ⟨hcol, hminor⟩ := hvalid
  by_cases hlast : faMinor a + 1 = minorCount (faClass a)
  · rw [if_pos hlast, if_pos hlast]
    exact faAdvance_lastMinor hlast (hcol.trans_le (colCount_le _))
  · rw [if_neg hlast, if_neg hlast]
    exact faAdvance_nextMinor hlast (hminor.trans_le (minorCount_le _))

end Sys2Proof.Machine
end

section
open Sys2Proof Sys2Proof.Machine

/-- Settles O59: the fields of an address are its digits, which the advance changes in the minor and the column alone; the flow that follows a frame
leaves FAR, and the code of a failure, as they are. -/
theorem farAdvances : Obligations.FarAdvances := by
  refine ⟨fun a hvalid => faAdvance_valid hvalid, ?zfr, ?sfr, ?wfr, ?invalid⟩
  case zfr => exact fun h a l s ht hw hfar haddr => ⟨_, State.exec_zfr ht hw hfar haddr, State.far_queuedAtFar_flow ht ..⟩
  case sfr => exact fun h a c l s ht hw hfar haddr hcrc => ⟨_, State.exec_sfr ht hw hfar haddr hcrc, State.far_queuedAtFar_flow ht ..⟩
  case wfr =>
    exact fun h a p l s ht hw hp hfar haddr hcrc => ⟨_, State.exec_wfr ht hw hp hfar haddr hcrc, State.far_queuedAtFar_flow ht ..⟩
  case invalid =>
    intro h a l s hwf ht hfull hw hfar hbad
    have hf := State.failed_fullFail (s := s.taken 0 l) (code := 0x027) (kind := 1) (value := a) hwf (by omega) (by omega)
    have hm := (hf.holding ht.notEnding).cfgFlow
    refine ⟨_, State.exec_zfr_invalid ht hw hfar hfull hbad, hm.cfgState.trans hf.state, ?_, ?_⟩
    · rw [hm.fld (by decide), hf.code]
    · rw [hm.cfgOf (·.err), hf.cfg]

end

section
/-! SUPPORT. Intake (R47, R59, R60, R431): window data with room for it, a header and its checks, and a block that passes. -/

namespace Sys2Proof.Machine

set_option Elab.async false

variable {s t : State} {h l : List Byte}

/-! ## Window data -/

/-- The bytes of whole words. -/
theorem length_wordBytes (d : List (BitVec 4 × Word)) : (d.flatMap (fun x => bytesLE 4 x.2.toNat)).length = 4 * d.length := by
  induction d with
  | nil => rfl
  | cons x d ih =>
    rw [List.flatMap_cons, List.length_append, length_bytesLE, ih, List.length_cons]
    omega

/-- R59: a good strap, and a load that goes on: intake is not refused. -/
theorem State.not_refusing (hstrap : s.bit 0x390 31 = false) (hst : s.cfgState = 1) : s.cfgRefusing = false := by simp [State.cfgRefusing, hstrap, hst]

theorem State.not_idle_of_section (hhdr : s.cfg.hdr = some h) : s.cfgIdle = false := by simp [State.cfgIdle, hhdr]

/-- The intake buffer with the bytes appended. -/
def State.appended (s : State) (l : List Byte) : State := { s with cfg := { s.cfg with buf := s.cfg.buf ++ l } }

/-- R60: window data of a section from the window moves into the buffer, which has room for it. -/
theorem State.cfgPull_room (hrefuse : s.cfgRefusing = false) (hidle : s.cfgIdle = false) (hsrc : s.cfg.src = 0) (hwait : s.cfg.wait = [])
    (hroom : s.cfg.buf.length + l.length ≤ 262144) :
    State.cfgPull { s with cfg := { s.cfg with wait := s.cfg.wait ++ l } } = s.appended l := by
  unfold State.cfgPull State.appended
  rw [hwait, List.nil_append]
  generalize hr : ({ s with cfg := { s.cfg with wait := l } } : State) = r
  have hcfg : r.cfg = { s.cfg with wait := l } := by rw [← hr]
  have hrefuse' : r.cfgRefusing = false := by rw [← hr]; exact hrefuse
  have hidle' : r.cfgIdle = false := by rw [← hr]; exact hidle
  have hmin : min (262144 - s.cfg.buf.length) l.length = l.length := by omega
  simp only [hcfg, hrefuse', hidle', hsrc, hmin, List.take_length, List.drop_length]
  subst hr
  split
  · next hnil => simpa [hnil, ← hwait] using hsrc
  · simp [hwait]

/-- R59: whole words of the window go to the end of the buffer. -/
theorem State.exec_intakeData {d : List (BitVec 4 × Word)} (hub : s.sys.hubOn = true) (hwf : State.regsWf s = true) (ht : Stated.Taking s h)
    (hq : Stated.Quiet s) (hsrc : s.cfg.src = 0) (hmode : s.bootMode ≠ 2) (hstrap : s.bit 0x390 31 = false) (hwhole : ∀ x ∈ d, x.1 = 0xF)
    (hroom : s.cfg.buf.length + 4 * d.length ≤ 262144) :
    exec (.intakeData d) s = .next (s.appended (d.flatMap (fun x => bytesLE 4 x.2.toNat))) := by
  have hpart : d.any (fun x => x.1 ≠ 0xF) = false := by simpa using hwhole
  have hrefuse := State.not_refusing hstrap ht.loading
  have hpull := State.cfgPull_room (l := d.flatMap (fun x => bytesLE 4 x.2.toNat)) hrefuse (State.not_idle_of_section ht.hdr) hsrc hq.noWait
    (by rw [length_wordBytes]; exact hroom)
  have hflow (l : List Byte) : (s.appended l).cfgFlow = s.appended l := State.flow_taking (s := s.appended l) hwf ht hq
  have hdata : s.windowData d = s.appended (d.flatMap (fun x => bytesLE 4 x.2.toNat)) := by
    rw [State.windowData, if_neg (by simp [hub]), hpart, if_neg (by decide), State.windowIntake, if_neg (by simp [hrefuse, hmode]), hpull, hflow]
  exact congrArg Host.Outcome.next hdata

/-! ## Headers (R431) -/

/-- Before CFG_DONE a header that has come whole and passes its checks is taken. -/
theorem State.sectionHeader_pass (hhdr : s.cfg.hdr = none) (hq : Stated.Quiet s) (hending : s.cfg.ending = false) (hst : s.cfgState = 1)
    (hdone : s.cfg.done = false) (hlen : 512 ≤ s.cfg.buf.length) (hcode : s.hdrCode (s.cfg.buf.take 512) = none) :
    s.sectionHeader = s.acceptHeader (s.cfg.buf.take 512) := by
  have hwhole : ¬s.cfg.buf.length < 512 := Nat.not_lt.mpr hlen
  simp [State.sectionHeader, hhdr, hq.noDrop, hending, hq.noForward, hwhole, hst, hdone, hcode]

/-- Before CFG_DONE a header that has come whole and fails a check ends the load with the code of the first check that fails. -/
theorem State.sectionHeader_fail {c : Nat} (hhdr : s.cfg.hdr = none) (hq : Stated.Quiet s) (hending : s.cfg.ending = false) (hst : s.cfgState = 1)
    (hdone : s.cfg.done = false) (hlen : 512 ≤ s.cfg.buf.length) (hcode : s.hdrCode (s.cfg.buf.take 512) = some c) :
    s.sectionHeader = State.fullFail { s with cfg := { s.cfg with buf := s.cfg.buf.drop 512 } } c 0 0 := by
  have hwhole : ¬s.cfg.buf.length < 512 := Nat.not_lt.mpr hlen
  simp [State.sectionHeader, hhdr, hq.noDrop, hending, hq.noForward, hwhole, hst, hdone, hcode]

/-- The header of a full load is taken. -/
theorem State.acceptHeader_full (hfull : hdrPartial h = false) : s.acceptHeader h =
    { s with cfg := { s.cfg.clearLoad with
        hdr := some h, buf := s.cfg.buf.drop 512, digest := ofBytesBE ((h.drop 0x030).take 48),
        key := if hdrEnc h then some (s.imageKey (hdrKeySrc h)) else none } } := by
  simp [State.acceptHeader, hfull]

theorem State.taking_acceptHeader (hfull : hdrPartial h = false) (hst : s.cfgState = 1) (hending : s.cfg.ending = false) :
    Stated.Taking (s.acceptHeader h) h := by
  rw [State.acceptHeader_full hfull]
  exact ⟨rfl, hst, hending, rfl⟩

theorem State.quiet_acceptHeader (hfull : hdrPartial h = false) (hq : Stated.Quiet s) : Stated.Quiet (s.acceptHeader h) := by
  rw [State.acceptHeader_full hfull]
  exact hq

/-! ## Blocks (R47) -/

/-- The words of a block that passes join the command stream. -/
def State.blockTaken (s : State) (d : List Byte) : State :=
  State.count { s with cfg := { s.cfg with
    buf := s.cfg.buf.drop 65536, blk := s.cfg.blk + 1, words := s.cfg.words ++ wordsLE 16368 d,
    digest := ofBytesBE ((d.drop 65472).take 48) } } (oCfg + 0x10) 31 0 1

theorem State.imageBlock_good {d : List Byte} (ht : Stated.Taking s h) (hfull : hdrPartial h = false) (hblk : s.cfg.blk < hdrBlocks h)
    (hlen : 65536 ≤ s.cfg.buf.length)
    (hopen : openBlock s.cfg.key ((h.drop 0x020).take 8) s.cfg.digest s.cfg.blk (s.cfg.buf.take 65536) = .inl d) :
    s.imageBlock = s.blockTaken d := by
  have hready : ¬(s.cfgState ≠ 1 ∨ s.cfg.ending = true ∨ hdrBlocks h ≤ s.cfg.blk ∨ s.cfg.buf.length < 65536) := by
    rw [ht.loading, ht.notEnding]
    simp only [ne_eq, not_true_eq_false, Bool.false_eq_true, false_or]
    omega
  unfold State.imageBlock
  rw [ht.hdr]
  dsimp only
  rw [if_neg hready, hopen]
  exact if_pos (.inl hfull)

theorem State.blockTaken_cfg (s : State) (d : List Byte) : (s.blockTaken d).cfg = { s.cfg with
    buf := s.cfg.buf.drop 65536, blk := s.cfg.blk + 1, words := s.cfg.words ++ wordsLE 16368 d, digest := ofBytesBE ((d.drop 65472).take 48) } :=
  State.setFld_cfg ..

theorem State.taking_blockTaken (ht : Stated.Taking s h) (d : List Byte) : Stated.Taking (s.blockTaken d) h := by
  have hst : (s.blockTaken d).cfgState = s.cfgState := by
    rw [State.cfgState, State.blockTaken, State.count, State.fld_setFld_ne (by decide)]
    rfl
  rw [Stated.Taking, hst, State.blockTaken_cfg]
  exact ht

end Sys2Proof.Machine
end

section
open Sys2Proof Sys2Proof.Machine

/-- Settles O25: the flow leaves alone what intake, a header that is taken, a failure and a block have made, since no byte is left on its way. -/
theorem intakeCompletes : Obligations.IntakeCompletes := by
  refine ⟨?intake, ?header, ?block⟩
  case intake =>
    exact fun h d s hub hwf ht hq hsrc hmode hstrap hwhole hroom =>
      ⟨_, State.exec_intakeData hub hwf ht hq hsrc hmode hstrap hwhole hroom, rfl, rfl⟩
  case header =>
    intro s hwf hhdr hq hending hst hdone hlen
    refine ⟨_, rfl, fun hcode hfull => ?_, fun c hcode hc => ?_⟩
    · rw [State.sectionHeader_pass hhdr hq hending hst hdone hlen hcode]
      have hwf' : State.regsWf (s.acceptHeader (s.cfg.buf.take 512)) = true := by rw [State.acceptHeader_full hfull]; exact hwf
      rw [State.flow_taking hwf' (State.taking_acceptHeader hfull hst hending) (State.quiet_acceptHeader hfull hq), State.acceptHeader_full hfull]
      exact ⟨rfl, rfl, rfl, rfl, rfl⟩
    · rw [State.sectionHeader_fail hhdr hq hending hst hdone hlen hcode]
      have hf := State.failed_fullFail (s := { s with cfg := { s.cfg with buf := s.cfg.buf.drop 512 } }) (kind := 0) (value := 0) hwf hc (by omega)
      rw [hf.cfgFlow hq hending]
      exact ⟨hf.state, hf.code, by rw [hf.cfg], by rw [hf.cfg]; rfl, by rw [hf.cfg]⟩
  case block =>
    intro h d s ht hq hfull hblk hlen hopen
    have hquiet : Stated.Quiet (s.blockTaken d) := by rw [Stated.Quiet, State.blockTaken_cfg]; exact hq
    have hflow := (State.resting_of_taking (State.taking_blockTaken ht d) hquiet).cfgFlow_eq_discard
    refine ⟨_, rfl, ?_⟩
    rw [State.imageBlock_good ht hfull hblk hlen hopen, hflow, State.cfgDiscard_cfg, State.blockTaken_cfg]
    exact ⟨rfl, rfl, rfl, rfl, rfl⟩

end

section
/-! SUPPORT. The ends of configuration (R54, R61, R70, R72, R73): frames that are written, starvation, the release, the wipe, and writes of CFG_CTL. -/

namespace Sys2Proof.Machine

set_option Elab.async false

variable {s t : State} {h : List Byte} {a b c : Nat} {f : CFrame}

/-! ## Configuration cells (R49, R54) -/

theorem State.find_setFrame_ne (hne : b ≠ a) : SMap.find (s.setFrame a f).cfg.frames b = SMap.find s.cfg.frames b := by
  unfold State.setFrame SMap.set
  dsimp only
  split
  · split
    · exact SMap.find_drop_ne hne.symm
    · exact SMap.find_insert_ne hne.symm
  · exact SMap.find_insert_ne hne.symm

/-- A write of a frame leaves every other frame alone. -/
theorem State.frame_setFrame_ne (hne : b ≠ a) : (s.setFrame a f).frame b = s.frame b := by
  simp only [State.frame, SMap.get, State.find_setFrame_ne hne]
  rfl

/-- A frame that is not cleared reads back. -/
theorem State.frame_setFrame_self (hf : f ≠ zeroFrame) : (s.setFrame a f).frame a = f := by
  by_cases hlost : s.bramLost (faTile a) = 0
  · have hframes : (s.setFrame a f).cfg.frames = SMap.set frameDflt s.cfg.frames a f := if_pos hlost
    have hkept : (s.setFrame a f).bramLost (faTile a) = 0 := hlost
    rw [State.frame, if_neg (fun ⟨_, hlost, _⟩ => hlost hkept), hframes]
    exact SMap.get_set_of_ne hf
  · have hframes : (s.setFrame a f).cfg.frames = SMap.insert s.cfg.frames a f := if_neg hlost
    simp [State.frame, hframes, SMap.get, SMap.find_insert_self]

theorem State.frame_congr (hframes : t.cfg.frames = s.cfg.frames) (hlost : t.cfg.bramLost = s.cfg.bramLost) (b : Nat) : t.frame b = s.frame b := by
  rw [State.frame, State.frame, State.bramLost, State.bramLost, hframes, hlost]

/-- The writer of tile `c` has `l` left. -/
def State.left (s : State) (c : Nat) (l : List (Nat × CFrame)) : State :=
  { s with cfg := { s.cfg with writers := SMap.set (fun _ => []) s.cfg.writers c l } }

/-- R54: the writer of a tile that is ON writes its next frame. -/
theorem State.frameWritten_on {l : List (Nat × CFrame)} (hw : SMap.get (fun _ => []) s.cfg.writers c = (a, f) :: l) (hon : s.pwr (oPwrTile c) = 2) :
    s.frameWritten c = ((s.left c l).setFrame a f).count (oCfg + 0x14) 31 0 1 := by
  unfold State.frameWritten
  rw [hw]
  exact if_pos hon

theorem State.writers_left {l : List (Nat × CFrame)} (hl : l ≠ []) (s : State) (c : Nat) :
    SMap.get (fun _ => []) (s.left c l).cfg.writers c = l := SMap.get_set_of_ne hl

/-- The flow after a frame that leaves others to be written. -/
theorem State.frameWritten_flow {l : List (Nat × CFrame)} (hl : l ≠ []) (hhdr : s.cfg.hdr.isSome = true) (hst : s.cfgState = 1)
    (hending : s.cfg.ending = false) (hq : Stated.Quiet s) :
    (((s.left c l).setFrame a f).count (oCfg + 0x14) 31 0 1).cfgFlow.cfg = ((s.left c l).setFrame a f).cfg := by
  have hwriters : (s.left c l).cfg.writers ≠ [] := fun hnil => hl (by rw [← State.writers_left hl s c, hnil]; rfl)
  generalize hr : (s.left c l).setFrame a f = r
  have hcfg : (r.count (oCfg + 0x14) 31 0 1).cfg = r.cfg := State.setFld_cfg ..
  have hstate : (r.count (oCfg + 0x14) 31 0 1).cfgState = 1 := by
    rw [State.cfgState, State.count, State.fld_setFld_ne (by decide), ← hr]
    exact hst
  have hsome : r.cfg.hdr.isSome = true := by rw [← hr]; exact hhdr
  have hrest : (r.count (oCfg + 0x14) 31 0 1).Resting := by
    refine ⟨?_, ?_, fun h0 => ?_, fun hnone _ => ?_, fun _ _ _ => .inr (.inl ?_)⟩
    · rw [Stated.Quiet, hcfg, ← hr]
      exact hq
    · rw [hcfg, ← hr]
      exact hending
    · cases hstate.symm.trans h0
    · rw [← hcfg, hnone] at hsome
      cases hsome
    · rw [hcfg, ← hr]
      exact hwriters
  rw [hrest.cfgFlow_eq_discard, State.cfgDiscard_cfg, hcfg]

/-! ## Starvation (R61) -/

theorem State.not_ending_of_starved (hstarved : s.cfgStarved = true) (hhdr : s.cfg.hdr = none) : s.cfg.ending = false := by
  simp only [State.cfgStarved, hhdr, Bool.and_eq_true, Bool.not_eq_true'] at hstarved
  obtain ⟨⟨-, hending⟩, -⟩ := hstarved
  exact hending

/-- A full load that starves before its header has come fails with the bytes it has. -/
theorem State.intakeTmo_first (hstarved : s.cfgStarved = true) (hhdr : s.cfg.hdr = none) (hdone : s.cfg.done = false) :
    s.intakeTmo = (s.fullFail 0x029 2 (0 + s.cfg.buf.length)).cfgFlow := by
  rw [State.intakeTmo, if_pos hstarved, State.cfgFail_of_no_section hhdr hdone, hhdr]
  rfl

/-! ## The release (R70) -/

theorem State.fab_fabOpen_self (s : State) (c : Nat) : (s.fabOpen c).fab c = { released := true, image := (s.fab c).image + 1 } :=
  SMap.get_set_of_ne (d := fun _ => ({} : FabTile)) (m := s.pld.fab) (k := c) (v := { released := true, image := (s.fab c).image + 1 }) (by simp)

theorem State.fab_fabOpen_ne (hne : a ≠ c) : (s.fabOpen a).fab c = s.fab c :=
  SMap.get_set_ne (d := fun _ => ({} : FabTile)) (m := s.pld.fab) (v := { released := true, image := (s.fab a).image + 1 }) hne

/-- The release of a list of tiles: each tile of it that is ON is opened. -/
def State.releaseTiles (l : List Nat) (s : State) : State := l.foldl (fun r t => if r.isOn (oPwrTile t) then r.fabOpen t else r) s

theorem State.releaseTiles_cons (a : Nat) (l : List Nat) (s : State) :
    State.releaseTiles (a :: l) s = State.releaseTiles l (if s.isOn (oPwrTile a) then s.fabOpen a else s) := rfl

theorem State.fabRelease_eq (s : State) : s.fabRelease = State.releaseTiles (List.range 4) s := rfl

/-- The release reaches the fabric alone. -/
theorem State.releaseTiles_frame (l : List Nat) (s : State) : ∃ m, State.releaseTiles l s = { s with pld := { s.pld with fab := m } } := by
  induction l generalizing s with
  | nil => exact ⟨s.pld.fab, rfl⟩
  | cons a l ih =>
    rw [State.releaseTiles_cons]
    split
    · obtain ⟨m, hm⟩ := ih (s.fabOpen a)
      exact ⟨m, hm⟩
    · exact ih s

theorem State.fab_releaseTiles_ne (l : List Nat) (s : State) (hc : c ∉ l) : (State.releaseTiles l s).fab c = s.fab c := by
  induction l generalizing s with
  | nil => rfl
  | cons a l ih =>
    obtain ⟨hca, hcl⟩ := not_or.mp (mt List.mem_cons.mpr hc)
    rw [State.releaseTiles_cons, ih _ hcl]
    split
    · exact State.fab_fabOpen_ne (Ne.symm hca)
    · rfl

/-- R70 step 4: a tile that is ON and listed once takes its image values, and its shells, sluices and pins are enabled. -/
theorem State.fab_releaseTiles (l : List Nat) (s : State) (hl : l.Nodup) (hc : c ∈ l) (hon : s.isOn (oPwrTile c) = true) :
    (State.releaseTiles l s).fab c = { released := true, image := (s.fab c).image + 1 } := by
  induction l generalizing s with
  | nil => cases hc
  | cons a l ih =>
    obtain ⟨hal, hl⟩ := List.nodup_cons.mp hl
    rw [State.releaseTiles_cons]
    by_cases hca : a = c
    · subst hca
      rw [State.fab_releaseTiles_ne l _ hal, if_pos hon, State.fab_fabOpen_self]
    · have hmem : c ∈ l := (List.mem_cons.mp hc).resolve_left (Ne.symm hca)
      split
      · rw [ih (s.fabOpen a) hl hmem hon, State.fab_fabOpen_ne hca]
      · exact ih s hl hmem hon

theorem State.fab_fabRelease (s : State) (c : Tile) (hon : s.isOn (oPwrTile c.val) = true) :
    (s.fabRelease.fab c.val).released = true ∧ (s.fabRelease.fab c.val).image = (s.fab c.val).image + 1 := by
  rw [State.fabRelease_eq, State.fab_releaseTiles _ s List.nodup_range (List.mem_range.mpr c.isLt) hon]
  exact ⟨rfl, rfl⟩

/-- The registers of a load that is released: what CFG_SEC shows of the image, and the times of the load. -/
def State.loadShown (s : State) (h : List Byte) : State :=
  ((s.cfgSec h).setReg (oCfg + 0x1C) (BitVec.ofNat 32 s.cfg.us)).setReg (oCfg + 0x20) (BitVec.ofNat 32 s.cfg.starved)

theorem State.Steady.loadShown {P : Nat → Prop} {u : State} (hs : State.Steady P s u) (h : List Byte) : State.Steady P s (u.loadShown h) :=
  hs.setFld.setFld.setFld.setReg.setReg

theorem State.loadShown_pld (s : State) (h : List Byte) : (s.loadShown h).pld = s.pld := by
  rw [State.loadShown, State.setReg_pld, State.setReg_pld, State.cfgSec, State.setFld_pld, State.setFld_pld, State.setFld_pld]

/-- The load is over, and CFG_DONE is high (R70 step 6). -/
def State.released (s : State) (h : List Byte) : State :=
  { (s.loadShown h).fabRelease with
    cfg := { s.cfg.clearLoad with done := true, us := 0, starved := 0 }, pld := { (s.loadShown h).fabRelease.pld with scrub := [] } }

theorem State.released_regs (s : State) (h : List Byte) : (s.released h).regs = (s.loadShown h).regs := by
  obtain ⟨m, hm⟩ := State.releaseTiles_frame (List.range 4) (s.loadShown h)
  rw [State.released, State.fabRelease_eq, hm]

theorem State.fab_released (s : State) (h : List Byte) (c : Tile) (hon : s.isOn (oPwrTile c.val) = true) :
    ((s.released h).fab c.val).released = true ∧ ((s.released h).fab c.val).image = (s.fab c.val).image + 1 := by
  have hlow : ¬Above (oPwrTile c.val) := by have := c.isLt; simp only [Above, oPwrTile]; omega
  have hon' : (s.loadShown h).isOn (oPwrTile c.val) = true := by
    rw [State.isOn, ((State.Steady.refl (fun _ => True) s).loadShown h).pwr trivial hlow]
    exact hon
  have hfab : (s.loadShown h).fab c.val = s.fab c.val := by rw [State.fab, State.loadShown_pld, ← State.fab]
  have hrel := (s.loadShown h).fab_fabRelease c hon'
  rw [hfab] at hrel
  exact hrel

/-- The release of a full load that declares no polder, before the flow that follows. -/
def State.releaseEnd (s : State) (h : List Byte) : State := ((s.released h).setCfgState 3).cfgIrq.cfgReport 0

theorem State.cfgRelease_eq (hhdr : s.cfg.hdr = some h) (hst : s.cfgState = 2) (hdecls : s.cfg.decls = []) : s.cfgRelease = (s.releaseEnd h).cfgFlow := by
  have hrel : s.releaseBegin = s := State.releaseBegin_of_open fun _ _ h1 => by rw [hst] at h1; cases h1
  unfold State.cfgRelease
  rw [hrel]
  dsimp only
  rw [hhdr]
  dsimp only
  rw [if_neg (by simp [hst]), hdecls]
  rfl

theorem State.cfgIrq_cfgReport_frame (s : State) (n : Nat) : ∃ l, s.cfgIrq.cfgReport n = { s with out := l } := by
  obtain ⟨l, hirq⟩ := s.cfgIrq_frame
  rw [hirq]
  exact State.cfgReport_frame { s with out := l } n

theorem State.releaseEnd_frame (s : State) (h : List Byte) : ∃ l, s.releaseEnd h = { (s.released h).setCfgState 3 with out := l } :=
  State.cfgIrq_cfgReport_frame _ 0

theorem State.releaseEnd_cfg (s : State) (h : List Byte) : (s.releaseEnd h).cfg = { s.cfg.clearLoad with done := true, us := 0, starved := 0 } := by
  obtain ⟨l, hend⟩ := s.releaseEnd_frame h
  rw [hend]
  exact State.setCfgState_cfg (s.released h) 3

theorem State.releaseEnd_spec (hwf : State.regsWf s = true) (h : List Byte) : State.regsWf (s.releaseEnd h) = true ∧ (s.releaseEnd h).cfgState = 3 := by
  have hwf' : State.regsWf (s.released h) = true := by
    rw [State.regsWf, State.released_regs]
    exact ((State.Steady.refl (fun _ => True) s).loadShown h).wf hwf
  obtain ⟨hw, hst, -⟩ := State.setCfgState_spec hwf' (n := 3) (by omega)
  obtain ⟨l, hend⟩ := s.releaseEnd_frame h
  rw [hend]
  exact ⟨hw, hst⟩

theorem State.fab_releaseEnd (s : State) (h : List Byte) (c : Nat) : (s.releaseEnd h).fab c = (s.released h).fab c := by
  obtain ⟨l, hend⟩ := s.releaseEnd_frame h
  have hpld : ((s.released h).setCfgState 3).pld = (s.released h).pld := State.setFld_pld ..
  rw [hend, State.fab, State.fab, ← hpld]

/-- A released device rests while no byte comes. -/
theorem State.flow_releaseEnd (hwf : State.regsWf s = true) (hempty : Stated.IntakeEmpty s) (h : List Byte) : (s.releaseEnd h).cfgFlow = s.releaseEnd h := by
  obtain ⟨hbuf, hending, hq⟩ := hempty
  obtain ⟨hwf', hst⟩ := State.releaseEnd_spec hwf h
  refine State.Resting.cfgFlow ⟨?_, ?_, fun _ => ?_, fun _ _ => ?_, fun _ _ h1 => ?_⟩ hwf'
  · rw [Stated.Quiet, State.releaseEnd_cfg]
    exact hq
  · rw [State.releaseEnd_cfg]
    exact hending
  · rw [State.releaseEnd_cfg]
    exact hbuf
  · rw [State.releaseEnd_cfg]
    exact hbuf
  · cases hst.symm.trans h1

/-! ## The wipe (R72) -/

/-- Every frame of the four tiles is zero. -/
def State.wiped (s : State) : State := { s with cfg := { s.cfg with frames := [], bramLost := [] } }

/-- The end of a wipe that no lockout follows. -/
theorem State.wipeDone_frame (hst : s.cfgState = 4) (hlock : s.cfgLockDue = false) : ∃ l, s.wipeDone = { s.wiped.setCfgState 5 with out := l } := by
  have hlock' : ¬s.wiped.cfgLockDue = true := by
    rw [Bool.not_eq_true]
    exact hlock
  obtain ⟨l, hrep⟩ := (s.wiped.setCfgState 5).cfgReport_frame (s.fld oCfgStat 23 12)
  refine ⟨l, ?_⟩
  rw [← hrep, State.wipeDone, if_pos hst]
  dsimp only
  exact congrArg (State.cfgReport · _) (if_neg hlock')

/-! ## Writes of CFG_CTL (R72, R73) -/

theorem State.cfgState_with_cfg (s : State) (x : CfgSt) : State.cfgState { s with cfg := x } = s.cfgState := rfl

/-- The row of CFG_CTL. -/
def cfgCtlRow : RegDef := reg1 0x000 0 [fRw 8 8, fWo 1 1, fWo 0 0]

theorem regAt_cfgCtl : regAt oCfg = some (⟨.cfg, 0, oCfg, 0⟩, cfgCtlRow, 0) := rfl

/-- A write of CFG_CTL that no check rejects. -/
theorem State.cmdWrite_cfgCtl {req : Req} {v : Word} (hub : s.sys.hubOn = true) (die : reservedDie req.toNat = false) (hw : s.cfgCtlWrite v = .ok t) :
    s.cmdWrite req oCfg v = t := by
  have hbad : s.badPost req.toNat ⟨.cfg, 0, oCfg, 0⟩ = none := by simp [State.badPost]
  have hans : Stated.Answers s req oCfg ⟨.cfg, 0, oCfg, 0⟩ cfgCtlRow :=
    ⟨hub, die, locate_of_regAt regAt_cfgCtl, rfl, rfl, hbad, by rw [regAt_cfgCtl]; rfl⟩
  exact (State.cmdWrite_word ⟨hans, rfl, rfl⟩ rfl).1 t hw

/-- The write itself reaches the word of CFG_CTL alone. -/
theorem State.plainWrite_cfgCtl (hwf : State.regsWf s = true) (v : Word) :
    State.regsWf (s.plainWrite oCfg v) = true ∧ (s.plainWrite oCfg v).cfg = s.cfg := by
  rw [State.plainWrite, regAt_cfgCtl]
  exact ⟨State.wf_setReg hwf _ _, State.setReg_cfg ..⟩

/-- R72: CLEAR in FAILED. -/
theorem State.cfgCtlWrite_clear {v : Word} (hclear : bitsOf v 0 0 = 1) (habort : bitsOf v 1 1 = 0) (hst : s.cfgState = 5) : s.cfgCtlWrite v =
    .ok { (s.plainWrite oCfg v).setCfgState 0 with cfg := { (s.plainWrite oCfg v).cfg with err := false } } := by
  simp [State.cfgCtlWrite, hclear, habort, hst]

/-- R73: ABORT of a load. -/
theorem State.cfgCtlWrite_abort {v : Word} (hclear : bitsOf v 0 0 = 0) (habort : bitsOf v 1 1 = 1) (hst : s.cfgState = 1)
    (hending : s.cfg.ending = false) : s.cfgCtlWrite v = .ok ((s.plainWrite oCfg v).cfgFail 0x02E 0 0).cfgFlow := by
  simp [State.cfgCtlWrite, hclear, habort, hst, hending]

end Sys2Proof.Machine
end

section
open Sys2Proof Sys2Proof.Machine

/-- Settles O27: each end leaves the controller in a state that rests while no byte is on its way, so the flow that follows changes nothing of it. -/
theorem configurationEventsComplete : Obligations.ConfigurationEventsComplete := by
  refine ⟨?frame, ?starved, ?release, ?wipe, ?clear, ?abort⟩
  case frame =>
    intro c a f l s hw hon hf hl hhdr hst hending hq
    have hcfg := State.frameWritten_flow (c := c.val) (a := a) (f := f) hl hhdr hst hending hq
    have hframe := State.frame_congr (congrArg CfgSt.frames hcfg) (congrArg CfgSt.bramLost hcfg)
    refine ⟨_, congrArg (fun t => Host.Outcome.next (State.cfgFlow t)) (State.frameWritten_on hw hon), ?_, fun b hb => ?_, ?_⟩
    · exact (hframe a).trans (State.frame_setFrame_self hf)
    · exact (hframe b).trans ((State.frame_setFrame_ne hb).trans (State.frame_congr rfl rfl b))
    · rw [hcfg]
      exact State.writers_left hl s c.val
  case starved =>
    intro s hwf hstarved hhdr hdone hq
    have hf := State.failed_fullFail (s := s) (code := 0x029) (kind := 2) (value := 0 + s.cfg.buf.length) hwf (by omega) (by omega)
    refine ⟨_, congrArg Host.Outcome.next (State.intakeTmo_first hstarved hhdr hdone), ?_⟩
    rw [hf.cfgFlow hq (State.not_ending_of_starved hstarved hhdr)]
    exact ⟨hf.state, hf.code, hf.poskind, by rw [hf.cfg], by rw [hf.cfg]⟩
  case release =>
    intro h s hwf hhdr _ hst hdecls hempty
    have hflow := State.flow_releaseEnd hwf hempty h
    have hexec : exec .cfgRelease s = .next (s.releaseEnd h) := by
      refine (congrArg (fun t => Host.Outcome.next (State.cfgFlow t)) (State.cfgRelease_eq hhdr hst hdecls)).trans ?_
      rw [hflow, hflow]
    refine ⟨_, hexec, (State.releaseEnd_spec hwf h).2, ?_, ?_, ?_, fun c hon => ?_⟩
    · rw [State.releaseEnd_cfg]
    · rw [State.releaseEnd_cfg]
      rfl
    · rw [State.releaseEnd_cfg]
      rfl
    · rw [State.fab_releaseEnd]
      exact s.fab_released h c hon
  case wipe =>
    intro s hwf hst hlock hempty
    obtain ⟨hbuf, hending, hq⟩ := hempty
    obtain ⟨l, hwipe⟩ := State.wipeDone_frame hst hlock
    obtain ⟨hwf5, hst5, -⟩ := State.setCfgState_spec (s := s.wiped) hwf (n := 5) (by omega)
    have hcfg : (s.wiped.setCfgState 5).cfg = s.wiped.cfg := State.setCfgState_cfg ..
    generalize s.wiped.setCfgState 5 = r at *
    have hrest : State.Resting { r with out := l } := by
      refine ⟨hcfg ▸ hq, hcfg ▸ hending, fun _ => hcfg ▸ hbuf, fun _ _ => hcfg ▸ hbuf, fun _ _ h1 => ?_⟩
      cases hst5.symm.trans h1
    refine ⟨_, congrArg (fun t => Host.Outcome.next (State.cfgFlow t)) hwipe, ?_⟩
    rw [hrest.cfgFlow hwf5]
    exact ⟨hst5, by rw [hcfg]; rfl, by rw [hcfg]; rfl⟩
  case clear =>
    intro req s hwf hub die hst
    refine ⟨_, congrArg Host.Outcome.next (State.cmdWrite_cfgCtl hub die (State.cfgCtlWrite_clear (v := 1) rfl rfl hst)), ?_⟩
    obtain ⟨hwf1, hcfg1⟩ := State.plainWrite_cfgCtl hwf 1
    generalize s.plainWrite oCfg 1 = r at *
    obtain ⟨-, hst0, -⟩ := State.setCfgState_spec hwf1 (n := 0) (by omega)
    exact ⟨(State.cfgState_with_cfg (r.setCfgState 0) _).trans hst0, by rw [hcfg1]⟩
  case abort =>
    intro req s hwf hub die hst hending hhdr hdone hq
    refine ⟨_, congrArg Host.Outcome.next (State.cmdWrite_cfgCtl hub die (State.cfgCtlWrite_abort (v := 2) rfl rfl hst hending)), ?_⟩
    obtain ⟨hwf1, hcfg1⟩ := State.plainWrite_cfgCtl hwf 2
    generalize s.plainWrite oCfg 2 = r at *
    rw [← hcfg1] at hhdr hdone hending
    have hf := State.failed_fullFail (s := r) (code := 0x02E) (kind := 0) (value := 0) hwf1 (by omega) (by omega)
    rw [State.cfgFail_of_no_section hhdr hdone, hf.cfgFlow (by rw [Stated.Quiet, hcfg1]; exact hq) hending]
    exact ⟨hf.state, hf.code, by rw [hf.cfg]⟩

end

section
/-! SUPPORT. The chain port (R64 to R67): packets taken and acknowledged, packets sent again, an abort, a status, and a port that stays down. -/

namespace Sys2Proof.Machine

set_option Elab.async false

variable {s t u : State} {h : List Byte} {p : ChainPkt} {n : Nat}

/-! ## Packets from upstream (R65) -/

/-- The packet has been taken: its bytes stand in the buffer, and the next number is awaited. -/
def State.packetTaken (s : State) (p : ChainPkt) : State :=
  State.emit { s.appended p.data with cfg := { (s.appended p.data).cfg with
    chain := { s.cfg.chain with rxSeq := (p.seq.toNat + 1) % 65536 } } } (.chainAck p.seq.toNat)

/-- Bytes of the section in progress, which comes over the chain. -/
theorem State.chainIntake_section {l : List Byte} (hwf : State.regsWf s = true) (ht : Stated.Taking s h) (hq : Stated.Quiet s) (hsrc : s.cfg.src = 1)
    (hstrap : s.bit 0x390 31 = false) (hroom : s.cfg.buf.length + l.length ≤ 262144) : s.chainIntake l = some (s.appended l) := by
  have hrefuse := State.not_refusing hstrap ht.loading
  have hidle := State.not_idle_of_section ht.hdr
  have hflow : (s.appended l).cfgFlow = s.appended l := State.flow_taking (s := s.appended l) hwf ht hq
  have hfull : ¬262144 < s.cfg.buf.length + l.length := Nat.not_lt.mpr hroom
  rw [← hflow]
  simp [State.chainIntake, hrefuse, hidle, hsrc, hfull, State.appended]

theorem State.chainRx_section (hwf : State.regsWf s = true) (ht : Stated.Taking s h) (hq : Stated.Quiet s) (hsrc : s.cfg.src = 1) (hmode : s.bootMode = 2)
    (hstrap : s.bit 0x390 31 = false) (hcrc : p.crc = chainCrc p.seq p.sos p.eos p.data) (hseq : p.seq.toNat = s.cfg.chain.rxSeq)
    (hlen : p.data.length ≤ 4096) (hroom : s.cfg.buf.length + p.data.length ≤ 262144) : s.chainRx p = s.packetTaken p := by
  have hgood : ¬(s.bootMode ≠ 2 ∨ p.crc ≠ chainCrc p.seq p.sos p.eos p.data ∨ p.seq.toNat ≠ s.cfg.chain.rxSeq ∨ 4096 < p.data.length) := by
    rintro (hm | hc | hs | hl)
    · exact hm hmode
    · exact hc hcrc
    · exact hs hseq
    · omega
  rw [State.chainRx, if_neg hgood, State.chainIntake_section hwf ht hq hsrc hstrap hroom]
  rfl

/-! ## The flow while no byte waits -/

/-- The intake buffer is empty and END has not come: the controller rests. -/
theorem State.resting_of_empty (hempty : Stated.IntakeEmpty s) (hended : s.cfg.ended = false) : s.Resting := by
  obtain ⟨hbuf, hending, hq⟩ := hempty
  exact ⟨hq, hending, fun _ => hbuf, fun _ _ => hbuf, fun _ _ _ => .inl hended⟩

/-! ## Acknowledgements (R65) -/

/-- The packets that wait for an acknowledgement are `l`. -/
def State.awaiting (s : State) (l : List (ChainPkt × Nat)) : State :=
  { s with cfg := { s.cfg with chain := { s.cfg.chain with unacked := l } } }

theorem State.oChst_ne_oCfgStat (d : Nat) : oChst d ≠ oCfgStat := by simp only [oChst, oCfgStat, oCfg]; omega

/-- An acknowledgement of the oldest packet frees it; the status of the device may change, and nothing else. -/
theorem State.chainAckRx_first {l : List (ChainPkt × Nat)} (hfwd : s.cfg.chain.fwdLeft = 0) (hun : s.cfg.chain.unacked = (p, n) :: l) :
    ∃ x, s.chainAckRx p.seq.toNat = s.awaiting l ∨ s.chainAckRx p.seq.toNat = (s.awaiting l).setFld x 31 29 2 ∧ x ≠ oCfgStat := by
  have hany : s.cfg.chain.unacked.any (fun x => x.1.seq.toNat == p.seq.toNat) = true := by simp [hun]
  have hrest : (s.cfg.chain.unacked.dropWhile (fun x => x.1.seq.toNat != p.seq.toNat)).drop 1 = l := by simp [hun]
  refine ⟨oChst s.cfg.chain.fwdDev, ?_⟩
  unfold State.chainAckRx
  dsimp only
  rw [if_pos hany, hrest]
  split
  · refine .inr ⟨State.chainPump_of_no_forward _ ?_, State.oChst_ne_oCfgStat _⟩
    rw [State.setFld_cfg]
    exact hfwd
  · exact .inl (State.chainPump_of_no_forward (s := s.awaiting l) _ hfwd)

/-! ## Packets sent again (R65) -/

/-- Outputs alone. -/
theorem State.foldl_emit {α : Type} (f : α → Out) (l : List α) (s : State) :
    l.foldl (fun r x => r.emit (f x)) s = { s with out := s.out ++ l.map f } := by
  induction l generalizing s with
  | nil => simp
  | cons x l ih =>
    rw [List.foldl_cons, ih]
    simp [State.emit]

/-- The packets that wait have gone out again, and the time-outs of the oldest one are `n + 1`. -/
def State.resent (s : State) (p : ChainPkt) (n : Nat) (l : List (ChainPkt × Nat)) : State :=
  { s.awaiting ((p, n + 1) :: l) with out := s.out ++ s.cfg.chain.unacked.map (fun x => .chainPkt x.1) }

theorem State.chainAckTmo_again {l : List (ChainPkt × Nat)} (hun : s.cfg.chain.unacked = (p, n) :: l) (hn : n < 2) :
    s.chainAckTmo = s.resent p n l := by
  have hfold := State.foldl_emit (fun x : ChainPkt × Nat => Out.chainPkt x.1) s.cfg.chain.unacked (s.awaiting ((p, n + 1) :: l))
  rw [State.chainAckTmo, State.resent, hun]
  rw [hun] at hfold
  exact (if_neg (Nat.not_le.mpr hn)).trans hfold

/-! ## Aborts and statuses (R65, R67) -/

/-- An abort packet ends a full load that came over the chain. -/
theorem State.chainAbortRx_load (hmode : s.bootMode = 2) (hq : Stated.Quiet s) (hending : s.cfg.ending = false) (hst : s.cfgState = 1)
    (hsrc : s.cfg.src = 1) (hhdr : s.cfg.hdr = none) (hdone : s.cfg.done = false) : s.chainAbortRx = s.fullFail 0x02B 0 0 := by
  rw [State.chainAbortRx, if_neg (by simp [hmode]), if_neg (by simp [hq.noForward]), if_pos ⟨hsrc, hending, .inl hst⟩,
    State.cfgFail_of_no_section hhdr hdone]

/-- The word of CFG_CHSTAT: the state of the device and the code it reported. -/
def chstWord (st code : Nat) : Word := BitVec.ofNat 32 (st * 2 ^ 29 + code * 2 ^ 12)

theorem bitsOf_chstWord {st code : Nat} (hst : st < 8) (hcode : code < 4096) :
    bitsOf (chstWord st code) 31 29 = st ∧ bitsOf (chstWord st code) 23 12 = code := by
  simp only [chstWord, bitsOf, BitVec.toNat_ofNat]
  omega

theorem State.chainStatusRx_lead {code pos : Nat} (hmode : s.bootMode = 1) (hlo : 1 ≤ pos) (hhi : pos ≤ 15) :
    s.chainStatusRx code pos = s.setReg (oChst pos) (chstWord (if code = 0 then 3 else 4) code) := by
  rw [State.chainStatusRx, if_neg (by omega), if_pos ⟨hmode, hlo, hhi⟩, chstWord]

/-! ## A port that stays down (R66): what the flow does to the chain port once nothing is forwarded -/

/-- The registers of the downstream devices. -/
abbrev IsChst (o : Nat) : Prop := oCfg + 0x40 ≤ o ∧ o < oCfg + 0x80

theorem isChst_oChst {d : Nat} (hhi : d ≤ 15) : IsChst (oChst d) := by simp only [IsChst, oChst]; omega

/-- The chain port and what it shows of the downstream devices stay as they are. -/
def State.ChainKept (s t : State) : Prop := t.cfg.chain = s.cfg.chain ∧ ∀ o, IsChst o → t.reg o = s.reg o

namespace State.ChainKept

theorem refl (s : State) : s.ChainKept s := ⟨rfl, fun _ _ => rfl⟩

theorem trans (h : s.ChainKept t) (h' : t.ChainKept u) : s.ChainKept u := ⟨h'.1.trans h.1, fun o ho => (h'.2 o ho).trans (h.2 o ho)⟩

theorem noForward (h : s.ChainKept t) (hs : s.cfg.chain.fwdLeft = 0) : t.cfg.chain.fwdLeft = 0 := by rw [h.1, hs]

/-- An update behind the registers and the chain port. -/
theorem behind (h : s.ChainKept t) (hc : u.cfg.chain = t.cfg.chain := by rfl) (hr : u.regs = t.regs := by rfl) : s.ChainKept u :=
  h.trans ⟨hc, fun o _ => by rw [State.reg, hr, ← State.reg]⟩

theorem when {c : Prop} [Decidable c] (hu : s.ChainKept u) (h : s.ChainKept t) : s.ChainKept (if c then u else t) := by split <;> assumption

theorem setReg {o : Nat} (h : s.ChainKept t) (ho : ¬IsChst o) (v : Word) : s.ChainKept (t.setReg o v) :=
  h.trans ⟨by rw [State.setReg_cfg], fun _ hx => State.reg_setReg_ne (by rintro rfl; exact ho hx) v⟩

theorem setFld {o : Nat} (h : s.ChainKept t) (ho : ¬IsChst o) (hi lo n : Nat) : s.ChainKept (t.setFld o hi lo n) := h.setReg ho _
theorem count {o : Nat} (h : s.ChainKept t) (ho : ¬IsChst o) (hi lo n : Nat) : s.ChainKept (t.count o hi lo n) := h.setFld ho ..

theorem log (h : s.ChainKept t) (r : Rec) : s.ChainKept (t.log r) :=
  h.trans ⟨by rw [State.log_cfg], fun _ ho => State.reg_log_ne (by rintro rfl; exact absurd ho (by decide)) r⟩

theorem not_isChst_cfgStat : ¬IsChst oCfgStat := by decide
theorem not_isChst_discard : ¬IsChst oDiscard := by decide

theorem setCfgState (h : s.ChainKept t) (n : Nat) : s.ChainKept (t.setCfgState n) := h.setFld not_isChst_cfgStat ..
theorem cfgDiscard (h : s.ChainKept t) (n : Nat) : s.ChainKept (t.cfgDiscard n) := h.count not_isChst_discard ..

theorem cfgLog (h : s.ChainKept t) (c k v : Nat) : s.ChainKept (t.cfgLog c k v) := ((h.setFld not_isChst_cfgStat ..).setReg (by decide) _).log _

theorem cfgAfail (h : s.ChainKept t) (c : Nat) : s.ChainKept (t.cfgAfail c) := (h.count not_isChst_cfgStat ..).when h

theorem cfgNote (h : s.ChainKept t) (c k v : Nat) : s.ChainKept (t.cfgNote c k v) :=
  (((h.cfgAfail c).cfgLog c k v).setFld not_isChst_cfgStat ..).behind (by rw [State.cfgNote, State.cfgIrq_cfg]) (State.cfgIrq_regs _)

theorem loadCleared (h : s.ChainKept t) :
    s.ChainKept { t with cfg := { t.cfg.clearLoad with err := true, buf := [], writers := [] } } := h.behind

theorem fullFail (h : s.ChainKept t) (c k v : Nat) : s.ChainKept (t.fullFail c k v) := ((h.cfgNote c k v).setCfgState 4).loadCleared.cfgDiscard _

theorem cfgReport (h : s.ChainKept t) (c : Nat) : s.ChainKept (t.cfgReport c) := h.behind.when h

theorem cfgLocked (h : s.ChainKept t) : s.ChainKept t.cfgLocked := by
  unfold State.cfgLocked
  extract_lets s1
  have h1 : s.ChainKept s1 := (h.setCfgState 6).cfgLog ..
  clear_value s1
  exact h1.behind

theorem partialOver (h : s.ChainKept t) (q : Nat) : s.ChainKept (t.partialOver q) := by
  unfold State.partialOver
  dsimp only
  split
  · have h1 (c : Nat) : s.ChainKept (State.cfgReport { t with cfg := { t.cfg.clearLoad with ending := false } } c) := h.behind.cfgReport c
    exact (h1 _).cfgLocked.when ((h1 _).setCfgState 3)
  · exact h

theorem cfgDrop (h : s.ChainKept t) : s.ChainKept t.cfgDrop := by
  unfold State.cfgDrop
  extract_lets n new _ s1
  have h1 : s.ChainKept s1 := h.behind.cfgDiscard n
  clear_value s1
  split <;> exact h1.partialOver _

theorem cfgBegin (h : s.ChainKept t) (n : Nat) : s.ChainKept (t.cfgBegin n) :=
  ((((h.setCfgState 1).setFld not_isChst_cfgStat ..).setFld not_isChst_cfgStat ..).setReg (by decide) _).setReg (by decide) _

theorem partBegin (h : s.ChainKept t) : s.ChainKept t.partBegin :=
  (((h.setCfgState 1).setFld not_isChst_cfgStat ..).setFld not_isChst_cfgStat ..).when h

theorem windowFilter (h : s.ChainKept t) : s.ChainKept t.windowFilter := h.when (h.behind.cfgDrop.when (h.when h.behind.cfgDrop))

theorem cfgPull (h : s.ChainKept t) : s.ChainKept t.cfgPull := h.when ((h.behind.cfgDiscard _).when (h.when h.behind))

/-- What the release finds wrong ends a full load. -/
theorem releaseBegin (h : s.ChainKept t) : s.ChainKept t.releaseBegin := by
  unfold State.releaseBegin
  split
  · exact h
  · next d hd =>
    split
    · exact h
    · next hc =>
      split
      · exact h
      · have hfull : hdrPartial d = false := Bool.not_eq_true _ ▸ fun hpart => hc (.inl hpart)
        rw [State.cfgFail_of_full hd hfull]
        exact h.fullFail ..
      · exact h.behind.setCfgState 2

theorem cfgStep (h : s.ChainKept t) (hs : s.cfg.chain.fwdLeft = 0) : s.ChainKept t.cfgStep := by
  unfold State.cfgStep
  extract_lets s1 s2 s3
  have h1 : s.ChainKept s1 := h.cfgDrop
  have h2 : s.ChainKept s2 := (h1.cfgBegin _).when h1
  have h3 : s.ChainKept s3 := by
    unfold s3
    rw [State.chainPump_of_no_forward _ (h2.noForward hs)]
    exact h2.windowFilter.partBegin.releaseBegin
  exact (h3.fullFail ..).when h3

theorem cfgTurns (n : Nat) (h : s.ChainKept t) (hs : s.cfg.chain.fwdLeft = 0) : s.ChainKept (State.cfgTurns n t) := by
  induction n generalizing t with
  | zero => exact h
  | succ n ih => exact (ih (h.cfgStep hs).cfgPull).when (h.cfgStep hs)

theorem cfgFlow (s : State) (hs : s.cfg.chain.fwdLeft = 0) : s.ChainKept s.cfgFlow := (refl s).cfgTurns _ hs

end State.ChainKept

/-- R66: where forwarding stops, nothing is left to send, and the device it was for shows code 0x02A. -/
theorem State.chainStop_spec (hwf : State.regsWf s = true) : s.chainStop.cfg.chain.stopped = true ∧ s.chainStop.cfg.chain.fwdLeft = 0 ∧
    s.chainStop.cfg.chain.unacked = [] ∧ s.chainStop.reg (oChst s.cfg.chain.fwdDev) = chstWord 4 0x02A := by
  have hne : oChst s.cfg.chain.fwdDev ≠ oDiscard := by simp only [oChst, oDiscard]; omega
  have hread : ((s.cfgLog 0x02A 0 0).setReg (oChst s.cfg.chain.fwdDev) (chstWord 4 0x02A)).reg (oChst s.cfg.chain.fwdDev) = chstWord 4 0x02A :=
    State.reg_setReg_self (State.wf_cfgLog hwf ..) _ _
  unfold State.chainStop
  dsimp only
  rw [State.reg_cfgDiscard hne, State.cfgDiscard_cfg]
  exact ⟨rfl, rfl, rfl, hread⟩

end Sys2Proof.Machine
end

section
open Sys2Proof Sys2Proof.Machine

/-- Settles O28: a packet, an acknowledgement, a packet sent again and an abort leave a controller that rests; whatever the flow does after a port that
stays down, it does not reach the chain port. -/
theorem chainEventsComplete : Obligations.ChainEventsComplete := by
  refine ⟨?packet, ?ack, ?again, ?abort, ?status, ?port⟩
  case packet =>
    intro h p s hwf ht hq hsrc hmode hstrap hcrc hseq hlen hroom
    refine ⟨_, congrArg Host.Outcome.next (State.chainRx_section hwf ht hq hsrc hmode hstrap hcrc hseq hlen hroom), rfl, ?_, rfl⟩
    rw [← hseq]
    rfl
  case ack =>
    intro p n l s hwf hempty hended hun
    obtain ⟨hbuf, hending, hq⟩ := hempty
    obtain ⟨x, hack | ⟨hack, hx⟩⟩ := State.chainAckRx_first hq.noForward hun
    · refine ⟨_, congrArg (fun t => Host.Outcome.next (State.cfgFlow t)) hack, ?_⟩
      rw [(State.resting_of_empty (s := s.awaiting l) ⟨hbuf, hending, hq⟩ hended).cfgFlow hwf]
      exact ⟨rfl, rfl⟩
    · refine ⟨_, congrArg (fun t => Host.Outcome.next (State.cfgFlow t)) hack, ?_⟩
      have hcfg : ((s.awaiting l).setFld x 31 29 2).cfg = (s.awaiting l).cfg := State.setFld_cfg ..
      have hempty : Stated.IntakeEmpty ((s.awaiting l).setFld x 31 29 2) := by
        rw [Stated.IntakeEmpty, Stated.Quiet, hcfg]
        exact ⟨hbuf, hending, hq⟩
      rw [(State.resting_of_empty hempty (by rw [hcfg]; exact hended)).cfgFlow (State.wf_setFld hwf ..), hcfg, State.setFld_out]
      exact ⟨rfl, rfl⟩
  case again =>
    intro p n l s hwf hempty hended hun hn
    refine ⟨_, congrArg (fun t => Host.Outcome.next (State.cfgFlow t)) (State.chainAckTmo_again hun hn), ?_⟩
    rw [(State.resting_of_empty (s := s.resent p n l) hempty hended).cfgFlow hwf]
    exact ⟨rfl, rfl⟩
  case abort =>
    intro s hwf hmode hempty hst hsrc hhdr hdone
    obtain ⟨-, hending, hq⟩ := hempty
    have hf := State.failed_fullFail (s := s) (code := 0x02B) (kind := 0) (value := 0) hwf (by omega) (by omega)
    refine ⟨_, congrArg (fun t => Host.Outcome.next (State.cfgFlow t)) (State.chainAbortRx_load hmode hq hending hst hsrc hhdr hdone), ?_⟩
    rw [hf.cfgFlow hq hending]
    exact ⟨hf.state, hf.code⟩
  case status =>
    intro code pos s hwf hmode hlo hhi
    obtain ⟨hst, hcode⟩ := bitsOf_chstWord (st := if code.toNat = 0 then 3 else 4) (by split <;> omega) code.isLt
    have hzero : code = 0 ↔ code.toNat = 0 := ⟨fun h => by rw [h]; rfl, fun h => BitVec.eq_of_toNat_eq h⟩
    refine ⟨_, congrArg Host.Outcome.next (State.chainStatusRx_lead hmode hlo hhi), ?_, ?_, fun o ho => State.reg_setReg_ne ho.symm _⟩
    · rw [State.fld_setReg_self hwf, hst]
      simp only [hzero]
    · rw [State.fld_setReg_self hwf, hcode]
  case port =>
    intro s hwf hwaits hdown _ _ hhi
    obtain ⟨hstopped, hfwd, hun, hreg⟩ := State.chainStop_spec hwf
    obtain ⟨hchain, hkeep⟩ := State.ChainKept.cfgFlow s.chainStop hfwd
    obtain ⟨hst, hcode⟩ := bitsOf_chstWord (st := 4) (code := 0x02A) (by omega) (by omega)
    refine ⟨_, congrArg (fun t => Host.Outcome.next (State.cfgFlow t)) (if_pos ⟨hwaits, hdown⟩), ?_⟩
    rw [hchain, State.fld, State.fld, hkeep _ (isChst_oChst hhi), hreg]
    exact ⟨hstopped, hfwd, hun, hst, hcode⟩

end

section
/-! SUPPORT. Writes of PLD_CTL (R88): a polder that runs is held, and what its border then reads. -/

namespace Sys2Proof.Machine

set_option Elab.async false

variable {s t : State} {p : Pld} {req : Req} {v : Word} {o : Nat}

/-- R13: the PLD block is the third MiB of the control region. -/
theorem locate_pld (h : o < 0x100000) : locate (oPld + o) = some ⟨.pld, 0, oPld, o⟩ := by
  have hsys : ¬0x200000 + o < 0x100000 := by omega
  have hcfg : ¬0x200000 + o < 0x200000 := by omega
  have hpld : 0x200000 + o < 0x300000 := by omega
  simp [locate, blkSpans, oPld, hsys, hcfg, hpld, Nat.div_eq_of_lt h, Nat.mod_eq_of_lt h]

/-- The PLD block has no register of 64 bits. -/
theorem isLowHalf_pld (h : o < 0x100000) : isLowHalf (oPld + o) = false := by
  have hrows : ∀ r ∈ regsPld, r.pair = false := by decide
  unfold isLowHalf
  split
  · rfl
  · next hr =>
    simp only [regAt, locate_pld h] at hr
    split at hr
    · cases hr
    · next hf =>
      cases hr
      exact hrows _ (off_le_of_findReg hf).1

/-- The row of PLD_CTL. -/
def pldCtlRow : RegDef := regN 0x40C 0x40 32 0 [fWo 1 1, fWo 0 0]

/-- PLD_CTL of a polder in the PLD block. -/
theorem oPldCtl_eq (p : Pld) : oPgeom p.val + 0xC = oPld + (0x40C + 0x40 * p.val) := by simp only [oPgeom]; omega

theorem regAt_pldCtl (p : Pld) : regAt (oPgeom p.val + 0xC) = some (⟨.pld, 0, oPld, 0x40C + 0x40 * p.val⟩, pldCtlRow, p.val) := by
  have hp := p.isLt
  have hrow : findReg regsPld (0x40C + 0x40 * p.val) = some (pldCtlRow, p.val) := by
    simp only [regsPld, regWrstat, reg1, regN, findReg]
    repeat rw [if_neg (by omega)]
    rw [if_pos (by omega)]
    exact congrArg (fun j => some (_, j)) (by omega)
  rw [oPldCtl_eq, regAt, locate_pld (by omega)]
  simp [Blk.regs, hrow]

theorem isHighHalf_pldCtl (p : Pld) : isHighHalf (oPgeom p.val + 0xC) = false := by
  have hp := p.isLt
  have hprev : oPgeom p.val + 0xC - 4 = oPld + (0x408 + 0x40 * p.val) := by simp only [oPgeom]; omega
  rw [isHighHalf, hprev, isLowHalf_pld (by omega), Bool.and_false]

/-- A write of PLD_CTL that no check rejects. -/
theorem State.cmdWrite_pldCtl (hub : s.sys.hubOn = true) (die : reservedDie req.toNat = false) (hv : pldCtlRow.check v = none)
    (hw : s.pldCtl p.val v = .ok t) : s.cmdWrite req (oPgeom p.val + 0xC) v = t := by
  have hbad : s.badPost req.toNat ⟨.pld, 0, oPld, 0x40C + 0x40 * p.val⟩ = none := by simp [State.badPost]
  have hans : Stated.Answers s req (oPgeom p.val + 0xC) ⟨.pld, 0, oPld, 0x40C + 0x40 * p.val⟩ pldCtlRow :=
    ⟨hub, die, locate_of_regAt (regAt_pldCtl p), rfl, rfl, hbad, by rw [regAt_pldCtl]; rfl⟩
  have hset : s.setRegister req.toNat 0 ⟨.pld, 0, oPld, 0x40C + 0x40 * p.val⟩ v = .ok t := by
    have hoff : 0x400 ≤ 0x40C + 0x40 * p.val ∧ (0x40C + 0x40 * p.val) % 0x40 = 0x0C := by omega
    have hidx : (0x40C + 0x40 * p.val - 0x400) / 0x40 = p.val := by omega
    rw [State.setRegister, if_neg (by dsimp only; omega)]
    dsimp only
    rw [State.pldRegWrite, if_pos hoff, hidx, hw]
  exact (State.cmdWrite_word ⟨hans, rfl, isHighHalf_pldCtl p⟩ hv).1 t hset

/-- R88: HOLD of a polder that runs. -/
theorem State.exec_hold_running (hub : s.sys.hubOn = true) (die : reservedDie req.toNat = false) (hrun : s.pstate p.val = 6) :
    exec (.hold req p 2) s = .next (s.pldHold p.val) :=
  congrArg Host.Outcome.next (State.cmdWrite_pldCtl hub die rfl (by simp [State.pldCtl, hrun, bitsOf]))

/-- The border of a held polder reads back where the table of borders stands in its canonical form. -/
theorem State.border_pldHold (hcanon : SMap.wf (fun _ => ({} : Border)) s.pld.border = true) (p : Nat) :
    (s.pldHold p).border p = { s.border p with out := false, released := false } := SMap.get_set_self hcanon

/-- The hub is ON and polder 0 runs; the table of borders lists its border twice, with outward sluices that pass. -/
def State.borderTwice : State :=
  { State.reset.setReg (oPldStat 0) 6 with
    sys := { State.reset.sys with hubOn := true }, pld := { border := [(0, { out := true }), (0, { out := true })] } }

theorem State.regsWf_borderTwice : State.regsWf State.borderTwice = true := by decide +kernel

theorem State.borderTwice_runs : State.borderTwice.pstate (0 : Pld).val = 6 := by decide +kernel

/-- A cleared border is not listed: holding removes the first entry, and the second one is read. -/
theorem State.out_hold_borderTwice : ((State.borderTwice.pldHold (0 : Pld).val).border (0 : Pld).val).out = true := by decide +kernel

end Sys2Proof.Machine
end

section
open Sys2Proof Sys2Proof.Machine

/-- Refutes O29: the clause of HOLD (R88) lacks the premise that the table of borders is canonical. Where the table lists the border of a polder twice,
the write of a cleared border removes the first entry and the second one is read. With the premise, `State.border_pldHold` gives what the clause says. -/
theorem not_polderEventsComplete : ¬ Obligations.PolderEventsComplete := by
  intro h
  obtain ⟨-, -, -, -, hold, -⟩ := h
  have hub : State.borderTwice.sys.hubOn = true := rfl
  have die : reservedDie (BitVec.ofNat 16 reqMgmt).toNat = false := by decide
  have hheld := State.exec_hold_running (p := 0) hub die State.borderTwice_runs
  obtain ⟨t, hexec, -, hborder, -⟩ := hold (BitVec.ofNat 16 reqMgmt) 0 State.borderTwice State.regsWf_borderTwice hub die State.borderTwice_runs
  obtain rfl : State.borderTwice.pldHold (0 : Pld).val = t := Host.Outcome.next.inj (hheld.symm.trans hexec)
  exact Bool.noConfusion (State.out_hold_borderTwice.symm.trans (congrArg Border.out hborder))

end

section
/-! SUPPORT. The register banks of an engine (R98, R99): a register read after a write, the canonical form, and the part of a bank that the
instructions of its task see, apart from its counts, hazards and waits. -/

open Sys2Proof.Stated

namespace Sys2Proof.Machine

set_option Elab.async false

variable {b c : EBank}

/-! ## The part that instructions see -/

/-- The bank without its counts, hazards and waits. -/
def EBank.arch (b : EBank) : EBank :=
  { s := b.s, v := b.v, a := b.a, p := b.p, pc := b.pc, flags := b.flags, loops := b.loops, arg := b.arg, tid := b.tid, flow := b.flow,
    copy := b.copy, busy := b.busy, gen := b.gen, cause := b.cause }

theorem EBank.arch_getS (b : EBank) (i : Nat) : b.arch.getS i = b.getS i := rfl
theorem EBank.arch_getV (b : EBank) (i : Nat) : b.arch.getV i = b.getV i := rfl
theorem EBank.arch_getA (b : EBank) (i : Nat) : b.arch.getA i = b.getA i := rfl
theorem EBank.arch_getP (b : EBank) (i : Nat) : b.arch.getP i = b.getP i := rfl
theorem EBank.arch_setS (b : EBank) (i : Nat) (x : Word) : (b.setS i x).arch = b.arch.setS i x := rfl
theorem EBank.arch_setV (b : EBank) (i : Nat) (x : Quad) : (b.setV i x).arch = b.arch.setV i x := rfl
theorem EBank.arch_setA (b : EBank) (i : Nat) (x : Acc256) : (b.setA i x).arch = b.arch.setA i x := rfl

theorem EBank.arch_setP (b : EBank) (i : Nat) (x : Byte) : (b.setP i x).arch = b.arch.setP i x := by
  unfold EBank.setP
  split <;> rfl

theorem EBank.arch_toIssue (b : EBank) (u : Bundle) (k : Option Nat) : (b.toIssue u k).arch = b.arch := rfl

theorem EBank.arch_afterIssue (b : EBank) (u : Bundle) (con von lon part taken : Bool) (k : Option Nat) :
    (b.afterIssue u con von lon part taken k).arch = b.arch := rfl

/-- Every vector instruction computes from what it sees. -/
theorem vecOp_arch {opc : Nat} {f : VForm} (h : vecOp opc = some f) (b : EBank) (x : VArgs) : f.f b.arch x = f.f b x := by
  unfold vecOp at h
  split at h <;> cases h <;> rfl

theorem VDst.apply_arch (pm : Nat) (b : EBank) (d : VDst) : d.apply pm b.arch = ((d.apply pm b).1.arch, (d.apply pm b).2) := by
  cases d with
  | v16 r l => rfl
  | v32 r l => rfl
  | acc r l => rfl
  | vw r x g => simp only [VDst.apply]; split <;> rfl
  | p r x g => simp only [VDst.apply]; split <;> simp only [EBank.arch_setP]
  | s r x => simp only [VDst.apply]; split <;> rfl

theorem applyDsts_arch (pm : Nat) (b : EBank) (l : List VDst) : applyDsts pm b.arch l = ((applyDsts pm b l).1.arch, (applyDsts pm b l).2) := by
  induction l generalizing b with
  | nil => rfl
  | cons d l ih => simp only [applyDsts, VDst.apply_arch, ih]

theorem vecRun_arch (u : Bundle) (b : EBank) : vecRun u b.arch = ((vecRun u b).1.arch, (vecRun u b).2) := by
  have hon : vecOn u b.arch = vecOn u b := rfl
  have hpm : predMask u.v.q b.arch = predMask u.v.q b := rfl
  unfold vecRun
  rw [hon, hpm]
  split
  · split
    · next f hf => rw [vecOp_arch hf, applyDsts_arch]
    · rfl
  · rfl

/-! ## The canonical form -/

theorem bankWf_iff : bankWf b = true ↔ SMap.wf (fun _ => (0 : Word)) b.s = true ∧ SMap.wf (fun _ => (0 : Quad)) b.v = true ∧
    SMap.wf (fun _ => (0 : Acc256)) b.a = true ∧ SMap.wf (fun _ => (0 : Byte)) b.p = true := by
  simp only [bankWf, Bool.and_eq_true, and_assoc]

theorem bankWf_setS (h : bankWf b = true) (i : Nat) (x : Word) : bankWf (b.setS i x) = true := by
  obtain ⟨hs, hv, ha, hp⟩ := bankWf_iff.mp h
  exact bankWf_iff.mpr ⟨SMap.wf_set hs, hv, ha, hp⟩

theorem bankWf_setV (h : bankWf b = true) (i : Nat) (x : Quad) : bankWf (b.setV i x) = true := by
  obtain ⟨hs, hv, ha, hp⟩ := bankWf_iff.mp h
  exact bankWf_iff.mpr ⟨hs, SMap.wf_set hv, ha, hp⟩

theorem bankWf_setA (h : bankWf b = true) (i : Nat) (x : Acc256) : bankWf (b.setA i x) = true := by
  obtain ⟨hs, hv, ha, hp⟩ := bankWf_iff.mp h
  exact bankWf_iff.mpr ⟨hs, hv, SMap.wf_set ha, hp⟩

theorem bankWf_setP (h : bankWf b = true) (i : Nat) (x : Byte) : bankWf (b.setP i x) = true := by
  obtain ⟨hs, hv, ha, hp⟩ := bankWf_iff.mp h
  unfold EBank.setP
  split
  · exact h
  · exact bankWf_iff.mpr ⟨hs, hv, ha, SMap.wf_set hp⟩

theorem VDst.bankWf_apply (h : bankWf b = true) (pm : Nat) (d : VDst) : bankWf (d.apply pm b).1 = true := by
  cases d with
  | v16 r l => exact bankWf_setV h ..
  | v32 r l => exact bankWf_setV h ..
  | acc r l => exact bankWf_setA h ..
  | vw r x g => simp only [VDst.apply]; split; exacts [bankWf_setV h .., h]
  | p r x g => simp only [VDst.apply]; split; exacts [bankWf_setP h .., h]
  | s r x => simp only [VDst.apply]; split; exacts [bankWf_setS h .., h]

theorem bankWf_applyDsts (h : bankWf b = true) (pm : Nat) (l : List VDst) : bankWf (applyDsts pm b l).1 = true := by
  induction l generalizing b with
  | nil => exact h
  | cons d l ih => exact ih (VDst.bankWf_apply h pm d)

theorem bankWf_vecRun (h : bankWf b = true) (u : Bundle) : bankWf (vecRun u b).1 = true := by
  unfold vecRun
  split
  · split
    · exact bankWf_applyDsts h ..
    · exact h
  · exact h

/-! ## What the vector slot leaves alone -/

theorem EBank.setP_frame (b : EBank) (i : Nat) (x : Byte) : ∃ m, b.setP i x = { b with p := m } := by
  unfold EBank.setP
  split
  · exact ⟨b.p, rfl⟩
  · exact ⟨_, rfl⟩

/-- Two banks that differ in their registers alone. -/
def EBank.SameButRegs (b c : EBank) : Prop := ∃ s v a p, c = { b with s := s, v := v, a := a, p := p }

theorem EBank.SameButRegs.refl (b : EBank) : b.SameButRegs b := ⟨b.s, b.v, b.a, b.p, rfl⟩

theorem EBank.SameButRegs.trans {d : EBank} (h : b.SameButRegs c) (k : c.SameButRegs d) : b.SameButRegs d := by
  obtain ⟨_, _, _, _, rfl⟩ := h
  obtain ⟨s, v, a, p, rfl⟩ := k
  exact ⟨s, v, a, p, rfl⟩

theorem EBank.sameButRegs_setP (b : EBank) (i : Nat) (x : Byte) : b.SameButRegs (b.setP i x) := by
  obtain ⟨p, h⟩ := b.setP_frame i x
  exact ⟨b.s, b.v, b.a, p, h⟩

theorem VDst.sameButRegs_apply (pm : Nat) (b : EBank) (d : VDst) : b.SameButRegs (d.apply pm b).1 := by
  cases d with
  | v16 r l => exact ⟨_, _, _, _, rfl⟩
  | v32 r l => exact ⟨_, _, _, _, rfl⟩
  | acc r l => exact ⟨_, _, _, _, rfl⟩
  | vw r x g => simp only [VDst.apply]; split; exacts [⟨_, _, _, _, rfl⟩, .refl b]
  | p r x g => simp only [VDst.apply]; split; exacts [b.sameButRegs_setP r x, .refl b]
  | s r x => simp only [VDst.apply]; split; exacts [⟨_, _, _, _, rfl⟩, .refl b]

theorem sameButRegs_applyDsts (pm : Nat) (b : EBank) (l : List VDst) : b.SameButRegs (applyDsts pm b l).1 := by
  induction l generalizing b with
  | nil => exact .refl b
  | cons d l ih => exact (VDst.sameButRegs_apply pm b d).trans (ih _)

theorem sameButRegs_vecRun (u : Bundle) (b : EBank) : b.SameButRegs (vecRun u b).1 := by
  unfold vecRun
  split
  · split
    · exact sameButRegs_applyDsts ..
    · exact .refl b
  · exact .refl b

/-! ## A read after a write -/

theorem EBank.getS_setS (h : bankWf b = true) (i : Nat) (x : Word) : (b.setS i x).getS = upd b.getS i x := by
  funext j
  unfold upd
  split
  · next he => rw [he]; exact SMap.get_set_self (bankWf_iff.mp h).1
  · next hne => exact SMap.get_set_ne (Ne.symm hne)

theorem EBank.getV_setV (h : bankWf b = true) (i : Nat) (x : Quad) : (b.setV i x).getV = upd b.getV i x := by
  funext j
  unfold upd
  split
  · next he => rw [he]; exact SMap.get_set_self (bankWf_iff.mp h).2.1
  · next hne => exact SMap.get_set_ne (Ne.symm hne)

/-- P0 is not written. -/
theorem EBank.getP_setP (h : bankWf b = true) {i : Nat} (hi : i ≠ 0) (x : Byte) : (b.setP i x).getP = upd b.getP i x := by
  obtain ⟨-, -, -, hp⟩ := bankWf_iff.mp h
  funext j
  simp only [EBank.setP, EBank.getP, if_neg hi, upd]
  by_cases hj : j = i
  · rw [hj, if_neg hi, if_pos rfl]
    exact SMap.get_set_self hp
  · rw [if_neg hj, SMap.get_set_ne (Ne.symm hj)]

/-! ## What a bundle writes -/

/-- S registers written in turn. -/
def EBank.setSs (b : EBank) (l : List (Nat × Word)) : EBank := l.foldl (fun b w => b.setS w.1 w.2) b
/-- V registers written in turn. -/
def EBank.setVs (b : EBank) (l : List (Nat × Quad)) : EBank := l.foldl (fun b w => b.setV w.1 w.2) b
/-- Predicate registers written in turn. -/
def EBank.setPs (b : EBank) (l : List (Nat × Byte)) : EBank := l.foldl (fun b w => b.setP w.1 w.2) b

/-- The registers that a function gives, changed at each place of a list in turn. -/
def updAll {α : Type} (f : Nat → α) (l : List (Nat × α)) : Nat → α := l.foldl (fun f w => upd f w.1 w.2) f

theorem EBank.setSs_frame (b : EBank) (l : List (Nat × Word)) : ∃ m, b.setSs l = { b with s := m } := by
  induction l generalizing b with
  | nil => exact ⟨b.s, rfl⟩
  | cons w l ih => exact ih (b.setS w.1 w.2)

theorem EBank.setVs_frame (b : EBank) (l : List (Nat × Quad)) : ∃ m, b.setVs l = { b with v := m } := by
  induction l generalizing b with
  | nil => exact ⟨b.v, rfl⟩
  | cons w l ih => exact ih (b.setV w.1 w.2)

theorem EBank.setPs_frame (b : EBank) (l : List (Nat × Byte)) : ∃ m, b.setPs l = { b with p := m } := by
  induction l generalizing b with
  | nil => exact ⟨b.p, rfl⟩
  | cons w l ih =>
    obtain ⟨m, hm⟩ := b.setP_frame w.1 w.2
    obtain ⟨n, hn⟩ := ih (b.setP w.1 w.2)
    rw [hm] at hn
    exact ⟨n, by rw [EBank.setPs, List.foldl_cons, ← EBank.setPs, hm, hn]⟩

theorem EBank.arch_setSs (b : EBank) (l : List (Nat × Word)) : (b.setSs l).arch = b.arch.setSs l := by
  induction l generalizing b with
  | nil => rfl
  | cons w l ih => exact ih (b.setS w.1 w.2)

theorem EBank.arch_setVs (b : EBank) (l : List (Nat × Quad)) : (b.setVs l).arch = b.arch.setVs l := by
  induction l generalizing b with
  | nil => rfl
  | cons w l ih => exact ih (b.setV w.1 w.2)

theorem EBank.arch_setPs (b : EBank) (l : List (Nat × Byte)) : (b.setPs l).arch = b.arch.setPs l := by
  induction l generalizing b with
  | nil => rfl
  | cons w l ih => exact (ih (b.setP w.1 w.2)).trans (by rw [EBank.arch_setP]; rfl)

theorem EBank.getS_setSs (h : bankWf b = true) (l : List (Nat × Word)) : (b.setSs l).getS = updAll b.getS l := by
  induction l generalizing b with
  | nil => rfl
  | cons w l ih => exact (ih (bankWf_setS h ..)).trans (by rw [EBank.getS_setS h]; rfl)

theorem EBank.getV_setVs (h : bankWf b = true) (l : List (Nat × Quad)) : (b.setVs l).getV = updAll b.getV l := by
  induction l generalizing b with
  | nil => rfl
  | cons w l ih => exact (ih (bankWf_setV h ..)).trans (by rw [EBank.getV_setV h]; rfl)

theorem EBank.getP_setPs (h : bankWf b = true) {l : List (Nat × Byte)} (hl : ∀ w ∈ l, w.1 ≠ 0) : (b.setPs l).getP = updAll b.getP l := by
  induction l generalizing b with
  | nil => rfl
  | cons w l ih =>
    obtain ⟨hw, hrest⟩ := List.forall_mem_cons.mp hl
    exact (ih (bankWf_setP h ..) hrest).trans (by rw [EBank.getP_setP h hw]; rfl)

theorem bankWf_setSs (h : bankWf b = true) (l : List (Nat × Word)) : bankWf (b.setSs l) = true := by
  induction l generalizing b with
  | nil => exact h
  | cons w l ih => exact ih (bankWf_setS h ..)

theorem bankWf_setPs (h : bankWf b = true) (l : List (Nat × Byte)) : bankWf (b.setPs l) = true := by
  induction l generalizing b with
  | nil => exact h
  | cons w l ih => exact ih (bankWf_setP h ..)

/-- The bank after the register writes of a control and of a load-store slot (R113). -/
def EBank.puts (b : EBank) (co : CtlOut) (lo : LsOut) : EBank := ((b.setSs (co.s ++ lo.s)).setPs (co.p ++ lo.p)).setVs lo.v

/-- The same, with the flags that the control slot writes and the vector slot sets. -/
def EBank.written (b : EBank) (co : CtlOut) (lo : LsOut) (g : FlagSet) : EBank :=
  { b.puts co lo with flags := co.flags.getD (b.puts co lo).flags ||| BitVec.ofNat 32 g }

theorem EBank.puts_frame (b : EBank) (co : CtlOut) (lo : LsOut) : ∃ s p v, b.puts co lo = { b with s := s, p := p, v := v } := by
  obtain ⟨s, hs⟩ := b.setSs_frame (co.s ++ lo.s)
  obtain ⟨p, hp⟩ := (b.setSs (co.s ++ lo.s)).setPs_frame (co.p ++ lo.p)
  obtain ⟨v, hv⟩ := ((b.setSs (co.s ++ lo.s)).setPs (co.p ++ lo.p)).setVs_frame lo.v
  exact ⟨s, p, v, by rw [EBank.puts, hv, hp, hs]⟩

theorem EBank.written_frame (b : EBank) (co : CtlOut) (lo : LsOut) (g : FlagSet) :
    ∃ s p v f, b.written co lo g = { b with s := s, p := p, v := v, flags := f } := by
  obtain ⟨s, p, v, h⟩ := b.puts_frame co lo
  exact ⟨s, p, v, _, by rw [EBank.written, h]⟩

theorem EBank.arch_written (b : EBank) (co : CtlOut) (lo : LsOut) (g : FlagSet) : (b.written co lo g).arch = b.arch.written co lo g := by
  have h : (b.puts co lo).arch = b.arch.puts co lo := by
    rw [EBank.puts, EBank.arch_setVs, EBank.arch_setPs, EBank.arch_setSs, EBank.puts]
  exact congrArg (fun c : EBank => { c with flags := co.flags.getD c.flags ||| BitVec.ofNat 32 g }) h

/-- The registers after the writes of a bundle. -/
theorem EBank.regsAre_written (h : bankWf b = true) {co : CtlOut} {lo : LsOut} {g : FlagSet} (hp : ∀ w ∈ co.p ++ lo.p, w.1 ≠ 0) :
    RegsAre (b.written co lo g) (updAll b.getS (co.s ++ lo.s)) (updAll b.getV lo.v) b.getA (updAll b.getP (co.p ++ lo.p))
      (co.flags.getD b.flags ||| BitVec.ofNat 32 g) := by
  have h1 := bankWf_setSs h (co.s ++ lo.s)
  have h2 := bankWf_setPs h1 (co.p ++ lo.p)
  obtain ⟨s, hs⟩ := b.setSs_frame (co.s ++ lo.s)
  obtain ⟨p, hp'⟩ := (b.setSs (co.s ++ lo.s)).setPs_frame (co.p ++ lo.p)
  obtain ⟨v, hv⟩ := ((b.setSs (co.s ++ lo.s)).setPs (co.p ++ lo.p)).setVs_frame lo.v
  have hS : (b.puts co lo).getS = (b.setSs (co.s ++ lo.s)).getS := by rw [EBank.puts, hv, hp']; rfl
  have hV : ((b.setSs (co.s ++ lo.s)).setPs (co.p ++ lo.p)).getV = b.getV := by rw [hp', hs]; rfl
  have hA : (b.puts co lo).getA = b.getA := by rw [EBank.puts, hv, hp', hs]; rfl
  have hP : (b.puts co lo).getP = ((b.setSs (co.s ++ lo.s)).setPs (co.p ++ lo.p)).getP := by rw [EBank.puts, hv]; rfl
  have hP0 : (b.setSs (co.s ++ lo.s)).getP = b.getP := by rw [hs]; rfl
  have hF : (b.puts co lo).flags = b.flags := by rw [EBank.puts, hv, hp', hs]
  refine ⟨fun i => congrFun (hS.trans (EBank.getS_setSs h _)) i, fun i => ?_, fun i => congrFun hA i, fun i => ?_, ?_⟩
  · exact congrFun ((EBank.getV_setVs h2 lo.v).trans (by rw [hV])) i
  · exact congrFun (hP.trans ((EBank.getP_setPs h1 hp).trans (by rw [hP0]))) i
  · exact congrArg (fun f => co.flags.getD f ||| BitVec.ofNat 32 g) hF

end Sys2Proof.Machine
end

section
/-! SUPPORT. What a bundle does (R97, R113): its register writes in one bank, then the memory, the request and the post, then what ends. -/

open Sys2Proof.Stated

namespace Sys2Proof.Machine

set_option Elab.async false

variable {s : State} {e : Nat}

/-- The engine and the machine after the memory, request and post of a bundle of a task that is no paired copy; `c` is its bank then. -/
def State.effect (s : State) (e : Nat) (co : CtlOut) (lo : LsOut) (c : EBank) : State :=
  let x := s.engSt e
  let y := (x.lsLocal e lo.act).1
  let s1 := s.setEng e ({ y with resv := if co.act == EngAct.done then none else y.resv }.setCur c)
  let s2 := s1.engCorrectAll e false (lo.fixes ++ (x.lsLocal e lo.act).2)
  let s3 := s2.lsRemoteAct e x.active x.cur lo.act
  match co.act with | .evpost k f => s3.postEvent k f | _ => s3

/-- R97, R125, R406, R410: what follows the effect of a bundle that raises no trap: the wait of a DONE, the halt of a BRK, the halt after a step. -/
def State.bundleEnd (s : State) (e : Nat) (x : EngSt) (a : EngAct) : State :=
  if a == .done then
    let c := (s.engSt e).cur
    let (t, d) := if s.ownOut e x.active x.cur.gen = [] then (s, c) else s.waitFree c
    t.setEng e ((t.engSt e).setCur { d with wait := .done })
  else if a = .brk then s.haltEngine e 2
  else if x.stepping then s.setEng e { s.engSt e with stepping := false, haltDue := 4 }
  else s

theorem EngSt.setGran_setCur (x : EngSt) (b : EBank) (im : Bool) (k : Nat) (g : Gran) :
    (x.setCur b).setGran im k g = (x.setGran im k g).setCur b := by
  cases h : x.active <;> cases im <;> simp only [EngSt.setCur, EngSt.setBank, EngSt.setGran, h, if_true, if_false, Bool.false_eq_true]

theorem EngSt.readGran_setCur (x : EngSt) (b : EBank) (e : Nat) (im : Bool) (k : Nat) : (x.setCur b).readGran e im k = x.readGran e im k := by
  cases h : x.active <;> cases im <;> simp only [EngSt.setCur, EngSt.setBank, EngSt.readGran, EngSt.gran, EngSt.mem, h, if_true, if_false, Bool.false_eq_true]

theorem EngSt.writeGran_setCur (x : EngSt) (b : EBank) (e k : Nat) (v : DWord) (be : Nat) (p : Bool) :
    (x.setCur b).writeGran e k v be p = ((x.writeGran e k v be p).1.setCur b, (x.writeGran e k v be p).2) := by
  simp only [EngSt.writeGran, EngSt.readGran_setCur, EngSt.setGran_setCur]
  split
  · rfl
  · split
    · rfl
    · split <;> rfl

theorem EngSt.resv_setCur (x : EngSt) (b : EBank) : (x.setCur b).resv = x.resv := by
  cases h : x.active <;> simp only [EngSt.setCur, EngSt.setBank, h, if_true, if_false, Bool.false_eq_true]

/-- The local side of a load-store slot does not touch the banks. -/
theorem EngSt.lsLocal_setCur (x : EngSt) (b : EBank) (e : Nat) (a : LsAct) :
    (x.setCur b).lsLocal e a = ((x.lsLocal e a).1.setCur b, (x.lsLocal e a).2) := by
  have hresv (y : EngSt) (r : Option Nat) : { y.setCur b with resv := r } = ({ y with resv := r } : EngSt).setCur b := by
    cases h : y.active <;> simp only [EngSt.setCur, EngSt.setBank, h, if_true, if_false, Bool.false_eq_true]
  unfold EngSt.lsLocal
  simp only [EngSt.writeWord, EngSt.setGran_setCur, EngSt.writeGran_setCur]
  cases a with
  | store ea size d => dsimp only; split <;> rfl
  | reserve ea => exact congrArg (·, []) (hresv x _)
  | condStore o =>
    cases o with
    | none => exact congrArg (·, []) (hresv x _)
    | some st => exact congrArg (·, _) (hresv _ _)
  | _ => rfl

theorem EngSt.setCur_resv_setCur (x : EngSt) (b c : EBank) (r : Bool) :
    ({ x.setCur b with resv := if r then none else (x.setCur b).resv } : EngSt).setCur c = { x with resv := if r then none else x.resv }.setCur c := by
  cases h : x.active <;> simp only [EngSt.setCur, EngSt.setBank, h, if_true, if_false, Bool.false_eq_true]

/-- A bundle of a task that is no paired copy, without a flag trap and without a special register to read: the bank moves on, its effect follows, and
then what ends. -/
theorem State.runBundle_eq {u : Bundle} {co : CtlOut} {lo : LsOut} (hcopy : (s.engSt e).cur.copy = 0)
    (hflag : (vecRun u (s.engSt e).cur).2 &&& bitsOf (s.engSt e).cur.flags 11 8 = 0) (hpc : (nextPc (s.engSt e).cur co.act).1 ≤ 4095)
    (hmf : ∀ rd i, co.act ≠ .mfsr rd i) :
    ∃ s0 c, (∃ n, s0 = { s with freeCtr := n }) ∧ c.arch = { ((vecRun u (s.engSt e).cur).1.written co lo (vecRun u (s.engSt e).cur).2).arch with
        pc := (nextPc (s.engSt e).cur co.act).1, loops := (nextPc (s.engSt e).cur co.act).2 } ∧
      s.runBundle e u co lo = (s0.effect e co lo c).bundleEnd e (s.engSt e) co.act := by
  cases hact : co.act with
  | mfsr rd i => exact absurd hact (hmf rd i)
  | _ =>
    unfold State.runBundle
    extract_lets r x0 b00 bk posts keys waits taken isDone
    obtain ⟨s0, b0, hwait, hs0, hb0⟩ : ∃ s0 b0, (if waits then s.waitFree b00 else (s, b00)) = (s0, b0) ∧ (∃ n, s0 = { s with freeCtr := n }) ∧
        b0.arch = b00.arch := by
      split
      · exact ⟨_, _, rfl, ⟨_, rfl⟩, rfl⟩
      · exact ⟨s, b00, rfl, ⟨s.freeCtr, rfl⟩, rfl⟩
    have hcopy' : b00.copy = 0 := hcopy
    rw [hwait]
    simp -zeta only [hact, hcopy', if_true, List.append_nil, EngSt.lsLocal_setCur]
    extract_lets b1 b1' b2 b3 b4 b5 b6 ft b7 s1 s2 s3 s4 c s7 s6
    have hb1 : b1'.arch = b00.arch := hb0
    have hrun : ((vecRun u b1').1.arch, (vecRun u b1').2) = ((vecRun u b00).1.arch, (vecRun u b00).2) := by
      rw [← vecRun_arch, ← vecRun_arch, hb1]
    obtain ⟨hbv, hg⟩ := Prod.mk.inj hrun
    have hft : ft = false := decide_eq_false (not_not_intro (hg ▸ hflag))
    have hnext (a : EngAct) : nextPc b1' a = nextPc b00 a := by
      have harch (b : EBank) : nextPc b a = nextPc b.arch a := rfl
      rw [harch, hb1, ← harch]
    refine ⟨s0, b7, hs0, ?bank, ?state⟩
    case bank =>
      have hpc7 : b7.pc = (nextPc b00 co.act).1 := by
        have hlt : ¬4095 < (nextPc b00 co.act).1 := Nat.not_lt.mpr hpc
        have hmod : (nextPc b00 co.act).1 % 4096 = (nextPc b00 co.act).1 := Nat.mod_eq_of_lt (Nat.lt_succ_of_le hpc)
        rw [hact] at hlt hmod ⊢
        simp only [b7, hft, hnext, hmod, if_neg hlt, Bool.false_eq_true, if_false, ite_self]
      have hloops : b7.loops = (nextPc b00 co.act).2 := by
        rw [hact, ← hnext]
      calc b7.arch = { ((vecRun u b1').1.written co lo (vecRun u b1').2).arch with pc := b7.pc, loops := b7.loops } := rfl
        _ = _ := by rw [EBank.arch_written, hbv, hg, ← EBank.arch_written, hpc7, hloops, hact]
    case state =>
      have hs1 : s1 = s0.setEng e ({ (x0.lsLocal e lo.act).1 with resv := if isDone then none else (x0.lsLocal e lo.act).1.resv }.setCur b7) :=
        congrArg (s0.setEng e) (EngSt.setCur_resv_setCur ..)
      have hd : isDone = (co.act == .done) := rfl
      rw [hact] at hd
      rw [hd] at hs1
      have hx0 : s0.engSt e = x0 := by
        obtain ⟨n, rfl⟩ := hs0
        rfl
      have heff : s0.effect e co lo b7 = s4 := by
        unfold State.effect
        simp only [hx0, hact, ← hs1]
        rfl
      have hlt : ¬4095 < (nextPc b1' co.act).1 := by rw [hnext]; exact Nat.not_lt.mpr hpc
      rw [hact] at hlt
      rw [heff, hd, hft]
      clear_value s4
      unfold State.bundleEnd
      split
      · simp only [s7, c, hft, Bool.false_eq_true, if_false]
        change _ = (if s4.ownOut e x0.active b00.gen = [] then (s4, (s4.engSt e).cur) else s4.waitFree (s4.engSt e).cur).1.setEng e _
        generalize (if s4.ownOut e x0.active b00.gen = [] then (s4, (s4.engSt e).cur) else s4.waitFree (s4.engSt e).cur) = p
        rfl
      · rw [if_neg Bool.false_ne_true]
        simp only [s6, Bool.false_eq_true, if_false, if_true] <;> rfl

end Sys2Proof.Machine
end

section
/-! SUPPORT. A bundle without a cause (R113, R127): from the command to the bundle, and what a bundle leaves that accesses no memory. -/

open Sys2Proof.Stated

namespace Sys2Proof.Machine

set_option Elab.async false

variable {s s0 t : State} {e : Eng} {u : Bundle} {env : LsEnv} {hen : Bool}

/-! ## A bundle without a cause -/

/-- A bundle without a cause is legal in all its slots, and no slot raises a trap. -/
theorem Bundle.of_causes_nil (h : u.causes env hen = []) :
    ctlBad u.c = false ∧ vecBad u.v = false ∧ lsBad u.l = false ∧ ctlCauses env.x env.e env.stale hen (ctlRun u env.b) = [] ∧
      (lsRun env u).causes = [] := by
  simp only [Bundle.causes, List.append_eq_nil_iff, ite_eq_left_iff, List.cons_ne_nil, imp_false, not_not] at h
  obtain ⟨⟨⟨hbad, -⟩, hctl⟩, hls⟩ := h
  have hslots := hbad
  simp only [Bundle.badSlots, List.append_eq_nil_iff, ite_eq_right_iff, List.cons_ne_nil, imp_false, Bool.or_eq_true, not_or,
    Bool.not_eq_true] at hslots
  obtain ⟨⟨⟨hc, -⟩, hv, -⟩, hl, -⟩ := hslots
  simp only [hbad, List.contains_nil, Bool.false_eq_true, not_false_eq_true, forall_const, List.map_eq_nil_iff] at hctl hls
  exact ⟨hc, hv, hl, hctl, hls⟩

theorem CtlForm.legal_of_not_bad {c : CtlSlot} {f : CtlForm} {n : Nat} {g : EBank → CArgs → CtlOut} (h : ctlBad c = false)
    (hop : ctlOp c.opc = some (f, n, g)) : f.legal c.x = true := by
  simpa [ctlBad, hop] using h

theorem VForm.legal_of_not_bad {v : VecSlot} {f : VForm} (h : vecBad v = false) (hop : vecOp v.opc = some f) : f.legal v.opc v.x = true := by
  simpa [vecBad, hop] using h

theorem LsForm.legal_of_not_bad {l : LsSlot} {f : LsForm} (h : lsBad l = false) (hop : lsOp l.opc = some f) : f.legal l.opc l.x = true := by
  simpa [lsBad, hop] using h

/-! ## From the command to the bundle -/

theorem hitCtl_self (opc : Nat) (q : Pred) (x : CArgs) : hitCtl opc q x (ctlBundle q opc x) = true := by simp [hitCtl]
theorem hitVec_self (opc : Nat) (q : Pred) (x : VArgs) : hitVec opc q x (vecBundle q opc x) = true := by simp [hitVec]
theorem hitLs_self (opc : Nat) (q : Pred) (x : LArgs) : hitLs opc q x (lsBundle q opc x) = true := by simp [hitLs]

/-- A bundle is fetched for the task of a busy bank. -/
theorem busy_of_fetches (h : Fetches s e u) : (bank s e).busy = true := by
  obtain ⟨-, -, hmay, -⟩ := h
  simp only [State.mayIssue, Bool.and_eq_true] at hmay
  obtain ⟨⟨⟨⟨⟨-, hbusy⟩, -⟩, -⟩, -⟩, -⟩ := hmay
  exact hbusy

theorem bankWf_of_fetches (h : Fetches s e u) : bankWf (bank s e) = true := by
  obtain ⟨-, -, -, hwf, -⟩ := h
  exact hwf

theorem copy_of_issues (h : Issues s e u) : (bank s e).copy = 0 := by
  obtain ⟨-, -, hcopy, -⟩ := h
  exact hcopy

/-- What the load-store slot of the bundle does, seen from the state. -/
abbrev lsOut (s : State) (e : Eng) (u : Bundle) : LsOut := lsRun (lsEnv s e) u

/-- What the control slot of the bundle does. -/
abbrev ctlOut (s : State) (e : Eng) (u : Bundle) : CtlOut := ctlRun u (bank s e)

/-- The fetched bundle is looked at when the command names what one of its slots holds. -/
theorem State.issue_fetched {hit : Bundle → Bool} (h : Fetches s e u) (hhit : hit u = true) : s.issue e.val hit = s.issueBundle e.val u := by
  obtain ⟨-, hheld, hmay, -, hclean, hu, -, -⟩ := h
  have hnone : (s.heldTrap e.val).isSome = false := by simpa [Option.isNone_iff_eq_none] using hheld
  have hbad : ((s.engSt e.val).readWord e.val true (s.engSt e.val).cur.pc).2.1 = false := congrArg Prod.fst hclean
  have hfx : ((s.engSt e.val).readWord e.val true (s.engSt e.val).cur.pc).2.2 = [] := congrArg Prod.snd hclean
  have hu' : bundleOf ((s.engSt e.val).readWord e.val true (s.engSt e.val).cur.pc).1 = u := hu
  simp only [State.issue, hnone, Bool.and_false, Bool.false_eq_true, if_false, hmay, if_true, hbad, hu', hhit, hfx]
  rfl

/-- A bundle without a cause that does not stall issues; an ENQ does once its descriptor has been accepted. -/
theorem State.issueBundle_run (h : Fetches s e u) (hc : causesOf s e u = [])
    (henq : (∀ a, (ctlOut s e u).act ≠ .enq a) ∨ (bank s e).wait = .enqTaken) :
    s.issueBundle e.val u = s.runBundle e.val u (ctlOut s e u) (lsOut s e u) := by
  obtain ⟨-, -, -, -, -, -, hpend, hstall⟩ := h
  have hlow : lowest (causesOf s e u) = none := by rw [hc]; rfl
  unfold State.issueBundle
  extract_lets x b keys env co lo cs
  rw [if_neg (Bool.eq_false_iff.mp hpend)]
  have hcs : lowest cs = none := hlow
  rw [hcs]
  dsimp only
  rw [if_neg (Bool.eq_false_iff.mp hstall)]
  split
  · next a ha =>
    have hw : b.wait = .enqTaken := henq.resolve_left (fun hn => hn a ha)
    rw [if_neg (fun hn => hn.2 hw)]
  · rfl

/-! ## The engine whose task runs -/

theorem EngSt.cur_setCur (x : EngSt) (b : EBank) : (x.setCur b).cur = b := by
  cases h : x.active <;> simp [EngSt.setCur, EngSt.setBank, EngSt.cur, EngSt.bank, h]

/-- An engine with a task in its active bank is listed, so it reads back whatever the table. -/
theorem State.engSt_setEng_busy {x : EngSt} (h : x.cur.busy = true) (s : State) (k : Nat) : (s.setEng k x).engSt k = x :=
  SMap.get_set_of_ne (fun he => by rw [he] at h; cases h)

theorem State.engSt_setEng_ne {k f : Nat} (h : f ≠ k) (s : State) (x : EngSt) : (s.setEng k x).engSt f = s.engSt f := SMap.get_set_ne h.symm

/-- R410: the halt after a step. -/
def State.stepOver (s : State) (k : Nat) (stepping : Bool) : State :=
  if stepping then s.setEng k { s.engSt k with stepping := false, haltDue := 4 } else s

/-- What the end of a bundle leaves of an engine: only a step and a halt that is due change. -/
def EngSt.SameTask (x y : EngSt) : Prop := ∃ p q, y = { x with stepping := p, haltDue := q }

theorem EngSt.SameTask.refl (x : EngSt) : x.SameTask x := ⟨x.stepping, x.haltDue, rfl⟩

theorem EngSt.SameTask.cur {x y : EngSt} (h : x.SameTask y) : y.cur = x.cur := by
  obtain ⟨p, q, rfl⟩ := h
  rfl

/-- The machine after a step that touches one engine alone. -/
structure State.Only (s t : State) (k : Nat) : Prop where
  frame : { t with eng := s.eng, freeCtr := s.freeCtr } = s
  others : ∀ f, f ≠ k → t.engSt f = s.engSt f

theorem State.only_draw (s : State) (n k : Nat) : State.Only s { s with freeCtr := n } k := ⟨rfl, fun _ _ => rfl⟩

theorem State.Only.setEng {k : Nat} (h : State.Only s t k) (x : EngSt) : State.Only s (t.setEng k x) k :=
  ⟨h.frame, fun f hf => (State.engSt_setEng_ne hf t x).trans (h.others f hf)⟩

theorem State.Only.stepOver {k : Nat} (h : State.Only s t k) (b : Bool) : State.Only s (t.stepOver k b) k := by
  unfold State.stepOver
  split
  · exact h.setEng _
  · exact h

theorem State.sameTask_stepOver {k : Nat} (h : (t.engSt k).cur.busy = true) (b : Bool) : (t.engSt k).SameTask ((t.stepOver k b).engSt k) := by
  unfold State.stepOver
  split
  · exact ⟨false, 4, State.engSt_setEng_busy (x := { t.engSt k with stepping := false, haltDue := 4 }) h t k⟩
  · exact .refl _

/-! ## A bundle that ends nothing -/

/-- The control slot does nothing that ends, halts, offers or posts, and reads no special register. -/
def EngAct.plain (a : EngAct) : Bool :=
  match a with
  | .done | .brk | .evpost _ _ | .mfsr _ _ => false
  | _ => true

/-- The bank of the task after a bundle. -/
def bankAfter (s : State) (e : Eng) (u : Bundle) : EBank :=
  { ((vecRun u (bank s e)).1.written (ctlOut s e u) (lsOut s e u) (vecRun u (bank s e)).2).arch with
    pc := (nextPc (bank s e) (ctlOut s e u).act).1, loops := (nextPc (bank s e) (ctlOut s e u).act).2 }

/-- A bundle of a task that is no paired copy, without a cause and without a flag trap, whose control slot ends nothing: the bank moves on, the
local memory is accessed, its corrections are made, and a request goes out. -/
theorem State.issue_plain {hit : Bundle → Bool} (h : Issues s e u) (hhit : hit u = true) (hplain : (ctlOut s e u).act.plain = true)
    (henq : (∀ a, (ctlOut s e u).act ≠ .enq a) ∨ (bank s e).wait = .enqTaken)
    (hflag : (vecRun u (bank s e)).2 &&& bitsOf (bank s e).flags 11 8 = 0) :
    ∃ (s0 : State) (c : EBank), (∃ n, s0 = { s with freeCtr := n }) ∧ c.arch = bankAfter s e u ∧
      s.issue e.val hit =
        (((s0.setEng e.val (((Stated.eng s e).lsLocal e.val (lsOut s e u).act).1.setCur c)).engCorrectAll e.val false
          ((lsOut s e u).fixes ++ ((Stated.eng s e).lsLocal e.val (lsOut s e u).act).2)).lsRemoteAct e.val (Stated.eng s e).active (bank s e)
            (lsOut s e u).act).stepOver e.val (Stated.eng s e).stepping := by
  obtain ⟨hf, hc, hcopy, hpc⟩ := h
  have hmf : ∀ rd i, (ctlOut s e u).act ≠ .mfsr rd i := fun rd i ha => by rw [ha] at hplain; cases hplain
  have hdone : (ctlOut s e u).act ≠ .done := fun ha => by rw [ha] at hplain; cases hplain
  have hbrk : (ctlOut s e u).act ≠ .brk := fun ha => by rw [ha] at hplain; cases hplain
  obtain ⟨s0, c, hs0, hcarch, hrun⟩ := State.runBundle_eq (lo := lsOut s e u) hcopy hflag hpc hmf
  refine ⟨s0, c, hs0, hcarch, ?_⟩
  rw [State.issue_fetched hf hhit, State.issueBundle_run hf hc henq, hrun]
  have heng : s0.engSt e.val = s.engSt e.val := by
    obtain ⟨n, rfl⟩ := hs0
    rfl
  have hd : ((ctlOut s e u).act == .done) = false := beq_eq_false_iff_ne.mpr hdone
  unfold State.bundleEnd State.effect
  rw [hd, if_neg Bool.false_ne_true, if_neg hbrk, heng]
  dsimp only
  cases ha : (ctlOut s e u).act with
  | evpost k f => rw [ha] at hplain; cases hplain
  | _ => rfl

/-! ## The bank after a bundle -/

theorem bankAfter_frame (s : State) (e : Eng) (u : Bundle) : (bankAfter s e u).tid = (bank s e).tid ∧ (bankAfter s e u).flow = (bank s e).flow ∧
    (bankAfter s e u).arg = (bank s e).arg ∧ (bankAfter s e u).busy = (bank s e).busy ∧ (bankAfter s e u).cause = (bank s e).cause := by
  obtain ⟨_, _, _, _, hv⟩ := sameButRegs_vecRun u (bank s e)
  obtain ⟨_, _, _, _, hw⟩ := (vecRun u (bank s e)).1.written_frame (ctlOut s e u) (lsOut s e u) (vecRun u (bank s e)).2
  unfold bankAfter
  rw [hw, hv]
  exact ⟨rfl, rfl, rfl, rfl, rfl⟩

/-- The registers after a bundle. -/
theorem regsAre_bankAfter (h : bankWf (bank s e) = true) (hp : ∀ w ∈ (ctlOut s e u).p ++ (lsOut s e u).p, w.1 ≠ 0) :
    RegsAre (bankAfter s e u) (updAll (vecRun u (bank s e)).1.getS ((ctlOut s e u).s ++ (lsOut s e u).s))
      (updAll (vecRun u (bank s e)).1.getV (lsOut s e u).v) (vecRun u (bank s e)).1.getA
      (updAll (vecRun u (bank s e)).1.getP ((ctlOut s e u).p ++ (lsOut s e u).p))
      ((ctlOut s e u).flags.getD (bank s e).flags ||| BitVec.ofNat 32 (vecRun u (bank s e)).2) := by
  have hflags : (vecRun u (bank s e)).1.flags = (bank s e).flags := by
    obtain ⟨_, _, _, _, hv⟩ := sameButRegs_vecRun u (bank s e)
    rw [hv]
  have hregs := EBank.regsAre_written (bankWf_vecRun h u) (g := (vecRun u (bank s e)).2) hp
  rw [hflags] at hregs
  exact hregs

theorem EngSt.setCur_frame (x : EngSt) (b : EBank) : (x.setCur b).dmem = x.dmem ∧ (x.setCur b).imem = x.imem ∧ (x.setCur b).resv = x.resv ∧
    (x.setCur b).active = x.active ∧ (x.setCur b).lost = x.lost := by
  cases h : x.active <;> simp [EngSt.setCur, EngSt.setBank, h]

/-- A bundle that accesses no memory and ends nothing completes. -/
theorem State.issue_registers {hit : Bundle → Bool} (h : Issues s e u) (hhit : hit u = true) (hplain : (ctlOut s e u).act.plain = true)
    (henq : (∀ a, (ctlOut s e u).act ≠ .enq a) ∨ (bank s e).wait = .enqTaken)
    (hflag : (vecRun u (bank s e)).2 &&& bitsOf (bank s e).flags 11 8 = 0) (hls : lsOut s e u = {}) (hp : ∀ w ∈ (ctlOut s e u).p, w.1 ≠ 0) :
    OnlyBank s (s.issue e.val hit) e ∧ Advances s (s.issue e.val hit) e (ctlOut s e u).act ∧
      RegsAre (bank (s.issue e.val hit) e) (updAll (vecRun u (bank s e)).1.getS (ctlOut s e u).s) (vecRun u (bank s e)).1.getV
        (vecRun u (bank s e)).1.getA (updAll (vecRun u (bank s e)).1.getP (ctlOut s e u).p)
        ((ctlOut s e u).flags.getD (bank s e).flags ||| BitVec.ofNat 32 (vecRun u (bank s e)).2) := by
  obtain ⟨s0, c, hs0, hc, hrun⟩ := State.issue_plain h hhit hplain henq hflag
  obtain ⟨hf, -⟩ := h
  obtain ⟨htid, hflow, harg, hbusy, -⟩ := bankAfter_frame s e u
  have hregs := regsAre_bankAfter (u := u) (bankWf_of_fetches hf) (by rw [hls, List.append_nil]; exact hp)
  rw [hls] at hrun hregs
  rw [List.append_nil, List.append_nil] at hregs
  have hcbusy : ((Stated.eng s e).setCur c).cur.busy = true := by
    rw [EngSt.cur_setCur]
    exact (congrArg EBank.busy hc).trans (hbusy.trans (busy_of_fetches hf))
  have hself : (s0.setEng e.val ((Stated.eng s e).setCur c)).engSt e.val = (Stated.eng s e).setCur c := State.engSt_setEng_busy hcbusy _ _
  have honly : State.Only s (s.issue e.val hit) e.val := by
    rw [hrun]
    obtain ⟨n, rfl⟩ := hs0
    exact ((State.only_draw s n e.val).setEng _).stepOver _
  have hsame : ((Stated.eng s e).setCur c).SameTask (Stated.eng (s.issue e.val hit) e) := by
    rw [hrun]
    have := State.sameTask_stepOver (t := s0.setEng e.val ((Stated.eng s e).setCur c)) (k := e.val) (by rw [hself]; exact hcbusy) (Stated.eng s e).stepping
    rw [hself] at this
    exact this
  have hbank : (bank (s.issue e.val hit) e).arch = bankAfter s e u := by rw [bank, hsame.cur, EngSt.cur_setCur, hc]
  obtain ⟨hdmem, himem, hresv, -, -⟩ := (Stated.eng s e).setCur_frame c
  obtain ⟨p, q, hy⟩ := hsame
  refine ⟨⟨honly.frame, honly.others, ?_, ?_, ?_, (congrArg EBank.tid hbank).trans htid, (congrArg EBank.flow hbank).trans hflow,
    (congrArg EBank.arg hbank).trans harg, (congrArg EBank.busy hbank).trans hbusy⟩, ?_, ?_⟩
  · rw [hy]; exact hdmem
  · rw [hy]; exact himem
  · rw [hy]; exact hresv
  · exact congrArg (fun b : EBank => (b.pc, b.loops)) hbank
  · rw [← hbank] at hregs
    exact hregs

end Sys2Proof.Machine
end

section
/-! SUPPORT. The control slot (R115, R120, R121): an instruction that writes a register, a predicate or the PC, in a bundle of its own. -/

open Sys2Proof.Stated

namespace Sys2Proof.Machine

set_option Elab.async false

variable {s : State} {e : Eng} {q : Pred} {opc n : Nat} {x : CArgs} {b : EBank} {form : CtlForm} {g : EBank → CArgs → CtlOut}
  {i : Eng → Pred → CArgs → Instr}

/-! ## The slots that hold a NOP -/

theorem vecRun_nop (c : CtlSlot) (l : LsSlot) (b : EBank) : vecRun ⟨c, vecNopSlot, l⟩ b = (b, 0) := by
  unfold vecRun
  split <;> rfl

theorem lsRun_nop (env : LsEnv) (c : CtlSlot) (v : VecSlot) : lsRun env ⟨c, v, lsNopSlot⟩ = {} := by
  unfold lsRun
  split <;> rfl

theorem ctlRun_nop (v : VecSlot) (l : LsSlot) (b : EBank) : ctlRun ⟨ctlNopSlot, v, l⟩ b = {} := by
  unfold ctlRun
  split <;> rfl

/-! ## A control slot alone in its bundle -/

theorem ctlRun_on (hop : ctlOp opc = some (form, n, g)) (hon : predOn q b = true) : ctlRun (ctlBundle q opc x) b = g b x := by
  simp [ctlRun, hon, hop]

theorem ctlRun_off (hoff : predOn q b = false) : ctlRun (ctlBundle q opc x) b = {} := by simp [ctlRun, hoff]

/-- The slot does `g` where its predicate holds, and nothing elsewhere (R114). -/
theorem ctlRun_cases (hop : ctlOp opc = some (form, n, g)) :
    ctlRun (ctlBundle q opc x) b = if predOn q b then g b x else {} := by
  split
  · next h => exact ctlRun_on hop h
  · next h => exact ctlRun_off (Bool.eq_false_iff.mpr h)

theorem CtlForm.legal_of_issues (h : Issues s e (ctlBundle q opc x)) (hop : ctlOp opc = some (form, n, g)) : form.legal x = true := by
  obtain ⟨-, hc, -, -⟩ := h
  obtain ⟨hbad, -⟩ := Bundle.of_causes_nil hc
  exact CtlForm.legal_of_not_bad (c := ⟨q, opc, x⟩) hbad hop

/-- A control instruction that ends nothing completes. -/
theorem State.issueCtl_completes (h : Issues s e (ctlBundle q opc x)) (hplain : (ctlOut s e (ctlBundle q opc x)).act.plain = true)
    (henq : (∀ a, (ctlOut s e (ctlBundle q opc x)).act ≠ .enq a) ∨ (bank s e).wait = .enqTaken)
    (hp : ∀ w ∈ (ctlOut s e (ctlBundle q opc x)).p, w.1 ≠ 0) :
    OnlyBank s (s.issueCtl e opc q x) e ∧ Advances s (s.issueCtl e opc q x) e (ctlOut s e (ctlBundle q opc x)).act ∧
      RegsAre (bank (s.issueCtl e opc q x) e) (updAll (bank s e).getS (ctlOut s e (ctlBundle q opc x)).s) (bank s e).getV (bank s e).getA
        (updAll (bank s e).getP (ctlOut s e (ctlBundle q opc x)).p) ((ctlOut s e (ctlBundle q opc x)).flags.getD (bank s e).flags) := by
  have hvec := vecRun_nop ⟨q, opc, x⟩ lsNopSlot (bank s e)
  have hend := State.issue_registers h (hitCtl_self opc q x) hplain henq (by rw [hvec]; exact Nat.zero_and _) (lsRun_nop ..) hp
  simp only [hvec, BitVec.or_zero] at hend
  exact hend

/-- A slot that is predicated off goes on to the next bundle (R114). -/
theorem State.issueCtl_off (h : Issues s e (ctlBundle q opc x)) (hoff : predOn q (bank s e) = false) :
    OnlyBank s (s.issueCtl e opc q x) e ∧ Advances s (s.issueCtl e opc q x) e .none ∧
      RegsAre (bank (s.issueCtl e opc q x) e) (bank s e).getS (bank s e).getV (bank s e).getA (bank s e).getP (bank s e).flags := by
  have hout : ctlOut s e (ctlBundle q opc x) = {} := ctlRun_off hoff
  have hend := State.issueCtl_completes h (by rw [hout]; rfl) (.inl fun a ha => by rw [hout] at ha; cases ha) (by rw [hout]; exact fun w hw => by cases hw)
  rw [hout] at hend
  exact hend

/-! ## The shapes of the statements -/

theorem ctlOff (hexec : ∀ e q x s, exec (i e q x) s = .next (s.issueCtl e opc q x)) : CtlOff i opc :=
  fun e q x s h hoff => ⟨_, hexec e q x s, State.issueCtl_off h hoff⟩

theorem ctlWritesS {f : EBank → CArgs → Word} (hexec : ∀ e q x s, exec (i e q x) s = .next (s.issueCtl e opc q x))
    (hop : ctlOp opc = some (form, n, g)) (hg : ∀ b x, g b x = { s := [(x.rd.toNat, f b x)] }) : CtlWritesS i opc f := by
  intro e q x s h
  refine ⟨_, hexec e q x s, ?_⟩
  cases hon : predOn q (bank s e) with
  | false => exact State.issueCtl_off h hon
  | true =>
    have hout : ctlOut s e (ctlBundle q opc x) = { s := [(x.rd.toNat, f (bank s e) x)] } := (ctlRun_on hop hon).trans (hg _ _)
    have hend := State.issueCtl_completes h (by rw [hout]; rfl) (.inl fun a ha => by rw [hout] at ha; cases ha) (by rw [hout]; exact fun w hw => by cases hw)
    rw [hout] at hend
    exact hend

/-- An instruction whose destination must be a predicate register from P1 to P7. -/
theorem ctlWritesP {f : EBank → CArgs → Byte} (hexec : ∀ e q x s, exec (i e q x) s = .next (s.issueCtl e opc q x))
    (hop : ctlOp opc = some (form, n, g)) (hlegal : ∀ x, form.legal x = true → predDest x.rd.toNat = true)
    (hg : ∀ b x, g b x = { p := [(x.rd.toNat % 8, f b x)] }) : CtlWritesP i opc f := by
  intro e q x s h
  refine ⟨_, hexec e q x s, ?_⟩
  cases hon : predOn q (bank s e) with
  | false => exact State.issueCtl_off h hon
  | true =>
    have hdest := hlegal x (CtlForm.legal_of_issues h hop)
    simp only [predDest, Bool.and_eq_true, decide_eq_true_eq] at hdest
    have hout : ctlOut s e (ctlBundle q opc x) = { p := [(x.rd.toNat, f (bank s e) x)] } := by
      rw [← Nat.mod_eq_of_lt hdest.2]
      exact (ctlRun_on hop hon).trans (hg _ _)
    have hend := State.issueCtl_completes h (by rw [hout]; rfl) (.inl fun a ha => by rw [hout] at ha; cases ha)
      (by rw [hout]; exact List.forall_mem_singleton.mpr (Nat.pos_iff_ne_zero.mp hdest.1))
    rw [hout] at hend
    exact hend

/-- A transfer, a loop or a NOP. -/
theorem ctlMoves {link : Bool} {a : EBank → CArgs → EngAct} (hexec : ∀ e q x s, exec (i e q x) s = .next (s.issueCtl e opc q x))
    (hop : ctlOp opc = some (form, n, g)) (hplain : ∀ b x, (a b x).plain = true) (henq : ∀ b x k, a b x ≠ .enq k)
    (hg : ∀ b x, g b x = { s := if link then [(31, BitVec.ofNat 32 (b.pc + 1))] else [], act := a b x }) : CtlMoves i opc link a := by
  intro e q x s h
  refine ⟨_, hexec e q x s, ?_⟩
  cases hon : predOn q (bank s e) with
  | false => simpa using State.issueCtl_off h hon
  | true =>
    have hout : ctlOut s e (ctlBundle q opc x) =
        { s := if link then [(31, BitVec.ofNat 32 ((bank s e).pc + 1))] else [], act := a (bank s e) x } := (ctlRun_on hop hon).trans (hg _ _)
    have hend := State.issueCtl_completes h (by rw [hout]; exact hplain _ _) (.inl fun k ha => henq (bank s e) x k (by rw [hout] at ha; exact ha))
      (by rw [hout]; exact fun w hw => by cases hw)
    rw [hout] at hend
    cases link with
    | false => exact hend
    | true => exact hend

/-! ## Operands -/

theorem ctlRb_eq (x : CArgs) : ctlRb x = bitsOf x.imm 17 13 := rfl

/-- The shift count of a register operand. -/
theorem bitsOf_shift {w : Nat} (v : BitVec w) : bitsOf v 4 0 = v.toNat % 32 := by simp [bitsOf]

/-- Three bits name a predicate register. -/
theorem ctlRb_mod (x : CArgs) : ctlRb x % 8 = bitsOf x.imm 15 13 := by
  simp only [ctlRb_eq, bitsOf]
  exact Nat.mod_mod_of_dvd _ (by decide)

theorem toInt_le (a c : Word) : decide (a.toInt ≤ c.toInt) = !c.slt a := by
  rw [BitVec.slt_eq_decide, ← decide_not, decide_eq_decide, Int.not_lt]

theorem toNat_le (a c : Word) : decide (a.toNat ≤ c.toNat) = !c.ult a := by
  rw [BitVec.ult_eq_decide, ← decide_not, decide_eq_decide, Nat.not_lt]

/-- The smaller of two is either when they are equal. -/
theorem min_eq (a c : Word) : (if a.toInt ≤ c.toInt then a else c) = if a.slt c then a else c := by
  rcases lt_trichotomy a.toInt c.toInt with h | h | h
  · simp [BitVec.slt_eq_decide, h, h.le]
  · simp [BitVec.eq_of_toInt_eq h]
  · simp [BitVec.slt_eq_decide, h.not_ge, h.not_gt]

theorem max_eq (a c : Word) : (if c.toInt ≤ a.toInt then a else c) = if a.slt c then c else a := by
  rcases lt_or_ge a.toInt c.toInt with h | h
  · simp [BitVec.slt_eq_decide, h, h.not_ge]
  · simp [BitVec.slt_eq_decide, h, h.not_gt]

/-- LUI places its immediate above 14 zeros. -/
theorem lui_eq (v : BitVec 18) : v.setWidth 32 <<< 14 = v ++ (0 : BitVec 14) := by
  refine BitVec.eq_of_toNat_eq ?_
  have hlt := v.isLt
  have hzero : (0 : BitVec 14).toNat = 0 := rfl
  simp only [BitVec.toNat_shiftLeft, BitVec.toNat_setWidth, BitVec.toNat_append, Nat.shiftLeft_eq, hzero, Nat.or_zero]
  omega

/-! ## Where the PC goes (R120, R121) -/

theorem nextPc_loop (b : EBank) {k : Nat} (h : 0 < k) (last : Nat) : nextPc b (.loop k last) = (b.pc + 1, b.loops ++ [⟨b.pc + 1, last, k⟩]) := by
  cases k with
  | zero => exact absurd h (Nat.lt_irrefl 0)
  | succ k => rfl

/-- At the end of the body of the one level, with passes left. -/
theorem nextPc_again (b : EBank) {f k : Nat} (hk : 1 < k) (h : b.loops = [⟨f, b.pc, k⟩]) : nextPc b .none = (f, [⟨f, b.pc, k - 1⟩]) := by
  simp [nextPc, h, loopNext, Nat.not_le.mpr hk]

/-- At the end of the last pass. -/
theorem nextPc_last (b : EBank) {f : Nat} (h : b.loops = [⟨f, b.pc, 1⟩]) : nextPc b .none = (b.pc + 1, []) := by
  simp [nextPc, h, loopNext]

end Sys2Proof.Machine
end


section
open Sys2Proof Sys2Proof.Machine Sys2Proof.Stated

/-- Settles O5: a control slot alone in its bundle writes what its table entry gives, and the operands of the table are those of the statement. -/
theorem controlArithmeticCompletes : Obligations.ControlArithmeticCompletes := by
  have hrr (x : CArgs) (h : CtlForm.cr.legal x = true) : predDest x.rd.toNat = true := (Bool.and_eq_true .. ▸ h).2
  unfold Obligations.ControlArithmeticCompletes
  exact ⟨ctlWritesS (fun _ _ _ _ => rfl) rfl (fun _ _ => rfl),
    ctlWritesS (fun _ _ _ _ => rfl) rfl (fun _ _ => rfl),
    ctlWritesS (fun _ _ _ _ => rfl) rfl (fun _ _ => rfl),
    ctlWritesS (fun _ _ _ _ => rfl) rfl (fun _ _ => rfl),
    ctlWritesS (fun _ _ _ _ => rfl) rfl (fun _ _ => rfl),
    ctlWritesS (fun _ _ _ _ => rfl) rfl (fun b x => by rw [bitsOf_shift]; rfl),
    ctlWritesS (fun _ _ _ _ => rfl) rfl (fun b x => by rw [bitsOf_shift]; rfl),
    ctlWritesS (fun _ _ _ _ => rfl) rfl (fun b x => by rw [bitsOf_shift]; rfl),
    ctlWritesS (fun _ _ _ _ => rfl) rfl (fun _ _ => rfl),
    ctlWritesS (fun _ _ _ _ => rfl) rfl (fun b x => by rw [← min_eq]; rfl),
    ctlWritesS (fun _ _ _ _ => rfl) rfl (fun b x => by rw [← max_eq]; rfl),
    ctlWritesS (fun _ _ _ _ => rfl) rfl (fun _ _ => rfl),
    ctlWritesS (fun _ _ _ _ => rfl) rfl (fun _ _ => rfl),
    ctlWritesS (fun _ _ _ _ => rfl) rfl (fun _ _ => rfl),
    ctlWritesS (fun _ _ _ _ => rfl) rfl (fun _ _ => rfl),
    ctlWritesS (fun _ _ _ _ => rfl) rfl (fun b x => by rw [bitsOf_shift]; rfl),
    ctlWritesS (fun _ _ _ _ => rfl) rfl (fun b x => by rw [bitsOf_shift]; rfl),
    ctlWritesS (fun _ _ _ _ => rfl) rfl (fun b x => by rw [bitsOf_shift]; rfl),
    ctlWritesS (fun _ _ _ _ => rfl) rfl (fun b x => by rw [← lui_eq]; rfl),
    ctlWritesS (fun _ _ _ _ => rfl) rfl (fun _ _ => rfl),
    ctlWritesP (fun _ _ _ _ => rfl) rfl hrr (fun _ _ => rfl),
    ctlWritesP (fun _ _ _ _ => rfl) rfl hrr (fun _ _ => rfl),
    ctlWritesP (fun _ _ _ _ => rfl) rfl hrr (fun b x => by rw [BitVec.slt_eq_decide]; rfl),
    ctlWritesP (fun _ _ _ _ => rfl) rfl hrr (fun b x => by rw [BitVec.ult_eq_decide]; rfl),
    ctlWritesP (fun _ _ _ _ => rfl) rfl hrr (fun b x => by rw [← toInt_le]; rfl),
    ctlWritesP (fun _ _ _ _ => rfl) rfl hrr (fun b x => by rw [← toNat_le]; rfl),
    ctlWritesP (fun _ _ _ _ => rfl) rfl (fun _ h => h) (fun _ _ => rfl),
    ctlWritesP (fun _ _ _ _ => rfl) rfl (fun _ h => h) (fun b x => by rw [BitVec.slt_eq_decide]; rfl),
    ctlWritesP (fun _ _ _ _ => rfl) rfl hrr (fun b x => by rw [← ctlRb_mod]; rfl),
    ctlWritesP (fun _ _ _ _ => rfl) rfl hrr (fun b x => by rw [← ctlRb_mod]; rfl),
    ctlWritesP (fun _ _ _ _ => rfl) rfl hrr (fun b x => by rw [← ctlRb_mod]; rfl),
    ctlWritesP (fun _ _ _ _ => rfl) rfl (fun _ h => h) (fun _ _ => rfl),
    ctlWritesP (fun _ _ _ _ => rfl) rfl (fun _ h => h) (fun _ _ => rfl)⟩

/-- Settles O6: each transfer moves the PC as `nextPc` of its action, which is then computed case by case. -/
theorem controlTransfersComplete : Obligations.ControlTransfersComplete := by
  unfold Obligations.ControlTransfersComplete
  refine ⟨ctlMoves (fun _ _ _ _ => rfl) rfl (fun _ _ => rfl) (fun _ _ _ => nofun) (fun _ _ => rfl),
    ctlMoves (fun _ _ _ _ => rfl) rfl (fun _ _ => rfl) (fun _ _ _ => nofun) (fun _ _ => rfl),
    ctlMoves (fun _ _ _ _ => rfl) rfl (fun _ _ => rfl) (fun _ _ _ => nofun) (fun _ _ => rfl),
    ctlMoves (fun _ _ _ _ => rfl) rfl (fun _ _ => rfl) (fun _ _ _ => nofun) (fun _ _ => rfl),
    ctlMoves (fun _ _ _ _ => rfl) rfl (fun _ _ => rfl) (fun _ _ _ => nofun) (fun _ _ => rfl),
    ctlMoves (fun _ _ _ _ => rfl) rfl (fun _ _ => rfl) (fun _ _ _ => nofun) (fun _ _ => rfl),
    ctlMoves (fun _ _ _ _ => rfl) rfl (fun _ _ => rfl) (fun _ _ _ => nofun) (fun _ _ => rfl),
    fun b => ⟨fun _ _ => rfl, fun _ => rfl, fun h => ?_, fun k last hk => nextPc_loop b hk last, fun f n hn h => nextPc_again b hn h,
      fun f h => nextPc_last b h⟩⟩
  simp [nextPc, h, loopNext]

end

section
/-! SUPPORT. A state in which an engine is about to read TNS (R100). -/

open Sys2Proof.Stated

namespace Sys2Proof.Machine

set_option Elab.async false

/-- MFSR of TNS to S1 (R112: opcode 0x50, RD = 1, RA = 9), alone in its bundle. -/
def mfsrTnsWord : Quad := BitVec.ofNat 128 ((0x50 * 2 ^ 28 + 1 * 2 ^ 23 + 9 * 2 ^ 18) * 2 ^ 88)

/-- Engine 0 is ON and placed and runs a task whose first bundle is that one; the time is 3 s and 7 units, and no snapshot has been taken. -/
def State.readsTns : State :=
  let s := (State.reset.setReg (oPwrEng 0) 0x82000000).setReg (oPlace 0) 0x20000001
  { s with now := 3 * unitsPerSec + 7 }.setEng 0 (({ b0 := { busy := true, tid := 7 } } : EngSt).writeWord true 0 mfsrTnsWord)

theorem State.readsTns_issues : Issues State.readsTns 0 (ctlBundle noPred 0x50 ⟨1, 9, 0⟩) := by decide +kernel

theorem State.timeSec_readsTns : timeSec (State.readsTns.dieNow (engTile (0 : Eng).val)) = 3 := by decide +kernel

/-- The bundle issues and the seconds of the snapshot stay 0. -/
theorem State.tsec_readsTns : (bank (State.readsTns.issueCtl 0 0x50 noPred ⟨1, 9, 0⟩) 0).tsec = 0 := by decide +kernel

end Sys2Proof.Machine
end

section
open Sys2Proof Sys2Proof.Machine Sys2Proof.Stated

/-- Refutes O8: a read of TNS takes no snapshot. The engine that `State.mfsr` returns holds it, and `State.runBundle` then writes the bank of the
bundle over it, which still holds the old seconds and fraction; so at 3 s a read of TNS leaves the seconds at 0. -/
theorem not_specialRegistersComplete : ¬ Obligations.SpecialRegistersComplete := by
  intro h
  obtain ⟨-, -, snapshot, -⟩ := h
  obtain ⟨t, hexec, hsec, -⟩ := snapshot 0 noPred ⟨1, 9, 0⟩ State.readsTns State.readsTns_issues rfl rfl
  obtain rfl : State.readsTns.issueCtl 0 0x50 noPred ⟨1, 9, 0⟩ = t := Host.Outcome.next.inj hexec
  rw [State.tsec_readsTns, State.timeSec_readsTns] at hsec
  exact absurd hsec (by decide)

end

section
/-! SUPPORT. The vector slot (R116, R117): an instruction alone in its bundle writes its destinations under its predicate. -/

open Sys2Proof.Stated

namespace Sys2Proof.Machine

set_option Elab.async false

variable {s : State} {e : Eng} {q : Pred} {opc : Nat} {x : VArgs} {b : EBank} {on : Bool} {g : EBank → VArgs → List VDst}
  {i : Eng → Pred → VArgs → Instr}

/-- The destinations are written where a governing bit of the predicate is 1. -/
theorem vecRun_eq_lanes (hop : (vecOp opc).map VForm.f = some g) (hon : vecOn (vecBundle q opc x) b = on) :
    vecRun (vecBundle q opc x) b = Stated.lanes q b on (g b x) := by
  obtain ⟨f, hf, rfl⟩ := Option.map_eq_some_iff.mp hop
  rw [vecRun, hon, Stated.lanes]
  split
  · simp only [hf]
  · rfl

/-- A vector instruction alone in its bundle, for which no enabled flag trap is set. -/
theorem State.issueVec_completes (h : Issues s e (vecBundle q opc x)) (hop : (vecOp opc).map VForm.f = some g)
    (hon : vecOn (vecBundle q opc x) (bank s e) = on) {r : EBank × FlagSet} (hr : Stated.lanes q (bank s e) on (g (bank s e) x) = r)
    (hflag : r.2 &&& bitsOf (bank s e).flags 11 8 = 0) :
    OnlyBank s (s.issueVec e opc q x) e ∧ Advances s (s.issueVec e opc q x) e .none ∧
      RegsAre (bank (s.issueVec e opc q x) e) r.1.getS r.1.getV r.1.getA r.1.getP ((bank s e).flags ||| BitVec.ofNat 32 r.2) := by
  have hctl : ctlOut s e (vecBundle q opc x) = {} := ctlRun_nop ..
  have hvec : vecRun (vecBundle q opc x) (bank s e) = r := (vecRun_eq_lanes hop hon).trans hr
  have hend := State.issue_registers h (hitVec_self opc q x) (by rw [hctl]; rfl) (.inl fun a ha => by rw [hctl] at ha; cases ha)
    (by rw [hvec]; exact hflag) (lsRun_nop ..) (by rw [hctl]; exact fun w hw => by cases hw)
  rw [hctl, hvec] at hend
  exact hend

theorem vecCompletes (hexec : ∀ e q x s, exec (i e q x) s = .next (s.issueVec e opc q x)) (hop : (vecOp opc).map VForm.f = some g) :
    VecCompletes i opc g :=
  fun e q x s _ h hon hflag => ⟨_, hexec e q x s, State.issueVec_completes h hop hon rfl hflag⟩

end Sys2Proof.Machine
end

section
open Sys2Proof Sys2Proof.Machine Sys2Proof.Stated

/-- Settles O9: each entry of the opcode table of the vector slot, alone in its bundle. -/
theorem vectorInstructionsComplete : Obligations.VectorInstructionsComplete := by
  unfold Obligations.VectorInstructionsComplete
  and_intros <;> exact vecCompletes (fun _ _ _ _ => rfl) rfl

end

section
/-! SUPPORT. Moves, bitwise instructions and C16 sums (R104, R105, R116). -/

open Sys2Proof.Stated

namespace Sys2Proof.Machine

set_option Elab.async false

variable {s : State} {e : Eng} {opc : Nat} {x : VArgs} {b : EBank} {f : EBank → VArgs → Quad} {i : Eng → Pred → VArgs → Instr}

/-! ## Lanes -/

theorem lanes_succ (w n x : Nat) : lanes w (n + 1) x = x % 2 ^ w :: lanes w n (x / 2 ^ w) := by
  simp only [lanes, List.range_succ_eq_map, List.map_cons, List.map_map, Nat.mul_zero, Nat.pow_zero, Nat.div_one]
  refine congrArg _ (List.map_congr_left fun k _ => ?_)
  rw [Function.comp_apply, Nat.mul_succ, Nat.add_comm, Nat.pow_add, Nat.div_div_eq_div_mul]

theorem length_lanes (w n x : Nat) : (lanes w n x).length = n := by simp [lanes]

/-- The lanes of a number make it again. -/
theorem joinLanes_lanes (w n x : Nat) : joinLanes w (lanes w n x) = x % 2 ^ (w * n) := by
  induction n generalizing x with
  | zero => simp [lanes, joinLanes, Nat.mod_one]
  | succ n ih => rw [lanes_succ, joinLanes, ih, Nat.mod_mod, Nat.mul_succ, Nat.add_comm (w * n), Nat.pow_add, Nat.mod_mul]

theorem joinLanes_lanes_quad {w n : Nat} (h : w * n = 128) (v : Quad) : BitVec.ofNat 128 (joinLanes w (lanes w n v.toNat)) = v := by
  rw [joinLanes_lanes, h, Nat.mod_eq_of_lt v.isLt, BitVec.ofNat_toNat, BitVec.setWidth_eq]

/-- With every lane enabled the merge takes the new lanes. -/
theorem mergeLanes_plain {w step pm old k : Nat} {l : List Nat} (h : ∀ n < l.length, pm / 2 ^ (step * (k + n)) % 2 = 1) :
    mergeLanes w step pm old k (plain l) = (l, 0) := by
  induction l generalizing k with
  | nil => rfl
  | cons y l ih =>
    have hrest : mergeLanes w step pm old (k + 1) (plain l) = (l, 0) :=
      ih fun n hn => by rw [Nat.add_assoc, Nat.add_comm 1]; exact h (n + 1) (Nat.succ_lt_succ hn)
    rw [plain, List.map_cons, mergeLanes, ← plain, hrest, if_pos (show pm / 2 ^ (step * k) % 2 = 1 from h 0 (Nat.succ_pos _))]
    exact congrArg (Prod.mk (y :: l)) (Nat.zero_or 0)

/-! ## A word moved under the empty predicate -/

theorem predMask_noPred (b : EBank) : (predMask noPred b).toNat = 0xFF := rfl

/-- R108: whatever its format, the word moved is written whole, but for the bits that B8 keeps 0. -/
theorem moveDst_apply (hfmt : x.fmt.toNat ∈ anyFmt) (r : Nat) (v : Quad) (b : EBank) :
    (moveDst x.fmt.toNat r v).apply 0xFF b = (b.setV r (moved x v), 0) := by
  have h5 : x.fmt = 5 ↔ x.fmt.toNat = 5 := by rw [← BitVec.toNat_inj]; rfl
  have h16 : (VDst.v16 r (plain (lanes 16 8 v.toNat))).apply 0xFF b = (b.setV r v, 0) := by
    rw [VDst.apply, mergeLanes_plain (by rw [length_lanes]; decide)]
    exact congrArg (fun y => (b.setV r y, 0)) (joinLanes_lanes_quad rfl v)
  have h32 : (VDst.v32 r (plain (lanes 32 4 v.toNat))).apply 0xFF b = (b.setV r v, 0) := by
    rw [VDst.apply, mergeLanes_plain (by rw [length_lanes]; decide)]
    exact congrArg (fun y => (b.setV r y, 0)) (joinLanes_lanes_quad rfl v)
  simp only [moved, h5]
  simp only [anyFmt, List.mem_cons, List.not_mem_nil, or_false] at hfmt
  rcases hfmt with h | h | h | h | h | h <;> simp only [h]
  · exact h16
  · exact h32
  · exact h16
  · exact h32
  · rfl
  · rfl

/-- The bits that govern a V register, whatever the format. -/
theorem VForm.governing_v {form : VForm} (hd : form.d = .v) : form.governing opc x &&& 0xFF ≠ 0 := by
  have hbits (k : Nat) : (if k = 4 ∨ k = 5 then 0x01 else if k = 1 ∨ k = 3 then 0x55 else 0xFF) &&& 0xFF ≠ 0 := by
    split
    · decide
    · split <;> decide
  unfold VForm.governing
  simp only [hd]
  split
  · decide
  · decide
  · exact hbits _
  · exact hbits _

/-- A vector instruction that moves one word to a V register: it completes on all lanes. -/
theorem vecWritesV {g : EBank → VArgs → List VDst} {form : VForm} (hexec : ∀ e q x s, exec (i e q x) s = .next (s.issueVec e opc q x))
    (hop : vecOp opc = some form) (hfmts : form.fmts = anyFmt) (hform : form.f = g)
    (hd : form.d = .v) {w : EBank → VArgs → Quad}
    (hg : ∀ b x, g b x = [moveDst x.fmt.toNat x.d.toNat (w b x)]) (hw : ∀ b x, moved x (w b x) = f b x) :
    VecWritesV i opc (fun _ => True) f := by
  intro e x s h _
  have hfmt : x.fmt.toNat ∈ anyFmt := by
    obtain ⟨-, hc, -⟩ := id h
    obtain ⟨-, hbad, -⟩ := Bundle.of_causes_nil hc
    have hlegal := VForm.legal_of_not_bad (v := ⟨noPred, opc, x⟩) hbad hop
    simp only [VForm.legal, Bool.and_eq_true, List.contains_iff_mem, hfmts] at hlegal
    obtain ⟨⟨⟨⟨⟨hin, -⟩, -⟩, -⟩, -⟩, -⟩ := hlegal
    exact hin
  have hon : vecOn (vecBundle noPred opc x) (bank s e) = true := by
    simp only [vecOn, hop, predMask_noPred]
    exact decide_eq_true (VForm.governing_v hd)
  have hlanes : Stated.lanes noPred (bank s e) true (g (bank s e) x) = ((bank s e).setV x.d.toNat (f (bank s e) x), 0) := by
    rw [Stated.lanes, if_pos rfl, predMask_noPred, hg, ← hw, applyDsts, moveDst_apply hfmt]
    rfl
  obtain ⟨hf, -⟩ := id h
  have hend := State.issueVec_completes h (by rw [hop, Option.map_some, hform]) hon hlanes (Nat.zero_and _)
  simp only [BitVec.or_zero, EBank.getV_setV (bankWf_of_fetches hf)] at hend
  exact ⟨_, hexec e noPred x s, hend⟩

/-- R116: a scalar in each of the four 32-bit lanes. -/
theorem joinLanes_splat (a : Word) : BitVec.ofNat 128 (joinLanes 32 (List.replicate 4 a.toNat)) = a ++ a ++ a ++ a := by
  refine BitVec.eq_of_toNat_eq ?_
  have ha := a.isLt
  simp only [List.replicate, joinLanes, BitVec.toNat_append, BitVec.toNat_ofNat]
  rw [← Nat.shiftLeft_add_eq_or_of_lt ha, ← Nat.shiftLeft_add_eq_or_of_lt ha, ← Nat.shiftLeft_add_eq_or_of_lt ha, Nat.mod_eq_of_lt ha,
    Nat.mod_eq_of_lt (by omega)]
  simp only [Nat.shiftLeft_eq]
  omega

/-! ## C16 sums -/

/-- R106: a saturated value lies within the bound, and the flag is set where it differs. -/
theorem satLane_bound16 (y : Int) : ∃ g, satLane 16 bound16 y = (ofSigned 16 (max (-32767) (min 32767 y)), g) ∧
    (g = 0 ↔ -32767 ≤ y ∧ y ≤ 32767) := by
  have hb : ((bound16 : Nat) : Int) = 32767 := rfl
  have hset (h : ¬(-32767 ≤ y ∧ y ≤ 32767)) : flagSat = 0 ↔ -32767 ≤ y ∧ y ≤ 32767 := ⟨fun h0 => absurd h0 (by decide), fun hin => absurd hin h⟩
  simp only [satLane, sat, hb]
  by_cases hhi : y > 32767
  · exact ⟨flagSat, by rw [if_pos hhi, min_eq_left hhi.le]; rfl, hset (by omega)⟩
  · have hmin : min 32767 y = y := min_eq_right (not_lt.mp hhi)
    by_cases hlo : y < -32767
    · exact ⟨flagSat, by rw [if_neg hhi, if_pos hlo, hmin, max_eq_left hlo.le], hset (by omega)⟩
    · exact ⟨0, by rw [if_neg hhi, if_neg hlo, hmin, max_eq_right (not_lt.mp hlo)], by simp; omega⟩

theorem c16_get (b : EBank) (r : BitVec 5) {k : Nat} (hk : k < 8) :
    (c16 b r)[k]? = some (toSigned 16 (bitsOf (b.getV r.toNat) (16 * k + 15) (16 * k))) := by
  have hw : 16 * k + 15 + 1 - 16 * k = 16 := by omega
  simp only [c16, slanes, lanes, vNat, List.getElem?_map, List.getElem?_range hk, Option.map_some, bitsOf, hw]

theorem vecVadd_c16 (b : EBank) {k : Nat} (h : x.fmt = 0) (hk : k < 8) :
    ∃ l, vecVadd b x = [.v16 x.d.toNat l] ∧ ∃ g, l[k]? = some (ofSigned 16 (max (-32767) (min 32767 (Stated.sum16 b x k))), g) ∧
      (g = 0 ↔ -32767 ≤ Stated.sum16 b x k ∧ Stated.sum16 b x k ≤ 32767) := by
  obtain ⟨g, hsat, hg⟩ := satLane_bound16 (Stated.sum16 b x k)
  refine ⟨sat16 (List.zipWith (· + ·) (c16 b x.a) (c16 b x.b)), by simp only [vecVadd, arith2, h]; rfl, g, ?_, hg⟩
  rw [← hsat, sat16, List.getElem?_map, List.getElem?_zipWith, c16_get b x.a hk, c16_get b x.b hk]
  rfl

end Sys2Proof.Machine
end

section
open Sys2Proof Sys2Proof.Machine Sys2Proof.Stated

/-- Settles O10: a move writes its word whole in every legal format, and a C16 sum saturates lane by lane. -/
theorem vectorResults : Obligations.VectorResults := by
  unfold Obligations.VectorResults
  exact ⟨vecWritesV (fun _ _ _ _ => rfl) rfl rfl rfl rfl (fun _ _ => rfl) (fun _ _ => rfl),
    vecWritesV (fun _ _ _ _ => rfl) rfl rfl rfl rfl (fun _ _ => rfl) (fun _ _ => rfl),
    vecWritesV (fun _ _ _ _ => rfl) rfl rfl rfl rfl (fun _ _ => rfl) (fun _ _ => rfl),
    vecWritesV (fun _ _ _ _ => rfl) rfl rfl rfl rfl (fun _ _ => rfl) (fun _ _ => rfl),
    vecWritesV (fun _ _ _ _ => rfl) rfl rfl rfl rfl (fun _ _ => rfl)
      (fun b x => congrArg (moved x) (joinLanes_splat (b.getS x.a.toNat))),
    fun b x k h hk => vecVadd_c16 b h hk⟩

end

section
/-! SUPPORT. The end of the task in the active bank (R125, R127, R145), imprecise causes (R129) and the swap of the banks (R143). -/

open Sys2Proof.Stated

namespace Sys2Proof.Machine

set_option Elab.async false

variable {s t u : State} {e : Nat} {x y : EngSt} {c : TaskCtx}

/-! ## Banks of an engine -/

theorem EngSt.bank_setBank_self (x : EngSt) (w : Bool) (b : EBank) : (x.setBank w b).bank w = b := by cases w <;> rfl

theorem EngSt.bank_setBank_other (x : EngSt) (w : Bool) (b : EBank) : (x.setBank w b).bank (!w) = x.bank (!w) := by cases w <;> rfl

theorem EngSt.setBank_frame (x : EngSt) (w : Bool) (b : EBank) : ∃ b0 b1, x.setBank w b = { x with b0 := b0, b1 := b1 } := by
  cases w
  · exact ⟨b, x.b1, rfl⟩
  · exact ⟨x.b0, b, rfl⟩

/-- An engine with a task in either bank is listed, so it reads back whatever the table. -/
theorem State.engSt_setEng_task {w : Bool} (h : (x.bank w).busy = true) (s : State) (k : Nat) : (s.setEng k x).engSt k = x :=
  SMap.get_set_of_ne fun he => by rw [he] at h; cases w <;> cases h

@[simp] theorem State.log_eng (s : State) (r : Rec) : (s.log r).eng = s.eng := by
  obtain ⟨regs, rec, h⟩ := s.log_frame r
  rw [h]

@[simp] theorem State.log_sch (s : State) (r : Rec) : (s.log r).sch = s.sch := by
  obtain ⟨regs, rec, h⟩ := s.log_frame r
  rw [h]

/-! ## Task contexts -/

theorem State.ctx_congr (h : t.sch = s.sch) (k : Nat) : t.ctx k = s.ctx k := by rw [State.ctx, State.ctx, h]

/-- A context that is not the free one reads back. -/
theorem State.ctx_setCtx_self (h : c ≠ {}) (s : State) (k : Nat) : (s.setCtx k c).ctx k = c := SMap.get_set_of_ne h

/-- R186: the end of a task stands in its context. -/
theorem State.ctx_report {k : Nat} (h : (s.ctx k).st ≠ .free) (r : EndReport) : ((s.report k r).ctx k).report = some r := by
  rw [State.report, if_neg h, State.ctx_setCtx_self (fun he => Option.some_ne_none r (congrArg TaskCtx.report he))]

/-- A change of the state of a context keeps its report. -/
theorem State.report_setCtx_st {r : EndReport} {k j : Nat} {st : TState} (h : (s.ctx k).report = some r) :
    ((s.setCtx j { s.ctx j with st := st }).ctx k).report = some r := by
  by_cases hj : j = k
  · subst hj
    have hself := State.ctx_setCtx_self (c := { s.ctx j with st := st })
      (fun he => Option.some_ne_none r (h.symm.trans (congrArg TaskCtx.report he))) s j
    exact (congrArg TaskCtx.report hself).trans h
  · exact (congrArg TaskCtx.report (SMap.get_set_ne hj)).trans h

/-! ## The end of the active task -/

/-- The active bank of `x` has become empty; the other bank and the data memory are as they were. -/
def EngSt.Ended (x y : EngSt) : Prop :=
  (y.bank x.active).busy = false ∧ y.bank (!x.active) = x.bank (!x.active) ∧ y.dmem = x.dmem ∧ (x.shocc = false → y.active = x.active)

/-- The task in the active bank of an engine has ended, and nothing but engines and the states of contexts has changed. -/
structure State.Ends (s t : State) (e : Nat) : Prop where
  eng : (s.engSt e).Ended (t.engSt e)
  wf : SMap.wf engReset t.eng = true
  regs : t.regs = s.regs
  report : ∀ k r, (s.ctx k).report = some r → (t.ctx k).report = some r

theorem State.ends_freeActive (hwf : SMap.wf engReset s.eng = true) : State.Ends s (s.freeActive e) e ∧
    ((s.freeActive e).engSt e).swapDue = (s.engSt e).swapDue ∧
    ((s.freeActive e).engSt e).shocc = (s.engSt e).shocc := by
  have hy : (s.freeActive e).engSt e = ({ s.engSt e with resv := none, wdogRaised := false } : EngSt).setBank (s.engSt e).active
      { (s.engSt e).cur with busy := false, cause := none, wait := .none } := State.engSt_setEng_self hwf _ _
  have hself := ({ s.engSt e with resv := none, wdogRaised := false } : EngSt).bank_setBank_self (s.engSt e).active
    { (s.engSt e).cur with busy := false, cause := none, wait := .none }
  have hother := ({ s.engSt e with resv := none, wdogRaised := false } : EngSt).bank_setBank_other (s.engSt e).active
    { (s.engSt e).cur with busy := false, cause := none, wait := .none }
  rw [← hy] at hself hother
  obtain ⟨b0, b1, hb⟩ := ({ s.engSt e with resv := none, wdogRaised := false } : EngSt).setBank_frame (s.engSt e).active
    { (s.engSt e).cur with busy := false, cause := none, wait := .none }
  rw [hb] at hy
  refine ⟨⟨⟨congrArg EBank.busy hself, hother, ?_, fun _ => ?_⟩, SMap.wf_set hwf, rfl, fun k r hk => hk⟩, ?_, ?_⟩ <;> rw [hy]

/-- R145: where no swap is due, a pre-empted task comes back, and its bank is as it was. -/
theorem State.Ends.afterEnd (h : State.Ends s t e) (hdue : (t.engSt e).swapDue = false)
    (hsh : (t.engSt e).shocc = (s.engSt e).shocc) : State.Ends s (t.afterEnd e) e := by
  obtain ⟨hfree, hkept, hmem, hstay⟩ := h.eng
  unfold State.afterEnd
  extract_lets x s1 k
  rw [if_neg (by rw [hdue]; exact Bool.false_ne_true)]
  split
  · next hin =>
    have h1 : State.Ends s s1 e := by
      refine ⟨?_, SMap.wf_set h.wf, h.regs, h.report⟩
      rw [State.engSt_setEng_self h.wf]
      exact ⟨hfree, hkept, hmem, fun hno => absurd (hin.symm.trans (hsh.trans hno)) (by decide)⟩
    split
    · exact ⟨h1.eng, h1.wf, h1.regs, fun j r hj => State.report_setCtx_st (h1.report j r hj)⟩
    · exact h1
  · exact h

/-- R410: the end of a step beside it. -/
theorem State.Ends.stepOver (h : State.Ends s t e) (b : Bool) : State.Ends s (t.stepOver e b) e := by
  unfold State.stepOver
  split
  · refine ⟨?_, SMap.wf_set h.wf, h.regs, h.report⟩
    rw [State.engSt_setEng_self h.wf]
    exact h.eng
  · exact h

/-- A held cause is taken from a bank that has a task with a cause. -/
theorem State.takeHeld_of_none (h : (s.engSt e).cur.busy = true → (s.engSt e).cur.cause = none) : s.takeHeld e = s := by
  have hheld : s.heldTrap e = none := by
    unfold State.heldTrap
    dsimp only
    split
    · next hb => rw [h hb.1]; rfl
    · rfl
  rw [State.takeHeld, hheld]

/-- After the end of a task nothing is taken, unless the other bank holds a cause. -/
theorem State.Ends.takeHeld_eq (h : State.Ends s t e) (hother : (s.engSt e).shocc = false ∨ ((s.engSt e).bank (!(s.engSt e).active)).cause = none) :
    t.takeHeld e = t := by
  obtain ⟨hfree, hkept, -, hstay⟩ := h.eng
  refine State.takeHeld_of_none fun hbusy => ?_
  by_cases ha : (t.engSt e).active = (s.engSt e).active
  · rw [EngSt.cur, ha, hfree] at hbusy
    cases hbusy
  · have hne : (t.engSt e).active = !(s.engSt e).active := by rwa [Bool.eq_not]
    rw [EngSt.cur, hne, hkept]
    exact hother.resolve_left fun h0 => ha (hstay h0)

/-- The report of the end touches its context alone; then the bank empties. -/
theorem State.ends_report (hwf : SMap.wf engReset s.eng = true) (hdue : (s.engSt e).swapDue = false) (k : Nat) (r : EndReport) (step : Bool) :
    ∃ t, (((s.report k r).freeActive e).afterEnd e).stepOver e step = t ∧ (s.engSt e).Ended (t.engSt e) ∧ SMap.wf engReset t.eng = true ∧
      t.regs = s.regs ∧ ((s.ctx k).st ≠ .free → (t.ctx k).report = some r) ∧
      ((s.engSt e).shocc = false ∨ ((s.engSt e).bank (!(s.engSt e).active)).cause = none → t.takeHeld e = t) := by
  have hframe : (s.report k r).eng = s.eng ∧ (s.report k r).regs = s.regs := by
    unfold State.report
    dsimp only
    split <;> exact ⟨rfl, rfl⟩
  obtain ⟨heng, hregs⟩ := hframe
  have hsame : (s.report k r).engSt e = s.engSt e := State.engSt_congr heng e
  obtain ⟨hfreed, hdue', hsh⟩ := State.ends_freeActive (e := e) (s := s.report k r) (by rw [heng]; exact hwf)
  have hends := (hfreed.afterEnd (hdue'.trans (by rw [hsame]; exact hdue)) hsh).stepOver step
  have hheld := hends.takeHeld_eq
  have hended := hends.eng
  rw [hsame] at hheld hended
  exact ⟨_, rfl, hended, hends.wf, hends.regs.trans hregs, fun hst => hends.report _ _ (State.ctx_report hst r), hheld⟩

/-! ## Engine events -/

theorem State.reportEnd_single {b : EBank} (h : b.copy = 0) (s : State) (status cause : Nat) :
    s.reportEnd b status cause = s.report b.tid ⟨status, cause, b.cyc, status ≠ 0⟩ := if_pos h

theorem State.finishDone_eq (hwait : (s.engSt e).cur.wait = .done) :
    s.finishDone e = (((((s.taskRegs e (s.engSt e).cur).reportEnd (s.engSt e).cur 0 0).freeActive e).afterEnd e).stepOver e
      (s.engSt e).stepping).takeHeld e := by
  have hflag : (s.engSt e).cur.wait ≠ EWait.flagDone := by rw [hwait]; decide
  unfold State.finishDone
  dsimp only
  rw [if_neg hflag]
  rfl

/-- R125: every access has been acknowledged, and the task completes. -/
theorem State.finishDone_done (hwf : SMap.wf engReset s.eng = true) (hwait : (s.engSt e).cur.wait = .done) (hcopy : (s.engSt e).cur.copy = 0)
    (hsh : (s.engSt e).shocc = false) (hdue : (s.engSt e).swapDue = false) (hst : (s.ctx (s.engSt e).cur.tid).st ≠ .free) :
    ((s.finishDone e).engSt e).cur.busy = false ∧
      ((s.finishDone e).ctx (s.engSt e).cur.tid).report = some ⟨0, 0, (s.engSt e).cur.cyc, false⟩ := by
  have hsame : (s.taskRegs e (s.engSt e).cur).engSt e = s.engSt e := rfl
  obtain ⟨t, ht, hended, -, -, hreport, hheld⟩ := State.ends_report (s := s.taskRegs e (s.engSt e).cur) (e := e) hwf hdue (s.engSt e).cur.tid
    ⟨0, 0, (s.engSt e).cur.cyc, decide (0 ≠ 0)⟩ (s.engSt e).stepping
  rw [hsame] at hended hheld
  obtain ⟨hfree, -, -, hstay⟩ := hended
  have hdone : s.finishDone e = t := by rw [State.finishDone_eq hwait, State.reportEnd_single hcopy, ht, hheld (.inl hsh)]
  rw [hdone]
  exact ⟨by rw [EngSt.cur, hstay hsh]; exact hfree, hreport hst⟩

theorem State.doneComplete_done (hon : s.isOn (oPwrEng e) = true) (hbusy : (s.engSt e).cur.busy = true) (hrun : s.halted e = false)
    (hwait : (s.engSt e).cur.wait = .done) (hcause : (s.engSt e).cur.cause = none)
    (hout : s.ownOut e (s.engSt e).active (s.engSt e).cur.gen = []) : s.doneComplete e = s.finishDone e := by
  have hheld : (s.heldTrap e).isSome = false := by
    simp only [State.heldTrap, hcause, Option.map_none, ite_self, Option.isSome_none]
  rw [State.doneComplete]
  simp only [hon, hbusy, hrun, hwait, hheld, hout, Bool.false_eq_true, and_false, true_or, and_self, if_true, if_false]

/-- R143: the banks swap at a boundary where nothing is held. -/
theorem State.bankSwap_swaps (hdue : (s.engSt e).swapDue = true) (hwait : (s.engSt e).cur.wait = .none) (hcause : (s.engSt e).cur.cause = none) :
    (s.bankSwap e).engSt e =
        { (s.engSt e).setCur (s.engSt e).cur with active := !(s.engSt e).active, shocc := true, swapDue := false, resv := none } ∧
      ((s.ctx (s.engSt e).cur.tid).st = .running → ((s.bankSwap e).ctx (s.engSt e).cur.tid).st = .preempted) := by
  have hheld : (s.heldTrap e).isSome = false := by
    simp only [State.heldTrap, hcause, Option.map_none, ite_self, Option.isSome_none]
  have hself : (s.setEng e { (s.engSt e).setCur (s.engSt e).cur with active := !(s.engSt e).active, shocc := true, swapDue := false, resv := none }).engSt e = _ :=
    SMap.get_set_of_ne fun he => Bool.noConfusion (congrArg EngSt.shocc he)
  have hbank : ({ (s.engSt e).cur with wait := EWait.none } : EBank) = (s.engSt e).cur := by rw [← hwait]
  unfold State.bankSwap
  simp only [hdue, hwait, hheld, reduceCtorEq, Bool.true_eq_false, or_self, if_false, Bool.false_eq_true, hbank]
  split
  · exact ⟨hself, fun _ => by rw [State.ctx_setCtx_self (fun he => TState.noConfusion (congrArg TaskCtx.st he))]⟩
  · next hst => exact ⟨hself, fun h => absurd h hst⟩

/-- R129: an imprecise cause for a task of the bank that is not active is held there. -/
theorem State.impreciseCause_held {w : Bool} {g cause addr : Nat} {tmo : Bool} (hw : (s.engSt e).active ≠ w) (hbusy : ((s.engSt e).bank w).busy = true)
    (hgen : ((s.engSt e).bank w).gen = g) (hnone : ((s.engSt e).bank w).cause = none) :
    (((s.impreciseCause e w g cause tmo addr).engSt e).bank w).cause = some (cause, tmo, addr) := by
  have hbank := (s.engSt e).bank_setBank_self w { (s.engSt e).bank w with cause := some (cause, tmo, addr) }
  have hself := State.engSt_setEng_task (w := w) (x := (s.engSt e).setBank w { (s.engSt e).bank w with cause := some (cause, tmo, addr) })
    (by rw [hbank]; exact hbusy) s e
  unfold State.impreciseCause
  extract_lets x b keep s1
  rw [if_pos ⟨hbusy, hgen⟩]
  have hkeep : keep = false := by simp only [keep, b, x, hnone]
  have hs1 : s1 = s.setEng e ((s.engSt e).setBank w { (s.engSt e).bank w with cause := some (cause, tmo, addr) }) := by
    simp only [s1, hkeep, Bool.false_eq_true, if_false]
    rfl
  rw [if_neg (fun h => hw h.1.symm), hs1, hself, hbank]

/-- R123: an access without a response. -/
theorem State.remoteTmo_held {tag g : Nat} {q : OutReq} {w : Bool}
    (hq : s.net.outst.find? (fun q => q.src == engReq e && q.tag == tag) = some q) (howner : q.kind.owner = some (e, w, g))
    (hw : (s.engSt e).active ≠ w) (hbusy : ((s.engSt e).bank w).busy = true) (hgen : ((s.engSt e).bank w).gen = g)
    (hnone : ((s.engSt e).bank w).cause = none) :
    (((s.remoteTmo e tag).engSt e).bank w).cause = some (causeBuserr, true, q.addr) := by
  unfold State.remoteTmo
  simp only [hq, howner]
  refine State.impreciseCause_held ?_ ?_ ?_ ?_ <;> rw [State.engSt_congr (State.log_eng ..)]
  exacts [hw, hbusy, hgen, hnone]

/-- R160: the watchdog's cause is held. -/
theorem State.wdogExpire_held (hbusy : (s.engSt e).cur.busy = true) (hwd : (s.engSt e).cur.wd = 0) (hen : s.bit (oEng e + 0x18) 31 = true)
    (hrun : s.halted e = false) (hfirst : (s.engSt e).wdogRaised = false) (hnone : (s.engSt e).cur.cause = none) :
    ((s.wdogExpire e).engSt e).cur.cause = some (causeWdog, false, 0) ∧ ((s.wdogExpire e).engSt e).wdogRaised = true := by
  have hcur := ({ s.engSt e with wdogRaised := true } : EngSt).cur_setCur { (s.engSt e).cur with cause := some (causeWdog, false, 0) }
  have hself := State.engSt_setEng_busy (x := ({ s.engSt e with wdogRaised := true } : EngSt).setCur { (s.engSt e).cur with cause := some (causeWdog, false, 0) })
    (by rw [hcur]; exact hbusy) s e
  have hraised : (({ s.engSt e with wdogRaised := true } : EngSt).setCur { (s.engSt e).cur with cause := some (causeWdog, false, 0) }).wdogRaised = true := by
    obtain ⟨b0, b1, h⟩ := ({ s.engSt e with wdogRaised := true } : EngSt).setBank_frame (s.engSt e).active { (s.engSt e).cur with cause := some (causeWdog, false, 0) }
    exact congrArg EngSt.wdogRaised h
  unfold State.wdogExpire
  rw [if_pos ⟨hbusy, hwd, hen, hrun, hfirst⟩]
  simp only [hnone]
  rw [State.engSt_congr (State.log_eng ..), hself, hcur]
  exact ⟨rfl, hraised⟩

/-- R138: a bucket leaks by one. -/
theorem State.bucketLeak_reg (hwf : State.regsWf s = true) (o : Nat) : (s.bucketLeak o).fld o 31 24 = s.fld o 31 24 - 1 ∧
    (s.bucketLeak o).fld o 23 0 = s.fld o 23 0 ∧ ∀ p, p ≠ o → (s.bucketLeak o).reg p = s.reg p := by
  have hlt : s.fld o 31 24 < 2 ^ (31 + 1 - 24) := Nat.mod_lt _ (by decide)
  refine ⟨?_, State.fld_setFld_beside hwf o _ (by decide) (by decide) (by decide), fun p hp => State.reg_setFld_ne hp.symm _ _ _⟩
  rw [State.bucketLeak, State.fld_setFld_self hwf o _ (by decide) (by decide), Nat.mod_eq_of_lt (by omega)]

end Sys2Proof.Machine
end

section
open Sys2Proof Sys2Proof.Machine Sys2Proof.Stated

/-- Settles O15: each event by the lemma of its operation. -/
theorem engineEventsComplete : Obligations.EngineEventsComplete := by
  unfold Obligations.EngineEventsComplete
  refine ⟨?done, ?swap, ?leak, ?lock, ?tmo, ?wdog⟩
  case done =>
    intro e s hinv hon hbusy hrun hwait hcause hout hcopy hsh hdue hst
    obtain ⟨-, -, hwf, -⟩ := hinv
    have hend := State.finishDone_done hwf hwait hcopy hsh hdue hst
    rw [← State.doneComplete_done hon hbusy hrun hwait hcause hout] at hend
    exact ⟨_, rfl, hend⟩
  case swap =>
    intro e s hdue hwait hbusy hcause
    obtain ⟨heng, hctx⟩ := State.bankSwap_swaps hdue hwait hcause
    refine ⟨_, rfl, ?_⟩
    rw [Stated.eng, heng]
    exact ⟨rfl, rfl, rfl, rfl, hctx⟩
  case leak => exact fun b s hwf => ⟨_, rfl, State.bucketLeak_reg hwf _⟩
  case lock =>
    exact fun c s hwf => ⟨_, rfl, State.bit_setBit_self hwf _ true (by decide), State.fld_setBit_beside hwf _ true (by decide) (by decide),
      fun o ho => State.reg_setBit_ne ho.symm _ _⟩
  case tmo => exact fun e tag s q w g hq howner hw hbusy hgen hnone => ⟨_, rfl, State.remoteTmo_held hq howner hw hbusy hgen hnone⟩
  case wdog => exact fun e s hbusy hwd hen hrun hfirst hnone => ⟨_, rfl, State.wdogExpire_held hbusy hwd hen hrun hfirst hnone⟩

end

section
/-! SUPPORT. Traps (R127 to R131): the lowest cause of a bundle, and what the trap it raises records. -/

open Sys2Proof.Stated

namespace Sys2Proof.Machine

set_option Elab.async false

variable {s t u : State} {x : EngSt} {l : List Cause}

/-! ## The lowest cause (R128) -/

theorem lowest_eq_none : lowest l = none ↔ l = [] := by
  cases l with
  | nil => simp [lowest]
  | cons c l =>
    simp only [lowest, reduceCtorEq, iff_false]
    split
    · exact Option.some_ne_none c
    · split <;> exact Option.some_ne_none _

theorem lowest_least {c : Cause} (h : lowest l = some c) : c ∈ l ∧ ∀ d ∈ l, c.1 ≤ d.1 := by
  induction l generalizing c with
  | nil => cases h
  | cons d l ih =>
    rw [lowest] at h
    split at h
    · next hn =>
      cases h
      rw [lowest_eq_none.mp hn]
      exact ⟨List.mem_singleton_self _, fun a ha => by rw [List.mem_singleton.mp ha]⟩
    · next m hm =>
      obtain ⟨hmem, hle⟩ := ih hm
      split at h
      · next hdm =>
        cases h
        exact ⟨List.mem_cons_self, List.forall_mem_cons.mpr ⟨Nat.le_refl _, fun a ha => Nat.le_trans hdm (hle a ha)⟩⟩
      · next hdm =>
        cases h
        exact ⟨List.mem_cons_of_mem _ hmem, List.forall_mem_cons.mpr ⟨(Nat.lt_of_not_le hdm).le, hle⟩⟩

/-- The lowest cause of a list that begins with a least one. -/
theorem lowest_cons {c : Cause} (h : ∀ d ∈ l, c.1 ≤ d.1) : lowest (c :: l) = some c := by
  rw [lowest]
  split
  · rfl
  · next m hm => rw [if_pos (h m (lowest_least hm).1)]

/-- The slot of a trap is one of its causes' slots, or 3. -/
theorem slotOf_le (h : ∀ d ∈ l, d.2.2 ≤ 3) (c : Nat) : slotOf l c ≤ 3 := by
  unfold slotOf
  split
  · next k hk =>
    have hmem : k ∈ ((l.filter (fun x => x.1 == c)).map (fun x => x.2.2)).dedup := by rw [hk]; exact List.mem_singleton_self _
    obtain ⟨d, hd, rfl⟩ := List.mem_map.mp (List.mem_dedup.mp hmem)
    exact h d (List.mem_of_mem_filter hd)
  · exact Nat.le_refl 3

/-! ## The record of a trap -/

/-- R128, R131: logging a trap writes no register but the count of dropped records, and of the engine only how many were refused. -/
theorem State.trapLog_cases (s : State) (e : Nat) (t : TrapInfo) : s.trapLog e t = s ∨ (∃ r, s.trapLog e t = s.log r) ∨
    ∃ n r, s.trapLog e t = (s.setEng e { s.engSt e with refused := n }).log r := by
  unfold State.trapLog
  extract_lets r n
  split
  · exact .inr (.inl ⟨_, rfl⟩)
  split
  · exact .inr (.inl ⟨_, rfl⟩)
  split
  · exact .inr (.inl ⟨_, rfl⟩)
  split
  · exact .inr (.inr ⟨_, _, rfl⟩)
  · exact .inl rfl

theorem State.reg_trapLog {o : Nat} (h : oRecCnt ≠ o) (s : State) (e : Nat) (t : TrapInfo) : (s.trapLog e t).reg o = s.reg o := by
  rcases s.trapLog_cases e t with hl | ⟨r, hl⟩ | ⟨n, r, hl⟩ <;> rw [hl]
  · exact State.reg_log_ne h r
  · exact State.reg_log_ne h r

theorem State.trapLog_sch (s : State) (e : Nat) (t : TrapInfo) : (s.trapLog e t).sch = s.sch := by
  rcases s.trapLog_cases e t with hl | ⟨r, hl⟩ | ⟨n, r, hl⟩ <;> rw [hl]
  · exact State.log_sch ..
  · exact State.log_sch ..

theorem State.engSt_trapLog (hwf : SMap.wf engReset s.eng = true) (e : Nat) (t : TrapInfo) :
    SMap.wf engReset (s.trapLog e t).eng = true ∧ ∃ n, (s.trapLog e t).engSt e = { s.engSt e with refused := n } := by
  rcases s.trapLog_cases e t with hl | ⟨r, hl⟩ | ⟨n, r, hl⟩ <;> rw [hl]
  · exact ⟨hwf, (s.engSt e).refused, rfl⟩
  · exact ⟨by rw [State.log_eng]; exact hwf, (s.engSt e).refused, State.engSt_congr (State.log_eng ..) e⟩
  · exact ⟨by rw [State.log_eng]; exact SMap.wf_set hwf, n, (State.engSt_congr (State.log_eng ..) e).trans (State.engSt_setEng_self hwf ..)⟩

/-- ENG_TRAPCAUSE after a trap. -/
def TrapInfo.causeReg (t : TrapInfo) : Word :=
  BitVec.ofNat 32 (2 ^ 31 + (if t.mult then 2 ^ 30 else 0) + (if t.prec then 2 ^ 29 else 0) + (if t.tmo then 2 ^ 28 else 0)
    + t.sw % 256 * 2 ^ 16 + t.cause)

/-- ENG_TRAPPC after a trap. -/
def TrapInfo.pcReg (t : TrapInfo) : Word := BitVec.ofNat 32 (t.slot * 2 ^ 16 + t.pc % 4096)

theorem State.reg_trapRegs (hwf : State.regsWf s = true) (e : Nat) (t : TrapInfo) :
    (s.trapRegs e t).reg (oEng e + 0x100) = t.causeReg ∧ (s.trapRegs e t).reg (oEng e + 0x104) = t.pcReg := by
  unfold State.trapRegs
  extract_lets b s1 s2 s3
  have hwf1 : State.regsWf s1 = true := State.wf_setReg hwf _ _
  have h1 : s1.reg (oEng e + 0x100) = t.causeReg := State.reg_setReg_self hwf _ _
  have h2 : s2.reg (oEng e + 0x104) = t.pcReg := State.reg_setReg_self hwf1 _ _
  constructor
  · rw [State.reg_count_ne (by omega), State.reg_setReg_ne (by omega), State.reg_setReg_ne (by omega), State.reg_setReg_ne (by omega), h1]
  · rw [State.reg_count_ne (by omega), State.reg_setReg_ne (by omega), State.reg_setReg_ne (by omega), h2]

theorem State.reg_taskRegs {o : Nat} {e : Nat} (h : o < oEng e + 0x114) (s : State) (b : EBank) : (s.taskRegs e b).reg o = s.reg o := by
  unfold State.taskRegs
  dsimp only
  rw [State.reg_setReg_ne (by omega), State.reg_setReg_ne (by omega), State.reg_setReg_ne (by omega), State.reg_setReg_ne (by omega)]

/-! ## The trap ends the task (R127) -/

/-- What a trap leaves: the trap registers, the report and the empty bank. -/
structure State.TrapEnds (s t : State) (e : Nat) (i : TrapInfo) : Prop where
  ended : (s.engSt e).Ended (t.engSt e)
  causeReg : t.reg (oEng e + 0x100) = i.causeReg
  pcReg : t.reg (oEng e + 0x104) = i.pcReg
  report : (s.ctx (s.engSt e).cur.tid).st ≠ .free → (t.ctx (s.engSt e).cur.tid).report = some ⟨1, i.cause, (s.engSt e).cur.cyc, true⟩

/-- The state as the trap has been recorded and the counts of the task stand in the registers. -/
def State.trapNoted (s : State) (e : Nat) (i : TrapInfo) : State :=
  (((s.trapRegs e i).trapLog e i).abandon e (s.engSt e).active (s.engSt e).cur.gen).taskRegs e (s.engSt e).cur

theorem State.trapOnce_eq {e : Nat} (hwait : (s.engSt e).cur.wait ≠ .enqOffered) (hdue : (s.engSt e).swapDue = false) (i : TrapInfo) :
    s.trapOnce e i = ((((s.trapNoted e i).reportEnd (s.engSt e).cur 1 i.cause).freeActive e).afterEnd e).stepOver e (s.engSt e).stepping := by
  have hdue' : ¬(s.engSt e).swapDue = true := by rw [hdue]; exact Bool.false_ne_true
  unfold State.trapOnce
  dsimp only
  rw [if_neg hwait, if_neg hdue']
  rfl

theorem State.reg_trapNoted (hregs : State.regsWf s = true) (e : Nat) (i : TrapInfo) :
    (s.trapNoted e i).reg (oEng e + 0x100) = i.causeReg ∧ (s.trapNoted e i).reg (oEng e + 0x104) = i.pcReg := by
  have hreg (k : Nat) (hk : k < 0x114) : (s.trapNoted e i).reg (oEng e + k) = (s.trapRegs e i).reg (oEng e + k) := by
    have hrec : oRecCnt ≠ oEng e + k := by
      unfold oRecCnt oEng
      omega
    rw [State.trapNoted, State.reg_taskRegs (by omega)]
    exact State.reg_trapLog hrec _ _ _
  obtain ⟨hcause, hpc⟩ := State.reg_trapRegs hregs e i
  exact ⟨(hreg _ (by decide)).trans hcause, (hreg _ (by decide)).trans hpc⟩

theorem State.engSt_trapNoted (hwf : SMap.wf engReset s.eng = true) (e : Nat) (i : TrapInfo) :
    SMap.wf engReset (s.trapNoted e i).eng = true ∧ (∃ n, (s.trapNoted e i).engSt e = { s.engSt e with refused := n }) ∧
      (s.trapNoted e i).sch = s.sch := by
  have hregs : (s.trapRegs e i).eng = s.eng ∧ (s.trapRegs e i).sch = s.sch := by
    unfold State.trapRegs
    simp only [State.count_eng, State.count_sch, State.setReg_eng, State.setReg_sch, and_self]
  obtain ⟨hwf1, n, hx⟩ := State.engSt_trapLog (s := s.trapRegs e i) (by rw [hregs.1]; exact hwf) e i
  have hsch := (State.trapLog_sch (s.trapRegs e i) e i).trans hregs.2
  rw [State.engSt_congr hregs.1] at hx
  have heng : (s.trapNoted e i).eng = ((s.trapRegs e i).trapLog e i).eng := by
    unfold State.trapNoted
    generalize (s.trapRegs e i).trapLog e i = u
    rfl
  have hsch' : (s.trapNoted e i).sch = ((s.trapRegs e i).trapLog e i).sch := by
    unfold State.trapNoted
    generalize (s.trapRegs e i).trapLog e i = u
    rfl
  exact ⟨by rw [heng]; exact hwf1, ⟨n, (State.engSt_congr heng e).trans hx⟩, hsch'.trans hsch⟩

theorem State.trapTask_ends {e : Nat} (hregs : State.regsWf s = true) (hwf : SMap.wf engReset s.eng = true)
    (hwait : (s.engSt e).cur.wait ≠ .enqOffered) (hdue : (s.engSt e).swapDue = false) (hcopy : (s.engSt e).cur.copy = 0)
    (hother : ((s.engSt e).bank (!(s.engSt e).active)).cause = none) (i : TrapInfo) : State.TrapEnds s (s.trapTask e i) e i := by
  obtain ⟨hcause, hpc⟩ := State.reg_trapNoted hregs e i
  obtain ⟨hwf1, ⟨n, hx⟩, hsch⟩ := State.engSt_trapNoted hwf e i
  have hctx := State.ctx_congr hsch (s.engSt e).cur.tid
  obtain ⟨t, ht, hended, -, htregs, hreport, hheld⟩ := State.ends_report hwf1 ((congrArg EngSt.swapDue hx).trans hdue) (s.engSt e).cur.tid
    ⟨1, i.cause, (s.engSt e).cur.cyc, decide (1 ≠ 0)⟩ (s.engSt e).stepping
  rw [hx] at hended hheld
  rw [hctx] at hreport
  have htrap : s.trapTask e i = t := by
    rw [State.trapTask, State.trapOnce_eq hwait hdue, State.reportEnd_single hcopy, ht, hheld (.inr hother)]
  have hreg (o : Nat) : t.reg o = (s.trapNoted e i).reg o := by rw [State.reg, htregs, ← State.reg]
  rw [htrap]
  exact ⟨hended, (hreg _).trans hcause, (hreg _).trans hpc, hreport⟩

/-! ## The fields of the trap registers -/

theorem TrapInfo.causeReg_fields {i : TrapInfo} (hc : i.cause < 32) (hprec : i.prec = true) (htmo : i.tmo = false) :
    bitsOf i.causeReg 31 31 = 1 ∧ bitsOf i.causeReg 29 29 = 1 ∧ bitsOf i.causeReg 4 0 = i.cause := by
  have hm : (if i.mult then 2 ^ 30 else 0) = 0 ∨ (if i.mult then 2 ^ 30 else 0) = 2 ^ 30 := by cases i.mult <;> simp
  have hsw : i.sw % 256 < 256 := Nat.mod_lt _ (by decide)
  simp only [TrapInfo.causeReg, bitsOf, hprec, htmo, BitVec.toNat_ofNat, if_true, Bool.false_eq_true, if_false]
  generalize (if i.mult then 2 ^ 30 else 0) = m at hm
  rcases hm with rfl | rfl <;> omega

theorem TrapInfo.pcReg_fields {i : TrapInfo} (hslot : i.slot ≤ 3) : bitsOf i.pcReg 11 0 = i.pc % 4096 ∧ bitsOf i.pcReg 17 16 = i.slot := by
  simp only [TrapInfo.pcReg, bitsOf, BitVec.toNat_ofNat]
  omega

/-! ## A bundle with a cause -/

/-- The software code that a trap records: that of a TRAP (R128). -/
def EngAct.softCode (a : EngAct) (c : Nat) : Nat :=
  match a with
  | .trap n => if c = causeSoft then n else 0
  | _ => 0

/-- What is recorded of the trap of a bundle with cause `c`. -/
def bundleTrap (s : State) (e : Eng) (v : Bundle) (c a : Nat) : TrapInfo :=
  { cause := c, mult := severalCauses (causesOf s e v) c, pc := (bank s e).pc, slot := slotOf (causesOf s e v) c, addr := a,
    sw := (ctlOut s e v).act.softCode c, refused := refusedStale (causesOf s e v) }

theorem State.issueBundle_trap {e : Eng} {v : Bundle} {c a k : Nat} (h : Fetches s e v) (hlow : lowest (causesOf s e v) = some (c, a, k)) :
    s.issueBundle e.val v = s.trapTask e.val (bundleTrap s e v c a) := by
  obtain ⟨-, -, -, -, -, -, hpend, -⟩ := h
  unfold State.issueBundle
  extract_lets x b keys env co lo cs
  rw [if_neg (Bool.eq_false_iff.mp hpend)]
  have hcs : lowest cs = some (c, a, k) := hlow
  rw [hcs]
  rfl

/-- R127, R128: the trap that a bundle with a cause raises. -/
theorem State.issue_trap {e : Eng} {v : Bundle} {hit : Bundle → Bool} {c a k : Nat} (hinv : Stated.Inv s) (h : Fetches s e v) (hhit : hit v = true)
    (hlow : lowest (causesOf s e v) = some (c, a, k)) (hcopy : (bank s e).copy = 0)
    (hother : ((Stated.eng s e).bank (!(Stated.eng s e).active)).cause = none) :
    State.TrapEnds s (s.issue e.val hit) e.val (bundleTrap s e v c a) := by
  obtain ⟨hregs, -, hwf, -⟩ := hinv
  obtain ⟨-, -, hmay, -⟩ := id h
  simp only [State.mayIssue, Bool.and_eq_true, Bool.or_eq_true, beq_iff_eq, Bool.not_eq_true'] at hmay
  obtain ⟨⟨-, hdue⟩, hwait⟩ := hmay
  have hoffered : (s.engSt e.val).cur.wait ≠ .enqOffered := by
    rcases hwait with hw | hw <;> rw [hw] <;> decide
  rw [State.issue_fetched h hhit, State.issueBundle_trap h hlow]
  exact State.trapTask_ends hregs hwf hoffered hdue hcopy hother _

/-- The fields of the trap registers, where the slot is known. -/
theorem State.trapped_of_ends {e : Eng} {v : Bundle} {c a k : Nat} (h : State.TrapEnds s t e.val (bundleTrap s e v c a)) (hc : c < 32)
    (hslot : slotOf (causesOf s e v) c = k) (hk : k ≤ 3) : Stated.Trapped s t e c k := by
  obtain ⟨⟨hfree, -, hmem, -⟩, hcr, hpr, hreport⟩ := h
  obtain ⟨hv, hp, hcode⟩ := TrapInfo.causeReg_fields (i := bundleTrap s e v c a) hc rfl rfl
  obtain ⟨hpcf, hslotf⟩ := TrapInfo.pcReg_fields (i := bundleTrap s e v c a) (hslot.trans_le hk)
  refine ⟨hfree, hmem, ?_, ?_, ?_, ?_, ?_, hreport⟩
  · rw [State.fld, hcr, hv]
  · rw [State.fld, hcr, hp]
  · rw [State.fld, hcr, hcode]; rfl
  · rw [State.fld, hpr, hpcf]; rfl
  · rw [State.fld, hpr, hslotf]; exact hslot

end Sys2Proof.Machine
end

section
/-! SUPPORT. The causes of bundles that hold one instruction (R112, R121, R122, R128). -/

open Sys2Proof.Stated

namespace Sys2Proof.Machine

set_option Elab.async false

variable {v : Bundle} {env : LsEnv} {hen : Bool} {q : Pred} {opc : Nat} {x : CArgs}

/-! ## Codes and slots of causes -/

/-- A code and a slot that the trap registers can hold. -/
def Cause.Fits (d : Cause) : Prop := d.1 < 32 ∧ d.2.2 ≤ 3

theorem fits_nil : ∀ d ∈ ([] : List Cause), Cause.Fits d := fun _ h => nomatch h

theorem fits_one {c a k : Nat} (hc : c < 32) (hk : k ≤ 3) : ∀ d ∈ [(c, a, k)], Cause.Fits d := List.forall_mem_singleton.mpr ⟨hc, hk⟩

theorem fits_append {l m : List Cause} (hl : ∀ d ∈ l, Cause.Fits d) (hm : ∀ d ∈ m, Cause.Fits d) : ∀ d ∈ l ++ m, Cause.Fits d :=
  List.forall_mem_append.mpr ⟨hl, hm⟩

theorem fits_ite {p : Prop} [Decidable p] {l m : List Cause} (hl : ∀ d ∈ l, Cause.Fits d) (hm : ∀ d ∈ m, Cause.Fits d) :
    ∀ d ∈ (if p then l else m), Cause.Fits d := by
  split
  · exact hl
  · exact hm

theorem enqCauses_fits (y : EngSt) (e a : Nat) : ∀ d ∈ enqCauses y e a, Cause.Fits d := by
  have hpair : ∀ d ∈ (if a % 64 = 0 then [] else [(causeAlign, a, 0)]) ++ (if a + 64 ≤ 0x30000 then [] else [(causeRange, a, 0)]), Cause.Fits d :=
    fits_append (fits_ite fits_nil (fits_one (by decide) (by decide))) (fits_ite fits_nil (fits_one (by decide) (by decide)))
  exact fits_ite (fits_ite (fits_one (by decide) (by decide)) fits_nil) hpair

theorem ctlCauses_fits (y : EngSt) (e : Nat) (stale hen : Bool) (o : CtlOut) : ∀ d ∈ ctlCauses y e stale hen o, Cause.Fits d := by
  have hstale : ∀ d ∈ (if stale then [(causeStale, 0, 0)] else []), Cause.Fits d := fits_ite (fits_one (by decide) (by decide)) fits_nil
  refine fits_append (fits_ite (fits_one (by decide) (by decide)) fits_nil) ?_
  cases o.act with
  | goto t k => exact fits_ite fits_nil (fits_one (by decide) (by decide))
  | loop k last => exact fits_ite (fits_one (by decide) (by decide)) fits_nil
  | enq a => exact fits_append (enqCauses_fits y e a) hstale
  | evpost k f => exact hstale
  | done => exact hstale
  | trap n => exact fits_one (by decide) (by decide)
  | brk => exact fits_ite fits_nil (fits_one (by decide) (by decide))
  | none => exact fits_nil
  | fence => exact fits_nil
  | mfsr rd i => exact fits_nil

theorem Bundle.badSlots_le (v : Bundle) : ∀ k ∈ v.badSlots, k ≤ 3 := by
  have hone (p : Prop) [Decidable p] (k : Nat) (hk : k ≤ 3) : ∀ n ∈ (if p then [k] else []), n ≤ 3 := by
    split
    · exact List.forall_mem_singleton.mpr hk
    · exact fun n hn => nomatch hn
  exact List.forall_mem_append.mpr ⟨List.forall_mem_append.mpr ⟨hone _ 0 (by decide), hone _ 1 (by decide)⟩, hone _ 2 (by decide)⟩

/-- The causes of a bundle fit where those of its load-store slot do. -/
theorem Bundle.causes_fits (hls : ∀ d ∈ (lsRun env v).causes, d.1 < 32) : ∀ d ∈ v.causes env hen, Cause.Fits d := by
  have hbad := v.badSlots_le
  unfold Bundle.causes
  dsimp only
  refine fits_append (fits_append (fits_ite fits_nil (fits_one (by decide) ?_)) (fits_ite fits_nil (ctlCauses_fits _ _ _ _ _))) (fits_ite fits_nil ?_)
  · split
    · exact Nat.le_refl 3
    · split
      · next k hk => exact hbad k (by rw [hk]; exact List.mem_singleton_self k)
      · exact Nat.le_refl 3
  · intro d hd
    obtain ⟨b, hb, rfl⟩ := List.mem_map.mp hd
    exact ⟨hls b hb, by dsimp only; omega⟩

/-- A vector load can find its address misaligned or out of range, or its word unreadable. -/
theorem lsLdv_causes (a : LArgs) : ∀ d ∈ (lsLdv env a).causes, d.1 < 32 := by
  unfold lsLdv
  dsimp only
  split
  · split
    · exact List.forall_mem_singleton.mpr (show causePoison < 32 by decide)
    · exact fun d hd => nomatch hd
  · unfold localCauses
    refine List.forall_mem_append.mpr ⟨?_, ?_⟩ <;> split
    · exact fun d hd => nomatch hd
    · exact List.forall_mem_singleton.mpr (show causeAlign < 32 by decide)
    · exact fun d hd => nomatch hd
    · exact List.forall_mem_singleton.mpr (show causeRange < 32 by decide)

theorem lsRun_ldv_causes (a : LArgs) : ∀ d ∈ (lsRun env (lsBundle q 0x1 a)).causes, d.1 < 32 := by
  unfold lsRun
  split
  · exact lsLdv_causes a
  · exact fun d hd => nomatch hd

/-! ## Bundles with a control instruction alone -/

/-- No two slots of such a bundle write one register. -/
theorem ctlBundle_conflict (q : Pred) (opc : Nat) (x : CArgs) : (ctlBundle q opc x).conflict = false := by
  have hv : vecWrites vecNopSlot = [] := rfl
  have hl : lsWrites lsNopSlot = [] := rfl
  simp only [Bundle.conflict, hv, hl, List.dedup_nil, List.append_nil, List.nodup_dedup, decide_true, Bool.not_true]

theorem ctlBundle_badSlots (q : Pred) (opc : Nat) (x : CArgs) :
    (ctlBundle q opc x).badSlots = if ctlBad ⟨q, opc, x⟩ || !decide (ctlWrites ⟨q, opc, x⟩).Nodup then [0] else [] := by
  have hv : (vecBad vecNopSlot || !decide (vecWrites vecNopSlot).Nodup) = false := by decide
  have hl : (lsBad lsNopSlot || !decide (lsWrites lsNopSlot).Nodup) = false := by decide
  simp only [Bundle.badSlots, hv, hl, Bool.false_eq_true, if_false, List.append_nil]

/-- R112: an illegal control slot is the one cause of its bundle. -/
theorem causes_ctl_bad (h : ctlBad ⟨q, opc, x⟩ = true) : (ctlBundle q opc x).causes env hen = [(causeIllegal, 0, 0)] := by
  have hbad : (ctlBundle q opc x).badSlots = [0] := by rw [ctlBundle_badSlots, h]; rfl
  unfold Bundle.causes
  simp only [hbad, ctlBundle_conflict, lsRun_nop]
  rfl

/-- The causes of a legal control slot are those of what it does. -/
theorem causes_ctl_legal (h : ctlBad ⟨q, opc, x⟩ = false) (hw : (ctlWrites ⟨q, opc, x⟩).Nodup) :
    (ctlBundle q opc x).causes env hen = ctlCauses env.x env.e env.stale hen (ctlRun (ctlBundle q opc x) env.b) := by
  have hbad : (ctlBundle q opc x).badSlots = [] := by rw [ctlBundle_badSlots, h, decide_eq_true hw]; rfl
  unfold Bundle.causes
  simp only [hbad, ctlBundle_conflict, lsRun_nop, and_self, if_true, List.contains_nil, Bool.false_eq_true, if_false, List.nil_append,
    List.map_nil, List.append_nil]

end Sys2Proof.Machine
end

section
open Sys2Proof Sys2Proof.Machine Sys2Proof.Stated

/-- Settles O14: the lowest cause is a least one of the list, and the trap it raises ends the task. -/
theorem trapsEndTheTask : Obligations.TrapsEndTheTask := by
  unfold Obligations.TrapsEndTheTask
  refine ⟨fun l => ⟨lowest_eq_none, fun c hc => lowest_least hc⟩, ?ldv, ?add, ?br⟩
  case ldv =>
    intro e q x s c a k hinv hf hlow hcopy hother
    have hfit : ∀ d ∈ causesOf s e (lsBundle q 0x1 x), Cause.Fits d := Bundle.causes_fits (lsRun_ldv_causes x)
    exact ⟨_, rfl, State.trapped_of_ends (State.issue_trap hinv hf (hitLs_self 0x1 q x) hlow hcopy hother) (hfit _ (lowest_least hlow).1).1 rfl
      (slotOf_le (fun d hd => (hfit d hd).2) c)⟩
  case add =>
    intro e q x s hinv hf himm hcopy hother
    have hcauses : causesOf s e (ctlBundle q 0x01 x) = [(causeIllegal, 0, 0)] :=
      causes_ctl_bad (by simp [ctlBad, ctlOp, CtlForm.legal, himm])
    exact ⟨_, rfl, State.trapped_of_ends (State.issue_trap hinv hf (hitCtl_self 0x01 q x) (by rw [hcauses]; rfl) hcopy hother) (by decide)
      (by rw [hcauses]; rfl) (by decide)⟩
  case br =>
    intro e q x s hinv hf hon hout hcopy hother
    have hrun : ctlRun (ctlBundle q 0x40 x) (bank s e) = { act := .goto ((bank s e).pc + x.imm.toInt) true } := ctlRun_on (g := ctlBr) rfl hon
    have hcauses : causesOf s e (ctlBundle q 0x40 x) = [(causeIfetch, 0, 3)] := by
      rw [causesOf, causes_ctl_legal (q := q) (opc := 0x40) (x := x) rfl List.nodup_nil, hrun, ctlCauses]
      exact if_neg fun h => by omega
    exact ⟨_, rfl, State.trapped_of_ends (State.issue_trap hinv hf (hitCtl_self 0x40 q x) (by rw [hcauses]; rfl) hcopy hother) (by decide)
      (by rw [hcauses]; rfl) (by decide)⟩

end

section
/-! SUPPORT. The data memory of an engine (R122, R133 to R138): what a read finds after a write, and what corrections leave. -/

open Sys2Proof.Stated

namespace Sys2Proof.Machine

set_option Elab.async false

variable {s t u : State} {x y z : EngSt} {e k : Nat}

/-! ## Granules -/

/-- R337: a granule written with its check bits reads clean. -/
theorem secdedRead_mkGran (d : DWord) : secdedRead (mkGran d) = (d, .clean) := by simp [secdedRead, mkGran]

/-- What a read finds lies in the memory and its unwritten contents. -/
theorem EngSt.readGran_congr (hmem : y.dmem = x.dmem) (hlost : y.lost = x.lost) (e k : Nat) : y.readGran e false k = x.readGran e false k := by
  simp only [EngSt.readGran, EngSt.gran, EngSt.mem, hmem, hlost, Bool.false_eq_true, if_false]

theorem EngSt.setGran_eq (x : EngSt) (k : Nat) (g : Gran) :
    x.setGran false k g = { x with dmem := SMap.insert x.dmem k g, resv := if x.resv = some (k / 2) then none else x.resv } := by
  rw [EngSt.setGran, if_neg Bool.false_ne_true]

theorem EngSt.readGran_insert (x : EngSt) (e k n j : Nat) (g : Gran) :
    ({ x with dmem := SMap.insert x.dmem k g, corrected := n } : EngSt).readGran e false j = (x.setGran false k g).readGran e false j := by
  rw [EngSt.setGran_eq]
  exact EngSt.readGran_congr rfl rfl e j

theorem EngSt.readGran_setGran_self (x : EngSt) (e k : Nat) (d : DWord) : (x.setGran false k (mkGran d)).readGran e false k = (d, .clean) := by
  have hg : (x.setGran false k (mkGran d)).gran e false k = mkGran d := by
    simp only [EngSt.gran, EngSt.mem, EngSt.setGran, Bool.false_eq_true, if_false, SMap.find_insert_self]
  rw [EngSt.readGran, hg, secdedRead_mkGran]

theorem EngSt.readGran_setGran_ne (x : EngSt) (e : Nat) {k j : Nat} (h : k ≠ j) (g : Gran) :
    (x.setGran false k g).readGran e false j = x.readGran e false j := by
  simp only [EngSt.readGran, EngSt.gran, EngSt.mem, EngSt.setGran, Bool.false_eq_true, if_false, SMap.find_insert_ne h]

theorem EngSt.setGran_frame (x : EngSt) (k : Nat) (g : Gran) : ∃ m r, x.setGran false k g = { x with dmem := m, resv := r } := ⟨_, _, rfl⟩

/-! ## Bytes -/

/-- Byte `i` of a granule. -/
def byteOf (d : DWord) (i : Nat) : Byte := (d >>> (8 * i)).setWidth 8

theorem byteOf_eq_iff {c d : DWord} {i j : Nat} : byteOf c i = byteOf d j ↔ bitsOf c (8 * i + 7) (8 * i) = bitsOf d (8 * j + 7) (8 * j) := by
  rw [← BitVec.toNat_inj]
  simp only [byteOf, bitsOf, BitVec.toNat_setWidth, BitVec.toNat_ushiftRight, Nat.shiftRight_eq_div_pow,
    show 8 * i + 7 + 1 - 8 * i = 8 by omega, show 8 * j + 7 + 1 - 8 * j = 8 by omega]

theorem bitsOf_foldl_merge (new : DWord) (be : Nat) {i : Nat} (l : List Nat) (hl : ∀ j ∈ l, j < 8) (old : DWord) :
    bitsOf (l.foldl (fun d j => if be / 2 ^ j % 2 = 1 then withBits d (8 * j + 7) (8 * j) (bitsOf new (8 * j + 7) (8 * j)) else d) old)
      (8 * i + 7) (8 * i) = if i ∈ l ∧ be / 2 ^ i % 2 = 1 then bitsOf new (8 * i + 7) (8 * i) else bitsOf old (8 * i + 7) (8 * i) := by
  induction l generalizing old with
  | nil => simp
  | cons j l ih =>
    obtain ⟨hj, hrest⟩ := List.forall_mem_cons.mp hl
    rw [List.foldl_cons, ih hrest]
    by_cases hin : i ∈ l ∧ be / 2 ^ i % 2 = 1
    · rw [if_pos hin, if_pos ⟨List.mem_cons_of_mem _ hin.1, hin.2⟩]
    rw [if_neg hin]
    by_cases hbe : be / 2 ^ j % 2 = 1
    · rw [if_pos hbe]
      by_cases hij : i = j
      · subst hij
        rw [if_pos ⟨List.mem_cons_self, hbe⟩, bitsOf_withBits_same old _ (by omega) (by omega)]
        exact Nat.mod_eq_of_lt (Nat.mod_lt _ (Nat.two_pow_pos _))
      · rw [bitsOf_withBits_beside old _ (by omega) (by omega) (by omega), if_neg fun hc => hin ⟨(List.mem_cons.mp hc.1).resolve_left hij, hc.2⟩]
    · rw [if_neg hbe, if_neg fun hc => ?_]
      rcases List.mem_cons.mp hc.1 with hij | hmem
      · exact hbe (hij ▸ hc.2)
      · exact hin ⟨hmem, hc.2⟩

/-- R136: the enabled bytes are the new ones. -/
theorem byteOf_mergeBytes (old new : DWord) (be : Nat) {i : Nat} (hi : i < 8) :
    byteOf (mergeBytes old new be) i = if be / 2 ^ i % 2 = 1 then byteOf new i else byteOf old i := by
  have hbits := bitsOf_foldl_merge new be (i := i) (List.range 8) (fun j hj => List.mem_range.mp hj) old
  have hmem : (i ∈ List.range 8 ∧ be / 2 ^ i % 2 = 1) ↔ be / 2 ^ i % 2 = 1 := and_iff_right (List.mem_range.mpr hi)
  simp only [hmem] at hbits
  split
  · next hb => exact byteOf_eq_iff.mpr (hbits.trans (if_pos hb))
  · next hb => exact byteOf_eq_iff.mpr (hbits.trans (if_neg hb))

theorem dmByte_eq (x : EngSt) (e a : Nat) : dmByte x e a = (byteOf (x.readGran e false (a / 8)).1 (a % 8), (x.readGran e false (a / 8)).2) := rfl

/-! ## Stores -/

/-- A 16-byte store writes two granules. -/
theorem EngSt.readGran_writeWord (x : EngSt) (e w : Nat) (v : Quad) (j : Nat) :
    (x.writeWord false w v).readGran e false j =
      if j = 2 * w + 1 then ((v >>> 64).setWidth 64, .clean) else if j = 2 * w then (v.setWidth 64, .clean) else x.readGran e false j := by
  unfold EngSt.writeWord
  split
  · next h => rw [h, EngSt.readGran_setGran_self]
  · next h =>
    rw [EngSt.readGran_setGran_ne _ _ (Ne.symm h)]
    split
    · next h0 => rw [h0, EngSt.readGran_setGran_self]
    · next h0 => rw [EngSt.readGran_setGran_ne _ _ (Ne.symm h0)]

theorem byteOf_low (v : Quad) {i : Nat} (h : i < 8) : byteOf (v.setWidth 64) i = (v >>> (8 * i)).setWidth 8 := by
  refine BitVec.eq_of_getLsbD_eq fun n hn => ?_
  simp only [byteOf, BitVec.getLsbD_setWidth, BitVec.getLsbD_ushiftRight, hn, decide_true, Bool.true_and]
  simp only [show 8 * i + n < 64 by omega, decide_true, Bool.true_and]

theorem byteOf_high (v : Quad) {i : Nat} (h : i < 8) : byteOf ((v >>> 64).setWidth 64) i = (v >>> (8 * (8 + i))).setWidth 8 := by
  rw [byteOf_low _ h, ← BitVec.shiftRight_add]
  congr 2
  omega

/-- The bytes of a stored word, and those beside it. -/
theorem EngSt.dmByte_writeWord (x : EngSt) (e : Nat) {ea : Nat} (hea : ea % 16 = 0) (v : Quad) :
    (∀ i, i < 16 → dmByte (x.writeWord false (ea / 16) v) e (ea + i) = ((v >>> (8 * i)).setWidth 8, .clean)) ∧
    ∀ a, a < ea ∨ ea + 16 ≤ a → dmByte (x.writeWord false (ea / 16) v) e a = dmByte x e a := by
  constructor
  · intro i hi
    rw [dmByte_eq, EngSt.readGran_writeWord]
    by_cases h8 : i < 8
    · rw [if_neg (by omega), if_pos (by omega), show (ea + i) % 8 = i by omega]
      exact congrArg (fun b => (b, EccState.clean)) (byteOf_low v h8)
    · rw [if_pos (by omega), show (ea + i) % 8 = i - 8 by omega]
      refine congrArg (fun b => (b, EccState.clean)) ((byteOf_high v (by omega)).trans ?_)
      rw [show 8 + (i - 8) = i by omega]
  · intro a ha
    rw [dmByte_eq, EngSt.readGran_writeWord, if_neg (by omega), if_neg (by omega), dmByte_eq]

/-- R136: the mask and the granule of a 4-byte store at `ea`. -/
def halfMask (ea : Nat) : Nat := if ea % 8 = 0 then 0x0F else 0xF0
def halfGran (ea : Nat) (w : Word) : DWord := if ea % 8 = 0 then (w.setWidth 128).setWidth 64 else (w.setWidth 128).setWidth 64 <<< 32

theorem halfMask_bit {ea i : Nat} (hea : ea % 4 = 0) (hi : i < 8) : halfMask ea / 2 ^ i % 2 = 1 ↔ ea % 8 ≤ i ∧ i < ea % 8 + 4 := by
  unfold halfMask
  split
  · next h => rw [h]; interval_cases i <;> simp
  · have h : ea % 8 = 4 := by omega
    rw [h]
    interval_cases i <;> simp

theorem byteOf_halfGran {ea i : Nat} (hea : ea % 4 = 0) (w : Word) (hi : i < 4) : byteOf (halfGran ea w) (ea % 8 + i) = (w >>> (8 * i)).setWidth 8 := by
  refine BitVec.eq_of_getLsbD_eq fun n hn => ?_
  unfold halfGran
  split
  · next h =>
    rw [h, Nat.zero_add]
    simp only [byteOf, BitVec.getLsbD_setWidth, BitVec.getLsbD_ushiftRight, hn, decide_true, Bool.true_and]
    simp only [show 8 * i + n < 64 by omega, show 8 * i + n < 128 by omega, decide_true, Bool.true_and]
  · have h : ea % 8 = 4 := by omega
    rw [h]
    simp only [byteOf, BitVec.getLsbD_setWidth, BitVec.getLsbD_ushiftRight, BitVec.getLsbD_shiftLeft, hn, decide_true, Bool.true_and]
    simp only [show 8 * (4 + i) + n < 64 by omega, show ¬8 * (4 + i) + n < 32 by omega, show 8 * (4 + i) + n - 32 = 8 * i + n by omega,
      show 8 * i + n < 64 by omega, show 8 * i + n < 128 by omega, decide_true, decide_false, Bool.not_false, Bool.true_and]

/-- R136: a store of 4 bytes into a granule that can be read. -/
theorem EngSt.writeGran_half (x : EngSt) (e ea : Nat) (w : Word) (hgood : eccBad (x.readGran e false (ea / 8)).2 = false) :
    x.writeGran e (ea / 8) (halfGran ea w) (halfMask ea) false =
      (x.setGran false (ea / 8) (mkGran (mergeBytes (x.readGran e false (ea / 8)).1 (halfGran ea w) (halfMask ea))), false,
        if (x.readGran e false (ea / 8)).2 = .corrected then [ea / 8] else []) := by
  have h0 : halfMask ea ≠ 0 := by unfold halfMask; split <;> decide
  have hff : halfMask ea ≠ 0xFF := by unfold halfMask; split <;> decide
  unfold EngSt.writeGran
  rw [if_neg h0, if_neg hff]
  simp only [hgood, Bool.false_eq_true, if_false]

/-- The bytes of a 4-byte store, and those beside it. -/
theorem EngSt.dmByte_half (x : EngSt) (e : Nat) {ea : Nat} (hea : ea % 4 = 0) (w : Word) :
    (∀ i, i < 4 → (dmByte (x.setGran false (ea / 8) (mkGran (mergeBytes (x.readGran e false (ea / 8)).1 (halfGran ea w) (halfMask ea)))) e (ea + i)).1 =
      (w >>> (8 * i)).setWidth 8) ∧
    ∀ a, a < ea ∨ ea + 4 ≤ a → (dmByte (x.setGran false (ea / 8) (mkGran (mergeBytes (x.readGran e false (ea / 8)).1 (halfGran ea w) (halfMask ea)))) e a).1 =
      (dmByte x e a).1 := by
  constructor
  · intro i hi
    rw [dmByte_eq, show (ea + i) / 8 = ea / 8 by omega, show (ea + i) % 8 = ea % 8 + i by omega, EngSt.readGran_setGran_self]
    dsimp only
    rw [byteOf_mergeBytes _ _ _ (by omega), if_pos ((halfMask_bit hea (by omega)).mpr (by omega)), byteOf_halfGran hea w hi]
  · intro a ha
    rw [dmByte_eq, dmByte_eq]
    by_cases hk : ea / 8 = a / 8
    · rw [← hk, EngSt.readGran_setGran_self]
      dsimp only
      rw [byteOf_mergeBytes _ _ _ (Nat.mod_lt _ (by decide)), if_neg fun hb => ?_]
      have := (halfMask_bit hea (Nat.mod_lt _ (by decide))).mp hb
      omega
    · rw [EngSt.readGran_setGran_ne _ _ hk]

/-! ## Corrections (R135, R138) -/

/-- The engine after corrections of its data memory: no data byte differs. -/
def EngSt.Fixed (e : Nat) (x y : EngSt) : Prop :=
  (∃ m n, y = { x with dmem := m, corrected := n }) ∧ ∀ k, (y.readGran e false k).1 = (x.readGran e false k).1

theorem EngSt.Fixed.refl (e : Nat) (x : EngSt) : EngSt.Fixed e x x := ⟨⟨x.dmem, x.corrected, rfl⟩, fun _ => rfl⟩

theorem EngSt.Fixed.trans (h : EngSt.Fixed e x y) (h' : EngSt.Fixed e y z) : EngSt.Fixed e x z := by
  obtain ⟨⟨m, n, rfl⟩, hd⟩ := h
  obtain ⟨⟨m', n', rfl⟩, hd'⟩ := h'
  exact ⟨⟨m', n', rfl⟩, fun k => (hd' k).trans (hd k)⟩

theorem EngSt.Fixed.cur (h : EngSt.Fixed e x y) : y.cur = x.cur := by
  obtain ⟨⟨m, n, rfl⟩, -⟩ := h
  rfl

theorem EngSt.fixed_corrected (e : Nat) (x : EngSt) (n : Nat) : EngSt.Fixed e x { x with corrected := n } :=
  ⟨⟨x.dmem, n, rfl⟩, fun k => congrArg Prod.fst (EngSt.readGran_congr (y := { x with corrected := n }) rfl rfl e k)⟩

/-- A granule written back with the data that its read delivered. -/
def EngSt.writeBack (x : EngSt) (e k : Nat) : EngSt :=
  { x with dmem := SMap.insert x.dmem k (mkGran (x.readGran e false k).1), corrected := x.corrected + 1 }

theorem EngSt.fixed_writeBack (e : Nat) (x : EngSt) (k : Nat) : EngSt.Fixed e x (x.writeBack e k) := by
  refine ⟨⟨_, _, rfl⟩, fun j => ?_⟩
  rw [EngSt.writeBack, EngSt.readGran_insert]
  by_cases h : k = j
  · subst h
    rw [EngSt.readGran_setGran_self]
  · rw [EngSt.readGran_setGran_ne x e h]

/-- The machine after corrections in the data memory of one engine. -/
structure State.OnlyFixes (s t : State) (e : Nat) : Prop where
  frame : { t with eng := s.eng, regs := s.regs, rec_ := s.rec_ } = s
  others : ∀ f, f ≠ e → t.engSt f = s.engSt f
  fixed : EngSt.Fixed e (s.engSt e) (t.engSt e)

theorem State.OnlyFixes.refl (s : State) (e : Nat) : State.OnlyFixes s s e := ⟨rfl, fun _ _ => rfl, .refl e _⟩

theorem State.OnlyFixes.trans (h : State.OnlyFixes s t e) (h' : State.OnlyFixes t u e) : State.OnlyFixes s u e := by
  refine ⟨?_, fun f hf => (h'.others f hf).trans (h.others f hf), h.fixed.trans h'.fixed⟩
  have hframe := h'.frame
  rw [← h.frame, ← hframe]

theorem State.OnlyFixes.busy (h : State.OnlyFixes s t e) (hbusy : (s.engSt e).cur.busy = true) : (t.engSt e).cur.busy = true := by
  rw [h.fixed.cur]
  exact hbusy

theorem State.bucket_frame (s : State) (o : Nat) : ∃ r, (s.bucket o).1 = { s with regs := r } := by
  unfold State.bucket
  split <;> exact ⟨_, rfl⟩

/-- The engine alone is written. -/
theorem State.onlyFixes_setEng (hbusy : (s.engSt e).cur.busy = true) (h : EngSt.Fixed e (s.engSt e) y) : State.OnlyFixes s (s.setEng e y) e := by
  refine ⟨rfl, fun f hf => State.engSt_setEng_ne hf s y, ?_⟩
  rw [State.engSt_setEng_busy (by rw [h.cur]; exact hbusy)]
  exact h

/-- Registers and records leave the engines alone. -/
theorem State.onlyFixes_behind (h : ∃ r l, t = { s with regs := r, rec_ := l }) : State.OnlyFixes s t e := by
  obtain ⟨r, l, rfl⟩ := h
  exact ⟨rfl, fun _ _ => rfl, .refl e _⟩

/-- The corrected granule is written back and counted, its address recorded, and the bucket filled. -/
def State.fixNoted (s : State) (e k : Nat) : State × Bool :=
  (((s.setEng e ((s.engSt e).writeBack e k)).count (oEng e + 0x28) 31 0 1).setReg (oEng e + 0x2C)
    (BitVec.ofNat 32 ((if false then 2 ^ 31 else 0) + 8 * k))).bucket (oEng e + 0x24)

/-- R138: a full bucket logs the corrections since the last record. -/
theorem State.engCorrect_eq (s : State) (e k : Nat) : s.engCorrect e false k =
    if (s.fixNoted e k).2 then
      ((s.fixNoted e k).1.setEng e { (s.fixNoted e k).1.engSt e with corrected := 0 }).log
        (mkRec (engReq e) 0x047 (granAddr false k) ((s.fixNoted e k).1.engSt e).corrected (engReq e))
    else (s.fixNoted e k).1 := by
  unfold State.engCorrect
  dsimp only
  rw [if_neg Bool.false_ne_true]
  rfl

theorem State.setReg_frame (s : State) (o : Nat) (v : Word) : ∃ r, s.setReg o v = { s with regs := r } := ⟨_, rfl⟩

theorem State.count_frame (s : State) (o hi lo n : Nat) : ∃ r, s.count o hi lo n = { s with regs := r } := ⟨_, rfl⟩

theorem State.fixNoted_frame (s : State) (e k : Nat) : ∃ r, (s.fixNoted e k).1 = { s.setEng e ((s.engSt e).writeBack e k) with regs := r } := by
  unfold State.fixNoted
  generalize s.setEng e ((s.engSt e).writeBack e k) = u
  obtain ⟨r1, h1⟩ := u.count_frame (oEng e + 0x28) 31 0 1
  obtain ⟨r2, h2⟩ := (u.count (oEng e + 0x28) 31 0 1).setReg_frame (oEng e + 0x2C) (BitVec.ofNat 32 ((if false then 2 ^ 31 else 0) + 8 * k))
  obtain ⟨r3, h3⟩ := ((u.count (oEng e + 0x28) 31 0 1).setReg (oEng e + 0x2C) (BitVec.ofNat 32 ((if false then 2 ^ 31 else 0) + 8 * k))).bucket_frame
    (oEng e + 0x24)
  exact ⟨r3, by rw [h3, h2, h1]⟩

/-- R135, R138: one correction in the data memory of an engine that runs a task. -/
theorem State.onlyFixes_engCorrect (hbusy : (s.engSt e).cur.busy = true) (k : Nat) : State.OnlyFixes s (s.engCorrect e false k) e := by
  obtain ⟨m, hm⟩ := s.fixNoted_frame e k
  have hnoted : State.OnlyFixes s (s.fixNoted e k).1 e :=
    (State.onlyFixes_setEng hbusy (EngSt.fixed_writeBack e (s.engSt e) k)).trans (State.onlyFixes_behind ⟨m, s.rec_, hm⟩)
  rw [State.engCorrect_eq]
  split
  · exact (hnoted.trans (State.onlyFixes_setEng (hnoted.busy hbusy) (EngSt.fixed_corrected e _ 0))).trans (State.onlyFixes_behind (State.log_frame ..))
  · exact hnoted

theorem State.onlyFixes_engCorrectAll (hbusy : (s.engSt e).cur.busy = true) (l : List Nat) : State.OnlyFixes s (s.engCorrectAll e false l) e := by
  induction l generalizing s with
  | nil => exact .refl s e
  | cons k l ih =>
    have h := State.onlyFixes_engCorrect hbusy k
    exact h.trans (ih (h.busy hbusy))

end Sys2Proof.Machine
end

section
/-! SUPPORT. The load-store slot on the local memory (R118, R122, R124, R136): a load, a store or a reservation alone in its bundle. -/

open Sys2Proof.Stated

namespace Sys2Proof.Machine

set_option Elab.async false

variable {s t u : State} {e : Eng} {q : Pred} {opc : Nat} {x : LArgs} {form : LsForm} {env : LsEnv} {i : Eng → Pred → LArgs → Instr}

/-! ## A load-store slot alone in its bundle -/

theorem lsRun_on {g : LsEnv → LArgs → LsOut} (hop : (lsOp opc).map LsForm.f = some g) (hon : predOn q env.b = true) :
    lsRun env (lsBundle q opc x) = g env x := by
  obtain ⟨f, hf, rfl⟩ := Option.map_eq_some_iff.mp hop
  simp [lsRun, lsOn, hon, hf]

theorem lsRun_off (hoff : predOn q env.b = false) : lsRun env (lsBundle q opc x) = {} := by simp [lsRun, lsOn, hoff]

theorem LsForm.legal_of_issues (h : Issues s e (lsBundle q opc x)) (hop : lsOp opc = some form) : form.legal opc x = true := by
  obtain ⟨-, hc, -, -⟩ := h
  obtain ⟨-, -, hbad, -⟩ := Bundle.of_causes_nil hc
  exact LsForm.legal_of_not_bad (l := ⟨q, opc, x⟩) hbad hop

theorem lsRun_causes_nil (h : Issues s e (lsBundle q opc x)) : (lsOut s e (lsBundle q opc x)).causes = [] := by
  obtain ⟨-, hc, -, -⟩ := h
  obtain ⟨-, -, -, -, hls⟩ := Bundle.of_causes_nil hc
  exact hls

/-- A slot that does nothing goes on to the next bundle. -/
theorem State.issueLs_empty (h : Issues s e (lsBundle q opc x)) (hout : lsOut s e (lsBundle q opc x) = {}) :
    OnlyBank s (s.issueLs e opc q x) e ∧ Advances s (s.issueLs e opc q x) e .none ∧
      RegsAre (bank (s.issueLs e opc q x) e) (bank s e).getS (bank s e).getV (bank s e).getA (bank s e).getP (bank s e).flags := by
  have hctl : ctlOut s e (lsBundle q opc x) = {} := ctlRun_nop ..
  have hvec : vecRun (lsBundle q opc x) (bank s e) = (bank s e, 0) := vecRun_nop ..
  have hend := State.issue_registers h (hitLs_self opc q x) (by rw [hctl]; rfl) (.inl fun a ha => by rw [hctl] at ha; cases ha)
    (by rw [hvec]; exact Nat.zero_and _) hout (by rw [hctl]; exact fun w hw => by cases hw)
  simp only [hctl, hvec, BitVec.or_zero] at hend
  exact hend

theorem State.issueLs_nop (h : Issues s e (lsBundle q 0x0 x)) :
    OnlyBank s (s.issueLs e 0x0 q x) e ∧ Advances s (s.issueLs e 0x0 q x) e .none ∧
      RegsAre (bank (s.issueLs e 0x0 q x) e) (bank s e).getS (bank s e).getV (bank s e).getA (bank s e).getP (bank s e).flags := by
  refine State.issueLs_empty h ?_
  cases hon : predOn q (bank s e) with
  | true => exact lsRun_on (env := lsEnv s e) (g := lsNop') rfl hon
  | false => exact lsRun_off hon

/-- A slot that is predicated off goes on to the next bundle (R114). -/
theorem lsOff (hexec : ∀ e q x s, exec (i e q x) s = .next (s.issueLs e opc q x)) : LsOff i opc :=
  fun e q x s h hoff => ⟨_, hexec e q x s, State.issueLs_empty h (lsRun_off hoff)⟩

/-! ## Accesses of the local memory -/

/-- The slot makes no request on the network. -/
def LsAct.isLocal (a : LsAct) : Bool :=
  match a with
  | .none | .store _ _ _ | .reserve _ | .condStore _ => true
  | _ => false

theorem State.lsRemoteAct_local {a : LsAct} (h : a.isLocal = true) (s : State) (k : Nat) (w : Bool) (b : EBank) : s.lsRemoteAct k w b a = s := by
  cases a with
  | none | store | reserve | condStore => rfl
  | getw | putw | getb | putb | rsend => cases h

theorem EngSt.lsLocal_frame (y : EngSt) (k : Nat) (a : LsAct) : ∃ m r, (y.lsLocal k a).1 = { y with dmem := m, resv := r } := by
  have hset (g : Nat) (v : Gran) : ∃ m r, y.setGran false g v = { y with dmem := m, resv := r } := ⟨_, _, rfl⟩
  have hgran (g : Nat) (v : DWord) (be : Nat) : ∃ m r, (y.writeGran k g v be false).1 = { y with dmem := m, resv := r } := by
    unfold EngSt.writeGran
    split
    · exact ⟨y.dmem, y.resv, rfl⟩
    split
    · exact hset ..
    dsimp only
    split
    · exact ⟨y.dmem, y.resv, rfl⟩
    · exact hset ..
  have hword (g : Nat) (v : Quad) : ∃ m r, y.writeWord false g v = { y with dmem := m, resv := r } := ⟨_, _, rfl⟩
  have hstore (ea size : Nat) (d : Quad) : ∃ m r, (y.lsLocal k (.store ea size d)).1 = { y with dmem := m, resv := r } := by
    unfold EngSt.lsLocal
    dsimp only
    split
    · exact hword ..
    · exact hgran ..
  cases a with
  | store ea size d => exact hstore ea size d
  | reserve ea => exact ⟨y.dmem, _, rfl⟩
  | condStore st =>
    cases st with
    | none => exact ⟨y.dmem, _, rfl⟩
    | some p =>
      obtain ⟨ea, d⟩ := p
      obtain ⟨m, r, h⟩ := hstore ea 4 d
      exact ⟨m, none, congrArg (fun z : EngSt => { z with resv := none }) h⟩
  | none => exact ⟨y.dmem, y.resv, rfl⟩
  | getw dr addr => exact ⟨y.dmem, y.resv, rfl⟩
  | putw addr d => exact ⟨y.dmem, y.resv, rfl⟩
  | getb loc rem n => exact ⟨y.dmem, y.resv, rfl⟩
  | putb loc rem n => exact ⟨y.dmem, y.resv, rfl⟩
  | rsend r d => exact ⟨y.dmem, y.resv, rfl⟩

theorem dmByte_congr {y z : EngSt} {k : Nat} (h : ∀ j, z.readGran k false j = y.readGran k false j) (a : Nat) : dmByte z k a = dmByte y k a := by
  rw [dmByte_eq, dmByte_eq, h]

theorem dmByte_fst_congr {y z : EngSt} {k : Nat} (h : ∀ j, (z.readGran k false j).1 = (y.readGran k false j).1) (a : Nat) :
    (dmByte z k a).1 = (dmByte y k a).1 := by
  rw [dmByte_eq, dmByte_eq, h]

/-! ## What such a bundle leaves -/

/-- Everything but the engines, the number of the next free value, the registers and the records is as it was. -/
def State.EngineOnly (s t : State) : Prop := { t with eng := s.eng, freeCtr := s.freeCtr, regs := s.regs, rec_ := s.rec_ } = s

theorem State.EngineOnly.trans (h : State.EngineOnly s t) (h' : State.EngineOnly t u) : State.EngineOnly s u := by
  unfold State.EngineOnly at *
  rw [← h, ← h']

theorem State.OnlyFixes.engineOnly {k : Nat} (h : State.OnlyFixes s t k) : State.EngineOnly s t := by
  have hframe := h.frame
  unfold State.EngineOnly
  rw [← hframe]

theorem State.engineOnly_stepOver (s : State) (k : Nat) (b : Bool) : State.EngineOnly s (s.stepOver k b) := by
  unfold State.stepOver
  split <;> rfl

/-- The state after a bundle whose load-store slot does local accesses alone: registers, memory and reservation. -/
structure State.LocalDone (s t : State) (e : Eng) (lo : LsOut) : Prop where
  only : OnlyEngine s t e
  regs : RegsAre (bank t e) (updAll (bank s e).getS lo.s) (updAll (bank s e).getV lo.v) (bank s e).getA (updAll (bank s e).getP lo.p) (bank s e).flags
  resv : (Stated.eng t e).resv = ((Stated.eng s e).lsLocal e.val lo.act).1.resv
  data : ∀ a, (dmByte (Stated.eng t e) e.val a).1 = (dmByte ((Stated.eng s e).lsLocal e.val lo.act).1 e.val a).1
  exact : lo.fixes ++ ((Stated.eng s e).lsLocal e.val lo.act).2 = [] →
    ∀ a, dmByte (Stated.eng t e) e.val a = dmByte ((Stated.eng s e).lsLocal e.val lo.act).1 e.val a

theorem State.only_refl (s : State) (k : Nat) : State.Only s s k := ⟨rfl, fun _ _ => rfl⟩

/-- The engine after its local access, its corrections and the end of a step. -/
theorem State.engSt_after_access {y : EngSt} {c : EBank} (hbusy : c.busy = true) (s : State) (k : Nat) (l : List Nat) (b : Bool) :
    ∃ t, ((s.setEng k (y.setCur c)).engCorrectAll k false l).stepOver k b = t ∧ State.EngineOnly s t ∧ (∀ f, f ≠ k → t.engSt f = s.engSt f) ∧
      ∃ z, EngSt.Fixed k (y.setCur c) z ∧ (l = [] → z = y.setCur c) ∧ EngSt.SameTask z (t.engSt k) := by
  have hcur : (y.setCur c).cur.busy = true := by rw [EngSt.cur_setCur]; exact hbusy
  have hself : (s.setEng k (y.setCur c)).engSt k = y.setCur c := State.engSt_setEng_busy hcur _ _
  have hfix := State.onlyFixes_engCorrectAll (s := s.setEng k (y.setCur c)) (e := k) (by rw [hself]; exact hcur) l
  have hset : State.EngineOnly s (s.setEng k (y.setCur c)) := rfl
  have hnil : l = [] → ((s.setEng k (y.setCur c)).engCorrectAll k false l).engSt k = y.setCur c := by
    intro hl
    rw [hl]
    exact hself
  have hothers (f : Nat) (hf : f ≠ k) : (s.setEng k (y.setCur c)).engSt f = s.engSt f := State.engSt_setEng_ne hf _ _
  generalize (s.setEng k (y.setCur c)).engCorrectAll k false l = u at hfix hnil ⊢
  have hfixed := hfix.fixed
  rw [hself] at hfixed
  have hstep := (State.only_refl u k).stepOver b
  exact ⟨_, rfl, (hset.trans hfix.engineOnly).trans (State.engineOnly_stepOver u k b),
    fun f hf => (hstep.others f hf).trans ((hfix.others f hf).trans (hothers f hf)), _, hfixed, hnil,
    State.sameTask_stepOver (hfix.busy (by rw [hself]; exact hcur)) b⟩

theorem State.issueLs_local (h : Issues s e (lsBundle q opc x)) (hact : (lsOut s e (lsBundle q opc x)).act.isLocal = true)
    (hp : ∀ w ∈ (lsOut s e (lsBundle q opc x)).p, w.1 ≠ 0) :
    State.LocalDone s (s.issueLs e opc q x) e (lsOut s e (lsBundle q opc x)) := by
  have hctl : ctlOut s e (lsBundle q opc x) = {} := ctlRun_nop ..
  have hvec : vecRun (lsBundle q opc x) (bank s e) = (bank s e, 0) := vecRun_nop ..
  obtain ⟨s0, c, ⟨n, rfl⟩, hc, hrun⟩ := State.issue_plain h (hitLs_self opc q x) (by rw [hctl]; rfl) (.inl fun a ha => by rw [hctl] at ha; cases ha)
    (by rw [hvec]; exact Nat.zero_and _)
  obtain ⟨hf, -⟩ := h
  have hregs := regsAre_bankAfter (e := e) (u := lsBundle q opc x) (bankWf_of_fetches hf) (by rw [hctl]; exact hp)
  obtain ⟨-, -, -, hbusy, -⟩ := bankAfter_frame s e (lsBundle q opc x)
  have hadv : ((bankAfter s e (lsBundle q opc x)).pc, (bankAfter s e (lsBundle q opc x)).loops) = nextPc (bank s e) .none := by
    rw [bankAfter, hctl]
  rw [← hc] at hregs hadv
  simp only [hctl, hvec, BitVec.or_zero, List.nil_append, Option.getD_none] at hregs
  have hcbusy : c.busy = true := (congrArg EBank.busy hc).trans (hbusy.trans (busy_of_fetches hf))
  generalize lsOut s e (lsBundle q opc x) = lo at *
  rw [State.lsRemoteAct_local hact] at hrun
  obtain ⟨t, ht, honly, hothers, z, hfixed, hexact, hsame⟩ := State.engSt_after_access (y := ((Stated.eng s e).lsLocal e.val lo.act).1) hcbusy
    { s with freeCtr := n } e.val (lo.fixes ++ ((Stated.eng s e).lsLocal e.val lo.act).2) (Stated.eng s e).stepping
  have hdraw : State.EngineOnly s { s with freeCtr := n } := rfl
  replace honly := hdraw.trans honly
  rw [State.issueLs, hrun, ht]
  have hbank : bank (t) e = c := by
    rw [bank, hsame.cur, hfixed.cur, EngSt.cur_setCur]
  obtain ⟨m, r, hy⟩ := (Stated.eng s e).lsLocal_frame e.val lo.act
  obtain ⟨y, hyd⟩ : ∃ y, ((Stated.eng s e).lsLocal e.val lo.act).1 = y := ⟨_, rfl⟩
  rw [hyd] at hy hfixed hexact
  obtain ⟨hdmem, himem, hresv, -, hlost⟩ := y.setCur_frame c
  have hread (j : Nat) : (y.setCur c).readGran e.val false j = y.readGran e.val false j := EngSt.readGran_setCur ..
  obtain ⟨p, d, hz⟩ := hsame
  have htread (j : Nat) : (Stated.eng (t) e).readGran e.val false j = z.readGran e.val false j := by
    rw [Stated.eng, hz]
    exact EngSt.readGran_congr rfl rfl _ _
  obtain ⟨⟨m', n', hzy⟩, hdata⟩ := hfixed
  refine ⟨⟨honly, hothers, ?_, ?_, fun j => ?_, ?_⟩, ?_, ?_, fun a => dmByte_fst_congr (fun j => ?_) a, fun hl a => dmByte_congr (fun j => ?_) a⟩
  · rw [Stated.eng, hz, hzy]
    exact himem.trans (by rw [hy])
  · rw [Advances, hbank]
    exact hadv
  · rw [hbank]
    obtain ⟨-, -, hA, -⟩ := hregs
    exact hA j
  · rw [hbank]
    obtain ⟨-, -, -, -, hflags⟩ := hregs
    exact hflags
  · rw [hbank]
    exact hregs
  · rw [hyd, Stated.eng, hz, hzy]
    exact hresv
  · rw [hyd, htread, hdata, hread]
  · rw [hyd, htread, hexact hl, hread]

/-! ## The local instructions -/

/-- The bundle was executed and has no cause: what its slot does. -/
theorem localCauses_nil {ea size : Nat} (h : localCauses ea size = []) : ea % size = 0 := by
  by_contra hne
  simp [localCauses, hne] at h

theorem lsLdv_ok (h : (lsLdv env x).causes = []) : lsLdv env x =
    { s := lsInc env.b x 16, v := [(x.dr.toNat, (env.x.readWord env.e false (lsEa env.b x 16 / 16)).1)],
      fixes := (env.x.readWord env.e false (lsEa env.b x 16 / 16)).2.2 } := by
  unfold lsLdv at *
  dsimp only at *
  split at h
  · next hc =>
    rw [if_pos hc]
    split at h
    · cases h
    · next hbad => rw [if_neg hbad]
  · next hc => exact absurd h hc

theorem lsLds_ok (h : (lsLds env x).causes = []) : lsLds env x =
    { s := (x.dr.toNat, (loadWord env (lsEa env.b x 4)).1) :: lsInc env.b x 4, fixes := (loadWord env (lsEa env.b x 4)).2.2 } := by
  unfold lsLds at *
  dsimp only at *
  split at h
  · next hc =>
    rw [if_pos hc]
    split at h
    · cases h
    · next hbad => rw [if_neg hbad]
  · next hc => exact absurd h hc

theorem partialCauses_nil {ea : Nat} (h : partialCauses env ea = []) : ea % 4 = 0 ∧ eccBad (env.x.readGran env.e false (ea / 8)).2 = false := by
  unfold partialCauses at h
  dsimp only at h
  split at h
  · next hc =>
    refine ⟨localCauses_nil hc, ?_⟩
    simpa using h
  · next hc => exact absurd h hc

/-- R124: STC under a reservation that covers its granule. -/
theorem lsStc_held (h : env.x.resv = some (lsEa env.b x 4 / 16)) : lsStc env x =
    { causes := partialCauses env (lsEa env.b x 4), s := lsInc env.b x 4, p := [(x.pd.toNat, 0xFF)],
      act := .condStore (some (lsEa env.b x 4, (env.b.getS x.dr.toNat).setWidth 128)) } := by
  simp only [lsStc, h, if_true]

theorem lsStc_lost (h : env.x.resv ≠ some (lsEa env.b x 4 / 16)) : lsStc env x =
    { causes := localCauses (lsEa env.b x 4) 4, s := lsInc env.b x 4, p := [(x.pd.toNat, 0)], act := .condStore none } := by
  simp only [lsStc, h, if_false]

/-- STC names a predicate register from P1 to P7. -/
theorem LsForm.stc_pd (h : form.legal 0x6 x = true) : x.pd.toNat ≠ 0 := by
  simp only [LsForm.legal, Bool.and_eq_true] at h
  obtain ⟨⟨-, hpd⟩, -⟩ := h
  simpa using hpd

/-- R136: the local side of a 4-byte store. -/
theorem EngSt.lsLocal_store_half (y : EngSt) (k ea : Nat) (w : Word) :
    y.lsLocal k (.store ea 4 (w.setWidth 128)) = ((y.writeGran k (ea / 8) (halfGran ea w) (halfMask ea) false).1,
      (y.writeGran k (ea / 8) (halfGran ea w) (halfMask ea) false).2.2) := rfl

theorem EngSt.lsLocal_condStore_half (y : EngSt) (k ea : Nat) (w : Word) :
    y.lsLocal k (.condStore (some (ea, w.setWidth 128))) = ({ (y.writeGran k (ea / 8) (halfGran ea w) (halfMask ea) false).1 with resv := none },
      (y.writeGran k (ea / 8) (halfGran ea w) (halfMask ea) false).2.2) := rfl

theorem EngSt.lsLocal_store_word (y : EngSt) (k ea : Nat) (v : Quad) : y.lsLocal k (.store ea 16 v) = (y.writeWord false (ea / 16) v, []) := rfl

end Sys2Proof.Machine
end

section
open Sys2Proof Sys2Proof.Machine Sys2Proof.Stated

/-- Settles O11: a load writes back what it corrected, and a correction changes no data byte. -/
theorem localLoadsComplete : Obligations.LocalLoadsComplete := by
  unfold Obligations.LocalLoadsComplete
  refine ⟨?nop, ?ldv, ?lds, ?ldr, lsOff fun _ _ _ _ => rfl, lsOff fun _ _ _ _ => rfl, lsOff fun _ _ _ _ => rfl⟩
  case nop => exact fun e q x s h => ⟨_, rfl, State.issueLs_nop h⟩
  case ldv =>
    intro e q x s h hon
    have hout : lsOut s e (lsBundle q 0x1 x) = lsLdv (lsEnv s e) x := lsRun_on (env := lsEnv s e) rfl hon
    rw [lsLdv_ok (hout ▸ lsRun_causes_nil h)] at hout
    have hdone := State.issueLs_local h (by rw [hout]; rfl) (by rw [hout]; exact fun w hw => nomatch hw)
    rw [hout] at hdone
    exact ⟨_, rfl, hdone.only, hdone.regs, hdone.data⟩
  case lds =>
    intro e q x s h hon
    have hout : lsOut s e (lsBundle q 0x3 x) = lsLds (lsEnv s e) x := lsRun_on (env := lsEnv s e) rfl hon
    rw [lsLds_ok (hout ▸ lsRun_causes_nil h)] at hout
    have hdone := State.issueLs_local h (by rw [hout]; rfl) (by rw [hout]; exact fun w hw => nomatch hw)
    rw [hout] at hdone
    exact ⟨_, rfl, hdone.only, hdone.resv, hdone.regs, hdone.data⟩
  case ldr =>
    intro e q x s h hon
    have hout : lsOut s e (lsBundle q 0x5 x) = lsLdr (lsEnv s e) x := lsRun_on (env := lsEnv s e) rfl hon
    have hload := lsLds_ok (env := lsEnv s e) (x := x) (hout ▸ lsRun_causes_nil h :)
    rw [lsLdr, hload] at hout
    have hdone := State.issueLs_local h (by rw [hout]; rfl) (by rw [hout]; exact fun w hw => nomatch hw)
    rw [hout] at hdone
    refine ⟨_, rfl, hdone.only, hdone.resv, hdone.regs, fun a => (hdone.data a).trans (dmByte_fst_congr (fun j => ?_) a)⟩
    exact congrArg Prod.fst (EngSt.readGran_congr rfl rfl e.val j)

/-- Settles O12: a store writes its granules, and no other byte changes. -/
theorem localStoresComplete : Obligations.LocalStoresComplete := by
  unfold Obligations.LocalStoresComplete
  refine ⟨?stv, ?sts, ?stc, lsOff fun _ _ _ _ => rfl, lsOff fun _ _ _ _ => rfl, lsOff fun _ _ _ _ => rfl⟩
  case stv =>
    intro e q x s h hon
    have hout : lsOut s e (lsBundle q 0x2 x) = lsStv (lsEnv s e) x := lsRun_on (env := lsEnv s e) rfl hon
    have halign : lsEa (bank s e) x 16 % 16 = 0 := localCauses_nil (hout ▸ lsRun_causes_nil h :)
    have hdone := State.issueLs_local h (by rw [hout]; rfl) (by rw [hout]; exact fun w hw => nomatch hw)
    rw [hout] at hdone
    obtain ⟨hS, hV, -, hP, -⟩ := hdone.regs
    obtain ⟨hin, hbeside⟩ := EngSt.dmByte_writeWord (Stated.eng s e) e.val halign ((bank s e).getV x.dr.toNat)
    have hbytes := hdone.exact rfl
    exact ⟨_, rfl, hdone.only, hS, hP, hV, fun i hi => (hbytes _).trans (hin i hi), fun a ha => (hbytes a).trans (hbeside a ha)⟩
  case sts =>
    intro e q x s h hon
    have hout : lsOut s e (lsBundle q 0x4 x) = lsSts (lsEnv s e) x := lsRun_on (env := lsEnv s e) rfl hon
    obtain ⟨halign, hgood⟩ := partialCauses_nil (env := lsEnv s e) (ea := lsEa (bank s e) x 4) (hout ▸ lsRun_causes_nil h :)
    have hdone := State.issueLs_local h (by rw [hout]; rfl) (by rw [hout]; exact fun w hw => nomatch hw)
    rw [hout] at hdone
    obtain ⟨hS, hV, -, hP, -⟩ := hdone.regs
    obtain ⟨hin, hbeside⟩ := EngSt.dmByte_half (Stated.eng s e) e.val halign ((bank s e).getS x.dr.toNat)
    have hbytes := hdone.data
    simp only [lsSts, EngSt.lsLocal_store_half, EngSt.writeGran_half _ _ _ _ hgood] at hbytes
    exact ⟨_, rfl, hdone.only, hS, hP, hV, fun i hi => (hbytes _).trans (hin i hi), fun a ha => (hbytes a).trans (hbeside a ha)⟩
  case stc =>
    intro e q x s h hon
    have hpd := LsForm.stc_pd (LsForm.legal_of_issues h rfl)
    have hout : lsOut s e (lsBundle q 0x6 x) = lsStc (lsEnv s e) x := lsRun_on (env := lsEnv s e) rfl hon
    by_cases hheld : (Stated.eng s e).resv = some (lsEa (bank s e) x 4 / 16)
    · rw [lsStc_held (env := lsEnv s e) hheld] at hout
      obtain ⟨halign, hgood⟩ := partialCauses_nil (env := lsEnv s e) (ea := lsEa (bank s e) x 4) (hout ▸ lsRun_causes_nil h :)
      have hdone := State.issueLs_local h (by rw [hout]; rfl) (by rw [hout]; exact List.forall_mem_singleton.mpr hpd)
      rw [hout] at hdone
      obtain ⟨hS, hV, -, hP, -⟩ := hdone.regs
      obtain ⟨hin, hbeside⟩ := EngSt.dmByte_half (Stated.eng s e) e.val halign ((bank s e).getS x.dr.toNat)
      have hbytes (a : Nat) := (hdone.data a).trans
        (dmByte_fst_congr (fun j => congrArg Prod.fst (EngSt.readGran_congr (x := ((Stated.eng s e).writeGran e.val (lsEa (bank s e) x 4 / 8)
          (halfGran (lsEa (bank s e) x 4) ((bank s e).getS x.dr.toNat)) (halfMask (lsEa (bank s e) x 4)) false).1) rfl rfl e.val j)) a)
      simp only [EngSt.writeGran_half _ _ _ _ hgood] at hbytes
      refine ⟨_, rfl, hdone.only, hdone.resv, hS, hV, fun i hi => (hP i).trans (if_neg hi), ?_⟩
      rw [if_pos hheld]
      exact ⟨(hP _).trans (if_pos rfl), fun i hi => (hbytes _).trans (hin i hi), fun a ha => (hbytes a).trans (hbeside a ha)⟩
    · rw [lsStc_lost (env := lsEnv s e) hheld] at hout
      have hdone := State.issueLs_local h (by rw [hout]; rfl) (by rw [hout]; exact List.forall_mem_singleton.mpr hpd)
      rw [hout] at hdone
      obtain ⟨hS, hV, -, hP, -⟩ := hdone.regs
      refine ⟨_, rfl, hdone.only, hdone.resv, hS, hV, fun i hi => (hP i).trans (if_neg hi), ?_⟩
      rw [if_neg hheld]
      exact ⟨(hP _).trans (if_pos rfl), fun a => (hdone.exact rfl a).trans (dmByte_congr (fun j => EngSt.readGran_congr rfl rfl e.val j) a)⟩

end

section
/-! SUPPORT. The load-store slot on the network (R118, R123, R221): the request that a remote instruction issues. -/

open Sys2Proof.Stated

namespace Sys2Proof.Machine

set_option Elab.async false

variable {s t u : State} {e : Eng} {q : Pred} {opc k a : Nat} {x : LArgs} {write : Bool} {kind : ReqKind}

theorem State.OnlyFixes.net (h : State.OnlyFixes s t k) : t.net = s.net := by
  have hnet := congrArg State.net h.frame
  exact hnet

theorem State.OnlyFixes.sch (h : State.OnlyFixes s t k) : t.sch = s.sch := by
  have hsch := congrArg State.sch h.frame
  exact hsch

/-- The engine's request has joined those it has outstanding; its task stands as it was. -/
structure State.Issued (u t : State) (k a : Nat) (write : Bool) (kind : ReqKind) : Prop where
  cur : (t.engSt k).cur = (u.engSt k).cur
  outst : ∃ tag, t.net.outst = u.net.outst ++ [outReq (engReq k) tag a write kind]

theorem State.issued_issueRd (u : State) (ep li len : Nat) : State.Issued u (u.issueRd (engReq k) ep li a len kind) k a false kind :=
  ⟨rfl, _, rfl⟩

theorem State.issued_issueWr (u : State) (ep li len : Nat) (be : BitVec 16) (p : Bool) (d : List Byte) :
    State.Issued u (u.issueWr (engReq k) ep li a len be p d kind) k a true kind := ⟨rfl, _, rfl⟩

theorem putbPackets_ne_nil (y : EngSt) (e ep li n loc rem : Nat) {left : Nat} (h : 0 < left) : putbPackets y e ep li (n + 1) loc rem left ≠ [] := by
  unfold putbPackets
  rw [if_neg (by omega)]
  exact List.cons_ne_nil _ _

/-- R201: the first packet of a block write, once its granules have been corrected. -/
theorem State.issued_putb {w : Bool} {g loc rem left : Nat} (hbusy : (u.engSt k).cur.busy = true) (hleft : 0 < left) :
    State.Issued u (u.issuePiece k w g true loc rem left) k rem true (.putb k w g loc rem left) := by
  have hfix := State.onlyFixes_engCorrectAll hbusy ((u.engSt k).fixesIn k (loc / 16) (pieceBytes (pieceLen rem left) / 16))
  have hne := putbPackets_ne_nil (u.engSt k) k (u.engEpoch k) (u.engLid k) 0 loc rem hleft
  unfold State.issuePiece
  dsimp only
  rw [if_pos rfl]
  split
  · next p l hp =>
    have hnet : (u.engCorrectAll k false ((u.engSt k).fixesIn k (loc / 16) (pieceBytes (pieceLen rem left) / 16))).net = u.net := hfix.net
    obtain ⟨hcur, tag, hout⟩ := State.issued_issueWr (k := k) (a := rem) (kind := .putb k w g loc rem left)
      (u.engCorrectAll k false ((u.engSt k).fixesIn k (loc / 16) (pieceBytes (pieceLen rem left) / 16))) (u.engEpoch k) (u.engLid k)
      (pieceLen rem left) 0xFFFF p.poison (pktData p)
    exact ⟨hcur.trans hfix.fixed.cur, tag, by rw [hout, hnet]⟩
  · next hp => exact absurd hp hne

theorem State.stepOver_cur (h : (u.engSt k).cur.busy = true) (b : Bool) : ((u.stepOver k b).engSt k).cur = (u.engSt k).cur :=
  (State.sameTask_stepOver h b).cur

theorem State.stepOver_net (u : State) (k : Nat) (b : Bool) : (u.stepOver k b).net = u.net := by
  unfold State.stepOver
  split <;> rfl

/-- A bundle whose load-store slot issues a request and does nothing in the local memory. -/
theorem State.issueLs_remote (h : Issues s e (lsBundle q opc x))
    (hlocal : ∀ y : EngSt, y.lsLocal e.val (lsOut s e (lsBundle q opc x)).act = (y, [])) (hfixes : (lsOut s e (lsBundle q opc x)).fixes = [])
    (hv : (lsOut s e (lsBundle q opc x)).v = []) (hp : (lsOut s e (lsBundle q opc x)).p = [])
    (hsend : ∀ u : State, (u.engSt e.val).cur.busy = true →
      State.Issued u (u.lsRemoteAct e.val (Stated.eng s e).active (bank s e) (lsOut s e (lsBundle q opc x)).act) e.val a write kind) :
    Advances s (s.issueLs e opc q x) e .none ∧
      (∀ i, (bank (s.issueLs e opc q x) e).getS i = afterInc (bank s e) (lsOut s e (lsBundle q opc x)).s i) ∧
      (∀ i, (bank (s.issueLs e opc q x) e).getV i = (bank s e).getV i) ∧ Requests s (s.issueLs e opc q x) e a write kind := by
  have hctl : ctlOut s e (lsBundle q opc x) = {} := ctlRun_nop ..
  have hvec : vecRun (lsBundle q opc x) (bank s e) = (bank s e, 0) := vecRun_nop ..
  obtain ⟨s0, c, ⟨n, rfl⟩, hc, hrun⟩ := State.issue_plain h (hitLs_self opc q x) (by rw [hctl]; rfl) (.inl fun a ha => by rw [hctl] at ha; cases ha)
    (by rw [hvec]; exact Nat.zero_and _)
  obtain ⟨hf, -⟩ := h
  have hregs := regsAre_bankAfter (e := e) (u := lsBundle q opc x) (bankWf_of_fetches hf) (by rw [hctl, hp]; exact fun w hw => nomatch hw)
  obtain ⟨-, -, -, hbusy, -⟩ := bankAfter_frame s e (lsBundle q opc x)
  have hadv : ((bankAfter s e (lsBundle q opc x)).pc, (bankAfter s e (lsBundle q opc x)).loops) = nextPc (bank s e) .none := by
    rw [bankAfter, hctl]
  rw [← hc] at hregs hadv
  simp only [hctl, hvec, hv, List.nil_append] at hregs
  obtain ⟨hS, hV, -⟩ := hregs
  have hcbusy : c.busy = true := (congrArg EBank.busy hc).trans (hbusy.trans (busy_of_fetches hf))
  rw [hlocal, hfixes] at hrun
  have hcur : ((Stated.eng s e).setCur c).cur = c := EngSt.cur_setCur ..
  have hself : (({ s with freeCtr := n } : State).setEng e.val ((Stated.eng s e).setCur c)).engSt e.val = (Stated.eng s e).setCur c :=
    State.engSt_setEng_busy (by rw [hcur]; exact hcbusy) _ _
  have hnet : (({ s with freeCtr := n } : State).setEng e.val ((Stated.eng s e).setCur c)).net = s.net := rfl
  obtain ⟨u, hu⟩ : ∃ u, ({ s with freeCtr := n } : State).setEng e.val ((Stated.eng s e).setCur c) = u := ⟨_, rfl⟩
  have hnone : u.engCorrectAll e.val false ([] ++ []) = u := rfl
  rw [hu, hnone] at hrun
  rw [hu] at hself hnet
  have hubank : (u.engSt e.val).cur = c := by rw [hself, hcur]
  obtain ⟨hsame, tag, hout⟩ := hsend u (by rw [hubank]; exact hcbusy)
  have hbank : bank (s.issueLs e opc q x) e = c := by
    rw [bank, State.issueLs, hrun, State.stepOver_cur (by rw [hsame, hubank]; exact hcbusy), hsame, hubank]
  refine ⟨by rw [Advances, hbank]; exact hadv, fun i => by rw [hbank]; exact hS i, fun i => by rw [hbank]; exact hV i, tag, ?_⟩
  rw [State.issueLs, hrun, State.stepOver_net, hout, hnet]

/-- R118: a block has one word at least. -/
theorem LsForm.blk_off {form : LsForm} (hmode : form.mode = .blk) (h : form.legal opc x = true) : 0 < 16 * x.off.toNat := by
  simp only [LsForm.legal, hmode, Bool.and_eq_true, decide_eq_true_eq] at h
  omega

end Sys2Proof.Machine
end

section
open Sys2Proof Sys2Proof.Machine Sys2Proof.Stated

/-- Settles O13: each remote instruction issues its request; a block write corrects the granules it reads first. -/
theorem remoteAccessesIssue : Obligations.RemoteAccessesIssue := by
  unfold Obligations.RemoteAccessesIssue
  refine ⟨?getw, ?putw, ?getb, ?putb, ?rsend, lsOff fun _ _ _ _ => rfl, lsOff fun _ _ _ _ => rfl, lsOff fun _ _ _ _ => rfl, lsOff fun _ _ _ _ => rfl,
    lsOff fun _ _ _ _ => rfl⟩
  case getw =>
    intro e q x s h hon
    have hout : lsOut s e (lsBundle q 0x7 x) = lsGetw (lsEnv s e) x := lsRun_on (env := lsEnv s e) rfl hon
    have hend := State.issueLs_remote h (by rw [hout]; exact fun _ => rfl) (by rw [hout]; rfl) (by rw [hout]; rfl) (by rw [hout]; rfl)
      (by rw [hout]; exact fun u _ => State.issued_issueRd u (u.engEpoch e.val) (u.engLid e.val) 0)
    rw [hout] at hend
    exact ⟨_, rfl, hend⟩
  case putw =>
    intro e q x s h hon
    have hcopy := copy_of_issues h
    have hout : lsOut s e (lsBundle q 0x8 x) = lsPutw (lsEnv s e) x := lsRun_on (env := lsEnv s e) rfl hon
    have hend := State.issueLs_remote h (by rw [hout]; exact fun _ => rfl) (by rw [hout]; rfl) (by rw [hout]; rfl) (by rw [hout]; rfl)
      (by
        rw [hout]
        intro u _
        rw [lsPutw, State.lsRemoteAct]
        dsimp only
        rw [if_pos hcopy]
        exact State.issued_issueWr u (u.engEpoch e.val) (u.engLid e.val) 0 _ _ _)
    rw [hout] at hend
    exact ⟨_, rfl, hend⟩
  case getb =>
    intro e q x s h hon
    have hout : lsOut s e (lsBundle q 0x9 x) = lsGetb (lsEnv s e) x := lsRun_on (env := lsEnv s e) rfl hon
    obtain ⟨hadv, -, -, hreq⟩ := State.issueLs_remote h (by rw [hout]; exact fun _ => rfl) (by rw [hout]; rfl) (by rw [hout]; rfl) (by rw [hout]; rfl)
      (by rw [hout]; exact fun u _ => State.issued_issueRd u (u.engEpoch e.val) (u.engLid e.val) _)
    exact ⟨_, rfl, hadv, hreq⟩
  case putb =>
    intro e q x s h hon
    have hcopy := copy_of_issues h
    have hleft := LsForm.blk_off rfl (LsForm.legal_of_issues h rfl)
    have hout : lsOut s e (lsBundle q 0xA x) = lsPutb (lsEnv s e) x := lsRun_on (env := lsEnv s e) rfl hon
    obtain ⟨hadv, -, -, hreq⟩ := State.issueLs_remote h (by rw [hout]; exact fun _ => rfl) (by rw [hout]; rfl) (by rw [hout]; rfl) (by rw [hout]; rfl)
      (by
        rw [hout]
        intro u hu
        rw [lsPutb, State.lsRemoteAct]
        dsimp only
        rw [if_pos hcopy]
        exact State.issued_putb hu hleft)
    exact ⟨_, rfl, hadv, hreq⟩
  case rsend =>
    intro e q x s h hon
    have hcopy := copy_of_issues h
    have hout : lsOut s e (lsBundle q 0xB x) = lsRsend (lsEnv s e) x := lsRun_on (env := lsEnv s e) rfl hon
    obtain ⟨hadv, -, -, hreq⟩ := State.issueLs_remote h (by rw [hout]; exact fun _ => rfl) (by rw [hout]; rfl) (by rw [hout]; rfl) (by rw [hout]; rfl)
      (by
        rw [hout]
        intro u _
        rw [lsRsend, State.lsRemoteAct]
        dsimp only
        rw [if_pos hcopy]
        exact ⟨rfl, _, rfl⟩)
    exact ⟨_, rfl, hadv, hreq⟩

end

section
/-! SUPPORT. The control instructions that end, stop, offer or post (R125, R126, R130, R173, R406). -/

open Sys2Proof.Stated

namespace Sys2Proof.Machine

set_option Elab.async false

variable {s t : State} {e : Eng} {q : Pred} {opc : Nat} {x : CArgs} {a : EngAct}

/-- A control slot alone in its bundle that writes nothing and does `a`. -/
theorem State.issueCtl_acts (h : Issues s e (ctlBundle q opc x)) (hout : ctlOut s e (ctlBundle q opc x) = { act := a })
    (hmf : ∀ rd i, a ≠ .mfsr rd i) (henq : ∀ k, a ≠ .enq k) :
    ∃ n c, c.busy = true ∧ (c.pc, c.loops) = nextPc (bank s e) a ∧
      RegsAre c (bank s e).getS (bank s e).getV (bank s e).getA (bank s e).getP (bank s e).flags ∧
      s.issueCtl e opc q x = (({ s with freeCtr := n } : State).effect e.val { act := a } {} c).bundleEnd e.val (Stated.eng s e) a := by
  obtain ⟨hf, hcauses, hcopy, hpc⟩ := h
  have hvec : vecRun (ctlBundle q opc x) (bank s e) = (bank s e, 0) := vecRun_nop ..
  have hls : lsOut s e (ctlBundle q opc x) = {} := lsRun_nop ..
  have hregs := regsAre_bankAfter (e := e) (u := ctlBundle q opc x) (bankWf_of_fetches hf) (by rw [hout, hls]; exact fun w hw => nomatch hw)
  obtain ⟨-, -, -, hbusy, -⟩ := bankAfter_frame s e (ctlBundle q opc x)
  have hrun := State.issueBundle_run hf hcauses (.inl fun k hk => henq k (by rw [hout] at hk; exact hk))
  have hpc' : (nextPc (bank s e) (ctlOut s e (ctlBundle q opc x)).act).1 ≤ 4095 := hpc
  rw [hout] at hrun hpc'
  obtain ⟨s0, c, ⟨n, rfl⟩, hc, heq⟩ := State.runBundle_eq (u := ctlBundle q opc x) (co := { act := a }) (lo := lsOut s e (ctlBundle q opc x)) hcopy
    (by rw [hvec]; exact Nat.zero_and _) hpc' (fun rd i => hmf rd i)
  have harch : c.arch = bankAfter s e (ctlBundle q opc x) := by rw [hc, bankAfter, hout]
  have hnext : ((bankAfter s e (ctlBundle q opc x)).pc, (bankAfter s e (ctlBundle q opc x)).loops) = nextPc (bank s e) a := by rw [bankAfter, hout]
  rw [← harch] at hregs hbusy hnext
  simp only [hout, hls, hvec, BitVec.or_zero, List.append_nil, Option.getD_none] at hregs
  refine ⟨n, c, hbusy.trans (busy_of_fetches hf), hnext, hregs, ?_⟩
  rw [State.issueCtl, State.issue_fetched hf (hitCtl_self opc q x), hrun, heq, hls]

/-! ## DONE (R125) -/

theorem State.effect_done (s : State) (k : Nat) (c : EBank) :
    s.effect k { act := .done } {} c = s.setEng k (({ s.engSt k with resv := none } : EngSt).setCur c) := rfl

/-- The wait of a DONE for its acknowledgements. -/
theorem State.bundleEnd_done {k : Nat} {c : EBank} (hbusy : c.busy = true) (hcur : (s.engSt k).cur = c) (y : EngSt) :
    ∃ i j, (s.bundleEnd k y .done).engSt k = (s.engSt k).setCur { c with cyc := i, stallMem := j, wait := .done } := by
  have hset (u : State) (hu : u.engSt k = s.engSt k) (i j : Nat) :
      (u.setEng k ((u.engSt k).setCur { c with cyc := i, stallMem := j, wait := .done })).engSt k =
        (s.engSt k).setCur { c with cyc := i, stallMem := j, wait := .done } := by
    rw [hu]
    exact State.engSt_setEng_busy (by rw [EngSt.cur_setCur]; exact hbusy) u k
  unfold State.bundleEnd
  rw [if_pos (show (EngAct.done == EngAct.done) = true from rfl), hcur]
  dsimp only
  split
  · exact ⟨c.cyc, c.stallMem, hset s rfl _ _⟩
  · exact ⟨_, _, hset _ rfl _ _⟩

theorem State.issue_done (h : Issues s e (ctlBundle q 0x48 x)) (hon : predOn q (bank s e) = true) :
    (bank (s.issueCtl e 0x48 q x) e).wait = .done ∧ (bank (s.issueCtl e 0x48 q x) e).pc = (nextPc (bank s e) .none).1 % 4096 ∧
      (Stated.eng (s.issueCtl e 0x48 q x) e).resv = none ∧
      RegsAre (bank (s.issueCtl e 0x48 q x) e) (bank s e).getS (bank s e).getV (bank s e).getA (bank s e).getP (bank s e).flags := by
  have hout : ctlOut s e (ctlBundle q 0x48 x) = { act := .done } := ctlRun_on (g := ctlDone) rfl hon
  obtain ⟨-, -, -, hpc⟩ := id h
  obtain ⟨n, c, hbusy, hnext, hregs, hrun⟩ := State.issueCtl_acts h hout (fun _ _ => nofun) (fun _ => nofun)
  replace hpc : (nextPc (bank s e) (ctlOut s e (ctlBundle q 0x48 x)).act).1 ≤ 4095 := hpc
  rw [hout] at hpc
  have hlt : (nextPc (bank s e) .none).1 < 4096 := Nat.lt_succ_of_le hpc
  rw [State.effect_done] at hrun
  have hcur := ({ s.engSt e.val with resv := none } : EngSt).cur_setCur c
  have hself : ((({ s with freeCtr := n } : State).setEng e.val (({ s.engSt e.val with resv := none } : EngSt).setCur c)).engSt e.val) = _ :=
    State.engSt_setEng_busy (by rw [hcur]; exact hbusy) _ _
  obtain ⟨i, j, hend⟩ := State.bundleEnd_done (k := e.val) hbusy (by rw [hself, hcur]) (Stated.eng s e)
  have heng : (s.issueCtl e 0x48 q x).engSt e.val = _ := (congrArg (fun t : State => t.engSt e.val) hrun).trans hend
  rw [hself] at heng
  have hbank : bank (s.issueCtl e 0x48 q x) e = { c with cyc := i, stallMem := j, wait := .done } := by rw [bank, heng, EngSt.cur_setCur]
  have hpcc : c.pc = (nextPc (bank s e) .none).1 := congrArg Prod.fst hnext
  refine ⟨by rw [hbank], ?_, ?_, by rw [hbank]; exact hregs⟩
  · rw [hbank, Nat.mod_eq_of_lt hlt]
    exact hpcc
  · rw [Stated.eng, heng, EngSt.resv_setCur, EngSt.resv_setCur]

/-! ## ENQ (R126) -/

theorem State.issueBundle_offer {v : Bundle} {k : Nat} (h : Fetches s e v) (hc : causesOf s e v = []) (hact : (ctlOut s e v).act = .enq k)
    (hcopy : (bank s e).copy = 0) (hwait : (bank s e).wait ≠ .enqTaken) : s.issueBundle e.val v = s.offerEnq e.val k := by
  obtain ⟨-, -, -, -, -, -, hpend, hstall⟩ := h
  have hlow : lowest (causesOf s e v) = none := by rw [hc]; rfl
  unfold State.issueBundle
  extract_lets y b keys env co lo cs
  rw [if_neg (Bool.eq_false_iff.mp hpend)]
  have hcs : lowest cs = none := hlow
  rw [hcs]
  dsimp only
  rw [if_neg (Bool.eq_false_iff.mp hstall)]
  have hco : co.act = .enq k := hact
  rw [hco]
  exact if_pos ⟨hcopy, hwait⟩

/-- The item joins those that the input holds. -/
theorem State.input_pushInput (s : State) (i : Nat) (m : EnqItem) : (s.pushInput i m).input i = s.input i ++ [m] :=
  SMap.get_set_of_ne (by simp)

theorem State.offerEnq_offers {k a : Nat} (hbusy : (s.engSt k).cur.busy = true) (hroom : s.inputRoom (2 + 4 * engTile k) = true) :
    ((s.offerEnq k a).engSt k).cur = { (s.engSt k).cur with wait := .enqOffered } ∧
      (s.offerEnq k a).input (2 + 4 * engTile k) = s.input (2 + 4 * engTile k) ++
        [enqItem (.engine k) (engReq k) (s.engEpoch k) (s.engLid k) false (enqWords (s.engSt k) k a)] := by
  have hfix := State.onlyFixes_engCorrectAll hbusy ((s.engSt k).fixesIn k (a / 16) 4)
  unfold State.offerEnq
  dsimp only
  rw [if_pos hroom]
  generalize s.engCorrectAll k false ((s.engSt k).fixesIn k (a / 16) 4) = u at hfix ⊢
  have hcur : ((u.engSt k).setCur { (u.engSt k).cur with wait := .enqOffered }).cur = { (u.engSt k).cur with wait := .enqOffered } := EngSt.cur_setCur ..
  have hmark : (u.markEnq k).engSt k = (u.engSt k).setCur { (u.engSt k).cur with wait := .enqOffered } :=
    State.engSt_setEng_busy (by rw [hcur]; exact hfix.busy hbusy) u k
  have hin : (u.markEnq k).input (2 + 4 * engTile k) = s.input (2 + 4 * engTile k) := by
    have hsch : (u.markEnq k).sch = s.sch := hfix.sch
    rw [State.input, State.input, hsch]
  constructor
  · have hpush (i : Nat) (m : EnqItem) : ((u.markEnq k).pushInput i m).engSt k = (u.markEnq k).engSt k := rfl
    rw [hpush, hmark, hcur, hfix.fixed.cur]
  · rw [State.input_pushInput, hin]

/-! ## EVPOST (R173) -/

theorem State.effect_evpost (s : State) (k i f : Nat) (c : EBank) :
    s.effect k { act := .evpost i f } {} c = (s.setEng k ((s.engSt k).setCur c)).postEvent i f := rfl

theorem ofNat_two_pow (f : Nat) : BitVec.ofNat 32 (2 ^ f) = 1#32 <<< f := by
  refine BitVec.eq_of_toNat_eq ?_
  simp [Nat.shiftLeft_eq]

/-- A context with a flag set is not the free one. -/
theorem TaskCtx.ne_of_flag {c : TaskCtx} {w : Word} {f : Nat} (hf : f < 32) (h : c.flags = w ||| BitVec.ofNat 32 (2 ^ f)) : c ≠ {} := by
  intro he
  have hzero : w ||| BitVec.ofNat 32 (2 ^ f) = 0#32 := by rw [← h, he]; rfl
  obtain ⟨-, hbit⟩ := BitVec.or_eq_zero_iff.mp hzero
  have hpow : 2 ^ f < 2 ^ 32 := Nat.pow_lt_pow_right (by decide) hf
  have hnat := congrArg BitVec.toNat hbit
  rw [BitVec.toNat_ofNat, Nat.mod_eq_of_lt hpow] at hnat
  exact absurd hnat (Nat.two_pow_pos f).ne'

/-- R173: the flag sets, and a task that waits for it becomes ready. -/
theorem State.setFlag_sets (s : State) (k : Nat) {f : Nat} (hf : f < 32) :
    ((s.setFlag k f).ctx k).flags = (s.ctx k).flags ||| BitVec.ofNat 32 (2 ^ f) ∧ (s.setFlag k f).eng = s.eng := by
  unfold State.setFlag
  extract_lets c c1 s1
  have hself : s1.ctx k = c1 := State.ctx_setCtx_self (TaskCtx.ne_of_flag hf rfl) s k
  split
  · refine ⟨?_, rfl⟩
    have hready := State.ctx_setCtx_self (c := { s1.ctx k with st := .ready, ready := s1.sch.readyNo + 1, restarted := false })
      (TaskCtx.ne_of_flag hf (congrArg TaskCtx.flags hself)) { s1 with sch := { s1.sch with readyNo := s1.sch.readyNo + 1 } } k
    exact (congrArg TaskCtx.flags hready).trans (congrArg TaskCtx.flags hself)
  · exact ⟨by rw [hself], rfl⟩

theorem State.issue_evpost (h : Issues s e (ctlBundle q 0x4A x)) (hon : predOn q (bank s e) = true) (hinit : s.schInit = false) :
    Advances s (s.issueCtl e 0x4A q x) e .none ∧
      ((s.issueCtl e 0x4A q x).ctx (bitsOf (ra (bank s e) x) 13 0)).flags =
        (s.ctx (bitsOf (ra (bank s e) x) 13 0)).flags ||| (1#32 <<< bitsOf x.imm 4 0) := by
  have hout : ctlOut s e (ctlBundle q 0x4A x) = { act := .evpost ((ra (bank s e) x).toNat % 16384) (x.imm.toNat % 32) } :=
    ctlRun_on (g := ctlEvpost) rfl hon
  have hk : bitsOf (ra (bank s e) x) 13 0 = (ra (bank s e) x).toNat % 16384 := by simp [bitsOf]
  have hf : x.imm.toNat % 32 < 32 := Nat.mod_lt _ (by decide)
  obtain ⟨n, c, hbusy, hnext, -, hrun⟩ := State.issueCtl_acts h hout (fun _ _ => nofun) (fun _ => nofun)
  rw [State.effect_evpost] at hrun
  have hcur := (s.engSt e.val).cur_setCur c
  obtain ⟨u, hu⟩ : ∃ u, ({ s with freeCtr := n } : State).setEng e.val ((s.engSt e.val).setCur c) = u := ⟨_, rfl⟩
  have hself : u.engSt e.val = (s.engSt e.val).setCur c := by
    rw [← hu]
    exact State.engSt_setEng_busy (by rw [hcur]; exact hbusy) _ _
  have hpost : u.postEvent ((ra (bank s e) x).toNat % 16384) (x.imm.toNat % 32) = u.setFlag ((ra (bank s e) x).toNat % 16384) (x.imm.toNat % 32) := by
    have huinit : u.schInit = false := by rw [← hu]; exact hinit
    rw [State.postEvent, huinit, if_neg Bool.false_ne_true]
  have hueng : (({ s with freeCtr := n } : State).setEng e.val ((({ s with freeCtr := n } : State).engSt e.val).setCur c)) = u := hu
  have huctx (j : Nat) : u.ctx j = s.ctx j := by rw [← hu]; rfl
  rw [hueng, hpost] at hrun
  obtain ⟨hflags, heng⟩ := u.setFlag_sets ((ra (bank s e) x).toNat % 16384) hf
  have hend : (u.setFlag ((ra (bank s e) x).toNat % 16384) (x.imm.toNat % 32)).bundleEnd e.val (Stated.eng s e)
      (.evpost ((ra (bank s e) x).toNat % 16384) (x.imm.toNat % 32)) =
      (u.setFlag ((ra (bank s e) x).toNat % 16384) (x.imm.toNat % 32)).stepOver e.val (Stated.eng s e).stepping := rfl
  rw [hend] at hrun
  generalize u.setFlag ((ra (bank s e) x).toNat % 16384) (x.imm.toNat % 32) = v at hflags heng hrun
  have hvcur : (v.engSt e.val).cur = c := by rw [State.engSt_congr heng, hself, hcur]
  have hctx (j : Nat) : (v.stepOver e.val (Stated.eng s e).stepping).ctx j = v.ctx j := by
    unfold State.stepOver
    split <;> rfl
  constructor
  · rw [Advances, hrun, bank, State.stepOver_cur (by rw [hvcur]; exact hbusy), hvcur]
    exact hnext
  · rw [hrun, hctx, hk, hflags, huctx, bitsOf_shift, ofNat_two_pow]

/-! ## BRK (R406) -/

/-- R411: a trigger halts no engine that is halted, and writes no register but that of the triggers. -/
theorem State.fire_halted {k : Nat} (h : s.halted k = true) (m : Nat) :
    (∀ o, o ≠ oTrigSt → (s.fire m).reg o = s.reg o) ∧ (s.fire m).engSt k = s.engSt k := by
  unfold State.fire
  extract_lets old rise s1 s2
  have h1 (o : Nat) (ho : o ≠ oTrigSt) : s1.reg o = s.reg o := State.reg_setFld_ne ho.symm _ _ _
  have hhalt : s1.halted k = true := by
    have hne : oEcfg k ≠ oTrigSt := by
      unfold oEcfg oTrigSt
      omega
    rw [State.halted, State.bit, State.fld, h1 _ hne]
    exact h
  have h2 : s2.regs = s1.regs ∧ s2.engSt k = s1.engSt k := by
    refine List.foldlRecOn s1.cfgEngines _ (motive := fun r => State.regs r = s1.regs ∧ State.engSt r k = s1.engSt k) ⟨rfl, rfl⟩ ?_
    intro r hr f _
    obtain ⟨hregs, heng⟩ := hr
    split
    · next hc =>
      have hne : k ≠ f := by
        rintro rfl
        have hhalt' : r.halted k = true := by
          rw [State.halted, State.bit, State.fld, State.reg, hregs]
          exact hhalt
        exact absurd (hhalt'.symm.trans hc.2.1) (by decide)
      exact ⟨hregs, (State.engSt_setEng_ne hne _ _).trans heng⟩
    · exact ⟨hregs, heng⟩
  have h3 (o : Nat) (ho : o ≠ oTrigSt) : s2.reg o = s.reg o := by rw [State.reg, h2.1, ← State.reg, h1 o ho]
  split
  · exact ⟨fun _ _ => rfl, rfl⟩
  split
  · exact ⟨h3, h2.2⟩
  · exact ⟨h3, h2.2⟩

/-- R406: DBG_ECFG of an engine as it halts. -/
def State.setHalt (s : State) (k cause : Nat) : State := (s.setBit (oEcfg k) 31 true).setFld (oEcfg k) 30 28 cause

theorem State.setHalt_halts {k cause : Nat} (hwf : State.regsWf s = true) (hc : cause < 8) :
    (s.setHalt k cause).halted k = true ∧ (s.setHalt k cause).fld (oEcfg k) 30 28 = cause := by
  have hwf1 : State.regsWf (s.setBit (oEcfg k) 31 true) = true := State.wf_setBit hwf _ _ _
  have hbit := State.bit_setBit_self hwf (oEcfg k) (k := 31) true (by decide)
  rw [State.bit] at hbit
  constructor
  · rw [State.setHalt, State.halted, State.bit, State.fld_setFld_beside hwf1 _ _ (by decide) (by decide) (by decide)]
    exact hbit
  · rw [State.setHalt, State.fld_setFld_self hwf1 _ _ (by decide) (by decide)]
    exact Nat.mod_eq_of_lt hc

theorem State.setHalt_eng (s : State) (k cause : Nat) : (s.setHalt k cause).eng = s.eng := by
  rw [State.setHalt, State.setFld_eng, State.setBit_eng]

/-- The engine as it halts, before its registers say so: its reservation is gone, and an offered descriptor is withdrawn. -/
def State.stopIssue (s : State) (k : Nat) : State :=
  let y := s.engSt k
  let b := y.cur
  let s1 := s.setEng k (({ y with resv := none, haltDue := 0, stepping := false } : EngSt).setCur
    { b with wait := if b.wait = EWait.enqOffered then .none else b.wait })
  if b.wait = EWait.enqOffered then s1.withdrawEng k else s1

theorem State.haltEngine_eq (s : State) (k : Nat) {cause : Nat} (hc : ¬(cause = 3 ∨ cause = 5)) :
    s.haltEngine k cause = ((s.stopIssue k).setHalt k cause).fire (((s.stopIssue k).setHalt k cause).fld (oEcfg k) 15 8) := by
  unfold State.haltEngine
  extract_lets y b s1 s2 s3
  have h2 : s2 = s.stopIssue k := by
    unfold State.stopIssue
    extract_lets
    exact rfl
  have h3 : s3 = (s.stopIssue k).setHalt k cause := by
    unfold State.setHalt
    rw [← h2]
  rw [if_neg hc, h3]

theorem State.stopIssue_resv {k : Nat} (hbusy : (s.engSt k).cur.busy = true) : ((s.stopIssue k).engSt k).resv = none ∧ (s.stopIssue k).regs = s.regs := by
  unfold State.stopIssue
  extract_lets y b s1
  have hself : s1.engSt k = ({ y with resv := none, haltDue := 0, stepping := false } : EngSt).setCur
      { b with wait := if b.wait = EWait.enqOffered then .none else b.wait } :=
    State.engSt_setEng_busy (by rw [EngSt.cur_setCur]; exact hbusy) s k
  have hresv : (s1.engSt k).resv = none := by rw [hself, EngSt.resv_setCur]
  have hwith (u : State) : (u.withdrawEng k).eng = u.eng ∧ (u.withdrawEng k).regs = u.regs := ⟨rfl, rfl⟩
  split
  · exact ⟨by rw [State.engSt_congr (hwith s1).1]; exact hresv, (hwith s1).2⟩
  · exact ⟨hresv, rfl⟩

/-- R406, R408: the engine halts with CAUSE 2, and its reservation is gone. -/
theorem State.haltEngine_halts {k : Nat} (hregs : State.regsWf s = true) (hbusy : (s.engSt k).cur.busy = true) :
    (s.haltEngine k 2).halted k = true ∧ (s.haltEngine k 2).fld (oEcfg k) 30 28 = 2 ∧ ((s.haltEngine k 2).engSt k).resv = none := by
  obtain ⟨hresv, hkept⟩ := State.stopIssue_resv hbusy
  have hwf : State.regsWf (s.stopIssue k) = true := by rw [State.regsWf, hkept]; exact hregs
  obtain ⟨hhalt, hcause⟩ := State.setHalt_halts (k := k) (cause := 2) hwf (by decide)
  have heng := State.engSt_congr ((s.stopIssue k).setHalt_eng k 2) k
  have hne : oEcfg k ≠ oTrigSt := by
    unfold oEcfg oTrigSt
    omega
  rw [State.haltEngine_eq s k (cause := 2) (by decide)]
  generalize (s.stopIssue k).setHalt k 2 = u at hhalt hcause heng ⊢
  obtain ⟨hreg, hsame⟩ := State.fire_halted hhalt (u.fld (oEcfg k) 15 8)
  refine ⟨?_, ?_, by rw [hsame, heng]; exact hresv⟩
  · rw [State.halted, State.bit, State.fld, hreg _ hne]
    exact hhalt
  · rw [State.fld, hreg _ hne]
    exact hcause

theorem State.effect_brk (s : State) (k : Nat) (c : EBank) : s.effect k { act := .brk } {} c = s.setEng k ((s.engSt k).setCur c) := rfl

theorem State.bundleEnd_brk (s : State) (k : Nat) (y : EngSt) : s.bundleEnd k y .brk = s.haltEngine k 2 := by
  unfold State.bundleEnd
  rw [if_neg (by decide), if_pos rfl]

theorem State.issue_brk (hregs : State.regsWf s = true) (h : Issues s e (ctlBundle q 0x4E x)) (hon : predOn q (bank s e) = true) :
    (s.issueCtl e 0x4E q x).halted e.val = true ∧ (s.issueCtl e 0x4E q x).fld (oEcfg e.val) 30 28 = 2 ∧
      (Stated.eng (s.issueCtl e 0x4E q x) e).resv = none := by
  have hout : ctlOut s e (ctlBundle q 0x4E x) = { act := .brk } := ctlRun_on (g := ctlBrk) rfl hon
  obtain ⟨n, c, hbusy, -, -, hrun⟩ := State.issueCtl_acts h hout (fun _ _ => nofun) (fun _ => nofun)
  rw [State.effect_brk] at hrun
  have hcur := (s.engSt e.val).cur_setCur c
  obtain ⟨u, hu⟩ : ∃ u, ({ s with freeCtr := n } : State).setEng e.val ((({ s with freeCtr := n } : State).engSt e.val).setCur c) = u := ⟨_, rfl⟩
  have hself : u.engSt e.val = (s.engSt e.val).setCur c := by
    rw [← hu]
    exact State.engSt_setEng_busy (by rw [EngSt.cur_setCur]; exact hbusy) _ _
  have hwf : State.regsWf u = true := by rw [← hu]; exact hregs
  rw [hu, State.bundleEnd_brk] at hrun
  rw [hrun]
  exact State.haltEngine_halts hwf (by rw [hself, hcur]; exact hbusy)

/-! ## TRAP (R128) -/

theorem State.issue_softTrap (hinv : Stated.Inv s) (h : Fetches s e (ctlBundle q 0x4C x)) (hon : predOn q (bank s e) = true)
    (hcauses : causesOf s e (ctlBundle q 0x4C x) = [(causeSoft, 0, 0)]) (hcopy : (bank s e).copy = 0)
    (hother : ((Stated.eng s e).bank (!(Stated.eng s e).active)).cause = none) :
    ((Stated.eng (s.issueCtl e 0x4C q x) e).bank (Stated.eng s e).active).busy = false ∧
      (s.issueCtl e 0x4C q x).reg (oEng e.val + 0x100) = BitVec.ofNat 32 (0xA0000000 + bitsOf x.imm 7 0 * 0x10000 + 10) ∧
      (s.issueCtl e 0x4C q x).reg (oEng e.val + 0x104) = BitVec.ofNat 32 ((bank s e).pc % 4096) ∧
      ((s.ctx (bank s e).tid).st ≠ .free → ((s.issueCtl e 0x4C q x).ctx (bank s e).tid).report = some ⟨1, 10, (bank s e).cyc, true⟩) := by
  have hout : ctlOut s e (ctlBundle q 0x4C x) = { act := .trap (x.imm.toNat % 256) } := ctlRun_on (g := ctlTrap) rfl hon
  have hcode : bitsOf x.imm 7 0 = x.imm.toNat % 256 := by simp [bitsOf]
  obtain ⟨⟨hfree, -, -, -⟩, hcause, hpc, hreport⟩ := State.issue_trap hinv h (hitCtl_self 0x4C q x) (by rw [hcauses]; rfl) hcopy hother
  have hcr : (bundleTrap s e (ctlBundle q 0x4C x) causeSoft 0).causeReg = BitVec.ofNat 32 (0xA0000000 + bitsOf x.imm 7 0 * 0x10000 + 10) := by
    have hmult : severalCauses (causesOf s e (ctlBundle q 0x4C x)) causeSoft = false := by rw [hcauses]; rfl
    have hsw : (ctlOut s e (ctlBundle q 0x4C x)).act.softCode causeSoft = x.imm.toNat % 256 := by rw [hout]; rfl
    simp only [TrapInfo.causeReg, bundleTrap, hmult, hsw, hcode, Bool.false_eq_true, if_false, if_true, Nat.mod_mod]
    refine congrArg (BitVec.ofNat 32) ?_
    unfold causeSoft
    omega
  have hpr : (bundleTrap s e (ctlBundle q 0x4C x) causeSoft 0).pcReg = BitVec.ofNat 32 ((bank s e).pc % 4096) := by
    have hslot : slotOf (causesOf s e (ctlBundle q 0x4C x)) causeSoft = 0 := by rw [hcauses]; rfl
    simp only [TrapInfo.pcReg, bundleTrap, hslot, Nat.zero_mul, Nat.zero_add]
  exact ⟨hfree, hcause.trans hcr, hpc.trans hpr, hreport⟩

end Sys2Proof.Machine
end

section
open Sys2Proof Sys2Proof.Machine Sys2Proof.Stated

/-- Settles O7: each ending by the lemma of its instruction. -/
theorem controlEndsComplete : Obligations.ControlEndsComplete := by
  unfold Obligations.ControlEndsComplete
  refine ⟨fun e q x s h hon => ⟨_, rfl, State.issue_done h hon⟩, ?offered, ?taken, fun e q x s h hon hinit => ⟨_, rfl, State.issue_evpost h hon hinit⟩,
    fun e q x s hinv h hon hcauses hcopy hother => ⟨_, rfl, State.issue_softTrap hinv h hon hcauses hcopy hother⟩,
    fun e q x s hinv h hon _ => ⟨_, rfl, State.issue_brk hinv.1 h hon⟩, ctlOff fun _ _ _ _ => rfl, ctlOff fun _ _ _ _ => rfl,
    ctlOff fun _ _ _ _ => rfl, ctlOff fun _ _ _ _ => rfl, ctlOff fun _ _ _ _ => rfl⟩
  case offered =>
    intro e q x s h hon hwait hroom
    obtain ⟨hf, hcauses, hcopy, -⟩ := h
    have hout : ctlOut s e (ctlBundle q 0x49 x) = { act := .enq (ra (bank s e) x).toNat } := ctlRun_on (g := ctlEnq) rfl hon
    obtain ⟨hbank, hin⟩ := State.offerEnq_offers (a := (ra (bank s e) x).toNat) (busy_of_fetches hf) hroom
    have hrun : s.issueCtl e 0x49 q x = s.offerEnq e.val (ra (bank s e) x).toNat := by
      rw [State.issueCtl, State.issue_fetched hf (hitCtl_self 0x49 q x),
        State.issueBundle_offer hf hcauses (by rw [hout]) hcopy (by rw [hwait]; decide)]
    refine ⟨_, rfl, ?_⟩
    rw [hrun, bank, hbank]
    exact ⟨rfl, rfl, hin⟩
  case taken =>
    intro e q x s h hon hwait
    have hout : ctlOut s e (ctlBundle q 0x49 x) = { act := .enq (ra (bank s e) x).toNat } := ctlRun_on (g := ctlEnq) rfl hon
    have hend := State.issueCtl_completes h (by rw [hout]; rfl) (.inr hwait) (by rw [hout]; exact fun w hw => nomatch hw)
    rw [hout] at hend
    exact ⟨_, rfl, hend⟩

end

section
/-! SUPPORT. The window of an engine (R123, R135, R136, R199 to R203): a request that reaches the engine's port, and a response that reaches its
requester. -/

open Sys2Proof.Stated

namespace Sys2Proof.Machine

set_option Elab.async false

variable {s u : State} {p : Pkt} {d : Dest} {r : Rsp} {req : OutReq} {e l o : Nat} {write w : Bool}

/-! ## A request on its way -/

theorem State.crossFlits_frame (s : State) (a b n : Nat) : ∃ m, s.crossFlits a b n = { s with lnk := m } := by
  unfold State.crossFlits
  split
  · exact ⟨s.lnk, rfl⟩
  · exact ⟨_, rfl⟩

/-- Flits on their way stand in retry buffers alone. -/
theorem State.pathFlits_frame (s : State) (way : List Nat) (n : Nat) : ∃ m, s.pathFlits way n = { s with lnk := m } := by
  unfold State.pathFlits
  generalize stepsOf way = steps
  induction steps generalizing s with
  | nil => exact ⟨s.lnk, rfl⟩
  | cons x steps ih =>
    obtain ⟨m, hm⟩ := s.crossFlits_frame x.1 x.2 n
    obtain ⟨m', hm'⟩ := ih (s.crossFlits x.1 x.2 n)
    exact ⟨m', by rw [List.foldl_cons, hm', hm]⟩

/-- A packet on its way: its flits in retry buffers, its way kept with the request. -/
theorem State.onWay_frame (s : State) (p : Pkt) (write : Bool) (way : List Nat) (n : Nat) :
    ∃ m q, (s.pathFlits way n).onWay p write way = { s with lnk := m, net := { s.net with outst := q } } := by
  obtain ⟨m, hm⟩ := s.pathFlits_frame way n
  rw [hm]
  exact ⟨m, _, rfl⟩

theorem State.behind_of_empty (h : s.net.msgs = []) (m : NetMsg) : s.behind m = false := by
  unfold State.behind
  split
  · rfl
  · rw [h]
    rfl

theorem State.unsend_of_empty (h : s.net.msgs = []) (m : NetMsg) : s.unsend m = s := by
  rw [State.unsend, h, List.erase_nil, ← h]

/-- R206: where every request of the source is on the way that this one takes, no pair has to wait. -/
theorem State.noteMoved_same (hway : ∀ q ∈ s.net.outst, q.src = p.src.toNat → q.way = [] ∨ q.way = s.wayTo s.routeEnv p.src.toNat d) :
    s.noteMoved p d = s := by
  have hold (q : OutReq) (hq : q ∈ s.net.outst) : ¬(q.src == p.src.toNat && !q.way.isEmpty && q.way != s.wayTo s.routeEnv p.src.toNat d &&
      (s.addrDest q.addr).any (fun e => e.code == d.code)) = true := by
    intro h
    simp only [Bool.and_eq_true, beq_iff_eq, Bool.not_eq_true', bne_iff_ne, List.isEmpty_eq_false_iff] at h
    obtain ⟨⟨⟨hsrc, hne⟩, hother⟩, -⟩ := h
    exact (hway q hq hsrc).elim hne hother
  unfold State.noteMoved
  extract_lets way old
  exact if_pos (.inl (List.filter_eq_nil_iff.mpr hold))

/-- A request that reaches a router whose unit is ON goes to the unit of its region. -/
theorem State.request_engine (h : Stated.Reaches s write p d) (hreg : regionOf (pktAddr p) = some .engine) :
    ∃ m q, s.request write p = ({ s with lnk := m, net := { s.net with outst := q } } : State).engServe write p := by
  obtain ⟨hhub, hmsgs, hwaits, hdie, hform, hshut, hdest, hon, hlast, hroom, hway⟩ := h
  obtain ⟨m, q, hframe⟩ := s.onWay_frame p write (s.wayTo s.routeEnv p.src.toNat d) (reqFlits write p)
  refine ⟨m, q, ?_⟩
  have hheld : s.pairHeld p d = false := by
    rw [State.pairHeld, hwaits]
    rfl
  have hserve : s.serve write p = some (({ s with lnk := m, net := { s.net with outst := q } } : State).engServe write p) := by
    simp only [State.serve, hdie, hform, hshut, hdest, hheld, hon, hlast, hroom, hframe, hreg, Bool.false_eq_true, if_false, ne_eq,
      not_true_eq_false, Bool.true_eq_false]
  unfold State.request
  rw [hhub, if_neg Bool.true_eq_false.mp, State.behind_of_empty hmsgs, if_neg Bool.false_ne_true, hdest]
  dsimp only
  rw [State.noteMoved_same hway, State.unsend_of_empty hmsgs, hserve]

/-! ## The port of an engine -/

theorem regionOf_toEngine (h : Stated.ToEngine s p l o) : regionOf (pktAddr p) = some .engine := by
  obtain ⟨haddr, hl, ho, -⟩ := h
  have hlow : ¬pktAddr p < dramTop := by
    rw [haddr]
    unfold engBase dramTop
    omega
  have hin : engBase ≤ pktAddr p ∧ pktAddr p < engBase + 0x10000000 := by omega
  rw [regionOf, if_neg hlow, if_pos hin]

/-- A packet of one inline word is aligned to 16 bytes. -/
theorem aligned_toEngine (h : Stated.ToEngine s p l o) : o % 16 = 0 := by
  obtain ⟨haddr, -⟩ := h
  unfold pktAddr engBase at haddr
  omega

/-- A request of the current epoch to an engine that is placed and ON reaches the engine's port. -/
theorem State.engServe_port (h : Stated.ToEngine s p l o) :
    s.engServe write p = if write then s.engPortWrite (s.le l).phys o p else s.engPortRead (s.le l).phys o p := by
  obtain ⟨haddr, hl, ho, -, -, -, hdbg, htake, hplaced, hon, hold⟩ := h
  have hoff : (pktAddr p - engBase) % 0x40000 = o := by omega
  have hlog : (pktAddr p - engBase) / 0x40000 = l := by omega
  unfold State.engServe
  rw [hoff, hlog]
  dsimp only
  rw [htake, if_neg (by decide), if_neg hplaced, hon, if_neg (by decide), hold, if_neg Bool.false_ne_true, if_neg hdbg]

/-- One inline word with all its bytes. -/
theorem pktWords_whole (hlen : p.len = 0) (hbe : p.be = 0xFFFF) : pktWords p = [(0, 0xFF, 0xFF)] := by
  rw [pktWords, pktBytes, hlen, hbe]
  rfl

theorem bytesLE_eq (n x : Nat) : bytesLE n x = (List.range n).map (fun i => BitVec.ofNat 8 (x / 256 ^ i)) := by
  induction n generalizing x with
  | zero => rfl
  | succ n ih =>
    rw [bytesLE, ih, List.range_succ_eq_map, List.map_cons, List.map_map]
    refine congrArg₂ _ (by rw [pow_zero, Nat.div_one]) (List.map_congr_left fun i _ => ?_)
    rw [Function.comp_apply, Nat.div_div_eq_div_mul, Nat.pow_succ']

theorem bytesLE_granule (v : DWord) : bytesLE 8 v.toNat = (List.range 8).map (byteOf v) := by
  rw [bytesLE_eq]
  refine List.map_congr_left fun i _ => BitVec.eq_of_toNat_eq ?_
  rw [byteOf, BitVec.toNat_ofNat, BitVec.toNat_setWidth, BitVec.toNat_ushiftRight, Nat.shiftRight_eq_div_pow, Nat.pow_mul]

/-- The 16 bytes of two granules are the bytes of the data memory. -/
theorem bytesLE_dmByte (x : EngSt) (e : Nat) (ho : o % 16 = 0) :
    bytesLE 8 (x.readGran e false (o / 8)).1.toNat ++ bytesLE 8 (x.readGran e false (o / 8 + 1)).1.toNat =
      (List.range 16).map (fun i => (dmByte x e (o + i)).1) := by
  rw [bytesLE_granule, bytesLE_granule, show (16 : Nat) = 8 + 8 from rfl, List.range_add, List.map_append, List.map_map]
  refine congrArg₂ _ (List.map_congr_left fun i hi => ?_) (List.map_congr_left fun i hi => ?_) <;> rw [List.mem_range] at hi
  · rw [dmByte_eq, show (o + i) / 8 = o / 8 by omega, show (o + i) % 8 = i by omega]
  · rw [Function.comp_apply, dmByte_eq, show (o + (8 + i)) / 8 = o / 8 + 1 by omega, show (o + (8 + i)) % 8 = i by omega]

/-- R135: a granule that is clean is read and not corrected. -/
theorem EngSt.portRead_clean {x : EngSt} {k be : Nat} (hbe : be ≠ 0) (h : (x.readGran e false k).2 = .clean) :
    x.portRead e false k be = ((x.readGran e false k).1, false, [], false) := by
  simp only [EngSt.portRead, if_neg hbe, h]
  rfl

theorem State.engPortRead_clean (hlen : p.len = 0) (hbe : p.be = 0xFFFF) (ho : o < 0x30000) (hal : o % 16 = 0)
    (h : ∀ i, i < 16 → (dmByte (s.engSt e) e (o + i)).2 = .clean) :
    s.engPortRead e o p = s.answer p false 0 false ((List.range 16).map (fun i => (dmByte (s.engSt e) e (o + i)).1)) := by
  have hlow : ((s.engSt e).readGran e false (o / 8)).2 = .clean := h 0 (by decide)
  have hhigh : ((s.engSt e).readGran e false (o / 8 + 1)).2 = .clean := by
    have h8 := h 8 (by decide)
    rw [dmByte_eq, show (o + 8) / 8 = o / 8 + 1 by omega] at h8
    exact h8
  rw [← bytesLE_dmByte _ _ hal]
  unfold State.engPortRead
  rw [pktWords_whole hlen hbe, decide_eq_false (Nat.not_le_of_lt ho)]
  simp only [Bool.false_eq_true, if_false, List.flatMap_cons, List.flatMap_nil, List.append_nil,
    Nat.mul_zero, Nat.add_zero, EngSt.portRead_clean (show 0xFF ≠ 0 by decide) hlow, EngSt.portRead_clean (show 0xFF ≠ 0 by decide) hhigh,
    List.any_cons, List.any_nil, Bool.or_false]
  rfl

/-- R136: a whole granule is written without a read. -/
theorem EngSt.writeGran_whole (x : EngSt) (e k : Nat) (v : DWord) : x.writeGran e k v 0xFF false = (x.setGran false k (mkGran v), false, []) := rfl

theorem ofBytesLE_inl (v : Quad) : BitVec.ofNat 128 (ofBytesLE ((bytesLE 16 v.toNat).take 16)) = v := by
  rw [List.take_of_length_le (length_bytesLE 16 v.toNat).le, ofBytesLE_bytesLE, show 256 ^ 16 = 2 ^ 128 by norm_num,
    Nat.mod_eq_of_lt v.isLt, BitVec.ofNat_toNat, BitVec.setWidth_eq]

theorem State.engPortWrite_whole (hlen : p.len = 0) (hbe : p.be = 0xFFFF) (hpoison : p.poison = false) (ho : o < 0x30000) (hal : o % 16 = 0) :
    s.engPortWrite e o p = (s.setEng e ((s.engSt e).writeWord false (o / 16) p.inl)).answer p true 0 false [] := by
  have hdata : pktData p = bytesLE 16 p.inl.toNat := by rw [pktData, if_pos hlen]
  unfold State.engPortWrite
  rw [pktWords_whole hlen hbe, decide_eq_false (Nat.not_le_of_lt ho), hdata, hpoison]
  simp only [Bool.false_eq_true, if_false, List.foldl_cons, List.foldl_nil, Nat.mul_zero, Nat.add_zero, List.drop_zero, ofBytesLE_inl,
    EngSt.writeGran_whole, Bool.or_false, show o / 8 = 2 * (o / 16) by omega]
  rfl

/-- An engine with a granule written is listed, so it reads back whatever the table. -/
theorem State.engSt_setEng_writeWord (s : State) (e w : Nat) (x : EngSt) (v : Quad) :
    (s.setEng e (x.writeWord false w v)).engSt e = x.writeWord false w v := by
  refine SMap.get_set_of_ne fun he => ?_
  have hfind : SMap.find (x.writeWord false w v).dmem (2 * w + 1) = some (mkGran ((v >>> 64).setWidth 64)) := SMap.find_insert_self
  rw [he] at hfind
  cases hfind

/-- A word read is answered in one flit. -/
theorem State.answer_word (s : State) (p : Pkt) {data : List Byte} (h : data.length = 16) :
    s.answer p false 0 false data = s.send (.rdrsp ⟨2, 0, false, p.src, p.tag, 0, false, data⟩) := by
  simp only [State.answer, Nat.zero_ne_one, if_false, h]
  rfl

theorem State.answer_write (s : State) (p : Pkt) : s.answer p true 0 false [] = s.send (.wrack ⟨3, 0, false, p.src, p.tag, 0, false, []⟩) := rfl

/-- What a request finds at the engine's port: nothing on the network, and the engines and registers as they were. -/
theorem State.request_port (hreach : Stated.Reaches s write p d) (heng : Stated.ToEngine s p l o) :
    ∃ u : State, u.net.msgs = [] ∧ u.eng = s.eng ∧ u.regs = s.regs ∧
      s.request write p = if write then u.engPortWrite (s.le l).phys o p else u.engPortRead (s.le l).phys o p := by
  obtain ⟨m, q, hgo⟩ := State.request_engine hreach (regionOf_toEngine heng)
  obtain ⟨-, hmsgs, -⟩ := hreach
  obtain ⟨u, hu⟩ : ∃ u : State, { s with lnk := m, net := { s.net with outst := q } } = u := ⟨_, rfl⟩
  have hport : Stated.ToEngine u p l o := by rw [← hu]; exact heng
  have hle : u.le l = s.le l := by rw [← hu]; rfl
  refine ⟨u, by rw [← hu]; exact hmsgs, by rw [← hu], by rw [← hu], ?_⟩
  rw [hgo, hu, State.engServe_port hport, hle]

/-! ## Responses -/

/-- R123: an engine with fewer than 16 accesses outstanding has not stalled for them. -/
theorem State.markLate_same (h : ∀ f v g, req.kind.owner = some (f, v, g) → u.engOut f < 16) : u.markLate req = u := by
  unfold State.markLate
  split
  · rfl
  · next f v g hown => exact if_neg (Nat.not_le_of_lt (h f v g hown))

/-- R202: a response whose requester asked for it, and that nothing delays, reaches the requester. -/
theorem State.response_returns (h : Stated.Returns s write r)
    (hreq : s.net.outst.find? (fun x => x.src == r.dst.toNat && x.tag == r.tag.toNat && x.write == write) = some req)
    (hout : ∀ f v g, req.kind.owner = some (f, v, g) → s.engOut f < 16) :
    ∃ m ms, s.response write r = ({ s with lnk := m, net := { s.net with msgs := ms, outst := s.net.outst.erase req } } : State).respond req r := by
  obtain ⟨hhub, hform, hbehind, hlast, hroom⟩ := h
  have hgo : ¬((s.rspWay write r).getLast?.any (fun x => x ≠ s.srcRouter r.dst.toNat) = true ∨ s.pathRoom (s.rspWay write r) (rspFlits r) = false) := by
    rw [hroom, not_or]
    refine ⟨fun hany => ?_, Bool.true_eq_false.mp⟩
    cases hx : (s.rspWay write r).getLast? with
    | none => rw [hx] at hany; cases hany
    | some x => rw [hx] at hany; exact of_decide_eq_true hany (hlast x hx)
  obtain ⟨m, hm⟩ := (s.unsend (if write then .wrack r else .rdrsp r)).pathFlits_frame (s.rspWay write r) (rspFlits r)
  refine ⟨m, s.net.msgs.erase (if write then .wrack r else .rdrsp r), ?_⟩
  unfold State.response
  dsimp only
  rw [hhub, if_neg Bool.true_eq_false.mp, hform, if_neg Bool.false_ne_true, hbehind, if_neg Bool.false_ne_true, if_neg hgo, hm]
  have hfind : ({ s.unsend (if write then .wrack r else .rdrsp r) with lnk := m } : State).net.outst.find?
      (fun x => x.src == r.dst.toNat && x.tag == r.tag.toNat && x.write == write) = some req := hreq
  have hmark : ({ s.unsend (if write then .wrack r else .rdrsp r) with lnk := m } : State).markLate req =
      { s.unsend (if write then .wrack r else .rdrsp r) with lnk := m } := State.markLate_same hout
  unfold State.deliver
  dsimp only
  rw [hfind]
  dsimp only
  rw [hmark]
  rfl

/-- R123: the data of a GETW whose task still runs go into the V register that it names. -/
theorem State.respond_getw {g dr : Nat} (hkind : req.kind = .getw e w g dr) (hok : r.status = 0) (hpoison : r.poison = false)
    (hbusy : ((s.engSt e).bank w).busy = true) (hgen : ((s.engSt e).bank w).gen = g) (hwf : bankWf ((s.engSt e).bank w) = true) :
    ∃ c, s.respond req r = s.setEng e ((s.engSt e).setBank w c) ∧ c.busy = true ∧
      c.getV = upd ((s.engSt e).bank w).getV dr (BitVec.ofNat 128 (ofBytesLE r.data)) ∧ c.getS = ((s.engSt e).bank w).getS := by
  have hends (t : State) : t.remoteEnds e w g req.addr 0 false = t := rfl
  refine ⟨{ ((s.engSt e).bank w).setV dr (BitVec.ofNat 128 (ofBytesLE r.data)) with got := ((s.engSt e).bank w).got ++ [keyV dr] }, ?_, hbusy,
    EBank.getV_setV hwf .., rfl⟩
  unfold State.respond
  rw [hkind, hok, hpoison]
  simp only [hbusy, hgen, decide_true, Bool.and_true, and_self]
  exact hends _

theorem State.respond_putw {g : Nat} (hkind : req.kind = .putw e w g) (hok : r.status = 0) : s.respond req r = s := by
  unfold State.respond
  rw [hkind, hok]
  rfl

end Sys2Proof.Machine
end

section
open Sys2Proof Sys2Proof.Machine Sys2Proof.Stated

/-- Settles O35: a request reaches the engine's port, which answers it; a response ends its request. -/
theorem engineWindowServes : Obligations.EngineWindowServes := by
  unfold Obligations.EngineWindowServes
  refine ⟨?read, ?write, ?getw, ?putw⟩
  case read =>
    intro p d l o s hreach heng hclean
    obtain ⟨u, hmsgs, hu, hregs, hrun⟩ := State.request_port hreach heng
    have hal := aligned_toEngine heng
    obtain ⟨-, -, ho, hlen, hbe, -⟩ := heng
    have hengs := State.engSt_congr hu (s.le l).phys
    rw [if_neg Bool.false_ne_true, State.engPortRead_clean hlen hbe ho hal (by rw [hengs]; exact hclean), hengs,
      State.answer_word _ _ (by rw [List.length_map, List.length_range])] at hrun
    refine ⟨_, rfl, ?_⟩
    rw [hrun]
    exact ⟨congrArg (· ++ _) hmsgs, hu, hregs⟩
  case write =>
    intro p d l o s hreach heng
    obtain ⟨u, hmsgs, hu, hregs, hrun⟩ := State.request_port hreach heng
    have hal := aligned_toEngine heng
    obtain ⟨-, -, ho, hlen, hbe, hpoison, -⟩ := heng
    have hengs := State.engSt_congr hu
    rw [if_pos rfl, State.engPortWrite_whole hlen hbe hpoison ho hal, State.answer_write, hengs] at hrun
    have hself := u.engSt_setEng_writeWord (s.le l).phys (o / 16) (s.engSt (s.le l).phys) p.inl
    have hother (f : Nat) (hf : f ≠ (s.le l).phys) := State.engSt_setEng_ne hf u ((s.engSt (s.le l).phys).writeWord false (o / 16) p.inl)
    obtain ⟨hin, hbeside⟩ := EngSt.dmByte_writeWord (s.engSt (s.le l).phys) (s.le l).phys hal p.inl
    refine ⟨_, rfl, ?_⟩
    have hsent (t : State) (m : NetMsg) (f : Nat) : (t.send m).engSt f = t.engSt f := rfl
    rw [hrun]
    simp only [hsent, hself]
    exact ⟨congrArg (· ++ _) hmsgs, hin, hbeside, fun f hf => (hother f hf).trans (hengs f), hregs⟩
  case getw =>
    intro r req e w g dr s hret hreq hkind hok hpoison hout hbusy hgen hwf
    obtain ⟨m, ms, hrun⟩ := State.response_returns hret hreq (by rw [hkind]; rintro f v g' ⟨⟩; exact hout)
    obtain ⟨u, hu⟩ : ∃ u : State, { s with lnk := m, net := { s.net with msgs := ms, outst := s.net.outst.erase req } } = u := ⟨_, rfl⟩
    have hengs : u.engSt e = s.engSt e := by rw [← hu]; rfl
    rw [hu] at hrun
    rw [← hengs] at hbusy hgen hwf
    obtain ⟨c, hgot, hcbusy, hV, hS⟩ := State.respond_getw hkind hok hpoison hbusy hgen hwf
    have hbank : (((u.setEng e ((u.engSt e).setBank w c)).engSt e).bank w) = c := by
      rw [State.engSt_setEng_task (w := w) (by rw [EngSt.bank_setBank_self]; exact hcbusy), EngSt.bank_setBank_self]
    refine ⟨_, rfl, ?_⟩
    rw [hrun, hgot, hbank, hV, hS, hengs]
    exact ⟨by rw [← hu]; rfl, fun _ => rfl, fun _ => rfl, by rw [← hu]; rfl⟩
  case putw =>
    intro r req e w g s hret hreq hkind hok hout
    obtain ⟨m, ms, hrun⟩ := State.response_returns hret hreq (by rw [hkind]; rintro f v g' ⟨⟩; exact hout)
    rw [State.respond_putw hkind hok] at hrun
    refine ⟨_, rfl, ?_⟩
    rw [hrun]
    exact ⟨rfl, rfl, rfl⟩

end

section
/-! SUPPORT. The copy of a takeover (R150): what its steps leave alone, what the new memory holds, and what its end leaves. -/

open Sys2Proof.Stated

namespace Sys2Proof.Machine

set_option Elab.async false

variable {s t : State} {l e k : Nat}

/-! ## Operations beside the table of logical engines -/

theorem State.leng_log (s : State) (r : Rec) : (s.log r).leng = s.leng := by
  obtain ⟨regs, rec, h⟩ := s.log_frame r
  rw [h]

theorem State.le_congr (h : t.leng = s.leng) (l : Nat) : t.le l = s.le l := by rw [State.le, State.le, h]

/-- R147: every epoch is a byte. -/
theorem State.epoch_lt (hinv : Inv s) (l : Nat) : (s.le l).epoch < 256 := by
  obtain ⟨-, -, -, -, -, -, -, -, hbytes⟩ := hinv
  cases hf : SMap.find s.leng l with
  | none => simp [State.le, SMap.get, hf, lengReset]
  | some x => simpa [State.le, SMap.get, hf] using List.all_eq_true.mp hbytes _ (SMap.mem_of_find hf)

/-! ## The old engine of a takeover goes OFF (R34, R150) -/

theorem State.forceStop_frame (s : State) (o c : Nat) : (s.forceStop o c).eng = s.eng ∧ (s.forceStop o c).leng = s.leng := by
  unfold State.forceStop
  split
  · exact ⟨rfl, rfl⟩
  · exact ⟨(State.setBit_eng ..).trans ((State.setFld_eng ..).trans (State.setPwr_eng ..)),
      (State.setBit_leng ..).trans ((State.setFld_leng ..).trans (State.setPwr_leng ..))⟩
  · exact ⟨rfl, rfl⟩

theorem State.isolatedOff_frame (s : State) (e : Nat) : (s.isolatedOff e).eng = s.eng ∧ (s.isolatedOff e).leng = s.leng := by
  obtain ⟨heng, hleng⟩ := (s.setBit (oPwrEng e) 31 false).forceStop_frame (oPwrEng e) 4
  exact ⟨heng.trans (State.setBit_eng ..), hleng.trans (State.setBit_leng ..)⟩

/-- R34: an engine that is ON enters STOPPING with CAUSE 4. -/
theorem State.isolatedOff_stops (hwf : State.regsWf s = true) (hon : s.isOn (oPwrEng e) = true) :
    (s.isolatedOff e).pwr (oPwrEng e) = 3 ∧ (s.isolatedOff e).fld (oPwrEng e) 23 20 = 4 := by
  have hpwr : (s.setBit (oPwrEng e) 31 false).pwr (oPwrEng e) = 2 :=
    (State.fld_setBit_beside hwf _ _ (by decide) (by decide)).trans (of_decide_eq_true hon)
  have hstop := State.stopWord (State.wf_setBit hwf (oPwrEng e) 31 false) (oPwrEng e) (c := 4) (by decide)
  rw [State.isolatedOff, State.forceStop_on hpwr]
  exact ⟨hstop.1, hstop.2.1⟩

/-- No register of the ENG blocks at another offset is the power register of an engine. -/
theorem oEng_ne_oPwrEng {c : Nat} (hc : c % 0x1000 ≠ 8) (f e : Nat) : oEng f + c ≠ oPwrEng e := by
  simp only [oPwrEng, oEng]
  omega

theorem oRecCnt_ne_oPwrEng (e : Nat) : oRecCnt ≠ oPwrEng e := by
  simp only [oPwrEng, oEng, oRecCnt]
  omega

/-! ## The steps of a copy (R135, R138, R150) -/

/-- What the steps of a copy leave alone: the tables of registers and engines stay canonical, and the placements and the power register of the old
engine are as they were. -/
structure State.CopyFrame (s t : State) (e : Nat) : Prop where
  wf : State.regsWf s = true → State.regsWf t = true
  eng : SMap.wf engReset s.eng = true → SMap.wf engReset t.eng = true
  leng : t.leng = s.leng
  pwr : t.reg (oPwrEng e) = s.reg (oPwrEng e)

namespace State.CopyFrame

theorem refl (s : State) (e : Nat) : State.CopyFrame s s e := ⟨id, id, rfl, rfl⟩

theorem setEng {x : EngSt} (h : State.CopyFrame s t e) : State.CopyFrame s (t.setEng k x) e :=
  ⟨h.wf, fun hwf => SMap.wf_set (h.eng hwf), h.leng, h.pwr⟩

theorem setReg {o : Nat} {v : Word} (h : State.CopyFrame s t e) (ho : o ≠ oPwrEng e) : State.CopyFrame s (t.setReg o v) e :=
  ⟨fun hwf => State.wf_setReg (h.wf hwf) o v, h.eng, h.leng, (State.reg_setReg_ne ho v).trans h.pwr⟩

theorem setBit {o j : Nat} {b : Bool} (h : State.CopyFrame s t e) (ho : o ≠ oPwrEng e) : State.CopyFrame s (t.setBit o j b) e := h.setReg ho

theorem log {r : Rec} (h : State.CopyFrame s t e) : State.CopyFrame s (t.log r) e :=
  ⟨fun hwf => State.wf_log (h.wf hwf) r, fun hwf => by rw [State.log_eng]; exact h.eng hwf, (State.leng_log t r).trans h.leng,
    (State.reg_log_ne (oRecCnt_ne_oPwrEng e) r).trans h.pwr⟩

theorem bucket {o : Nat} (h : State.CopyFrame s t e) (ho : o ≠ oPwrEng e) : State.CopyFrame s (t.bucket o).1 e := by
  unfold State.bucket
  split <;> exact h.setReg ho

theorem engCorrect {n : Nat} {im : Bool} (h : State.CopyFrame s t e) : State.CopyFrame s (t.engCorrect e im n) e := by
  unfold State.engCorrect
  extract_lets x
  split
  extract_lets x1 s1 s2
  have h2 : State.CopyFrame s s2 e := (h.setEng.setReg (oEng_ne_oPwrEng (by decide) e e)).setReg (oEng_ne_oPwrEng (by decide) e e)
  have hb := h2.bucket (oEng_ne_oPwrEng (c := 0x24) (by decide) e e)
  clear_value s2
  split
  next s3 spilt hs3 =>
  rw [hs3] at hb
  split
  · exact hb.setEng.log
  · exact hb

theorem engCorrectAll {im : Bool} {ns : List Nat} (h : State.CopyFrame s t e) : State.CopyFrame s (t.engCorrectAll e im ns) e :=
  List.foldlRecOn (motive := (State.CopyFrame s · e)) ns _ h fun _ hr _ _ => hr.engCorrect

end State.CopyFrame

/-! ## A memory written at every granule -/

/-- R337: the marker reads as poison. -/
theorem secdedRead_poisonGran : (secdedRead poisonGran).2 = .poison := by decide

theorem SMap.find_range' {α : Type} (f : Nat → α) {n lo k : Nat} (hlo : lo ≤ k) (hhi : k < lo + n) :
    SMap.find ((List.range' lo n).map (fun k => (k, f k))) k = some (f k) := by
  induction n generalizing lo with
  | zero => omega
  | succ n ih =>
    rw [List.range'_succ, List.map_cons, SMap.find]
    split
    · next h => rw [h]
    · exact ih (by omega) (by omega)

/-- A granule of an instruction memory that has been written whole. -/
theorem EngSt.readGran_filled {x : EngSt} {f : Nat → Gran} {n g : Nat} (himem : x.imem = (List.range n).map (fun k => (k, f k))) (hg : g < n) (e : Nat) :
    x.readGran e true g = secdedRead (f g) := by
  have hfind : SMap.find x.imem g = some (f g) := by
    rw [himem, List.range_eq_range']
    exact SMap.find_range' f (Nat.zero_le g) (by omega)
  simp only [EngSt.readGran, EngSt.gran, EngSt.mem, if_true, hfind]

/-- R150: a granule that reads clean is copied as it is. -/
theorem secdedRead_copiedGran {x : EngSt} {e g : Nat} {im : Bool} (h : (x.readGran e im g).2 = .clean) :
    secdedRead (copiedGran x e im g) = ((x.readGran e im g).1, .clean) := by
  have hgood : eccBad (x.readGran e im g).2 = false := by rw [h]; rfl
  simp only [copiedGran, hgood, Bool.false_eq_true, if_false, secdedRead_mkGran]

/-! ## The end of the copy of a takeover (R150) -/

/-- R150 step 6: a logical engine that some port still waits for is not placed yet. -/
theorem State.placeIfReady_of_waiting (h : (s.le l).waiting ≠ []) : s.placeIfReady l = s := by
  unfold State.placeIfReady
  dsimp only
  split
  · rfl
  · exact if_neg fun hready => h hready.2

/-- The old engine goes OFF, and the copy has ended. -/
def State.endCopy (s : State) (l : Nat) (k : Takeover) : State :=
  ((s.isolatedOff k.old).setLe l { s.le l with takeover := some { k with copied := true } }).placeIfReady l

/-- R150: while ports still wait for the epoch, the end of the copy leaves the logical engine, the old engine and the memories so. -/
theorem State.endCopy_spec {k : Takeover} (hwf : State.regsWf s = true) (hleng : SMap.wf lengReset s.leng = true) (hwait : (s.le l).waiting ≠ []) :
    ((s.endCopy l k).le l).takeover = some { k with copied := true } ∧
      (s.isOn (oPwrEng k.old) = true → (s.endCopy l k).pwr (oPwrEng k.old) = 3 ∧ (s.endCopy l k).fld (oPwrEng k.old) 23 20 = 4) ∧
      (s.endCopy l k).eng = s.eng := by
  obtain ⟨heng, hoff⟩ := s.isolatedOff_frame k.old
  have hle := State.le_setLe_self (s := s.isolatedOff k.old) (hoff ▸ hleng) l { s.le l with takeover := some { k with copied := true } }
  rw [State.endCopy, State.placeIfReady_of_waiting (by rw [hle]; exact hwait)]
  refine ⟨congrArg LEngSt.takeover hle, fun hon => ?_, (State.setLe_eng ..).trans heng⟩
  rw [State.pwr, State.fld_congr (State.setLe_regs ..), State.fld_congr (State.setLe_regs ..)]
  exact State.isolatedOff_stops hwf hon

/-- R150 step 5: the copy. -/
theorem State.migrate_spec {k : Takeover} (hwf : State.regsWf s = true) (heng : SMap.wf engReset s.eng = true)
    (hleng : SMap.wf lengReset s.leng = true) (hwait : (s.le l).waiting ≠ []) :
    ((s.migrate l k).le l).takeover = some { k with copied := true } ∧
      (s.isOn (oPwrEng k.old) = true → (s.migrate l k).pwr (oPwrEng k.old) = 3 ∧ (s.migrate l k).fld (oPwrEng k.old) 23 20 = 4) ∧
      ((s.migrate l k).engSt k.new).imem = (List.range 8192).map (fun g => (g, copiedGran (s.engSt k.old) k.old true g)) := by
  unfold State.migrate
  extract_lets x y mig y1 y2 bad fx s0 s1 s2
  have h0 : State.CopyFrame s s0 k.old := (State.CopyFrame.refl s k.old).engCorrectAll.engCorrectAll
  clear_value s0
  have hy2 : y2.imem = (List.range 8192).map (fun g => (g, copiedGran (s.engSt k.old) k.old true g)) := by
    simp only [y2, y1, apply_ite EngSt.imem, ite_self, x]
  clear_value bad y2
  have hplace : oEng k.new ≠ oPwrEng k.old := oEng_ne_oPwrEng (c := 0) (by decide) k.new k.old
  have h1 : State.CopyFrame s s1 k.old := (h0.setEng.setBit hplace).setBit (oEng_ne_oPwrEng (by decide) k.new k.old)
  have hnew : (s1.engSt k.new).imem = (List.range 8192).map (fun g => (g, copiedGran (s.engSt k.old) k.old true g)) := by
    rw [← hy2, ← State.engSt_setEng_self (h0.eng heng) k.new y2]
    exact congrArg EngSt.imem (State.engSt_congr ((State.setBit_eng ..).trans (State.setBit_eng ..)) k.new)
  clear_value s1
  have h2 : State.CopyFrame s s2 k.old ∧ s2.eng = s1.eng := by
    unfold s2
    split
    · exact ⟨h1, rfl⟩
    · exact ⟨h1.log, State.log_eng ..⟩
  clear_value s2
  obtain ⟨h2, hs2⟩ := h2
  have hle : s2.le l = s.le l := State.le_congr h2.leng l
  obtain ⟨htake, hoff, hend⟩ := State.endCopy_spec (k := k) (h2.wf hwf) (h2.leng ▸ hleng) (hle ▸ hwait)
  refine ⟨htake, fun hon => hoff ?_, ?_⟩
  · rw [State.isOn, State.pwr, State.fld, h2.pwr]
    exact hon
  · exact (congrArg EngSt.imem (State.engSt_congr (hend.trans hs2) k.new)).trans hnew

theorem EngSt.imem_poisonAll (x : EngSt) : x.poisonAll.imem = (List.range 8192).map (fun g => (g, poisonGran)) := by rw [EngSt.poisonAll]

/-- R150: the copy of an old engine that does not answer. -/
theorem State.copyFailed_spec {k : Takeover} (hwf : State.regsWf s = true) (heng : SMap.wf engReset s.eng = true)
    (hleng : SMap.wf lengReset s.leng = true) (hwait : (s.le l).waiting ≠ []) :
    ((s.copyFailed l k).le l).takeover = some { k with copied := true } ∧
      ((s.copyFailed l k).engSt k.new).imem = (List.range 8192).map (fun g => (g, poisonGran)) := by
  unfold State.copyFailed
  extract_lets s1
  have h1 : State.CopyFrame s s1 k.old := (State.CopyFrame.refl s k.old).setEng.setBit (oEng_ne_oPwrEng (by decide) k.new k.old)
  have hnew : (s1.engSt k.new).imem = (List.range 8192).map (fun g => (g, poisonGran)) := by
    rw [← (s.engSt k.new).imem_poisonAll, ← State.engSt_setEng_self heng k.new (s.engSt k.new).poisonAll]
    exact congrArg EngSt.imem (State.engSt_congr (State.setBit_eng ..) k.new)
  clear_value s1
  have hle : s1.le l = s.le l := State.le_congr h1.leng l
  obtain ⟨htake, -, hend⟩ := State.endCopy_spec (k := k) (h1.wf hwf) (h1.leng ▸ hleng) (hle ▸ hwait)
  exact ⟨htake, (congrArg EngSt.imem (State.engSt_congr hend k.new)).trans hnew⟩

end Sys2Proof.Machine
end

section
/-! SUPPORT. Admission (R147, R155) and the end of a self-test (R159). -/

open Sys2Proof.Stated

namespace Sys2Proof.Machine

set_option Elab.async false

variable {s t : State} {l e : Nat}

/-! ## A new epoch (R147) -/

theorem State.leng_staleBind (s : State) (x : Nat) : (s.staleBind x).leng = s.leng := by
  have hflow (u : State) : (u.unlockFlow x).leng = u.leng := by
    unfold State.unlockFlow
    dsimp only
    split <;> rfl
  have hdelay : (s.leaveDelay x).leng = s.leng :=
    List.foldlRecOn (motive := fun u : State => u.leng = s.leng) _ _ rfl fun _ hu _ _ => hu
  exact (State.leng_log ..).trans ((hflow _).trans hdelay)

theorem State.Steady.staleBind {P : Nat → Prop} {x : Nat} (h : Steady P s t) : Steady P s (t.staleBind x) := by
  have hdelay : Steady P s (t.leaveDelay x) := h.foldl fun _ _ _ hr => hr.behind
  exact hdelay.toCompleting.log

/-- R147: the logical engine has the epoch that follows, and the tables of registers and placements stay canonical. -/
theorem State.bumpEpoch_spec (hwf : State.regsWf s = true) (hleng : SMap.wf lengReset s.leng = true) (l : Nat) :
    ((s.bumpEpoch l).le l).epoch = bumped (s.le l).epoch ∧ State.regsWf (s.bumpEpoch l) = true ∧ SMap.wf lengReset (s.bumpEpoch l).leng = true := by
  unfold State.bumpEpoch
  extract_lets n x s1
  have hs1 : (s1.le l).epoch = n := congrArg LEngSt.epoch (State.le_setLe_self hleng l _)
  have hwf1 : SMap.wf lengReset s1.leng = true := SMap.wf_set hleng
  generalize (s1.sch.ctx.filter _).map Prod.fst = xs
  have hkept : (xs.foldl (fun t x => t.staleBind x) s1).leng = s1.leng :=
    List.foldlRecOn (motive := fun u : State => u.leng = s1.leng) _ _ rfl fun u hu x _ => (u.leng_staleBind x).trans hu
  have hsteady : Steady (fun _ => False) s1 (xs.foldl (fun t x => t.staleBind x) s1) := (Steady.refl _ s1).foldl fun _ _ _ hr => hr.staleBind
  rw [State.le_congr hkept, hkept]
  exact ⟨hs1, hsteady.wf hwf, hwf1⟩

/-- The epoch that follows a byte is a byte. -/
theorem bumped_lt {n : Nat} (h : n < 256) : bumped n < 256 := by
  unfold bumped
  split <;> omega

/-! ## Admission (R155) -/

/-- ENG_PLACE of an engine that is PLACED as a logical engine, with an epoch that is not stale. -/
def placedWord (l n : Nat) : Word := BitVec.ofNat 32 (2 ^ 29 + l * 2 ^ 16 + n)

theorem bitsOf_placedWord {l n : Nat} (hl : l < 1024) (hn : n < 256) :
    bitsOf (placedWord l n) 31 29 = 1 ∧ bitsOf (placedWord l n) 8 8 = 0 ∧ bitsOf (placedWord l n) 7 0 = n := by
  simp only [placedWord, bitsOf, BitVec.toNat_ofNat]
  omega

theorem State.placed_setReg (hwf : State.regsWf s = true) (hl : l < 1024) {n : Nat} (hn : n < 256) (e : Nat) :
    (s.setReg (oPlace e) (placedWord l n)).placeSt e = 1 ∧ (s.setReg (oPlace e) (placedWord l n)).engStale e = false ∧
      (s.setReg (oPlace e) (placedWord l n)).engEpoch e = n := by
  obtain ⟨hst, hstale, hepoch⟩ := bitsOf_placedWord hl hn
  simp [State.placeSt, State.engStale, State.engEpoch, State.bit, State.fld_setReg_self hwf, hst, hstale, hepoch]

/-- R155: a stale engine that holds a placement is PLACED again, with the epoch that follows. -/
theorem State.admitLe_spec (hinv : Inv s) (hl : l < 1024) (htake : (s.le l).takeover = none) (hst : s.placeSt (s.le l).phys = 2)
    (hlid : s.engLid (s.le l).phys = l) (hon : s.isOn (oPwrEng (s.le l).phys) = true) (hreset : s.inReset (s.le l).phys = false)
    (htest : s.bit (oEng (s.le l).phys + 0x20) 31 = false) :
    (s.admitLe l).placeSt (s.le l).phys = 1 ∧ (s.admitLe l).engStale (s.le l).phys = false ∧
      (s.admitLe l).engEpoch (s.le l).phys = bumped (s.le l).epoch ∧ ((s.admitLe l).le l).pstate = 0 := by
  obtain ⟨hregs, -, -, -, hleng, -⟩ := id hinv
  obtain ⟨hepoch, hregs1, hleng1⟩ := State.bumpEpoch_spec hregs hleng l
  unfold State.admitLe
  extract_lets x s1 s2
  rw [if_pos ⟨htake, hst, hlid, hon, hreset, htest⟩]
  obtain ⟨hplaced, hstale, hnow⟩ := State.placed_setReg (s := s1) hregs1 hl (hepoch ▸ bumped_lt (State.epoch_lt hinv l)) x.phys
  exact ⟨hplaced, hstale, hnow.trans hepoch, congrArg LEngSt.pstate (State.le_setLe_self hleng1 l _)⟩

/-! ## The end of a self-test (R159) -/

/-- ENG_STEST of a test of type `ty` that has passed. -/
def stestPassWord (ty : Nat) : Word := BitVec.ofNat 32 (2 ^ 30 + ty * 2 ^ 8)

theorem bitsOf_stestPassWord {ty : Nat} (h : ty < 4) : bitsOf (stestPassWord ty) 31 31 = 0 ∧ bitsOf (stestPassWord ty) 30 30 = 1 := by
  simp only [stestPassWord, bitsOf, BitVec.toNat_ofNat]
  omega

/-- The engine after a test that passed: both banks empty, and the memories zero where the test was one of them. -/
def EngSt.testPassed (x : EngSt) : EngSt :=
  let y : EngSt := { x with b0 := { gen := x.b0.gen }, b1 := { gen := x.b1.gen }, active := false, stestPassed := true }
  if 2 ≤ x.stestType then y.zeroMem else y

theorem EngSt.stestPassed_testPassed (x : EngSt) : x.testPassed.stestPassed = true := by
  unfold EngSt.testPassed
  split
  · rw [EngSt.zeroMem]
  · rfl

/-- The state in which the result stands. -/
def State.testShown (s : State) (e : Nat) : State :=
  (s.setEng e (s.engSt e).testPassed).setReg (oEng e + 0x20) (stestPassWord (s.fld (oEng e + 0x20) 9 8))

/-- R159: a test that passes places its engine again where a placement waited for it. -/
theorem State.stestEnd_pass (hrun : s.bit (oEng e + 0x20) 31 = true) (hfree : (s.engSt e).cur.busy = false) :
    s.stestEnd e 0 = if s.placeSt e = 3 ∨ s.placeSt e = 1 then
        ((s.testShown e).setFld (oPlace e) 31 29 1).setLe ((s.testShown e).engLid e) { (s.testShown e).le ((s.testShown e).engLid e) with pstate := 0 }
      else s.testShown e := by
  simp only [State.stestEnd, hrun, hfree, and_self, if_true, decide_true, Bool.or_true, Nat.zero_mul, Nat.add_zero]
  rfl

theorem oPlace_ne (e : Nat) : oPlace e ≠ oEng e + 0x20 := by simp only [oPlace]; omega

/-- What a passed test shows. -/
theorem State.testShown_spec (hwf : State.regsWf s = true) (heng : SMap.wf engReset s.eng = true) (e : Nat) :
    State.regsWf (s.testShown e) = true ∧ (s.testShown e).bit (oEng e + 0x20) 31 = false ∧ (s.testShown e).bit (oEng e + 0x20) 30 = true ∧
      ((s.testShown e).engSt e).stestPassed = true := by
  have hty : s.fld (oEng e + 0x20) 9 8 < 4 := Nat.mod_lt _ (by decide)
  obtain ⟨hrun, hpass⟩ := bitsOf_stestPassWord hty
  have hreg (k : Nat) : (s.testShown e).fld (oEng e + 0x20) k k = bitsOf (stestPassWord (s.fld (oEng e + 0x20) 9 8)) k k :=
    State.fld_setReg_self hwf ..
  have hself : (s.testShown e).engSt e = (s.engSt e).testPassed := State.engSt_setEng_self heng ..
  rw [State.bit, State.bit, hreg, hreg, hrun, hpass, hself]
  exact ⟨State.wf_setReg hwf .., rfl, rfl, EngSt.stestPassed_testPassed _⟩

/-- R159: the test of an idle engine passes. -/
theorem State.stestEnd_spec (hwf : State.regsWf s = true) (heng : SMap.wf engReset s.eng = true) (hrun : s.bit (oEng e + 0x20) 31 = true)
    (hfree : (s.engSt e).cur.busy = false) :
    (s.stestEnd e 0).bit (oEng e + 0x20) 31 = false ∧ (s.stestEnd e 0).bit (oEng e + 0x20) 30 = true ∧
      ((s.stestEnd e 0).engSt e).stestPassed = true ∧ (s.placeSt e = 3 → (s.stestEnd e 0).placeSt e = 1) := by
  obtain ⟨hwf', hdone, hpass, hset⟩ := State.testShown_spec hwf heng e
  rw [State.stestEnd_pass hrun hfree]
  generalize s.testShown e = t at hwf' hdone hpass hset
  split
  · have hplaced : (t.setFld (oPlace e) 31 29 1).placeSt e = 1 := State.fld_setFld_self hwf' _ _ (by decide) (by decide)
    have heng' : ((t.setFld (oPlace e) 31 29 1).setLe (t.engLid e) { t.le (t.engLid e) with pstate := 0 }).eng = t.eng :=
      (State.setLe_eng ..).trans (State.setFld_eng ..)
    rw [State.engSt_congr heng']
    simp only [State.bit, State.placeSt, State.fld_congr (State.setLe_regs ..), State.fld_setFld_ne (oPlace_ne e)] at hplaced hdone hpass ⊢
    exact ⟨hdone, hpass, hset, fun _ => hplaced⟩
  · next hidle => exact ⟨hdone, hpass, hset, fun h => absurd (.inl h) hidle⟩

end Sys2Proof.Machine
end

section
open Sys2Proof Sys2Proof.Machine Sys2Proof.Stated

/-- Settles O17: each event by the lemma of its operation; a granule written by the copy reads back as it was found, or as the marker. -/
theorem placementEventsComplete : Obligations.PlacementEventsComplete := by
  unfold Obligations.PlacementEventsComplete
  refine ⟨?copied, ?failed, ?report, ?admitted, ?tested⟩
  case copied =>
    intro l s k hinv htake hcopied _ hon hwait
    obtain ⟨hregs, -, heng, -, hleng, -⟩ := hinv
    obtain ⟨hdone, hoff, himem⟩ := State.migrate_spec (k := k) hregs heng hleng hwait
    have hexec : exec (.migrationCopyDone l) s = .next (s.migrate l.val k) := by
      show execMigrationCopyDone l s = _
      simp only [execMigrationCopyDone, htake, hcopied, hon, and_self, if_true]
    refine ⟨_, hexec, hdone, hoff, fun g hg hclean => ?_⟩
    rw [EngSt.readGran_filled himem hg, secdedRead_copiedGran hclean]
  case failed =>
    intro l s k hinv htake hcopied _ hon hwait
    obtain ⟨hregs, -, heng, -, hleng, -⟩ := hinv
    obtain ⟨hdone, himem⟩ := State.copyFailed_spec (k := k) hregs heng hleng hwait
    have hexec : exec (.copySourceTmo l) s = .next (s.copyFailed l.val k) := by
      show execCopySourceTmo l s = _
      simp only [execCopySourceTmo, htake, hcopied, hon, and_self, if_true]
    refine ⟨_, hexec, hdone, fun g hg => ?_⟩
    rw [EngSt.readGran_filled himem hg, secdedRead_poisonGran]
  case report =>
    intro l s hinv hdue
    obtain ⟨-, -, -, -, hleng, -⟩ := hinv
    have hexec : exec (.oldEpochReport l) s = .next ((s.setLe l.val { s.le l.val with reportDue := false }).log
        (mkRec reqSch 0x046 l.val (s.le l.val).discards reqSch)) := by
      show execOldEpochReport l s = _
      rw [execOldEpochReport, if_pos hdue]
    have hle := State.le_setLe_self hleng l.val { s.le l.val with reportDue := false }
    refine ⟨_, hexec, ?_⟩
    rw [State.le_congr (State.leng_log ..), hle]
    exact ⟨rfl, rfl⟩
  case admitted =>
    intro l s hinv htake _ hst hlid hon hreset htest
    obtain ⟨hplaced, hstale, hepoch, hps⟩ := State.admitLe_spec hinv l.isLt htake hst hlid hon hreset htest
    refine ⟨_, rfl, hplaced, hstale, hepoch.trans ?_, hps⟩
    exact (Nat.mod_eq_of_lt (bumped_lt (State.epoch_lt hinv l.val))).symm
  case tested =>
    intro e s hinv hrun hfree
    obtain ⟨hregs, -, heng, -⟩ := hinv
    exact ⟨_, rfl, State.stestEnd_spec hregs heng hrun hfree⟩

end

section
/-! SUPPORT. A SPARE that a takeover has chosen whose old engine is none of the machine's. -/

open Sys2Proof.Stated

namespace Sys2Proof.Machine

set_option Elab.async false

/-- Engine 0 is ON and SPARE, and the takeover of logical engine 0 has chosen it to follow engine 1088, one past the last. -/
def State.chosenPastEnd : State :=
  (({ State.reset with sys := { State.reset.sys with hubOn := true } }.setReg (oPwrEng 0) 0x82000000).setReg (oPlace 0) 0).setLe 0
    { lengReset 0 with takeover := some ⟨1088, 0, false⟩ }

theorem State.inv_chosenPastEnd : Stated.Inv State.chosenPastEnd := by
  unfold Stated.Inv
  decide +kernel

theorem State.chosenPastEnd_on : State.chosenPastEnd.isOn (oPwrEng (0 : Eng).val) = true := by decide +kernel

theorem State.chosenPastEnd_spare : State.chosenPastEnd.placeSt (0 : Eng).val = 0 := by decide +kernel

/-- The takeover looks for another SPARE past the last engine, finds engine 1088 there and starts engine 1088 modulo 1088. -/
theorem State.en_takeover_chosenPastEnd : (State.chosenPastEnd.takeover (0 : Eng).val 1).bit (oPwrEng (0 : Eng).val) 31 = true := by decide +kernel

/-- R149 cause 1, of an engine that is ON. -/
theorem exec_regfileParityError {s : State} {e : Eng} (hon : s.isOn (oPwrEng e.val) = true) :
    exec (.regfileParityError e) s = .next (s.takeover e.val 1) :=
  congrArg Host.Outcome.next (if_pos hon)

end Sys2Proof.Machine
end

section
open Sys2Proof Sys2Proof.Machine Sys2Proof.Stated

/-- Refutes O16: a SPARE that a running takeover has chosen leaves it to another one, and the statement lacks the premise that the old engine of that
takeover exists. Where it is engine 1088, the other SPARE is sought among the engines 1088 to 1104, whose absent registers read as those of a SPARE that is
OFF; starting engine 1088 modulo 1088 sets EN of the very engine that was isolated. -/
theorem not_faultsIsolateASpare : ¬ Obligations.FaultsIsolateASpare := by
  intro h
  obtain ⟨⟨t, hexec, hisolated⟩, -⟩ := h 0 State.chosenPastEnd State.inv_chosenPastEnd State.chosenPastEnd_on State.chosenPastEnd_spare
  obtain rfl : State.chosenPastEnd.takeover (0 : Eng).val 1 = t :=
    Host.Outcome.next.inj ((exec_regfileParityError State.chosenPastEnd_on).symm.trans hexec)
  obtain ⟨-, -, -, -, hen, -⟩ := hisolated
  exact Bool.noConfusion (State.en_takeover_chosenPastEnd.symm.trans hen)

end

section
/-! SUPPORT. The tables of the scheduler (R164, R168, R175 to R177): what a context, a flow, an input and a delay list read after a write, and how a
task becomes ready. -/


namespace Sys2Proof.Machine

set_option Elab.async false

variable {s t : State} {c : TaskCtx} {x y : Nat}

/-! ## Contexts -/

theorem State.ctx_of_table (h : t.sch.ctx = s.sch.ctx) (x : Nat) : t.ctx x = s.ctx x := by rw [State.ctx, State.ctx, h]

theorem State.ctx_setCtx_ne (h : y ≠ x) (s : State) (c : TaskCtx) : (s.setCtx x c).ctx y = s.ctx y := SMap.get_set_ne h.symm

/-- A context whose task has not ended reads back whatever the table. -/
theorem State.ctx_setCtx_task (h : c.st ≠ .free) (s : State) (x : Nat) : (s.setCtx x c).ctx x = c :=
  State.ctx_setCtx_self (fun he => h (congrArg TaskCtx.st he)) s x

/-- In a canonical table every context reads back. -/
theorem State.ctx_setCtx_wf (h : Stated.CtxWf s) (x : Nat) (c : TaskCtx) : (s.setCtx x c).ctx x = c := SMap.get_set_self h

/-! ## Becoming ready (R176, R177) -/

theorem State.ctx_makeReady (s : State) (x : Nat) :
    (s.makeReady x).ctx x = { s.ctx x with st := .ready, ready := s.sch.readyNo + 1, restarted := false } :=
  State.ctx_setCtx_task (fun h => TState.noConfusion h) _ x

theorem State.ctx_makeReady_ne (h : y ≠ x) (s : State) : (s.makeReady x).ctx y = s.ctx y := State.ctx_setCtx_ne h _ _

theorem State.release_of_holds (h : dWaitHolds (s.ctx x).desc (s.ctx x).flags = true) : s.release x = s.makeReady x := if_pos h

/-- R176: a task whose delay is over is ready, or waits for its condition. -/
theorem State.st_release (s : State) (x : Nat) :
    ((s.release x).ctx x).st = if dWaitHolds (s.ctx x).desc (s.ctx x).flags then .ready else .waiting := by
  unfold State.release
  dsimp only
  split
  · rw [State.ctx_makeReady]
  · rw [State.ctx_setCtx_task (fun h => TState.noConfusion h)]

/-- The release of a task is a matter of its context and the ready numbers. -/
theorem State.release_frame (s : State) (x : Nat) : ∃ c n, s.release x = { s with sch := { s.sch with ctx := c, readyNo := n } } := by
  unfold State.release
  dsimp only
  split
  · exact ⟨_, _, rfl⟩
  · exact ⟨_, s.sch.readyNo, rfl⟩

end Sys2Proof.Machine
end

section
/-! SUPPORT. The acceptance of a descriptor (R164 to R171): what the context holds of it, and how the head of an input is checked. -/


namespace Sys2Proof.Machine

set_option Elab.async false

variable {s t : State} {it : EnqItem} {d : List Word} {i x r : Nat} {rest : List EnqItem}

/-! ## The stored descriptor -/

theorem dWord_set_ne {j : Nat} (h : i ≠ j) (d : List Word) (w : Word) : dWord (d.set i w) j = dWord d j := by
  simp only [dWord, List.getD_eq_getElem?_getD, List.getElem?_set_ne h]

theorem dBit_set_withBits {hi lo n k : Nat} (d : List Word) (hlo : lo ≤ hi) (hhi : hi < 32) (hk : k < lo ∨ hi < k) :
    dBit (d.set i (withBits (dWord d i) hi lo n)) i k = dBit d i k := by
  by_cases hlen : i < d.length
  · have hword : dWord (d.set i (withBits (dWord d i) hi lo n)) i = withBits (dWord d i) hi lo n := by
      simp only [dWord, List.getD_eq_getElem?_getD, List.getElem?_set_self hlen, Option.getD_some]
    rw [dBit, dFld, hword, bitsOf_withBits_beside _ _ hlo hhi hk, dBit, dFld]
  · rw [List.set_eq_of_length_le (Nat.le_of_not_lt hlen)]

/-- A context stores words 1 to 7 as they came. -/
theorem dWord_storedDesc {j : Nat} (h0 : 0 ≠ j) (hj : j < 8) (d : List Word) (dl : Option Nat) : dWord (storedDesc d dl) j = dWord d j := by
  have h15 : dWord (d.set 15 0) j = dWord d j := dWord_set_ne (by omega) d 0
  unfold storedDesc
  dsimp only
  split
  · split
    · rw [dWord_set_ne (by omega), dWord_set_ne (by omega), dWord_set_ne h0, h15]
    · exact h15
  · exact h15

/-- Of word 0 it changes DEADREL alone. -/
theorem dBit_storedDesc {k : Nat} (hk : k < 30) (d : List Word) (dl : Option Nat) : dBit (storedDesc d dl) 0 k = dBit d 0 k := by
  have hword {e : List Word} {j : Nat} (h : j ≠ 0) (w : Word) : dBit (e.set j w) 0 k = dBit e 0 k := by rw [dBit, dFld, dWord_set_ne h, dBit, dFld]
  have h15 : dWord (d.set 15 0) 0 = dWord d 0 := dWord_set_ne (by decide) d 0
  unfold storedDesc
  dsimp only
  split
  · split
    · rw [hword (by decide), hword (by decide), ← h15, dBit_set_withBits _ (by decide) (by decide) (.inl hk), hword (by decide)]
    · exact hword (by decide) _
  · exact hword (by decide) _

/-! ## A context is taken -/

/-- The task in the context has neither a delay nor a condition nor an engine of its own. -/
theorem State.enterTask_direct (hdelay : dBit (s.ctx x).desc 0 28 = false) (hmode : dMode (s.ctx x).desc = 0) (hwait : dWord (s.ctx x).desc 1 = 0) :
    s.enterTask x = s.makeReady x := by
  have hholds : dWaitHolds (s.ctx x).desc (s.ctx x).flags = true := by simp only [dWaitHolds, hwait, if_true]
  unfold State.enterTask
  dsimp only
  rw [if_neg (by rw [hmode]; exact fun h => absurd h.1 (by decide)), if_neg (by rw [hdelay]; decide), State.release_of_holds hholds]

/-- A flow that has a task is listed, so it reads back whatever the table. -/
theorem State.flow_setFlow_pending {w : FlowSt} (h : w.pending ≠ 0) (s : State) (f : Nat) : (s.setFlow f w).flow f = w :=
  SMap.get_set_of_ne fun he => h (congrArg FlowSt.pending he)

/-- R164 to R171: a descriptor without a delay, a condition or an engine of its own takes the context, and its source waits for no answer. -/
theorem State.acceptInto_direct (hsrc : it.src = .noc r noTag) (hdelay : dBit d 0 28 = false) (hmode : dMode d = 0) (hwait : dWord d 1 = 0)
    (s : State) (x : Nat) (ts : Option (Nat × Nat)) :
    Stated.Accepted s (s.acceptInto x it d ts) x d ∧ (s.acceptInto x it d ts).sch.inputs = s.sch.inputs ∧
      (s.acceptInto x it d ts).sch.enqPtr = s.sch.enqPtr := by
  unfold State.acceptInto
  extract_lets old dl ds e fl c f w s1
  have hctx : s1.ctx x = c := State.ctx_setCtx_task (c := c) (fun h => TState.noConfusion h) s x
  have henter : s1.enterTask x = s1.makeReady x := by
    apply State.enterTask_direct <;> rw [hctx]
    · exact (dBit_storedDesc (by decide) d dl).trans hdelay
    · rw [dMode, dFld, dWord_storedDesc (by decide) (by decide), ← dFld, ← dMode, hmode]
    · rw [dWord_storedDesc (by decide) (by decide), hwait]
  have htell : (s1.makeReady x).tellAccepted it.src x = s1.makeReady x := by
    rw [hsrc, State.tellAccepted, State.schAnswer, if_pos rfl]
  rw [henter, htell]
  refine ⟨?_, rfl, rfl⟩
  unfold Stated.Accepted
  rw [State.ctx_makeReady, hctx]
  refine ⟨rfl, rfl, fun j hj h0 => dWord_storedDesc h0.symm hj d dl, ?_, fun y hy => ?_⟩
  · have hflow : (s1.makeReady x).flow f = { s.flow f with pending := (s.flow f).pending + 1 } :=
      State.flow_setFlow_pending (Nat.succ_ne_zero _) (s.setCtx x c) f
    exact congrArg FlowSt.pending hflow
  · exact (State.ctx_makeReady_ne hy s1).trans (State.ctx_setCtx_ne hy s c)

/-! ## The head of an input -/

/-- R167, R168: a head with no reason against it takes the context it names. -/
theorem State.processHead_named (hin : s.input i = it :: rest) (hinit : s.schInit = false) (hold : s.oldItem it = false) (hok : s.itemReason it = 0)
    (hany : dBit (s.formed it).1 0 21 = false) :
    s.processHead i = ((s.turnTaken i).setInput i rest).acceptInto (dFld (s.formed it).1 2 13 0) it (s.formed it).1 (s.formed it).2.1 := by
  unfold State.processHead
  simp only [hin, hinit, hold, hok, hany, ne_eq, not_true_eq_false, Bool.false_eq_true, if_false]

/-- R171: one that asks for a context of the pool takes the lowest that is free. -/
theorem State.processHead_pool (hin : s.input i = it :: rest) (hinit : s.schInit = false) (hold : s.oldItem it = false) (hok : s.itemReason it = 0)
    (hany : dBit (s.formed it).1 0 21 = true) (hfree : s.poolFree = some x) :
    s.processHead i = ((s.turnTaken i).setInput i rest).acceptInto x it (s.formed it).1 (s.formed it).2.1 := by
  unfold State.processHead
  simp only [hin, hinit, hold, hok, hany, hfree, ne_eq, not_true_eq_false, Bool.false_eq_true, if_false, if_true]

theorem State.headReads_clean (h : Stated.NoErrors s) (i : Nat) : s.headReads i = s := if_pos h

/-- What does not follow by itself stays. -/
theorem State.followers_stop (h : Stated.noFollower (s.input i) = true) (n : Nat) : State.followers i n s = s := by
  cases n with
  | zero => rfl
  | succ n =>
    unfold State.followers
    cases hin : s.input i with
    | nil => rfl
    | cons y l =>
      rw [hin] at h
      cases hsrc : y.src with
      | noc q k =>
        have hno : ¬(k = noTag ∧ y.held = false) := by
          rintro ⟨hk, hheld⟩
          simp [Stated.noFollower, hsrc, hk, hheld] at h
        simp only [hsrc, hno, if_false]
      | _ => simp only [hsrc]

theorem State.input_setInput_wf (h : Stated.InputsWf s) (i : Nat) (l : List EnqItem) : (s.setInput i l).input i = l := SMap.get_set_self h

theorem State.input_congr (h : t.sch.inputs = s.sch.inputs) (i : Nat) : t.input i = s.input i := by rw [State.input, State.input, h]

/-- R168, R171: a head that is accepted leaves its input to the rest, of which nothing follows by itself. -/
theorem State.checkHead_accepts (hclean : Stated.NoErrors s) (hwf : Stated.InputsWf s) (hstop : Stated.noFollower rest = true)
    {d : List Word} {ts : Option (Nat × Nat)} (hsrc : it.src = .noc r noTag) (hdelay : dBit d 0 28 = false) (hmode : dMode d = 0) (hwait : dWord d 1 = 0)
    (hhead : s.processHead i = ((s.turnTaken i).setInput i rest).acceptInto x it d ts) :
    (s.checkHead i).input i = rest ∧ Stated.Accepted s (s.checkHead i) x d ∧ (s.checkHead i).sch.enqPtr = (i + 1) % 17 := by
  obtain ⟨haccept, hinputs, hptr⟩ := State.acceptInto_direct hsrc hdelay hmode hwait ((s.turnTaken i).setInput i rest) x ts
  have hin : (s.processHead i).input i = rest := by
    rw [hhead, State.input_congr hinputs, State.input_setInput_wf (s := s.turnTaken i) hwf]
  have hcheck : s.checkHead i = s.processHead i := by
    rw [State.checkHead, State.headReads_clean hclean, State.followers_stop (by rw [hin]; exact hstop)]
  rw [hcheck]
  refine ⟨hin, ?_, ?_⟩ <;> rw [hhead]
  · exact haccept
  · exact hptr

/-- R166 to R169: a descriptor, or a template request, that reaches an empty input and has no reason against it. -/
theorem State.descriptorAt_accepts (hdie : reservedDie it.req = false) (hinit : s.schInit = false) (hempty : s.input i = []) (hwf : Stated.InputsWf s)
    (hclean : Stated.NoErrors s) (hold : s.oldItem it = false) (hok : s.itemReason it = 0) (hsrc : it.src = .noc r noTag) (hdirect : Stated.Direct (s.formed it).1) :
    (s.descriptorAt i it).input i = [] ∧ Stated.Accepted s (s.descriptorAt i it) (dFld (s.formed it).1 2 13 0) (s.formed it).1 := by
  obtain ⟨hany, hdelay, hmode, hwait⟩ := hdirect
  have hat : s.descriptorAt i it = (s.pushInput i it).checkHead i := by
    unfold State.descriptorAt
    simp only [hdie, hempty, Bool.false_eq_true, if_false]
  have hin : (s.pushInput i it).input i = [it] := by rw [State.input_pushInput, hempty, List.nil_append]
  have hwf' : Stated.InputsWf (s.pushInput i it) := SMap.wf_set hwf
  obtain ⟨hgone, haccept, -⟩ := State.checkHead_accepts (s := s.pushInput i it) hclean hwf' rfl hsrc hdelay hmode hwait
    (State.processHead_named hin hinit hold hok hany)
  rw [hat]
  exact ⟨hgone, haccept⟩

/-- R171: the descriptor held longest takes a context of the pool. -/
theorem State.acceptHeld_accepts (hinit : s.schInit = false) (hfree : s.poolFree = some x) (hnext : s.nextHeld = some i) (hin : s.input i = it :: rest)
    (hwf : Stated.InputsWf s) (hsrc : it.src = .noc r noTag) (htmpl : it.template = false) (hclean : Stated.NoErrors s) (hstop : Stated.noFollower rest = true)
    (hold : s.oldItem it = false) (hok : s.itemReason it = 0) (hany : dBit it.words 0 21 = true) (hdelay : dBit it.words 0 28 = false)
    (hmode : dMode it.words = 0) (hwait : dWord it.words 1 = 0) :
    s.acceptHeld.input i = rest ∧ Stated.Accepted s s.acceptHeld x it.words ∧ s.acceptHeld.sch.enqPtr = (i + 1) % 17 := by
  have hformed : s.formed it = (it.words, none, []) := by simp only [State.formed, htmpl, Bool.false_eq_true, if_false]
  have hheld : s.acceptHeld = s.checkHead i := by simp only [State.acceptHeld, hfree, hnext]
  have hhead := State.processHead_pool hin hinit hold hok (by rw [hformed]; exact hany) hfree
  rw [hformed] at hhead
  rw [hheld]
  exact State.checkHead_accepts hclean hwf hstop hsrc hdelay hmode hwait hhead

/-- R172: a write held too long is discarded, and leaves no trace in the scheduler but its place. -/
theorem State.enqTimeout_discards (hin : s.input i = it :: rest) (hheld : it.held = true) (hsrc : it.src = .noc r noTag) (hwf : Stated.InputsWf s)
    (hstop : Stated.noFollower rest = true) : (s.enqTimeout i).sch = (s.setInput i rest).sch := by
  have htell : (s.setInput i rest).tellRefused it.src 0 = s.setInput i rest := by rw [hsrc, State.tellRefused, State.schAnswer, if_pos rfl]
  have hdrop : ((s.setInput i rest).log (mkRec reqSch 0x053 0 1 it.req)).input i = rest := by
    rw [State.input_congr (congrArg SchSt.inputs (State.log_sch ..)), State.input_setInput_wf hwf]
  unfold State.enqTimeout
  simp only [hin, hheld, if_true, htell]
  simp only [hsrc]
  rw [State.followers_stop (by rw [hdrop]; exact hstop), State.log_sch]

end Sys2Proof.Machine
end

section
open Sys2Proof Sys2Proof.Machine Sys2Proof.Stated

/-- Settles O31: a descriptor is accepted at the head of its input, whether it has just come or was held, and nothing follows it by itself. -/
theorem descriptorsComplete : Obligations.DescriptorsComplete := by
  unfold Obligations.DescriptorsComplete
  refine ⟨?descriptor, ?template, ?held, ?timeout⟩
  case descriptor =>
    intro i req ep lid d s hdie hinit hempty hwf hclean hold hok hdirect
    exact ⟨_, rfl, State.descriptorAt_accepts hdie hinit hempty hwf hclean hold hok rfl hdirect⟩
  case template =>
    intro i req w s hdie hinit hempty hwf hclean hok hdirect
    exact ⟨_, rfl, State.descriptorAt_accepts hdie hinit hempty hwf hclean rfl hok rfl hdirect⟩
  case held =>
    intro s i x r it l hinit hfree hnext hin hwf hsrc htmpl hclean hstop hold hok hany hdelay hmode hwait
    exact ⟨_, rfl, State.acceptHeld_accepts hinit hfree hnext hin hwf hsrc htmpl hclean hstop hold hok hany hdelay hmode hwait⟩
  case timeout =>
    intro i s r it l hin hheld hsrc hwf hstop
    have hsch := State.enqTimeout_discards hin hheld hsrc hwf hstop
    have hinputs := congrArg SchSt.inputs hsch
    exact ⟨_, rfl, (State.input_congr hinputs i.val).trans (State.input_setInput_wf hwf ..), (congrArg SchSt.ctx hsch).trans rfl,
      fun j hj => (State.input_congr hinputs j).trans (SMap.get_set_ne hj.symm)⟩

end

section
/-! SUPPORT. Writes of the registers of the scheduler as commands (R20, R170, R173, R178, R188, R193). -/

namespace Sys2Proof.Machine

set_option Elab.async false

variable {s : State} {req : Req}

/-! ## The SCH block -/

/-- R13: the SCH block is the 2 MiB from 0x300000 on. -/
theorem locate_sch {o : Nat} (h : o < 0x200000) : locate (oSch + o) = some ⟨.sch, 0, oSch, o⟩ := by
  have hsys : ¬0x300000 + o < 0x100000 := by omega
  have hcfg : ¬0x300000 + o < 0x200000 := by omega
  have hpld : ¬0x300000 + o < 0x300000 := by omega
  have hsch : 0x300000 + o < 0x500000 := by omega
  simp [locate, blkSpans, oSch, hsys, hcfg, hpld, hsch, Nat.div_eq_of_lt h, Nat.mod_eq_of_lt h]

/-- R20: a write of a register of one word, below the enqueue addresses, with its fields in range is what its own rule makes of it. -/
theorem State.cmdWrite_sch {o i : Nat} {r : RegDef} {v : Word} {t : State} (hub : s.sys.hubOn = true) (die : reservedDie req.toNat = false)
    (ho : o < 0x800) (hne : o ≠ 4) (hr : findReg regsSch o = some (r, i)) (hpair : r.pair = false) (hhigh : isHighHalf (oSch + o) = false)
    (hc : r.check v = none) (ht : s.schRegWrite req.toNat o v = .ok t) : s.cmdWrite req (oSch + o) v = t := by
  have hloc := locate_sch (show o < 0x200000 by omega)
  have hbad : s.badPost req.toNat ⟨.sch, 0, oSch, o⟩ = none := by simp [State.badPost, Nat.not_le.mpr ho]
  have hrow : (regAt (oSch + o)).map (·.2.1) = some r := by simp only [regAt, hloc, Blk.regs, hr, Option.map_some]
  refine (State.cmdWrite_word ⟨⟨hub, die, hloc, rfl, rfl, hbad, hrow⟩, hpair, hhigh⟩ hc).1 t ?_
  rw [State.setRegister, if_neg hne]
  exact ht

/-! ## Portals (R170) -/

theorem oPstat_sub (p : Nat) : oPstat p - 4 = oSch + (0x240 + 0x80 * p) := by simp only [oPstat, oSch]; omega

theorem findReg_pgo (p : Fin 4) : findReg regsSch (0x240 + 0x80 * p.val) = some (regN 0x240 0x80 4 0 [fWo 1 1, fWo 0 0], p.val) := by
  match p with
  | 0 => rfl
  | 1 => rfl
  | 2 => rfl
  | 3 => rfl

theorem isHighHalf_pgo (p : Fin 4) : isHighHalf (oSch + (0x240 + 0x80 * p.val)) = false := by
  match p with
  | 0 => rfl
  | 1 => rfl
  | 2 => rfl
  | 3 => rfl

theorem State.cmdWrite_pgo {p : Fin 4} {v : Word} {t : State} (hub : s.sys.hubOn = true) (die : reservedDie req.toNat = false)
    (ht : s.portalWrite req.toNat p.val v = .ok t) : s.cmdWrite req (oPstat p.val - 4) v = t := by
  have hp := p.isLt
  rw [oPstat_sub]
  refine State.cmdWrite_sch hub die (by omega) (by omega) (findReg_pgo p) rfl (isHighHalf_pgo p) rfl ?_
  unfold State.schRegWrite
  dsimp only
  repeat rw [if_neg (by omega)]
  rw [if_pos (by omega), if_pos (by omega), show (0x240 + 0x80 * p.val - 0x200) / 0x80 = p.val by omega]
  exact ht

/-! ## Posts, cancels and quarantine (R173, R178, R193) -/

theorem State.cmdWrite_evpost {v : Word} (hub : s.sys.hubOn = true) (die : reservedDie req.toNat = false) :
    s.cmdWrite req (oSch + 0x58) v = s.postEvent (bitsOf v 13 0) (bitsOf v 20 16) :=
  State.cmdWrite_sch (r := reg1 0x058 0 [fWo 20 16, fWo 13 0]) (i := 0) hub die (by decide) (by decide) rfl rfl rfl rfl rfl

theorem State.cmdWrite_cancel {v : Word} {t : State} (hub : s.sys.hubOn = true) (die : reservedDie req.toNat = false) (ht : s.cancel v = .ok t) :
    s.cmdWrite req (oSch + 0x5C) v = t :=
  State.cmdWrite_sch (r := reg1 0x05C 0 [fWo 31 31, fWo 13 0]) (i := 0) hub die (by decide) (by decide) rfl rfl rfl rfl ht

/-! ## Completion queues (R188) -/

/-- The row of SCH_CQCTL. -/
def cqctlRow : RegDef := regN 0x108 0x10 16 0x00040000 [fRw 31 31, fRo 30 30, fRw 29 29, fRw 28 28, fRng 20 16 4 16, fRw 10 0]

theorem oCqctl_eq (q : Nat) : oCqctl q = oSch + (0x108 + 0x10 * q) := by simp only [oCqctl]; omega

theorem findReg_cqctl (q : CQ) : findReg regsSch (0x108 + 0x10 * q.val) = some (cqctlRow, q.val) := by
  have hq := q.isLt
  simp only [regsSch, regWrstat, reg1, regN, lowHalf, findReg]
  repeat rw [if_neg (by omega)]
  rw [if_pos (by omega)]
  exact congrArg (fun j => some (_, j)) (by omega)

theorem isHighHalf_cqctl : ∀ q : CQ, isHighHalf (oSch + (0x108 + 0x10 * q.val)) = false := by decide

theorem State.cmdWrite_cqctl {q : CQ} {v : Word} {t : State} (hub : s.sys.hubOn = true) (die : reservedDie req.toNat = false)
    (hc : cqctlRow.check v = none) (ht : s.cqctlWrite q.val v = .ok t) : s.cmdWrite req (oCqctl q.val) v = t := by
  have hq := q.isLt
  rw [oCqctl_eq]
  refine State.cmdWrite_sch hub die (by omega) (by omega) (findReg_cqctl q) rfl (isHighHalf_cqctl q) hc ?_
  unfold State.schRegWrite
  dsimp only
  repeat rw [if_neg (by omega)]
  rw [if_pos (by omega), if_pos (by omega), show (0x108 + 0x10 * q.val - 0x100) / 16 = q.val by omega]
  exact ht

/-- A write of SCH_CQCTL sets its writable fields. -/
theorem State.plainWrite_cqctl (q : CQ) (v : Word) : s.plainWrite (oCqctl q.val) v = s.setReg (oCqctl q.val) (cqctlRow.merge v (s.reg (oCqctl q.val))) := by
  have hq := q.isLt
  have hrow : regAt (oCqctl q.val) = some (⟨.sch, 0, oSch, 0x108 + 0x10 * q.val⟩, cqctlRow, q.val) := by
    rw [oCqctl_eq, regAt, locate_sch (by omega)]
    simp only [Blk.regs, findReg_cqctl]
  simp only [State.plainWrite, hrow]

end Sys2Proof.Machine
end

section
/-! SUPPORT. Completion queues (R188) and the duplicated control of the scheduler (R192). -/

namespace Sys2Proof.Machine

set_option Elab.async false

variable {s : State} {q : Nat}

/-! ## Completion queues -/

/-- Where the record at index PI is written. -/
def State.cqSlot (s : State) (q : Nat) : Nat :=
  s.fld (oSch + 0x100 + 0x10 * q) 31 0 + 2 ^ 32 * s.fld (oSch + 0x104 + 0x10 * q) 31 0 + 32 * s.fld (oCqidx q) 15 0

/-- R188: the record of the task that has waited longest is written, where the queue runs, has room and awaits no answer. -/
theorem State.cqWrite_writes {x n : Nat} {l : List Nat} {r : EndReport} (htasks : s.cqTasks q = x :: l) (hen : s.bit (oCqctl q) 31 = true)
    (hrun : s.bit (oCqctl q) 30 = false)
    (hroom : (s.fld (oCqidx q) 15 0 + 1) % 2 ^ s.fld (oCqctl q) 20 16 ≠ s.fld (oCqidx q) 31 16 % 2 ^ s.fld (oCqctl q) 20 16)
    (hidle : s.net.outst.any (fun o => o.kind == .cqRecord q) = false) (hend : (s.ctx x).ending = some (r, n)) :
    s.cqWrite q = s.issueWr reqSch 0 0 (s.cqSlot q) 1 0xFFFF false ((cqRecord (s.ctx x) x r n).flatMap (fun w => bytesLE 4 w.toNat)) (.cqRecord q) := by
  unfold State.cqWrite
  simp only [htasks, hen, hrun, hroom, hidle, hend, Bool.true_eq_false, Bool.false_eq_true, or_self, if_false]
  rfl

/-- The word that enables a queue of 2^n records. -/
def cqEnableWord (n : Nat) : Word := BitVec.ofNat 32 (2 ^ 31 + n * 2 ^ 16)

theorem bitsOf_cqEnableWord {n : Nat} (h : n ≤ 16) : bitsOf (cqEnableWord n) 31 31 = 1 ∧ bitsOf (cqEnableWord n) 20 16 = n := by
  have hnat : (cqEnableWord n).toNat = 2 ^ 31 + n * 2 ^ 16 := by rw [cqEnableWord, BitVec.toNat_ofNat, Nat.mod_eq_of_lt (by omega)]
  constructor
  · rw [bitsOf, hnat]; omega
  · rw [bitsOf, hnat]; omega

/-- R188: a queue has 16 to 65,536 records. -/
theorem check_cqEnableWord {n : Nat} (hlo : 4 ≤ n) (hhi : n ≤ 16) : cqctlRow.check (cqEnableWord n) = none := by
  obtain ⟨-, hsize⟩ := bitsOf_cqEnableWord hhi
  simp only [RegDef.check, cqctlRow, regN, fRw, fRo, fRng, List.findSome?, Fld.check, hsize, hlo, hhi, and_self, if_true]

/-- A write of SCH_CQCTL takes EN and the size from the word. -/
theorem bitsOf_cqctlRow_merge (v old : Word) :
    bitsOf (cqctlRow.merge v old) 31 31 = bitsOf v 31 31 ∧ bitsOf (cqctlRow.merge v old) 20 16 = bitsOf v 20 16 := by
  have hself (w : Word) (hi lo : Nat) : bitsOf v hi lo % 2 ^ (hi + 1 - lo) = bitsOf v hi lo := Nat.mod_mod _ _
  simp only [cqctlRow, regN, fRw, fRo, fRng, RegDef.merge, List.foldl, Fld.write]
  constructor
  · rw [bitsOf_withBits_beside _ _ (by decide) (by decide) (by decide), bitsOf_withBits_beside _ _ (by decide) (by decide) (by decide),
      bitsOf_withBits_beside _ _ (by decide) (by decide) (by decide), bitsOf_withBits_beside _ _ (by decide) (by decide) (by decide),
      bitsOf_withBits_same _ _ (by decide) (by decide), hself old]
  · rw [bitsOf_withBits_beside _ _ (by decide) (by decide) (by decide), bitsOf_withBits_same _ _ (by decide) (by decide), hself old]

/-- R188: a queue that is enabled runs, and starts anew where it is empty. -/
theorem State.cqctlWrite_enables {v : Word} (hoff : s.bit (oCqctl q) 31 = false) (hv : bitsOf v 31 31 = 1) :
    s.cqctlWrite q v = .ok (if s.fld (oCqidx q) 15 0 = s.fld (oCqidx q) 31 16 then
      ((s.plainWrite (oCqctl q) v).setBit (oCqctl q) 30 false).setFld (oCqidx q) 15 0 0
    else (s.plainWrite (oCqctl q) v).setBit (oCqctl q) 30 false) := by
  simp only [State.cqctlWrite, hoff, hv, Bool.false_eq_true, false_and, and_self, if_false, if_true]

theorem oCqidx_ne (q : Nat) : oCqidx q ≠ oCqctl q := by simp only [oCqidx, oCqctl]; omega

/-- The register of a queue that has been enabled. -/
theorem State.cqctl_enabled (hwf : State.regsWf s = true) (c : CQ) {n : Nat} (hn : n ≤ 16) :
    ((s.plainWrite (oCqctl c.val) (cqEnableWord n)).setBit (oCqctl c.val) 30 false).bit (oCqctl c.val) 31 = true ∧
      ((s.plainWrite (oCqctl c.val) (cqEnableWord n)).setBit (oCqctl c.val) 30 false).bit (oCqctl c.val) 30 = false ∧
      ((s.plainWrite (oCqctl c.val) (cqEnableWord n)).setBit (oCqctl c.val) 30 false).fld (oCqctl c.val) 20 16 = n := by
  obtain ⟨hen, hsize⟩ := bitsOf_cqEnableWord hn
  obtain ⟨hmen, hmsize⟩ := bitsOf_cqctlRow_merge (cqEnableWord n) (s.reg (oCqctl c.val))
  rw [State.plainWrite_cqctl]
  have hwf' := State.wf_setReg hwf (oCqctl c.val) (cqctlRow.merge (cqEnableWord n) (s.reg (oCqctl c.val)))
  refine ⟨?_, State.bit_setBit_self hwf' _ _ (by decide), ?_⟩
  · rw [State.bit_setBit_beside hwf' _ _ (by decide) (by decide), State.bit, State.fld_setReg_self hwf, hmen, hen]
    rfl
  · rw [State.fld_setBit_beside hwf' _ _ (by decide) (by decide), State.fld_setReg_self hwf, hmsize, hsize]

/-- Writes of registers change nothing beside them. -/
theorem State.withRegs_setFld (u : State) (o hi lo n : Nat) (r : SMap Word) : { u.setFld o hi lo n with regs := r } = { u with regs := r } := rfl
theorem State.withRegs_setBit (u : State) (o k : Nat) (b : Bool) (r : SMap Word) : { u.setBit o k b with regs := r } = { u with regs := r } := rfl
theorem State.withRegs_setReg (u : State) (o : Nat) (v : Word) (r : SMap Word) : { u.setReg o v with regs := r } = { u with regs := r } := rfl

/-- R188: an enabled queue runs with the size given, and nothing changes but its registers. -/
theorem State.cmdWrite_cqEnable {req : Req} {c : CQ} {n : Nat} (hwf : State.regsWf s = true) (hub : s.sys.hubOn = true)
    (die : reservedDie req.toNat = false) (hoff : s.bit (oCqctl c.val) 31 = false) (hlo : 4 ≤ n) (hhi : n ≤ 16) :
    ∃ t, s.cmdWrite req (oCqctl c.val) (cqEnableWord n) = t ∧ t.bit (oCqctl c.val) 31 = true ∧ t.bit (oCqctl c.val) 30 = false ∧
      t.fld (oCqctl c.val) 20 16 = n ∧ { t with regs := s.regs } = s := by
  refine ⟨_, State.cmdWrite_cqctl hub die (check_cqEnableWord hlo hhi) (State.cqctlWrite_enables hoff (bitsOf_cqEnableWord hhi).1), ?_⟩
  obtain ⟨hen, hrun, hsize⟩ := State.cqctl_enabled hwf c hhi
  have hframe : { (s.plainWrite (oCqctl c.val) (cqEnableWord n)).setBit (oCqctl c.val) 30 false with regs := s.regs } = s := by
    rw [State.plainWrite_cqctl, State.withRegs_setBit, State.withRegs_setReg]
  generalize (s.plainWrite (oCqctl c.val) (cqEnableWord n)).setBit (oCqctl c.val) 30 false = u at hen hrun hsize hframe ⊢
  split
  · refine ⟨?_, ?_, ?_, (State.withRegs_setFld ..).trans hframe⟩
    · rw [State.bit, State.fld_setFld_ne (oCqidx_ne _), ← State.bit, hen]
    · rw [State.bit, State.fld_setFld_ne (oCqidx_ne _), ← State.bit, hrun]
    · rw [State.fld_setFld_ne (oCqidx_ne _), hsize]
  · exact ⟨hen, hrun, hsize, hframe⟩

/-! ## Duplicated control (R192) -/

/-- The state in which the copy in control after a mismatch is known. -/
def State.dupControl (s : State) (f : CopyFault) : State := if f = .shadowFails then s else s.setBit oDup 31 (!s.bit oDup 31)

theorem State.dupMismatch_eq (f : CopyFault) (h : s.bit oDup 30 = false) :
    s.dupMismatch f = (((s.dupControl f).setBit oDup 30 true).count oDup 15 0 1).log (mkRec reqSch 0x054 0 1 reqSch) := by
  unfold State.dupMismatch
  rw [if_neg (by rw [h]; exact Bool.false_ne_true)]
  cases f with
  | activeFails => simp only [State.dupControl, reduceCtorEq, if_false]
  | shadowFails => simp only [State.dupControl, if_true]
  | bothPass => simp only [State.dupControl, reduceCtorEq, if_false]

theorem State.dupControl_spec (hwf : State.regsWf s = true) (f : CopyFault) :
    State.regsWf (s.dupControl f) = true ∧ (s.dupControl f).sch = s.sch ∧
      (s.dupControl f).bit oDup 31 = if f = .shadowFails then s.bit oDup 31 else !s.bit oDup 31 := by
  unfold State.dupControl
  split
  · exact ⟨hwf, rfl, rfl⟩
  · exact ⟨State.wf_setBit hwf _ _ _, State.setBit_sch .., State.bit_setBit_self hwf _ _ (by decide)⟩

/-- R192: a first mismatch retires a copy; control passes to the other one unless it was the shadow that failed. -/
theorem State.dupMismatch_spec (hwf : State.regsWf s = true) (f : CopyFault) (h : s.bit oDup 30 = false) :
    (s.dupMismatch f).bit oDup 30 = true ∧ (s.dupMismatch f).bit oDup 31 = (if f = .shadowFails then s.bit oDup 31 else !s.bit oDup 31) ∧
      (s.dupMismatch f).sch = s.sch := by
  obtain ⟨hwf1, hsch, hctl⟩ := State.dupControl_spec hwf f
  have hwf2 := State.wf_setBit hwf1 oDup 30 true
  have hlog (u : State) (k : Nat) : (u.log (mkRec reqSch 0x054 0 1 reqSch)).bit oDup k = u.bit oDup k := by
    rw [State.bit, State.fld_log (by decide), State.bit]
  have hcount (k : Nat) (hk : 15 < k) : (((s.dupControl f).setBit oDup 30 true).count oDup 15 0 1).bit oDup k =
      ((s.dupControl f).setBit oDup 30 true).bit oDup k := State.bit_setFld_beside hwf2 oDup _ (by decide) (by decide) (.inr hk)
  rw [State.dupMismatch_eq f h]
  refine ⟨?_, ?_, ?_⟩
  · rw [hlog, hcount 30 (by decide), State.bit_setBit_self hwf1 _ _ (by decide)]
  · rw [hlog, hcount 31 (by decide), State.bit_setBit_beside hwf1 _ _ (by decide) (by decide), hctl]
  · rw [State.log_sch, State.count_sch, State.setBit_sch, hsch]

end Sys2Proof.Machine
end

section
open Sys2Proof Sys2Proof.Machine Sys2Proof.Stated

/-- Settles O34: a record goes out as one write, an enabled queue has its word, and a mismatch writes SCH_DUP alone before it is recorded. -/
theorem schedulerRecordsComplete : Obligations.SchedulerRecordsComplete := by
  unfold Obligations.SchedulerRecordsComplete
  refine ⟨?record, ?enable, ?mismatch, ?rejoin⟩
  case record =>
    intro q s x n l r htasks hen hrun hroom hidle hend
    refine ⟨s.cqWrite q.val, rfl, s.freeTag reqSch, ?_⟩
    rw [State.cqWrite_writes htasks hen hrun hroom hidle hend]
    rfl
  case enable =>
    intro req q n s hwf hub die hoff hlo hhi
    obtain ⟨t, hwrite, henabled⟩ := State.cmdWrite_cqEnable hwf hub die hoff hlo hhi
    exact ⟨t, congrArg Host.Outcome.next hwrite, henabled⟩
  case mismatch => exact fun f s hwf h => ⟨_, rfl, State.dupMismatch_spec hwf f h⟩
  case rejoin =>
    exact fun s hwf => ⟨_, rfl, State.bit_setBit_self hwf oDup false (by decide), fun o ho => State.reg_setBit_ne ho.symm _ _,
      State.withRegs_setBit ..⟩

end

section
/-! SUPPORT. Deadlines, dispatch and the ends of tasks (R178, R181 to R187, R190, R193). -/

namespace Sys2Proof.Machine

set_option Elab.async false

variable {s t : State} {c : TaskCtx} {x y : Nat}

/-! ## A deadline that is checked (R187) -/

/-- The deadline has passed at `now`, has not been found, and the task did not end in time. -/
def TaskCtx.overdue (c : TaskCtx) (now : Nat) : Bool :=
  match c.deadline with
  | none => false
  | some d => decide (d < now ∧ c.miss = false ∧ c.st ≠ .free ∧ c.inTime d = false)

/-- The context after the check of its deadline. -/
def TaskCtx.checked (c : TaskCtx) (now : Nat) : TaskCtx := if c.overdue now then { c with miss := true } else c

/-- The check marks the miss, and nothing else of the context. -/
theorem TaskCtx.checked_eq (c : TaskCtx) (now : Nat) : ∃ b, c.checked now = { c with miss := b } := by
  unfold TaskCtx.checked
  split
  · exact ⟨true, rfl⟩
  · exact ⟨c.miss, rfl⟩

theorem TaskCtx.overdue_of_miss (h : c.miss = true) (now : Nat) : c.overdue now = false := by
  unfold TaskCtx.overdue
  split
  · rfl
  · simp [h]

/-- A deadline is found once. -/
theorem TaskCtx.checked_checked (c : TaskCtx) (now : Nat) : (c.checked now).checked now = c.checked now := by
  by_cases h : c.overdue now = true
  · have hc : c.checked now = { c with miss := true } := if_pos h
    rw [hc, TaskCtx.checked, if_neg (by rw [TaskCtx.overdue_of_miss rfl]; exact Bool.false_ne_true)]
  · have hc : c.checked now = c := if_neg h
    rw [hc, hc]

theorem TaskCtx.miss_checked {d now : Nat} (hd : c.deadline = some d) (hlate : d < now) (hst : c.st ≠ .free) (hin : c.inTime d = false) :
    (c.checked now).miss = true := by
  cases hm : c.miss with
  | true =>
    rw [TaskCtx.checked, TaskCtx.overdue_of_miss hm]
    exact hm
  | false =>
    have hover : c.overdue now = true := by simp only [TaskCtx.overdue, hd, hlate, hm, hst, hin, ne_eq, not_false_eq_true, and_self, decide_true]
    rw [TaskCtx.checked, if_pos hover]

@[simp] theorem State.logLim_sch (s : State) (k : Nat) (r : Rec) : (s.logLim k r).sch = s.sch := by
  unfold State.logLim
  split
  · rfl
  · exact State.log_sch ..

@[simp] theorem State.logLim_eng (s : State) (k : Nat) (r : Rec) : (s.logLim k r).eng = s.eng := by
  unfold State.logLim
  split
  · rfl
  · exact State.log_eng ..

theorem State.log_now (s : State) (r : Rec) : (s.log r).now = s.now := by
  obtain ⟨regs, rec, h⟩ := s.log_frame r
  rw [h]

theorem State.logLim_now (s : State) (k : Nat) (r : Rec) : (s.logLim k r).now = s.now := by
  unfold State.logLim
  split
  · rfl
  · exact State.log_now ..

theorem State.findMiss_eq (s : State) (x : Nat) :
    s.findMiss x = if (s.ctx x).overdue s.now then
      ((s.setCtx x { s.ctx x with miss := true }).count (oSch + 0x80 + 4 * dPrio (s.ctx x).desc) 31 0 1).logLim (limKey 0x051 0)
        (mkRec reqSch 0x051 x 1 reqSch)
    else s := by
  unfold State.findMiss TaskCtx.overdue
  cases hd : (s.ctx x).deadline with
  | none => simp only [hd, Bool.false_eq_true, if_false]
  | some d => simp only [hd, decide_eq_true_eq]

/-- What the check of a deadline leaves of the scheduler: its tables, but for the context. -/
theorem State.findMiss_sch (s : State) (x : Nat) :
    (s.findMiss x).sch = if (s.ctx x).overdue s.now then (s.setCtx x { s.ctx x with miss := true }).sch else s.sch := by
  rw [State.findMiss_eq]
  split
  · rw [State.logLim_sch, State.count_sch]
  · rfl

theorem State.ctx_findMiss (s : State) (x : Nat) : (s.findMiss x).ctx x = (s.ctx x).checked s.now := by
  rw [State.ctx, State.findMiss_sch, TaskCtx.checked]
  split
  · exact State.ctx_setCtx_self (c := { s.ctx x with miss := true }) (fun h => Bool.noConfusion (congrArg TaskCtx.miss h)) s x
  · rfl

theorem State.ctx_findMiss_ne (h : y ≠ x) (s : State) : (s.findMiss x).ctx y = s.ctx y := by
  rw [State.ctx, State.findMiss_sch]
  split
  · exact State.ctx_setCtx_ne h s _
  · rfl

theorem State.ctxWf_setCtx (h : Stated.CtxWf s) (x : Nat) (c : TaskCtx) : Stated.CtxWf (s.setCtx x c) := SMap.wf_set h

theorem State.ctxWf_findMiss (h : Stated.CtxWf s) (x : Nat) : Stated.CtxWf (s.findMiss x) := by
  unfold Stated.CtxWf
  rw [State.findMiss_sch]
  split
  · exact State.ctxWf_setCtx h ..
  · exact h

theorem State.findMiss_eng (s : State) (x : Nat) : (s.findMiss x).eng = s.eng := by
  rw [State.findMiss_eq]
  split
  · rw [State.logLim_eng, State.count_eng]
    rfl
  · rfl

theorem State.findMiss_now (s : State) (x : Nat) : (s.findMiss x).now = s.now := by
  rw [State.findMiss_eq]
  split
  · rw [State.logLim_now, State.count_now]
    rfl
  · rfl

/-- R187: a sweep checks each context that it visits. -/
theorem State.ctx_sweep (s : State) (xs : List Nat) (y : Nat) :
    (xs.foldl (fun t x => t.findMiss x) s).ctx y = if y ∈ xs then (s.ctx y).checked s.now else s.ctx y := by
  induction xs generalizing s with
  | nil => rfl
  | cons x xs ih =>
    rw [List.foldl_cons, ih, State.findMiss_now]
    by_cases hy : y = x
    · subst hy
      rw [State.ctx_findMiss, TaskCtx.checked_checked, ite_self, if_pos List.mem_cons_self]
    · rw [State.ctx_findMiss_ne hy]
      simp only [List.mem_cons, hy, false_or]

/-- A context with a deadline is listed. -/
theorem State.mem_keys_of_deadline {d : Nat} (h : (s.ctx x).deadline = some d) : x ∈ s.sch.ctx.map Prod.fst := by
  cases hx : SMap.find s.sch.ctx x with
  | none =>
    rw [State.ctx, SMap.get, hx] at h
    cases h
  | some c => exact List.mem_map.mpr ⟨_, SMap.mem_of_find hx, rfl⟩

theorem State.ctxReads_clean (h : Stated.NoErrors s) (xs : List Nat) : s.ctxReads xs = s := if_pos h
theorem State.readyReads_clean (h : Stated.NoErrors s) : s.readyReads = s := if_pos h

/-! ## Dispatch (R98, R181, R182) -/

/-- R98: the bank of a start context. -/
theorem startBank_spec (old : EBank) (d : List Word) (x copy limit : Nat) :
    (startBank old d x copy limit).busy = true ∧ (startBank old d x copy limit).tid = x ∧ (startBank old d x copy limit).pc = dFld d 2 27 16 ∧
      (startBank old d x copy limit).flags = 0 := ⟨rfl, rfl, rfl, rfl⟩

/-- The engine after the dispatch agent has written a start context into bank `w`. -/
theorem State.engSt_startTask (s : State) (l x copy : Nat) (w : Bool) :
    (s.startTask l x copy w).engSt (s.le l).phys = (s.engSt (s.le l).phys).setBank w
      (startBank ((s.engSt (s.le l).phys).bank w) (s.ctx x).desc x copy (s.fld (oEng (s.le l).phys + 0x18) 19 0)) :=
  State.engSt_setEng_task (w := w) (by rw [EngSt.bank_setBank_self]; exact (startBank_spec ..).1) s _

/-- Written into the active bank, it is what the engine runs. -/
theorem State.cur_startTask (s : State) (l x copy : Nat) :
    ((s.startTask l x copy (s.engSt (s.le l).phys).active).engSt (s.le l).phys).cur =
      startBank (s.engSt (s.le l).phys).cur (s.ctx x).desc x copy (s.fld (oEng (s.le l).phys + 0x18) 19 0) := by
  rw [State.engSt_startTask]
  exact EngSt.cur_setCur _ _

/-- R182: a task that is dispatched runs on its logical engine; no engine changes. -/
theorem State.noteDispatch_spec (s : State) (k l x : Nat) :
    ((s.noteDispatch k l x).ctx x).st = .running ∧ ((s.noteDispatch k l x).ctx x).lid = l ∧ (s.noteDispatch k l x).eng = s.eng := by
  unfold State.noteDispatch
  extract_lets c m s1 f w s2 n s3 sch s4
  have h2 : s2.sch.ctx = s1.sch.ctx ∧ s2.eng = s.eng := by
    unfold s2
    split <;> exact ⟨rfl, rfl⟩
  have hctx : s4.ctx x = _ := (State.ctx_of_table (t := s4) (s := s1) h2.1 x).trans (State.ctx_setCtx_task (fun h => TState.noConfusion h) s x)
  obtain ⟨b, hb⟩ := TaskCtx.checked_eq (s4.ctx x) s4.now
  rw [State.ctx_findMiss, hb, hctx, State.findMiss_eng]
  exact ⟨rfl, rfl, h2.2⟩

/-- R184: the dispatch agent starts the task that a pipeline has picked, on one engine. -/
theorem State.dispatch_starts {k l : Nat} (hinit : s.schInit = false) (hen : s.bit oSch 31 = true) (hday : s.nightState = 0)
    (hpick : s.pickTask ((s.pipeOrder k).filter s.leAvailable) ((List.range 1024).filter s.leAvailable) s.candidates = some (⟨x, false⟩, l, none)) :
    s.dispatch k = (s.startTask l x 0 (s.engSt (s.le l).phys).active).noteDispatch k l x := by
  unfold State.dispatch
  rw [if_neg (by rw [hinit, hen, hday]; decide), hpick]
  rfl

/-! ## Cancels (R178) -/

theorem State.leaveDelay_frame (s : State) (x : Nat) : ∃ l, s.leaveDelay x = { s with sch := { s.sch with delay := l } } :=
  List.foldlRecOn (motive := fun t : State => ∃ l, t = { s with sch := { s.sch with delay := l } }) _ _ ⟨_, rfl⟩ fun t ht i _ => by
    obtain ⟨l, rfl⟩ := ht
    exact ⟨_, rfl⟩

theorem State.unlockFlow_frame (s : State) (x : Nat) : ∃ l, s.unlockFlow x = { s with sch := { s.sch with flow := l } } := by
  unfold State.unlockFlow
  dsimp only
  split
  · exact ⟨_, rfl⟩
  · exact ⟨_, rfl⟩

/-- R176: a task in COMPLETING has its end in its context. -/
theorem State.ctx_toCompleting (s : State) (x : Nat) (r : EndReport) :
    (s.toCompleting x r).ctx x = { s.ctx x with st := .completing, report := some r } := by
  obtain ⟨l, hl⟩ := s.unlockFlow_frame x
  rw [State.toCompleting, hl]
  exact State.ctx_setCtx_task (fun h => TState.noConfusion h) _ x

theorem State.ctx_toCompleting_ne (h : y ≠ x) (s : State) (r : EndReport) : (s.toCompleting x r).ctx y = s.ctx y := by
  obtain ⟨l, hl⟩ := s.unlockFlow_frame x
  rw [State.toCompleting, hl]
  exact State.ctx_setCtx_ne h _ _

theorem State.ctxWf_toCompleting (h : Stated.CtxWf s) (x : Nat) (r : EndReport) : Stated.CtxWf (s.toCompleting x r) := by
  obtain ⟨l, hl⟩ := s.unlockFlow_frame x
  rw [State.toCompleting, hl]
  exact State.ctxWf_setCtx (s := { s with sch := { s.sch with flow := l } }) h ..

/-- The word of SCH_CANCEL that cancels a task, and the one that ends its quarantine. -/
theorem bitsOf_cancelWord (x : Ctx) : bitsOf (BitVec.ofNat 32 x.val : Word) 13 0 = x.val ∧ bitsOf (BitVec.ofNat 32 x.val : Word) 31 31 = 0 := by
  have hx := x.isLt
  have hnat : (BitVec.ofNat 32 x.val : Word).toNat = x.val := by rw [BitVec.toNat_ofNat, Nat.mod_eq_of_lt (by omega)]
  constructor <;> rw [bitsOf, hnat] <;> omega

theorem bitsOf_qclrWord (x : Ctx) : bitsOf (BitVec.ofNat 32 (2 ^ 31 + x.val) : Word) 13 0 = x.val ∧
    bitsOf (BitVec.ofNat 32 (2 ^ 31 + x.val) : Word) 31 31 = 1 := by
  have hx := x.isLt
  have hnat : (BitVec.ofNat 32 (2 ^ 31 + x.val) : Word).toNat = 2 ^ 31 + x.val := by rw [BitVec.toNat_ofNat, Nat.mod_eq_of_lt (by omega)]
  constructor <;> rw [bitsOf, hnat] <;> omega

/-- R178: a task that is ready is cancelled. -/
theorem State.cancel_ready (x : Ctx) (hst : (s.ctx x.val).st = .ready) :
    s.cancel (BitVec.ofNat 32 x.val) = .ok ((s.leaveDelay x.val).toCompleting x.val ⟨6, 0, 0, false⟩) := by
  obtain ⟨hx, hbit⟩ := bitsOf_cancelWord x
  simp only [State.cancel, hx, hbit, hst, Nat.zero_ne_one, reduceCtorEq, or_true, if_false, if_true]

theorem State.ctx_cancelled (s : State) (x : Nat) :
    (((s.leaveDelay x).toCompleting x ⟨6, 0, 0, false⟩).ctx x).st = .completing ∧
      (((s.leaveDelay x).toCompleting x ⟨6, 0, 0, false⟩).ctx x).report = some ⟨6, 0, 0, false⟩ ∧
      ∀ y, y ≠ x → ((s.leaveDelay x).toCompleting x ⟨6, 0, 0, false⟩).ctx y = s.ctx y := by
  obtain ⟨l, hl⟩ := s.leaveDelay_frame x
  rw [State.ctx_toCompleting]
  refine ⟨rfl, rfl, fun y hy => ?_⟩
  rw [State.ctx_toCompleting_ne hy, hl]
  rfl

/-- R193: the quarantine of a context ends. -/
theorem State.cancel_quarantined (x : Ctx) (hq : (s.ctx x.val).quar = true) :
    s.cancel (BitVec.ofNat 32 (2 ^ 31 + x.val)) = .ok (s.setCtx x.val { s.ctx x.val with quar := false }) := by
  obtain ⟨hx, hbit⟩ := bitsOf_qclrWord x
  simp only [State.cancel, hx, hbit, hq, if_true]

/-! ## The end of a task (R186) -/

/-- A task that may not restart completes. -/
theorem State.taskEnd_completes {r : EndReport} (hr : (s.ctx x).report = some r) (hno : r.mayRestart = false) :
    s.taskEnd x = (if (s.ctx x).st = .completing then s else s.toCompleting x r).complete x r := by
  unfold State.taskEnd
  simp only [hr, hno, Bool.false_eq_true, false_and, and_false, if_false]

/-- The context of a task is freed: its flags, its deviations and its descriptor stay. -/
theorem State.ctx_freeCtx (hwf : Stated.CtxWf s) (x : Nat) : (s.freeCtx x).ctx x =
    { flags := (s.ctx x).flags, dev := (s.ctx x).dev, lid := (s.ctx x).lid, quar := (s.ctx x).quar, desc := (s.ctx x).desc, miss := (s.ctx x).miss,
      rcnt := (s.ctx x).rcnt } :=
  State.ctx_setCtx_wf (s := s.setFlow _ _) hwf x _

theorem State.ctx_freeCtx_ne (h : y ≠ x) (s : State) : (s.freeCtx x).ctx y = s.ctx y := State.ctx_setCtx_ne h (s.setFlow _ _) _

/-- The context of a task whose completion has begun. -/
def TaskCtx.ended (c : TaskCtx) (r : EndReport) (now : Nat) : TaskCtx := { c with report := none, pair := none, ending := some (r, now) }

/-- R186: a task without a completion record and without a post completes at once. -/
theorem State.complete_plain {r : EndReport} (hcq : dBit (s.ctx x).desc 12 28 = false) (hpost : dBit (s.ctx x).desc 12 21 = false) :
    s.complete x r = ((s.findMiss x).setCtx x (((s.findMiss x).ctx x).ended r s.now)).freeCtx x := by
  obtain ⟨b, hb⟩ := TaskCtx.checked_eq (s.ctx x) s.now
  have hdesc : ((s.findMiss x).ctx x).desc = (s.ctx x).desc := by rw [State.ctx_findMiss, hb]
  rw [← hdesc] at hcq hpost
  unfold State.complete
  simp only [hcq, hpost, Bool.false_eq_true, and_false, if_false]
  rfl

theorem State.ctx_complete {r : EndReport} (hwf : Stated.CtxWf s) (hcq : dBit (s.ctx x).desc 12 28 = false)
    (hpost : dBit (s.ctx x).desc 12 21 = false) :
    ((s.complete x r).ctx x).st = .free ∧ ((s.complete x r).ctx x).flags = (s.ctx x).flags ∧ ((s.complete x r).ctx x).report = none ∧
      ∀ y, y ≠ x → (s.complete x r).ctx y = s.ctx y := by
  obtain ⟨b, hb⟩ := TaskCtx.checked_eq (s.ctx x) s.now
  have hwf1 := State.ctxWf_findMiss hwf x
  have hwf2 : Stated.CtxWf ((s.findMiss x).setCtx x (((s.findMiss x).ctx x).ended r s.now)) :=
    State.ctxWf_setCtx hwf1 ..
  rw [State.complete_plain hcq hpost, State.ctx_freeCtx hwf2, State.ctx_setCtx_wf hwf1, State.ctx_findMiss, hb]
  refine ⟨rfl, rfl, rfl, fun y hy => ?_⟩
  rw [State.ctx_freeCtx_ne hy, State.ctx_setCtx_ne hy, State.ctx_findMiss_ne hy]

/-- R186: the end of a task that may not restart frees its context, whose flags stay. -/
theorem State.ctx_taskEnd {r : EndReport} (hr : (s.ctx x).report = some r) (hno : r.mayRestart = false) (hwf : Stated.CtxWf s)
    (hcq : dBit (s.ctx x).desc 12 28 = false) (hpost : dBit (s.ctx x).desc 12 21 = false) :
    ((s.taskEnd x).ctx x).st = .free ∧ ((s.taskEnd x).ctx x).flags = (s.ctx x).flags ∧ ((s.taskEnd x).ctx x).report = none ∧
      ∀ y, y ≠ x → (s.taskEnd x).ctx y = s.ctx y := by
  rw [State.taskEnd_completes hr hno]
  split
  · exact State.ctx_complete hwf hcq hpost
  · have hctx := State.ctx_toCompleting s x r
    obtain ⟨hst, hflags, hreport, hothers⟩ := State.ctx_complete (r := r) (x := x) (State.ctxWf_toCompleting hwf x r)
      (by rw [hctx]; exact hcq) (by rw [hctx]; exact hpost)
    exact ⟨hst, hflags.trans (by rw [hctx]), hreport, fun y hy => (hothers y hy).trans (State.ctx_toCompleting_ne hy s r)⟩

/-! ## Pairs (R190) -/

/-- R190: where one copy alone has ended in time, a referee is asked for, if there is a third cluster. -/
theorem State.pairTimeout_asks {p : Pair} {a b : PairCopy} {n : Nat} (hpair : (s.ctx x).pair = some p) (hcopies : p.copies = [a, b])
    (ha : a.ended = some n) (hb : b.ended = none) (hneed : p.needRef = false) (href : p.referee = none) (hrel : p.releasing = false)
    (hruna : s.halted a.eng = false) (hrunb : s.halted b.eng = false) (hclus : 3 ≤ affClusters (s.ctx x).desc) :
    s.pairTimeout x = s.setCtx x { s.ctx x with st := .comparing, pair := some { p with needRef := true } } := by
  have hlate : a.ended.isSome ≠ b.ended.isSome := by rw [ha, hb]; exact nofun
  unfold State.pairTimeout
  simp only [hpair, hcopies]
  rw [if_pos ⟨hlate, hneed, by rw [href]; rfl, hrel, hruna, hrunb⟩, State.needReferee,
    if_neg (Nat.not_lt.mpr hclus), hcopies]

end Sys2Proof.Machine
end

section
open Sys2Proof Sys2Proof.Machine Sys2Proof.Stated

/-- Settles O33: each end by the lemma of its operation; of a dispatch the start context gives the engine and the note of it the task. -/
theorem tasksComplete : Obligations.TasksComplete := by
  unfold Obligations.TasksComplete
  refine ⟨?dispatch, ?cancel, ?quarantine, ?ends, ?sweep, ?pair⟩
  case dispatch =>
    intro c s x l hinit hen hday hclean hpick
    obtain ⟨hst, hlid, heng⟩ := State.noteDispatch_spec (s.startTask l x 0 (s.engSt (s.le l).phys).active) c.val l x
    refine ⟨_, rfl, ?_⟩
    rw [State.readyReads_clean hclean, State.dispatch_starts hinit hen hday hpick]
    simp only [State.engSt_congr heng, State.cur_startTask]
    obtain ⟨hbusy, htid, hpc, hflags⟩ := startBank_spec (s.engSt (s.le l).phys).cur (s.ctx x).desc x 0 (s.fld (oEng (s.le l).phys + 0x18) 19 0)
    exact ⟨hst, hlid, hbusy, htid, hpc, hflags, fun e he => State.engSt_setEng_ne he s _⟩
  case cancel =>
    intro req x s hub die hst
    exact ⟨_, congrArg Host.Outcome.next (State.cmdWrite_cancel hub die (State.cancel_ready x hst)), State.ctx_cancelled s x.val⟩
  case quarantine =>
    intro req x s hub die hq hwf
    exact ⟨_, congrArg Host.Outcome.next (State.cmdWrite_cancel hub die (State.cancel_quarantined x hq)), State.ctx_setCtx_wf hwf .., rfl⟩
  case ends =>
    intro x s r hr hno hwf hclean hcq hpost
    refine ⟨_, rfl, ?_⟩
    rw [State.ctxReads_clean hclean]
    exact State.ctx_taskEnd hr hno hwf hcq hpost
  case sweep =>
    intro s hclean
    refine ⟨_, rfl, fun x d hd hlate hst hin => ?_⟩
    rw [State.ctxReads_clean hclean, State.ctx_sweep, if_pos (State.mem_keys_of_deadline hd)]
    obtain ⟨b, hb⟩ := TaskCtx.checked_eq (s.ctx x) s.now
    exact ⟨TaskCtx.miss_checked hd hlate hst hin, by rw [hb]⟩
  case pair =>
    intro x s p a b n hpair hcopies ha hb hneed href hrel hruna hrunb hclus
    refine ⟨_, congrArg Host.Outcome.next (State.pairTimeout_asks hpair hcopies ha hb hneed href hrel hruna hrunb hclus), ?_⟩
    rw [State.ctx_setCtx_task (fun h => TState.noConfusion h)]
    exact ⟨rfl, rfl⟩

end

section
/-! SUPPORT. The check of what waits at the enqueue inputs leaves SCH_STAT and the posts held for the end of initialisation alone (R165). -/

namespace Sys2Proof.Machine

set_option Elab.async false

/-- The buckets and counters of the SRAMs lie beside SCH_STAT. -/
theorem sramBucket_ne (unit : Nat) : (sramBucket unit).1 ≠ oSch + 8 ∧ (sramBucket unit).2.1 ≠ oSch + 8 := by
  unfold sramBucket
  dsimp only
  split
  · decide
  · split <;> simp only [oSch] <;> omega

/-- SCH_STAT, and the event posts that wait for the end of initialisation, are in `t` as in `s`. -/
structure State.InitKept (s t : State) : Prop where
  reg : t.reg (oSch + 8) = s.reg (oSch + 8)
  evq : t.sch.evq = s.sch.evq

namespace State.InitKept

variable {s t u : State}

theorem refl (s : State) : InitKept s s := ⟨rfl, rfl⟩

/-- An update behind the registers and the posts. -/
theorem behind (h : InitKept s t) (hr : u.regs = t.regs := by rfl) (he : u.sch.evq = t.sch.evq := by rfl) : InitKept s u :=
  ⟨by simpa only [State.reg, hr] using h.reg, he.trans h.evq⟩

theorem when {c : Prop} [Decidable c] (hu : InitKept s u) (h : InitKept s t) : InitKept s (if c then u else t) := by split <;> assumption

theorem foldl {α : Type} {f : State → α → State} {l : List α} (h : InitKept s t) (hf : ∀ (r : State) (x : α), InitKept s r → InitKept s (f r x)) :
    InitKept s (l.foldl f t) :=
  List.foldlRecOn l f h fun r hr x _ => hf r x hr

section
variable (h : InitKept s t) {o hi lo n k e l i x : Nat} {b w : Bool} {v : Word}
include h

/-! ## Registers, records and bit errors -/

section
variable (ho : o ≠ oSch + 8 := by simp only [oSch, oEng, oCls, oPstat, oTmpl, oRecCnt]; omega)
include ho

theorem setReg : InitKept s (t.setReg o v) := ⟨(State.reg_setReg_ne ho v).trans h.reg, h.evq⟩
theorem setFld : InitKept s (t.setFld o hi lo n) := h.setReg ho
theorem setBit : InitKept s (t.setBit o k b) := h.setFld ho
theorem count : InitKept s (t.count o hi lo n) := h.setFld ho

theorem bucket : InitKept s (t.bucket o).1 := by
  unfold State.bucket
  split <;> exact h.setFld ho

end

theorem log {r : Rec} : InitKept s (t.log r) := by
  rcases t.log_cases r with hlog | hlog | hlog <;> rw [hlog]
  · exact h.behind
  · exact h.behind
  · exact h.count

theorem logLim {r : Rec} : InitKept s (t.logLim k r) := h.behind.when h.behind.log

/-! The counter of a correction and its bucket stand for any operations in the proof below: the kernel would compute the words they write. -/

theorem sramCount : InitKept s (t.sramCount k l) := by
  have hdef := Eq.refl @State.sramCount
  conv_rhs at hdef => delta State.sramCount
  obtain ⟨hlevel, hcount⟩ := sramBucket_ne k
  have hb := (h.count (hi := 31) (lo := 0) (n := 1) hcount).bucket hlevel
  obtain ⟨count, hc⟩ := exists_eq (a' := @State.count)
  obtain ⟨bucket, hbk⟩ := exists_eq (a' := @State.bucket)
  rw [hdef, ← hc, ← hbk]
  rw [← hc, ← hbk] at hb
  clear hdef hc hbk
  dsimp only
  exact hb.behind.log.when hb.behind

theorem sramRead : InitKept s (t.sramRead k l n).1 :=
  List.foldlRecOn (motive := fun p : State × List Nat => InitKept s p.1) _ _ h fun p hp x _ => by
    split
    · exact hp
    · exact (hp.behind (u := p.1.sramMend x.1)).sramCount
    · exact hp

theorem sramFresh : InitKept s (t.sramFresh k l n) := h.foldl fun _ _ hr => hr.behind

theorem schRead : InitKept s (t.schRead l n).1 := (h.sramRead.foldl fun _ _ hr => hr.log).sramFresh

theorem sramTake : InitKept s (t.sramTake k l n).1 := InitKept.sramFresh (h.sramRead.foldl fun _ _ hr => hr.log)

theorem flowRead : InitKept s (t.flowRead n) :=
  (h.schRead.setBit (by simp only [oSch]; omega)).when h.schRead

theorem tmplRead : InitKept s (t.tmplRead n) :=
  (h.schRead.setBit (by simp only [oTmpl, oSch]; omega)).when h.schRead

theorem headReads : InitKept s (t.headReads n) := by
  unfold State.headReads
  refine h.when ?_
  split
  · exact (h.tmplRead.when h).flowRead
  · exact h

/-! ## Tasks and engines -/

theorem setCtx {c : TaskCtx} : InitKept s (t.setCtx x c) := h.behind
theorem setEng {y : EngSt} : InitKept s (t.setEng e y) := h.behind
theorem setInput {m : List EnqItem} : InitKept s (t.setInput i m) := h.behind
theorem send {m : NetMsg} : InitKept s (t.send m) := h.behind

theorem release : InitKept s (t.release x) := by
  obtain ⟨c, n, hframe⟩ := t.release_frame x
  rw [hframe]
  exact h.behind

theorem leaveDelay : InitKept s (t.leaveDelay x) := by
  obtain ⟨m, hframe⟩ := t.leaveDelay_frame x
  rw [hframe]
  exact h.behind

theorem toCompleting {r : EndReport} : InitKept s (t.toCompleting x r) := by
  obtain ⟨m, hframe⟩ := t.unlockFlow_frame x
  rw [State.toCompleting, hframe]
  exact h.behind

theorem staleBind : InitKept s (t.staleBind x) := h.leaveDelay.toCompleting.log

theorem enterTask : InitKept s (t.enterTask x) := h.staleBind.when ((h.release.when h.behind).when h.release)

theorem taskRegs {c : EBank} : InitKept s (t.taskRegs e c) := h.setReg.setReg.setReg.setReg
theorem trapRegs {c : TrapInfo} : InitKept s (t.trapRegs e c) := h.setReg.setReg.setReg.setReg.count

theorem trapLog {c : TrapInfo} : InitKept s (t.trapLog e c) := h.log.when (h.log.when (h.log.when (h.setEng.log.when h)))

theorem withdrawEng : InitKept s (t.withdrawEng e) := h.setInput

theorem copyEnd {y z m : Nat} {f : DWord → Nat → DWord} : InitKept s (t.copyEnd x y z m f) := by
  unfold State.copyEnd
  dsimp only
  split
  · exact h
  · exact h.setCtx

theorem reportEnd {c : EBank} {m : Nat} : InitKept s (t.reportEnd c m n) := (h.when h.setCtx).when h.copyEnd

theorem afterEnd : InitKept s (t.afterEnd e) := h.setEng.when ((h.setEng.setCtx.when h.setEng).when h)

theorem trapOnce {c : TrapInfo} : InitKept s (t.trapOnce e c) := by
  unfold State.trapOnce
  extract_lets y b s1 s2 s3 s4
  have h1 : InitKept s s1 := h.trapRegs.trapLog
  have h2 : InitKept s s2 := h1.withdrawEng.when h1
  have h3 : InitKept s s3 := (h2.behind (u := s2.abandon e y.active b.gen)).taskRegs.reportEnd
  have hfreed : InitKept s (s3.freeActive e) := h3.setEng
  have h4 : InitKept s s4 := hfreed.setEng.when hfreed.afterEnd
  exact h4.setEng.when h4

theorem takeHeld : InitKept s (t.takeHeld e) := by
  unfold State.takeHeld
  split
  · exact h
  · exact h.trapOnce

theorem impreciseCause {g c a : Nat} : InitKept s (t.impreciseCause e w g c b a) := by
  unfold State.impreciseCause
  extract_lets y z keep s1
  have h1 : InitKept s s1 := h.when h.setEng
  exact (h1.takeHeld.when h1).when h

/-! ## Classifiers -/

theorem setCls {y : ClsSt} : InitKept s (t.setCls n y) := h.behind

theorem clsWrite : InitKept s (t.clsWrite n) := by
  unfold State.clsWrite
  split
  · exact h
  · exact h.behind.when h.behind

/-- A frame that is dropped is counted at a ring, whose counters lie at offsets of their own. -/
theorem clsDrop {r : Option Nat} (hr : ∀ k ∈ r, k < 16) : InitKept s (t.clsDrop n r) := by
  unfold State.clsDrop
  cases r with
  | none => exact h.logLim
  | some k =>
    have hk := hr k rfl
    exact (h.count).logLim

theorem clsDeliver {r : Nat} (hr : r < 16) {f : RxWait} {m : MsgKind} {q : Option (Nat × Nat)} : InitKept s (t.clsDeliver n r f m q b w) :=
  (h.clsDrop fun _ hk => by cases hk; exact hr).when h.setCls.clsWrite

theorem classify {f : RxWait} : InitKept s (t.classify n f b) := by
  have hfld (u : State) (o lo : Nat) : u.fld o (lo + 3) lo < 16 := by
    rw [State.fld, bitsOf, show lo + 3 + 1 - lo = 4 by omega]
    exact Nat.mod_lt _ (by decide)
  have hcount : InitKept s (t.count (oCls n + 4) 31 16 1) := h.count
  unfold State.classify
  refine (h.clsDeliver (by decide)).when ?_
  split
  · exact h.clsDeliver (hfld ..)
  · exact (hcount.clsDeliver (hfld ..)).when (hcount.clsDrop nofun)

end

theorem clsPump {n : Nat} (m : Nat) (h : InitKept s t) : InitKept s (t.clsPump n m) := by
  induction m generalizing t with
  | zero => exact h
  | succ m ih =>
    unfold State.clsPump
    dsimp only
    split
    · exact h
    · exact h.when (ih h.setCls.sramTake.classify)

theorem clsTmplDone {n : Nat} (h : InitKept s t) : InitKept s (t.clsTmplDone n) := h.setCls.clsPump _

/-! ## The head of an input -/

theorem enqTaken {x : Nat} (h : InitKept s t) : InitKept s (t.enqTaken x) := by
  unfold State.enqTaken
  dsimp only
  split
  · exact h.setCtx
  · exact h

theorem tellAccepted {src : EnqSrc} {x : Nat} (h : InitKept s t) : InitKept s (t.tellAccepted src x) := by
  cases src with
  | portal p => exact h.setReg
  | engine e => exact h.setEng.when h
  | noc r k => exact h.when h.send
  | stream c => exact h.behind
  | classifier n => exact h.clsTmplDone
  | released y => exact h.enqTaken

theorem tellRefused {src : EnqSrc} {n : Nat} (h : InitKept s t) : InitKept s (t.tellRefused src n) := by
  cases src with
  | portal p => exact h.setReg
  | engine e => exact h.setEng.impreciseCause
  | noc r k => exact h.when h.send
  | stream c => exact h.behind
  | classifier n => exact h.clsTmplDone
  | released y => exact h.enqTaken

theorem tellStale {src : EnqSrc} (h : InitKept s t) : InitKept s (t.tellStale src) := by
  unfold State.tellStale
  split
  · exact h.when h.send
  · exact h.tellAccepted

theorem acceptInto {x : Nat} {it : EnqItem} {d : List Word} {ts : Option (Nat × Nat)} (h : InitKept s t) : InitKept s (t.acceptInto x it d ts) := by
  unfold State.acceptInto
  extract_lets old dl ds e fl c f w s1
  have h1 : InitKept s s1 := h.behind
  exact h1.enterTask.tellAccepted

theorem processHead {i : Nat} (h : InitKept s t) : InitKept s (t.processHead i) := by
  have hturn (rest : List EnqItem) : InitKept s ((t.turnTaken i).setInput i rest) := h.behind
  unfold State.processHead
  split
  · exact h
  · refine InitKept.when h.behind (InitKept.when (hturn _).behind.tellStale ?_)
    refine InitKept.when (hturn _).tellRefused.log (InitKept.when ?_ (hturn _).acceptInto)
    split
    · exact h.behind
    · exact (hturn _).acceptInto

theorem followers {i : Nat} (n : Nat) (h : InitKept s t) : InitKept s (State.followers i n t) := by
  induction n generalizing t with
  | zero => exact h
  | succ n ih =>
    unfold State.followers
    split
    · split
      · exact (ih h.headReads.processHead).when h
      · exact h
    · exact h

theorem checkHead {i : Nat} (h : InitKept s t) : InitKept s (t.checkHead i) := h.headReads.processHead.followers _

/-- R165: every held input goes on. -/
theorem inputsGo (h : InitKept s t) : InitKept s t.inputsGo :=
  h.foldl fun _ _ hr => by
    split
    · exact hr.checkHead.when hr
    · exact hr

end State.InitKept

end Sys2Proof.Machine
end

section
/-! SUPPORT. The end of initialisation (R165), portals (R170), event posts (R173) and the release from a delay list (R175). -/

namespace Sys2Proof.Machine

set_option Elab.async false

variable {s t : State} {x y : Nat}

/-! ## Event posts -/

/-- A post is a matter of the contexts and the ready numbers. -/
theorem State.setFlag_frame (s : State) (x f : Nat) : ∃ c n, s.setFlag x f = { s with sch := { s.sch with ctx := c, readyNo := n } } := by
  unfold State.setFlag
  extract_lets c c1 s1
  split
  · exact ⟨_, _, rfl⟩
  · exact ⟨_, s.sch.readyNo, rfl⟩

theorem State.ctx_setFlag_ne (h : y ≠ x) (s : State) (f : Nat) : (s.setFlag x f).ctx y = s.ctx y := by
  unfold State.setFlag
  extract_lets c c1 s1
  have h1 : s1.ctx y = s.ctx y := State.ctx_setCtx_ne h s c1
  split
  · exact (State.ctx_makeReady_ne h s1).trans h1
  · exact h1

/-- A task that waits for the flag is ready. -/
theorem State.st_setFlag {f : Nat} (hst : (s.ctx x).st = .waiting)
    (hholds : dWaitHolds (s.ctx x).desc ((s.ctx x).flags ||| BitVec.ofNat 32 (2 ^ f)) = true) : ((s.setFlag x f).ctx x).st = .ready := by
  unfold State.setFlag
  extract_lets c c1 s1
  rw [if_pos ⟨hst, hholds⟩, State.ctx_makeReady]

/-- A post changes no descriptor. -/
theorem State.desc_setFlag (hwf : Stated.CtxWf s) (x f y : Nat) :
    Stated.CtxWf (s.setFlag x f) ∧ ((s.setFlag x f).ctx y).desc = (s.ctx y).desc := by
  unfold State.setFlag
  extract_lets c c1 s1
  have hwf1 : Stated.CtxWf s1 := State.ctxWf_setCtx hwf ..
  have hself : s1.ctx x = c1 := State.ctx_setCtx_wf hwf ..
  have h1 : (s1.ctx y).desc = (s.ctx y).desc := by
    by_cases hy : y = x
    · rw [hy, hself]
    · rw [State.ctx_setCtx_ne hy]
  split
  · refine ⟨State.ctxWf_setCtx (s := { s1 with sch := { s1.sch with readyNo := s1.sch.readyNo + 1 } }) hwf1 .., ?_⟩
    by_cases hy : y = x
    · rw [hy, State.ctx_makeReady, ← hy, h1]
    · rw [State.ctx_makeReady_ne hy, h1]
  · exact ⟨hwf1, h1⟩

/-- R173: what a post does while the scheduler is initialised. -/
theorem State.postEvent_sets (hinit : s.schInit = false) (x : Nat) (f : Fin 32) :
    ((s.postEvent x f.val).ctx x).flags = (s.ctx x).flags ||| (1#32 <<< f.val) ∧
      ((s.ctx x).st = .waiting → dWaitHolds (s.ctx x).desc ((s.ctx x).flags ||| (1#32 <<< f.val)) = true → ((s.postEvent x f.val).ctx x).st = .ready) ∧
      (s.postEvent x f.val).regs = s.regs ∧ ∀ y, y ≠ x → (s.postEvent x f.val).ctx y = s.ctx y := by
  have hpost : s.postEvent x f.val = s.setFlag x f.val := if_neg (by rw [hinit]; exact Bool.false_ne_true)
  obtain ⟨c, n, hframe⟩ := s.setFlag_frame x f.val
  rw [hpost, ← ofNat_two_pow]
  exact ⟨(State.setFlag_sets s x f.isLt).1, State.st_setFlag, by rw [hframe], fun y hy => State.ctx_setFlag_ne hy s f.val⟩

/-- The word of SCH_EVPOST that names flag `f` of context `x`. -/
theorem bitsOf_evpostWord (x : Ctx) (f : Fin 32) : bitsOf (BitVec.ofNat 32 (f.val * 2 ^ 16 + x.val) : Word) 13 0 = x.val ∧
    bitsOf (BitVec.ofNat 32 (f.val * 2 ^ 16 + x.val) : Word) 20 16 = f.val := by
  have hx := x.isLt
  have hf := f.isLt
  have hnat : (BitVec.ofNat 32 (f.val * 2 ^ 16 + x.val) : Word).toNat = f.val * 2 ^ 16 + x.val := by
    rw [BitVec.toNat_ofNat, Nat.mod_eq_of_lt (by omega)]
  constructor <;> rw [bitsOf, hnat] <;> omega

/-! ## The end of initialisation -/

/-- The posts that waited act on the contexts alone, and change no descriptor. -/
theorem State.foldl_setFlag (l : List (Nat × Nat)) (s : State) :
    (∃ c n, l.foldl (fun (t : State) (e : Nat × Nat) => t.setFlag e.1 e.2) s = { s with sch := { s.sch with ctx := c, readyNo := n } }) ∧
      (Stated.CtxWf s → ∀ y, ((l.foldl (fun (t : State) (e : Nat × Nat) => t.setFlag e.1 e.2) s).ctx y).desc = (s.ctx y).desc) := by
  induction l generalizing s with
  | nil => exact ⟨⟨s.sch.ctx, s.sch.readyNo, rfl⟩, fun _ _ => rfl⟩
  | cons e l ih =>
    obtain ⟨⟨c, n, hrest⟩, hdesc⟩ := ih (s.setFlag e.1 e.2)
    obtain ⟨c1, n1, hone⟩ := s.setFlag_frame e.1 e.2
    rw [List.foldl_cons]
    refine ⟨⟨c, n, by rw [hrest, hone]⟩, fun hwf y => ?_⟩
    obtain ⟨hwf1, hkept⟩ := State.desc_setFlag hwf e.1 e.2 y
    rw [hdesc hwf1, hkept]

/-- With nothing at the inputs nothing goes on. -/
theorem State.inputsGo_empty (h : s.sch.inputs = []) : s.inputsGo = s := by
  have hnone (i : Nat) : s.input i = [] := by rw [State.input, h]; rfl
  exact List.foldlRecOn (motive := fun t => t = s) _ _ rfl fun t ht i _ => by rw [ht, hnone]

/-- No post waits for the end of initialisation any more. -/
def State.postsTaken (s : State) : State := { s with sch := { s.sch with evq := [] } }

theorem State.postsTaken_sch (s : State) : s.postsTaken.sch.evq = [] ∧ s.postsTaken.sch.ctx = s.sch.ctx ∧ s.postsTaken.sch.inputs = s.sch.inputs :=
  ⟨rfl, rfl, rfl⟩

theorem State.schInit_postsTaken (s : State) : s.postsTaken.schInit = s.bit (oSch + 8) 31 := rfl

/-- SCH_STAT.INIT is a bit of the register. -/
theorem State.schInit_of_reg (h : t.reg (oSch + 8) = s.reg (oSch + 8)) : t.schInit = s.schInit := by
  have hreg : t.reg 0x300008 = s.reg 0x300008 := h
  rw [State.schInit, State.bit, State.fld, hreg, State.schInit, State.bit, State.fld]

/-- The posts act, and then the inputs go on. -/
theorem State.schInitDone_eq (h : s.schInit = true) :
    s.schInitDone = (s.sch.evq.foldl (fun (t : State) (e : Nat × Nat) => t.setFlag e.1 e.2) (s.setBit (oSch + 8) 31 false).postsTaken).inputsGo :=
  if_pos h

/-- Neither the posts nor what goes on at the inputs reaches SCH_STAT or posts an event. -/
theorem State.inputsGo_afterPosts (l : List (Nat × Nat)) (s : State) :
    (l.foldl (fun (t : State) (e : Nat × Nat) => t.setFlag e.1 e.2) s).inputsGo.schInit = s.schInit ∧
      (l.foldl (fun (t : State) (e : Nat × Nat) => t.setFlag e.1 e.2) s).inputsGo.sch.evq = s.sch.evq ∧
      (Stated.CtxWf s → s.sch.inputs = [] →
        ∀ x, ((l.foldl (fun (t : State) (e : Nat × Nat) => t.setFlag e.1 e.2) s).inputsGo.ctx x).desc = (s.ctx x).desc) := by
  obtain ⟨⟨c, n, hposts⟩, hdesc⟩ := State.foldl_setFlag l s
  generalize l.foldl (fun (t : State) (e : Nat × Nat) => t.setFlag e.1 e.2) s = u at hposts hdesc ⊢
  have hkept : State.InitKept s u := by
    rw [hposts]
    exact (State.InitKept.refl s).behind
  obtain ⟨hreg, hevq⟩ := hkept.inputsGo
  refine ⟨State.schInit_of_reg hreg, hevq, fun hwf hin x => ?_⟩
  have hnone : u.sch.inputs = [] := by rw [hposts]; exact hin
  rw [State.inputsGo_empty hnone, hdesc hwf]

/-- R165: the end of initialisation. -/
theorem State.schInitDone_spec (hwf : State.regsWf s = true) (hctx : Stated.CtxWf s) (hinit : s.schInit = true) :
    s.schInitDone.schInit = false ∧ s.schInitDone.sch.evq = [] ∧ (s.sch.inputs = [] → ∀ x, (s.schInitDone.ctx x).desc = (s.ctx x).desc) := by
  have hover := State.bit_setBit_self hwf (oSch + 8) (k := 31) false (by decide)
  have hsch := s.setBit_sch (oSch + 8) 31 false
  rw [State.schInitDone_eq hinit]
  generalize s.setBit (oSch + 8) 31 false = r at hover hsch ⊢
  obtain ⟨hevq, htable, hinputs⟩ := r.postsTaken_sch
  rw [hsch] at htable hinputs
  obtain ⟨hstays, hposts, hdesc⟩ := State.inputsGo_afterPosts s.sch.evq r.postsTaken
  refine ⟨hstays.trans (r.schInit_postsTaken.trans hover), hposts.trans hevq, fun hin x => ?_⟩
  rw [hdesc (by rw [Stated.CtxWf, htable]; exact hctx) (hinputs.trans hin), State.ctx_of_table htable]

/-! ## Portals -/

/-- The word of a portal whose descriptor waits, and of one that gave it up. -/
def portalBusyWord (c : Nat) : Word := BitVec.ofNat 32 (2 ^ 31 + c)
def portalAbortedWord (c : Nat) : Word := BitVec.ofNat 32 (2 ^ 29 + c)

theorem bitsOf_portalBusyWord {c : Nat} (h : c < 2 ^ 14) : bitsOf (portalBusyWord c) 31 31 = 1 := by
  rw [portalBusyWord, bitsOf, BitVec.toNat_ofNat, Nat.mod_eq_of_lt (by omega)]
  omega

theorem bitsOf_portalAbortedWord {c : Nat} (h : c < 2 ^ 14) : bitsOf (portalAbortedWord c) 31 31 = 0 ∧ bitsOf (portalAbortedWord c) 29 29 = 1 ∧
    bitsOf (portalAbortedWord c) 27 24 = 0 := by
  have hnat : (portalAbortedWord c).toNat = 2 ^ 29 + c := by rw [portalAbortedWord, BitVec.toNat_ofNat, Nat.mod_eq_of_lt (by omega)]
  refine ⟨?_, ?_, ?_⟩ <;> rw [bitsOf, hnat] <;> omega

theorem regReset_pstat (p : Fin 4) : regReset (oPstat p.val) = 0 := by
  match p with
  | 0 => rfl
  | 1 => rfl
  | 2 => rfl
  | 3 => rfl

/-- A word of SCH_PSTAT with a bit set reads back whatever the table. -/
theorem State.fld_setReg_pstat {v : Word} {k : Nat} (hv : bitsOf v k k = 1) (s : State) (p : Fin 4) (hi lo : Nat) :
    (s.setReg (oPstat p.val) v).fld (oPstat p.val) hi lo = bitsOf v hi lo := by
  have hne : v ≠ regReset (oPstat p.val) := fun he => by
    rw [he, regReset_pstat, bitsOf] at hv
    simp at hv
  have hread : (s.setReg (oPstat p.val) v).reg (oPstat p.val) = v := SMap.get_set_of_ne hne
  rw [State.fld, hread]

/-- The words of the descriptor that stands in a portal. -/
def State.portalWords (s : State) (p : Nat) : List Word := (List.range 16).map (fun i => s.reg (oSch + 0x200 + 0x80 * p + 4 * i))

theorem State.portalWrite_go {p : Nat} (q : Nat) (h : s.bit (oPstat p) 31 = false) : s.portalWrite q p 1 =
    .ok ((s.setReg (oPstat p) (portalBusyWord (s.fld (oPstat p) 13 0))).pushInput 0 (enqItem (.portal p) q 0 0 false (s.portalWords p))) := by
  have hgo : bitsOf (1 : Word) 0 0 = 1 := by decide
  have hab : bitsOf (1 : Word) 1 1 = 0 := by decide
  simp only [State.portalWrite, hgo, hab, h, Nat.zero_ne_one, and_false, Bool.false_eq_true, if_false, if_true]
  rfl

theorem State.portalWrite_abort {p : Nat} (q : Nat) (h : s.bit (oPstat p) 31 = true) : s.portalWrite q p 2 =
    .ok ((s.setInput 0 ((s.input 0).filter (fun it => !(it.src == .portal p)))).setReg (oPstat p) (portalAbortedWord (s.fld (oPstat p) 13 0))) := by
  have hgo : bitsOf (2 : Word) 0 0 = 0 := by decide
  have hab : bitsOf (2 : Word) 1 1 = 1 := by decide
  simp only [State.portalWrite, hgo, hab, h, Nat.zero_ne_one, false_and, and_self, if_false, if_true]
  rfl

/-- R170: GO. -/
theorem State.cmdWrite_portalGo {req : Req} {p : Fin 4} (hub : s.sys.hubOn = true) (die : reservedDie req.toNat = false)
    (h : s.bit (oPstat p.val) 31 = false) : ∃ t, s.cmdWrite req (oPstat p.val - 4) 1 = t ∧ t.bit (oPstat p.val) 31 = true ∧
      t.input 0 = s.input 0 ++ [enqItem (.portal p.val) req.toNat 0 0 false (s.portalWords p.val)] := by
  have hctx : s.fld (oPstat p.val) 13 0 < 2 ^ 14 := Nat.mod_lt _ (by decide)
  have hbusy := bitsOf_portalBusyWord hctx
  refine ⟨_, State.cmdWrite_pgo hub die (State.portalWrite_go _ h), ?_, State.input_pushInput ..⟩
  have hpush (u : State) (i : Nat) (m : EnqItem) (o k : Nat) : (u.pushInput i m).bit o k = u.bit o k := rfl
  rw [hpush, State.bit, State.fld_setReg_pstat hbusy, hbusy]
  rfl

/-- R170: ABORT. -/
theorem State.cmdWrite_portalAbort {req : Req} {p : Fin 4} (hub : s.sys.hubOn = true) (die : reservedDie req.toNat = false)
    (h : s.bit (oPstat p.val) 31 = true) (hwf : Stated.InputsWf s) :
    ∃ t, s.cmdWrite req (oPstat p.val - 4) 2 = t ∧ t.bit (oPstat p.val) 31 = false ∧ t.bit (oPstat p.val) 29 = true ∧
      t.fld (oPstat p.val) 27 24 = 0 ∧ t.input 0 = (s.input 0).filter (fun it => !(it.src == .portal p.val)) := by
  have hctx : s.fld (oPstat p.val) 13 0 < 2 ^ 14 := Nat.mod_lt _ (by decide)
  obtain ⟨hidle, herr, hreason⟩ := bitsOf_portalAbortedWord hctx
  refine ⟨_, State.cmdWrite_pgo hub die (State.portalWrite_abort _ h), ?_⟩
  simp only [State.bit, State.fld_setReg_pstat herr, hidle, herr, hreason, Nat.zero_ne_one, decide_false, decide_true, true_and]
  exact State.input_setInput_wf hwf ..

/-! ## Delay lists -/

/-- The state after the head of list `i` has been released, before the next turn is known. -/
def State.delayReleased (s : State) (i x : Nat) (l : List (Nat × Nat)) : State := (s.setDelayList i l).release x

theorem State.delayReleased_frame (s : State) (i x : Nat) (l : List (Nat × Nat)) : ∃ c n, s.delayReleased i x l =
    { s with sch := { s.sch with delay := SMap.set (fun _ => []) s.sch.delay i l, ctx := c, readyNo := n } } :=
  State.release_frame _ _

/-- R175: the list whose turn it is, and whose head is due, releases it. -/
theorem State.delayRelease_eq {e : Nat} {l : List (Nat × Nat)} (hptr : s.sch.dlPtr < 4) (hlist : s.delayList s.sch.dlPtr = (e, x) :: l)
    (hdue : dlDue (s.fld (oDlcnt s.sch.dlPtr) 31 0) e = true) :
    s.delayRelease = { s.delayReleased s.sch.dlPtr x l with sch := { (s.delayReleased s.sch.dlPtr x l).sch with
      dlPtr := if (List.range 4).any (s.delayReleased s.sch.dlPtr x l).listDue then (s.sch.dlPtr + 1) % 4 else 0 } } := by
  have hturn : ((List.range 4).map (fun k => (s.sch.dlPtr + k) % 4)).find? s.listDue = some s.sch.dlPtr := by
    have hfirst : s.listDue s.sch.dlPtr = true := by rw [State.listDue, hlist]; exact hdue
    rw [show List.range 4 = [0, 1, 2, 3] from rfl, List.map_cons, Nat.add_zero, Nat.mod_eq_of_lt hptr, List.find?_cons_of_pos hfirst]
  unfold State.delayRelease
  rw [hturn]
  dsimp only
  rw [hlist]
  rfl

theorem State.delayRelease_spec {e : Nat} {l : List (Nat × Nat)} (hptr : s.sch.dlPtr < 4) (hlist : s.delayList s.sch.dlPtr = (e, x) :: l)
    (hdue : dlDue (s.fld (oDlcnt s.sch.dlPtr) 31 0) e = true) (hwf : SMap.wf (fun _ => ([] : List (Nat × Nat))) s.sch.delay = true) :
    s.delayRelease.delayList s.sch.dlPtr = l ∧
      s.delayRelease.sch.dlPtr = (if (List.range 4).any s.delayRelease.listDue then (s.sch.dlPtr + 1) % 4 else 0) ∧
      (s.delayRelease.ctx x).st = (if dWaitHolds (s.ctx x).desc (s.ctx x).flags then .ready else .waiting) := by
  have hst := State.st_release (s.setDelayList s.sch.dlPtr l) x
  obtain ⟨c, n, hframe⟩ := s.delayReleased_frame s.sch.dlPtr x l
  have hdelay : (s.delayReleased s.sch.dlPtr x l).delayList s.sch.dlPtr = l := by
    rw [hframe]
    exact SMap.get_set_self hwf
  rw [State.delayRelease_eq hptr hlist hdue]
  exact ⟨hdelay, rfl, hst⟩

end Sys2Proof.Machine
end

section
open Sys2Proof Sys2Proof.Machine Sys2Proof.Stated

/-- Settles O32: a post, a portal and a delay list by the lemma of the operation; what the inputs do after initialisation does not reach SCH_STAT. -/
theorem schedulerInputsComplete : Obligations.SchedulerInputsComplete := by
  unfold Obligations.SchedulerInputsComplete
  refine ⟨?init, ?go, ?abort, ?post, ?evpost, ?delay⟩
  case init => exact fun s hwf hctx hinit => ⟨_, rfl, State.schInitDone_spec hwf hctx hinit⟩
  case go =>
    intro req p s hub die hidle
    obtain ⟨t, hwrite, hgone⟩ := State.cmdWrite_portalGo hub die hidle
    exact ⟨t, congrArg Host.Outcome.next hwrite, hgone⟩
  case abort =>
    intro req p s hub die hbusy hwf
    obtain ⟨t, hwrite, haborted⟩ := State.cmdWrite_portalAbort hub die hbusy hwf
    exact ⟨t, congrArg Host.Outcome.next hwrite, haborted⟩
  case post => exact fun x f s hinit => ⟨_, rfl, State.postEvent_sets hinit x.val f⟩
  case evpost =>
    intro req x f s hub die hinit
    obtain ⟨hx, hf⟩ := bitsOf_evpostWord x f
    obtain ⟨hflags, -, hframe⟩ := State.postEvent_sets hinit x.val f
    refine ⟨s.postEvent x.val f.val, congrArg Host.Outcome.next ?_, hflags, hframe⟩
    rw [State.cmdWrite_evpost hub die, hx, hf]
  case delay =>
    intro s e x l hptr hlist hdue hwf hclean
    refine ⟨_, rfl, ?_⟩
    rw [State.ctxReads_clean hclean]
    exact State.delayRelease_spec hptr hlist hdue hwf

end

section
/-! SUPPORT. Packets as flits (R199, R200): the fields of a head flit, and the bytes of a word and of a body. -/

namespace Sys2Proof

/-! ## Bytes of a word -/

/-- The word that holds a list of bytes, byte 0 in its low bits. -/
def packBytes (w : Nat) (l : List Byte) : BitVec w := l.foldr (fun b x => x <<< 8 ||| b.setWidth w) 0

theorem extractLsb'_shift_or_low {w : Nat} (x : BitVec w) (b : Byte) (hw : 8 ≤ w) : (x <<< 8 ||| b.setWidth w).extractLsb' 0 8 = b := by
  ext j hj
  simp [show j < w by omega, hj]

theorem extractLsb'_shift_or_high {w : Nat} (x : BitVec w) (b : Byte) {k : Nat} (hk : k + 16 ≤ w) :
    (x <<< 8 ||| b.setWidth w).extractLsb' (k + 8) 8 = x.extractLsb' k 8 := by
  ext j hj
  have hb : b.getLsbD (k + 8 + j) = false := BitVec.getLsbD_of_ge b _ (by omega)
  simp [show k + 8 + j < w by omega, show k + 8 + j - 8 = k + j by omega, hb, show ¬k + 8 + j < 8 by omega, show k + j < w by omega]

/-- Each byte is read back where it was laid. -/
theorem extractLsb'_packBytes {w : Nat} (l : List Byte) (i : Nat) (hi : i < l.length) (hw : 8 * l.length ≤ w) :
    (packBytes w l).extractLsb' (8 * i) 8 = l[i] := by
  induction l generalizing i with
  | nil => cases hi
  | cons b l ih =>
    simp only [List.length_cons] at hi hw
    cases i with
    | zero => exact extractLsb'_shift_or_low _ b (by omega)
    | succ i =>
      rw [Nat.mul_succ, List.getElem_cons_succ, ← ih i (by omega) (by omega)]
      exact extractLsb'_shift_or_high _ b (by omega)

theorem bytes_packBytes {w n : Nat} {l : List Byte} (hl : l.length = n) (hw : 8 * n ≤ w) :
    (List.range n).map (fun i => (packBytes w l).extractLsb' (8 * i) 8) = l := by
  refine List.ext_getElem (by simp [hl]) fun i hi hi' => ?_
  simp only [List.getElem_map, List.getElem_range]
  exact extractLsb'_packBytes l i hi' (by omega)

/-- The bytes of a word that stands in a head flit. -/
theorem bytes_inline {h : BitVec 256} {l : List Byte} (hl : l.length = 16) (hinl : h.extractLsb' 128 128 = packBytes 128 l) :
    (List.range 16).map (fun i => h.extractLsb' (128 + 8 * i) 8) = l := by
  rw [← bytes_packBytes hl (w := 128) (by omega), ← hinl]
  refine List.map_congr_left fun i hi => ?_
  have hi' := List.mem_range.mp hi
  ext j hj
  simp [show 8 * i + j < 128 by omega, Nat.add_assoc]

/-! ## Bodies -/

theorem flitBytes_packBytes {l : List Byte} (hl : l.length = 32) : flitBytes (packBytes 256 l) = l := bytes_packBytes hl (by omega)

/-- A body of whole flits is read back. -/
theorem flatMap_flitBytes_bodyFlits {n : Nat} {l : List Byte} (hl : l.length = 32 * n) : (bodyFlits n l).flatMap flitBytes = l := by
  induction n generalizing l with
  | zero => exact (List.eq_nil_of_length_eq_zero hl).symm
  | succ n ih =>
    have hrest : (l.drop 32).length = 32 * n := by rw [List.length_drop]; omega
    have hfirst : (l.take 32).length = 32 := by rw [List.length_take]; omega
    calc (bodyFlits (n + 1) l).flatMap flitBytes
        = flitBytes (packBytes 256 (l.take 32)) ++ (bodyFlits n (l.drop 32)).flatMap flitBytes := rfl
      _ = l := by rw [flitBytes_packBytes hfirst, ih hrest, List.take_append_drop]

theorem flatMap_flitBytes {l : List Byte} (hl : l.length % 32 = 0) : (bodyFlits (l.length / 32) l).flatMap flitBytes = l :=
  flatMap_flitBytes_bodyFlits (by omega)

/-! ## The head flit -/

section
variable (inl : Quad) (addr : BitVec 44) (lid : BitVec 10) (epoch tag : BitVec 8) (bit57 poison : Bool) (len typ : BitVec 4) (be src dest : BitVec 16)

/-- R199: each field of the header is read back. -/
theorem extract_headFlit :
    let h := headFlit inl addr lid epoch tag bit57 poison len typ be src dest
    h.extractLsb' 128 128 = inl ∧ h.extractLsb' 84 44 = addr ∧ h.extractLsb' 74 10 = lid ∧ h.extractLsb' 66 8 = epoch ∧
      h.extractLsb' 58 8 = tag ∧ h.extractLsb' 52 4 = len ∧ h.extractLsb' 48 4 = typ ∧ h.extractLsb' 32 16 = be ∧
      h.extractLsb' 16 16 = src ∧ h.extractLsb' 0 16 = dest := by
  refine ⟨?_, ?_, ?_, ?_, ?_, ?_, ?_, ?_, ?_, BitVec.extractLsb'_append_eq_right⟩
  all_goals
    refine (BitVec.extractLsb'_append_eq_of_le (by decide)).trans ?_
    simp only [BitVec.extractLsb'_append_eq_of_le, Nat.reduceLeDiff, Nat.reduceSub, Nat.le_refl, Nat.sub_self, BitVec.extractLsb'_append_eq_right,
      BitVec.extractLsb'_eq_self]

theorem getLsbD_headFlit :
    let h := headFlit inl addr lid epoch tag bit57 poison len typ be src dest
    h.getLsbD 57 = bit57 ∧ h.getLsbD 56 = poison := by
  constructor
  all_goals
    refine BitVec.getLsbD_append.trans ?_
    simp only [BitVec.getLsbD_append, Nat.reduceLT, Nat.reduceSub, if_true, if_false, BitVec.getLsbD_ofBool, decide_true, Bool.true_and]

end

/-! ## Requests -/

/-- The head flit of a request to `d`. -/
def Pkt.head (p : Pkt) (d : BitVec 16) : BitVec 256 := headFlit p.inl p.addr p.lid p.epoch p.tag p.zeroBit p.poison p.len p.typ p.be p.src d

theorem Pkt.flits_eq (p : Pkt) (d : BitVec 16) : p.flits d = p.head d :: bodyFlits (p.body.length / 32) p.body := rfl

theorem Pkt.typ_head (p : Pkt) (d : BitVec 16) : (p.head d).extractLsb' 48 4 = p.typ := by
  obtain ⟨-, -, -, -, -, -, htyp, -⟩ := extract_headFlit p.inl p.addr p.lid p.epoch p.tag p.zeroBit p.poison p.len p.typ p.be p.src d
  exact htyp

theorem pktOfFlits_head {p : Pkt} (d : BitVec 16) (hbody : p.body.length % 32 = 0) :
    pktOfFlits (p.head d) (bodyFlits (p.body.length / 32) p.body) = p := by
  obtain ⟨hinl, haddr, hlid, hepoch, htag, hlen, htyp, hbe, hsrc, -⟩ :=
    extract_headFlit p.inl p.addr p.lid p.epoch p.tag p.zeroBit p.poison p.len p.typ p.be p.src d
  obtain ⟨hzero, hpoison⟩ := getLsbD_headFlit p.inl p.addr p.lid p.epoch p.tag p.zeroBit p.poison p.len p.typ p.be p.src d
  simp only [pktOfFlits, Pkt.head, hinl, haddr, hlid, hepoch, htag, hlen, htyp, hbe, hsrc, hzero, hpoison, flatMap_flitBytes hbody]

/-- R200: a TYPE that names neither a response nor a packet made inside the block is handed over as a request. -/
theorem instrOfFlits_request {h : BitVec 256} {typ : BitVec 4} (htyp : h.extractLsb' 48 4 = typ) (hreq : typ.toNat ∉ [2, 3, 5, 6])
    (body : List (BitVec 256)) :
    instrOfFlits (h :: body) =
      some (if typ = 1 then .wr (pktOfFlits h body) else if typ = 4 then .rcon (pktOfFlits h body) else .rd (pktOfFlits h body)) := by
  have h1 : typ = 1 ↔ typ.toNat = 1 := BitVec.toNat_inj.symm
  have h4 : typ = 4 ↔ typ.toNat = 4 := BitVec.toNat_inj.symm
  simp only [instrOfFlits, htyp, h1, h4]
  split <;> simp_all

/-! ## Responses -/

/-- The inline word of a response. -/
def Rsp.inline (r : Rsp) : Quad := if r.len = 0 then packBytes 128 r.data else 0

/-- The head flit of a response of the unit `u`. -/
def Rsp.head (r : Rsp) (u : BitVec 16) : BitVec 256 := headFlit r.inline 0 0 0 r.tag r.zeroBit r.poison r.len r.typ r.status u r.dst

theorem Rsp.flits_eq (r : Rsp) (u : BitVec 16) : r.flits u = r.head u :: if r.len = 0 then [] else bodyFlits (r.data.length / 32) r.data := rfl

theorem Rsp.typ_head (r : Rsp) (u : BitVec 16) : (r.head u).extractLsb' 48 4 = r.typ := by
  obtain ⟨-, -, -, -, -, -, htyp, -⟩ := extract_headFlit r.inline 0 0 0 r.tag r.zeroBit r.poison r.len r.typ r.status u r.dst
  exact htyp

/-- The data of a response: none, the bytes of its inline word, or its body. -/
theorem Rsp.data_flits {r : Rsp} {h : BitVec 256} (hinl : h.extractLsb' 128 128 = r.inline)
    (hdata : if r.len = 0 then r.data.length = (if r.typ = 3 ∨ r.status = 1 then 0 else 16) else r.data.length % 32 = 0) :
    (if r.len = 0 then (if r.typ = 3 ∨ r.status = 1 then [] else (List.range 16).map (fun i => h.extractLsb' (128 + 8 * i) 8))
      else (if r.len = 0 then [] else bodyFlits (r.data.length / 32) r.data).flatMap flitBytes) = r.data := by
  by_cases hlen : r.len = 0
  · rw [if_pos hlen] at hdata ⊢
    by_cases hnone : r.typ = 3 ∨ r.status = 1
    · rw [if_pos hnone] at hdata ⊢
      exact (List.eq_nil_of_length_eq_zero hdata).symm
    · rw [if_neg hnone] at hdata ⊢
      exact bytes_inline hdata (hinl.trans (if_pos hlen))
  · simp only [if_neg hlen] at hdata ⊢
    exact flatMap_flitBytes hdata

theorem rspOfFlits_head {r : Rsp} (u : BitVec 16)
    (hdata : if r.len = 0 then r.data.length = (if r.typ = 3 ∨ r.status = 1 then 0 else 16) else r.data.length % 32 = 0) :
    rspOfFlits (r.head u) (if r.len = 0 then [] else bodyFlits (r.data.length / 32) r.data) = r := by
  obtain ⟨hinl, -, -, -, htag, hlen, htyp, hstatus, -, hdst⟩ := extract_headFlit r.inline 0 0 0 r.tag r.zeroBit r.poison r.len r.typ r.status u r.dst
  obtain ⟨hzero, hpoison⟩ := getLsbD_headFlit r.inline 0 0 0 r.tag r.zeroBit r.poison r.len r.typ r.status u r.dst
  have hread := Rsp.data_flits hinl hdata
  simp only [rspOfFlits, Rsp.head, htag, hlen, htyp, hstatus, hdst, hzero, hpoison, hread]

theorem instrOfFlits_response {h : BitVec 256} {typ : BitVec 4} (htyp : h.extractLsb' 48 4 = typ) (hrsp : typ = 2 ∨ typ = 3)
    (body : List (BitVec 256)) :
    instrOfFlits (h :: body) = some (if typ = 2 then .rdrsp (rspOfFlits h body) else .wrack (rspOfFlits h body)) := by
  rcases hrsp with rfl | rfl
  · simp [instrOfFlits, htyp]
  · simp [instrOfFlits, htyp]

end Sys2Proof

open Sys2Proof

/-- Settles O60: every field of a head flit is read back from its bits, a body from its bytes, and the TYPE gives the command. -/
theorem flitsRoundTrip : Obligations.FlitsRoundTrip := by
  refine ⟨?request, ?response⟩
  case request =>
    intro p d _ hbody hreq
    rw [Pkt.flits_eq, instrOfFlits_request (p.typ_head d) hreq, pktOfFlits_head d hbody]
  case response =>
    intro r u hrsp hdata
    rw [Rsp.flits_eq, instrOfFlits_response (r.typ_head u) hrsp, rspOfFlits_head u hdata]
end

section
/-! SUPPORT. The configuration registers of the streams and of the reduction groups (R217, R220): their rows, and a write of one. -/

namespace Sys2Proof.Machine

set_option Elab.async false

variable {s : State} {req : Req} {v : Word}

/-! ## Fields of a written register (R7) -/

/-- A field whose bits a write stores. -/
def Fld.stores (f : Fld) : Bool :=
  match f.kind with
  | .rw | .rwRange _ _ | .rwEnc _ => decide (f.lo ≤ f.hi ∧ f.hi < 32)
  | _ => false

/-- A field that bits `[h:l]` lie beside. -/
def Fld.beside (f : Fld) (h l : Nat) : Bool := decide (f.lo ≤ f.hi ∧ f.hi < 32 ∧ (h < f.lo ∨ f.hi < l))

theorem Fld.bitsOf_write_same {f : Fld} (hf : f.stores = true) (v old : Word) : bitsOf (f.write v old) f.hi f.lo = bitsOf v f.hi f.lo := by
  have hself : bitsOf v f.hi f.lo % 2 ^ (f.hi + 1 - f.lo) = bitsOf v f.hi f.lo := Nat.mod_mod _ _
  unfold Fld.stores at hf
  unfold Fld.write
  split at hf
  case h_4 => cases hf
  all_goals
    obtain ⟨hlo, hhi⟩ := of_decide_eq_true hf
    simp only [*, bitsOf_withBits_same]

theorem Fld.bitsOf_write_beside {f : Fld} {h l : Nat} (hf : f.beside h l = true) (v old : Word) : bitsOf (f.write v old) h l = bitsOf old h l := by
  obtain ⟨hlo, hhi, hbeside⟩ := of_decide_eq_true hf
  unfold Fld.write
  dsimp only
  split
  case h_6 => rfl
  all_goals exact bitsOf_withBits_beside _ _ hlo hhi hbeside

theorem bitsOf_writes_beside {fs : List Fld} {h l : Nat} (hfs : fs.all (Fld.beside · h l) = true) (v old : Word) :
    bitsOf (fs.foldl (fun w f => Fld.write f v w) old) h l = bitsOf old h l := by
  induction fs generalizing old with
  | nil => rfl
  | cons f fs ih =>
    obtain ⟨hf, hfs⟩ := Bool.and_eq_true_iff.mp hfs
    rw [List.foldl_cons, ih hfs, Fld.bitsOf_write_beside hf]

/-- A stored field that the fields after it leave alone reads as it was written. -/
theorem RegDef.bitsOf_merge {r : RegDef} {pre post : List Fld} (f : Fld) (hr : r.flds = pre ++ f :: post) (hf : f.stores = true)
    (hpost : post.all (Fld.beside · f.hi f.lo) = true) (v old : Word) : bitsOf (r.merge v old) f.hi f.lo = bitsOf v f.hi f.lo := by
  rw [RegDef.merge, hr, List.foldl_append, List.foldl_cons, bitsOf_writes_beside hpost, Fld.bitsOf_write_same hf]

/-! ## EN = 0 -/

/-- The word with EN cleared keeps every other bit. -/
theorem bitsOf_en_cleared (x : Word) : bitsOf (x &&& 0x7FFFFFFF) 31 31 = 0 ∧ ∀ h l, h < 31 → bitsOf (x &&& 0x7FFFFFFF) h l = bitsOf x h l := by
  have hmod : (x &&& 0x7FFFFFFF).toNat = x.toNat % 2 ^ 31 := by
    rw [BitVec.toNat_and]
    exact Nat.and_two_pow_sub_one_eq_mod _ 31
  constructor
  · rw [bitsOf, hmod]
    omega
  · intro h l hh
    refine Nat.eq_of_testBit_eq fun i => ?_
    rw [testBit_bitsOf, testBit_bitsOf, hmod, Nat.testBit_mod_two_pow]
    by_cases hi : i < h + 1 - l
    · simp [show l + i < 31 by omega]
    · simp [hi]

/-! ## The rows -/

/-- The low halves of the streams and groups repeat every 64 bytes, and none is the last word of its 64. -/
theorem sysPairs_not_last :
    Blk.sys.regs.all (fun r => !r.pair || decide (0xC0000 ≤ r.off) || (decide (r.off % 0x40 < 0x3C) && decide (r.stride = 0x40))) = true := by decide

theorem stride_of_findReg {l : List RegDef} {o i : Nat} {r : RegDef} (h : findReg l o = some (r, i)) : (o - r.off) % r.stride = 0 := by
  induction l with
  | nil => cases h
  | cons q l ih =>
    simp only [findReg] at h
    split at h
    · next hq =>
      cases h
      exact hq.2.1
    · exact ih h

/-- A register at the start of 64 bytes is no high half. -/
theorem isHighHalf_aligned {o : Nat} (ho : o < 0xC0000) (halign : o % 0x40 = 0) : isHighHalf o = false := by
  rw [isHighHalf, Bool.and_eq_false_iff, decide_eq_false_iff_not]
  by_cases hpos : 4 ≤ o
  · refine .inr ?_
    simp only [isLowHalf, regAt, locate_sys (show o - 4 < 0x100000 by omega)]
    cases hrow : findReg Blk.sys.regs (o - 4) with
    | none => rfl
    | some x =>
      obtain ⟨hmem, hle⟩ := off_le_of_findReg hrow
      have hstride := stride_of_findReg hrow
      have hall := List.all_eq_true.mp sysPairs_not_last x.1 hmem
      cases hpair : x.1.pair with
      | false => simpa using hpair
      | true =>
        simp only [hpair, Bool.not_true, Bool.false_or, Bool.or_eq_true, Bool.and_eq_true, decide_eq_true_eq] at hall
        rcases hall with hall | ⟨hlast, hst⟩
        · omega
        · rw [hst] at hstride
          omega
  · exact .inl hpos

/-- The row of SYS_STRCFG (R217). -/
def strCfgRow : RegDef :=
  regN 0x20000 0x40 256 0 [fRw 31 31, fRw 30 30, fEnc 29 28 [0, 1, 2], fRw 27 27, fRw 26 26, fRw 23 16, fEnc 15 12 [0, 4, 5], fRw 9 8, fRw 3 0]

/-- The row of SYS_REDCFG (R220). -/
def redCfgRow : RegDef :=
  regN 0x40000 0x40 512 0 [fRw 31 31, fRo 30 30, fEnc 29 28 [0, 1], fRw 27 27, fRw 25 24, fRw 23 16, fRw 15 12, fRw 11 8, fEnc 3 0 [0, 1, 2, 3, 4, 5]]

theorem findReg_strCfg (c : Strm) : findReg regsSysNet (oStr c.val) = some (strCfgRow, c.val) := by
  have hc := c.isLt
  simp only [oStr, regsSysNet, reg1, regN, findReg]
  repeat rw [if_neg (by omega)]
  rw [if_pos (by omega)]
  exact congrArg (fun j => some (_, j)) (by omega)

theorem findReg_redCfg (g : Grp) : findReg regsSysNet (oRed g.val) = some (redCfgRow, g.val) := by
  have hg := g.isLt
  simp only [oRed, regsSysNet, reg1, regN, lowHalf, findReg]
  repeat rw [if_neg (by omega)]
  rw [if_pos (by omega)]
  exact congrArg (fun j => some (_, j)) (by omega)

/-! ## A write of a configuration register -/

/-- R20: a write of a register of the network that starts 64 bytes is, with its fields in range, what its own rule makes of it. -/
theorem State.cmdWrite_sysNet {o i : Nat} {r : RegDef} {t : State} (hub : s.sys.hubOn = true) (die : reservedDie req.toNat = false)
    (hlo : 0x10000 ≤ o) (hhi : o < 0xC0000) (hpost : o < 0x30000 ∨ 0x31000 ≤ o) (halign : o % 0x40 = 0) (hr : findReg regsSysNet o = some (r, i))
    (hpair : r.pair = false) (hc : r.check v = none) (ht : s.sysRegWrite o v = .ok t) : s.cmdWrite req o v = t := by
  have hat := regAt_sysNet hlo (by omega) hr
  have hbad : s.badPost req.toNat ⟨.sys, 0, 0, o⟩ = none := by
    have hmiss : ¬(0x30000 ≤ o ∧ o < 0x31000) := by omega
    simp [State.badPost, hmiss]
  have hans : Stated.Answers s req o ⟨.sys, 0, 0, o⟩ r := ⟨hub, die, locate_of_regAt hat, rfl, rfl, hbad, by rw [hat]; rfl⟩
  refine (State.cmdWrite_word ⟨hans, hpair, isHighHalf_aligned hhi halign⟩ hc).1 t ?_
  have hne : o ≠ 4 := by omega
  simpa [State.setRegister, hne] using ht

/-- Above the power block every register has the rule of its part of the block. -/
theorem pwrUnitAt_none {o : Nat} (ho : 0x380 ≤ o) : pwrUnitAt o = none := by
  unfold pwrUnitAt
  split
  · rfl
  · repeat rw [if_neg (by omega)]

theorem State.sysRegWrite_str {o : Nat} (hlo : 0x20000 ≤ o) (hhi : o < 0x30000) (v : Word) : s.sysRegWrite o v = s.strRegWrite o v := by
  unfold State.sysRegWrite
  rw [pwrUnitAt_none (by omega)]
  dsimp only
  rw [if_neg (by omega), if_neg (by omega), if_pos ⟨hlo, hhi⟩]

theorem State.sysRegWrite_red {o : Nat} (hlo : 0x40000 ≤ o) (hhi : o < 0x50000) (v : Word) : s.sysRegWrite o v = s.redRegWrite o v := by
  unfold State.sysRegWrite
  rw [pwrUnitAt_none (by omega)]
  dsimp only
  rw [if_neg (by omega), if_neg (by omega), if_neg (by omega), if_pos (.inl ⟨hlo, hhi⟩)]

theorem State.cmdWrite_strCfg {c : Strm} {t : State} (hub : s.sys.hubOn = true) (die : reservedDie req.toNat = false)
    (hc : strCfgRow.check v = none) (ht : s.strCfgWrite c.val v = .ok t) : s.cmdWrite req (oStr c.val) v = t := by
  have hlt := c.isLt
  have ho : oStr c.val = 0x20000 + 0x40 * c.val := rfl
  refine State.cmdWrite_sysNet hub die (by omega) (by omega) (by omega) (by omega) (findReg_strCfg c) rfl hc ?_
  rw [State.sysRegWrite_str (by omega) (by omega), State.strRegWrite, if_pos (by omega), show (oStr c.val - 0x20000) / 0x40 = c.val by omega, ht]

theorem State.cmdWrite_redCfg {g : Grp} {t : State} (hub : s.sys.hubOn = true) (die : reservedDie req.toNat = false)
    (hc : redCfgRow.check v = none) (ht : s.redCfgWrite g.val v = .ok t) : s.cmdWrite req (oRed g.val) v = t := by
  have hlt := g.isLt
  have ho : oRed g.val = 0x40000 + 0x40 * g.val := rfl
  refine State.cmdWrite_sysNet hub die (by omega) (by omega) (by omega) (by omega) (findReg_redCfg g) rfl hc ?_
  rw [State.sysRegWrite_red (by omega) (by omega), State.redRegWrite, if_neg (by omega), if_pos (by omega), show (oRed g.val - 0x40000) / 0x40 = g.val by omega, ht]

theorem State.plainWrite_sysNet {o i : Nat} {r : RegDef} (hlo : 0x10000 ≤ o) (hhi : o < 0x100000) (hr : findReg regsSysNet o = some (r, i)) (v : Word) :
    s.plainWrite o v = s.setReg o (r.merge v (s.reg o)) := by
  simp only [State.plainWrite, regAt_sysNet hlo hhi hr]

theorem State.plainWrite_strCfg (c : Strm) (v : Word) : s.plainWrite (oStr c.val) v = s.setReg (oStr c.val) (strCfgRow.merge v (s.reg (oStr c.val))) := by
  have hc := c.isLt
  have ho : oStr c.val = 0x20000 + 0x40 * c.val := rfl
  exact State.plainWrite_sysNet (by omega) (by omega) (findReg_strCfg c) v

theorem State.plainWrite_redCfg (g : Grp) (v : Word) : s.plainWrite (oRed g.val) v = s.setReg (oRed g.val) (redCfgRow.merge v (s.reg (oRed g.val))) := by
  have hg := g.isLt
  have ho : oRed g.val = 0x40000 + 0x40 * g.val := rfl
  exact State.plainWrite_sysNet (by omega) (by omega) (findReg_redCfg g) v

theorem strCfgRow_merge_en (v old : Word) : bitsOf (strCfgRow.merge v old) 31 31 = bitsOf v 31 31 :=
  RegDef.bitsOf_merge (pre := []) (fRw 31 31) rfl rfl rfl v old

theorem redCfgRow_merge (v old : Word) :
    bitsOf (redCfgRow.merge v old) 31 31 = bitsOf v 31 31 ∧ bitsOf (redCfgRow.merge v old) 25 24 = bitsOf v 25 24 ∧
      bitsOf (redCfgRow.merge v old) 3 0 = bitsOf v 3 0 :=
  ⟨RegDef.bitsOf_merge (pre := []) (fRw 31 31) rfl rfl rfl v old,
    RegDef.bitsOf_merge (pre := [fRw 31 31, fRo 30 30, fEnc 29 28 [0, 1], fRw 27 27]) (fRw 25 24) rfl rfl rfl v old,
    RegDef.bitsOf_merge (pre := [fRw 31 31, fRo 30 30, fEnc 29 28 [0, 1], fRw 27 27, fRw 25 24, fRw 23 16, fRw 15 12, fRw 11 8])
      (fEnc 3 0 [0, 1, 2, 3, 4, 5]) rfl rfl rfl v old⟩

/-- R20: ALIGN and FMT of a channel have three encodings each. -/
theorem strCfgRow_check {v : Word} (halign : bitsOf v 29 28 ≤ 2) (hfmt : [0, 4, 5].contains (bitsOf v 15 12) = true) : strCfgRow.check v = none := by
  have halign' : [0, 1, 2].contains (bitsOf v 29 28) = true := by
    rw [List.contains_iff_mem]
    simp only [List.mem_cons, List.not_mem_nil]
    omega
  simp only [RegDef.check, strCfgRow, regN, fRw, fEnc, List.findSome?, Fld.check, halign', hfmt, if_true]

/-- R20: POLICY of a group has two encodings, FMT six. -/
theorem redCfgRow_check {v : Word} (hpolicy : bitsOf v 29 28 ≤ 1) (hfmt : bitsOf v 3 0 ≤ 5) : redCfgRow.check v = none := by
  have hpolicy' : [0, 1].contains (bitsOf v 29 28) = true := by
    rw [List.contains_iff_mem]
    simp only [List.mem_cons, List.not_mem_nil]
    omega
  have hfmt' : [0, 1, 2, 3, 4, 5].contains (bitsOf v 3 0) = true := by
    rw [List.contains_iff_mem]
    simp only [List.mem_cons, List.not_mem_nil]
    omega
  simp only [RegDef.check, redCfgRow, regN, fRw, fRo, fEnc, List.findSome?, Fld.check, hpolicy', hfmt', if_true]

end Sys2Proof.Machine
end

section
/-! SUPPORT. Transmit streams (R215 to R217, R272): the state of a channel read after a write, posts, fetches, late blocks and emission, and EN. -/

namespace Sys2Proof.Machine

set_option Elab.async false

variable {s : State} {c : Nat}

/-! ## The state of a channel -/

/-- A state other than the one of a channel at rest reads back whatever the table. -/
theorem State.strm_setStrm_of_ne {x : StrmSt} (h : x ≠ {}) : (s.setStrm c x).strm c = x := SMap.get_set_of_ne h

theorem State.strm_setStrm (hwf : Stated.StrmWf s) (x : StrmSt) : (s.setStrm c x).strm c = x := SMap.get_set_self hwf

theorem State.reg_setStrm (x : StrmSt) (o : Nat) : (s.setStrm c x).reg o = s.reg o := rfl

theorem State.regsWf_setStrm (h : State.regsWf s = true) (x : StrmSt) : State.regsWf (s.setStrm c x) = true := h

theorem State.strmWf_setReg (h : Stated.StrmWf s) (o : Nat) (v : Word) : Stated.StrmWf (s.setReg o v) := h

theorem State.strmWf_congr {t : State} (h : t.net.strm = s.net.strm) (hwf : Stated.StrmWf s) : Stated.StrmWf t := by
  rw [Stated.StrmWf, h]
  exact hwf

theorem State.strm_congr {t : State} (h : t.net.strm = s.net.strm) (c : Nat) : t.strm c = s.strm c := by rw [State.strm, State.strm, h]

theorem StrmSt.ne_of_posts {x : StrmSt} {p : TxPost} {l : List TxPost} (h : x.posts = p :: l) : x ≠ {} := by
  rintro rfl
  cases h

theorem StrmSt.ne_of_nextSeq {x : StrmSt} {n : Nat} (h : x.nextSeq = some n) : x ≠ {} := by
  rintro rfl
  cases h

theorem StrmSt.ne_of_emitEnd {x : StrmSt} {n : Nat} (h : x.emitEnd = some n) : x ≠ {} := by
  rintro rfl
  cases h

theorem State.strm_setFld (o hi lo n : Nat) : (s.setFld o hi lo n).strm c = s.strm c :=
  State.strm_congr (congrArg NetSt.strm (State.setFld_net ..)) c

theorem State.setPosts_eq (s : State) (c : Nat) (l : List TxPost) :
    s.setPosts c l = (s.setStrm c { s.strm c with posts := l }).setFld (oStrstat c) 28 24 l.length := rfl

theorem State.strm_setPosts_of_ne {l : List TxPost} (h : { s.strm c with posts := l } ≠ ({} : StrmSt)) :
    (s.setPosts c l).strm c = { s.strm c with posts := l } := by
  rw [State.setPosts_eq, State.strm_setFld, State.strm_setStrm_of_ne h]

theorem State.strm_setPosts (hwf : Stated.StrmWf s) (l : List TxPost) : (s.setPosts c l).strm c = { s.strm c with posts := l } := by
  rw [State.setPosts_eq, State.strm_setFld, State.strm_setStrm hwf]

theorem State.strm_setStrm_setPosts {x : StrmSt} {l : List TxPost} (hx : x ≠ {}) (hl : { x with posts := l } ≠ ({} : StrmSt)) :
    ((s.setStrm c x).setPosts c l).strm c = { x with posts := l } := by
  have hread := State.strm_setStrm_of_ne (s := s) (c := c) hx
  rw [State.strm_setPosts_of_ne (by rwa [hread]), hread]

theorem State.setPosts_out (l : List TxPost) : (s.setPosts c l).out = s.out := by rw [State.setPosts_eq, State.setFld_out]; rfl

theorem State.setPosts_outst (l : List TxPost) : (s.setPosts c l).net.outst = s.net.outst := by rw [State.setPosts_eq, State.setFld_net]; rfl

theorem State.reg_setPosts {o : Nat} (h : oStrstat c ≠ o) (l : List TxPost) : (s.setPosts c l).reg o = s.reg o := by
  rw [State.setPosts_eq, State.reg_setFld_ne h]
  rfl

/-! ## Limited records -/

theorem State.logLim_net (s : State) (k : Nat) (r : Rec) : (s.logLim k r).net = s.net := by
  unfold State.logLim
  split
  · rfl
  · rw [State.log_net]

theorem State.logLim_out (s : State) (k : Nat) (r : Rec) : (s.logLim k r).out = s.out := by
  unfold State.logLim
  split
  · rfl
  · rw [State.log_out]

theorem State.reg_logLim {o : Nat} (h : oRecCnt ≠ o) (k : Nat) (r : Rec) : (s.logLim k r).reg o = s.reg o := by
  unfold State.logLim
  split
  · rfl
  · rw [State.reg_log_ne h]
    rfl

theorem State.logClips_net (s : State) (n k : Nat) : (s.logClips n k).net = s.net := by
  unfold State.logClips
  split
  · rfl
  · rw [State.logLim_net]

theorem State.logClips_out (s : State) (n k : Nat) : (s.logClips n k).out = s.out := by
  unfold State.logClips
  split
  · rfl
  · rw [State.logLim_out]

/-! ## SRAM without wrong bits -/

theorem State.sramRead_clean (h : s.ice.errs = []) (u lo n : Nat) : s.sramRead u lo n = (s, []) := by
  simp only [State.sramRead, State.sramErrs, h, List.filter_nil, List.foldl_nil]

theorem State.sramFresh_clean (h : s.ice.errs = []) (u lo n : Nat) : s.sramFresh u lo n = s := by
  simp only [State.sramFresh, State.sramErrs, h, List.filter_nil, List.foldl_nil]

theorem State.sramTake_clean (h : s.ice.errs = []) (u lo n : Nat) : s.sramTake u lo n = (s, false) := by
  simp only [State.sramTake, State.sramPoison, State.sramRead_clean h, List.foldl_nil, State.sramFresh_clean h]
  rfl

/-! ## Posts (R215, R216) -/

/-- The post that a word spells, with its due time in full. -/
def State.postOf (s : State) (d : Quad) : TxPost :=
  { seq := bitsOf d 95 80, due := timeOf (fullSec s.now (bitsOf d 63 32)) (bitsOf d 31 0) (bitsOf d 79 64) }

/-- The state of a channel that has taken a post. -/
def State.posted (s : State) (c : Nat) (d : Quad) : StrmSt :=
  { s.strm c with
    nextSeq := some ((bitsOf d 95 80 + 1) % 65536), lastDue := some (s.postOf d).due, posts := (s.strm c).posts ++ [s.postOf d] }

/-- The first post of a running channel is taken where its fields are in range and the queue has room. -/
theorem State.txPost_taken {q : Nat} {d : Quad} (htile : s.isOn (oPwrTile (c / 64)) = true) (hcnv : s.isOn (oPwrCnv (c / 64)) = true)
    (hrun : s.strRun c = true) (htx : s.strTx c = true) (hlast : (s.strm c).lastDue = none) (hnext : (s.strm c).nextSeq = none)
    (hrsv : bitsOf d 127 96 = 0) (hns : bitsOf d 31 0 < 1000000000) (hroom : (s.strm c).posts.length < 16) :
    ∃ t, s.txPost c q true d = .taken t ∧ t.strm c = s.posted c d := by
  have hns' : ¬1000000000 ≤ bitsOf d 31 0 := by omega
  have hroom' : ¬16 ≤ (s.strm c).posts.length := by omega
  simp only [State.txPost, htile, hcnv, hrun, htx, hlast, hnext, hrsv, hns', hroom', Bool.true_eq_false, Bool.false_eq_true, or_self, and_false,
    if_false, ne_eq, not_true_eq_false]
  refine ⟨_, rfl, ?_⟩
  rw [State.strm_setStrm_of_ne (StrmSt.ne_of_nextSeq rfl)]
  exact State.strm_setStrm_setPosts (StrmSt.ne_of_nextSeq rfl) (StrmSt.ne_of_nextSeq rfl)

/-- R148: a post of a requester that is no engine carries no epoch. -/
theorem exec_strtxpost {req : Req} {ep : BitVec 8} {lid : BitVec 10} {c : Strm} {d : Quad} {t : State} (hub : s.sys.hubOn = true)
    (die : reservedDie req.toNat = false) (heng : engOfReq req.toNat = none) (ht : s.txPost c.val req.toNat true d = .taken t) :
    exec (.strtxpost req ep lid c true d) s = .next t := by
  have harm : exec (.strtxpost req ep lid c true d) s = execStrtxpost req ep lid c true d s := rfl
  simp only [harm, execStrtxpost, hub, die, heng, ht, Bool.true_eq_false, Bool.false_eq_true, Option.isSome_none, false_and, if_false, State.postCmd]

/-! ## Fetches (R215) -/

theorem State.strReq_congr {t : State} (h : t.reg (oStr c) = s.reg (oStr c)) : t.strReq c = s.strReq c := by
  have htx : t.strTx c = s.strTx c := by rw [State.strTx, State.bit, State.fld, h, State.strTx, State.bit, State.fld]
  have hchan : t.strChan c = s.strChan c := by rw [State.strChan, State.fld, h, State.strChan, State.fld]
  rw [State.strReq, htx, hchan, State.strReq]

theorem State.txRing_setPosts (l : List TxPost) (seq : Nat) : (s.setPosts c l).txRing c seq = s.txRing c seq := by
  have hregs (k : Nat) (hk : k < 0x2C) : (s.setPosts c l).reg (oStr c + k) = s.reg (oStr c + k) :=
    State.reg_setPosts (by simp only [oStrstat]; omega) l
  simp only [State.txRing, State.pairOf, State.strNbuf, State.strBlkw, State.fld, oStrblk, hregs _ (show 4 < 0x2C by decide),
    hregs _ (show 8 < 0x2C by decide), Nat.add_assoc, hregs _ (show 8 + 4 < 0x2C by decide)]

theorem oStrstat_ne (c : Nat) : oStrstat c ≠ oStr c := by simp only [oStrstat]; omega

/-- The first read of a block is issued at its place in the ring. -/
theorem State.txRead_first {p : TxPost} (hwords : p.words = []) (s : State) (c : Nat) :
    (s.txRead c p).strm c = s.strm c ∧
      ∃ tag, (s.txRead c p).net.outst = s.net.outst ++ [outReq (s.strReq c) tag (s.txRing c p.seq) false (.strFetch c p.seq)] := by
  rw [State.txRead, hwords]
  exact ⟨State.strm_congr rfl c, _, rfl⟩

/-- The read of the head of the queue begins once it is due. -/
theorem State.txFetch_begins {p : TxPost} {l : List TxPost} (hposts : (s.strm c).posts = p :: l) (hidle : p.fetching = false) (hwords : p.words = [])
    (hdue : s.txDue c p = true) :
    ((s.txFetch c).strm c).posts.head? = some { p with fetching := true } ∧
      ∃ tag, (s.txFetch c).net.outst = s.net.outst ++ [outReq (s.strReq c) tag (s.txRing c p.seq) false (.strFetch c p.seq)] := by
  have hfirst : (s.strm c).posts.find? (fun q => !q.fetching) = some p := by rw [hposts, List.find?_cons_of_pos (by rw [hidle]; rfl)]
  obtain ⟨m, hset⟩ : ∃ m, setPost (s.strm c).posts { p with fetching := true } = { p with fetching := true } :: m :=
    ⟨setPost l { p with fetching := true }, by rw [hposts, setPost, List.map_cons, if_pos rfl, setPost]⟩
  have hfetch : s.txFetch c = (s.setPosts c ({ p with fetching := true } :: m)).txRead c p := by
    simp only [State.txFetch, hfirst, hdue, hset, if_true]
  obtain ⟨hstrm, tag, houtst⟩ := State.txRead_first hwords (s.setPosts c ({ p with fetching := true } :: m)) c
  rw [State.setPosts_outst, State.strReq_congr (State.reg_setPosts (oStrstat_ne c) _), State.txRing_setPosts] at houtst
  rw [State.strm_setPosts_of_ne (StrmSt.ne_of_posts rfl)] at hstrm
  rw [hfetch, hstrm]
  exact ⟨rfl, tag, houtst⟩

/-! ## Counters -/

theorem satAdd_eq_min (top a b : Nat) : satAdd top a b = min top (a + b) := by
  unfold satAdd
  split <;> omega

theorem State.fld_count_self (hwf : State.regsWf s = true) (o : Nat) {hi lo : Nat} (n : Nat) (hlo : lo ≤ hi) (hhi : hi < 32) :
    (s.count o hi lo n).fld o hi lo = min (2 ^ (hi + 1 - lo) - 1) (s.fld o hi lo + n) := by
  have hpos := Nat.two_pow_pos (hi + 1 - lo)
  rw [State.count, State.fld_setFld_self hwf o _ hlo hhi, satAdd_eq_min, Nat.mod_eq_of_lt (by omega)]

/-- A field that is not zero reads back whatever the table, where the register resets to zero. -/
theorem State.fld_setFld_of_ne {o hi lo n : Nat} (hreset : regReset o = 0) (hlo : lo ≤ hi) (hhi : hi < 32) (hn : n % 2 ^ (hi + 1 - lo) ≠ 0) :
    (s.setFld o hi lo n).fld o hi lo = n % 2 ^ (hi + 1 - lo) := by
  have hfield := bitsOf_withBits_same (s.reg o) n hlo hhi
  have hne : withBits (s.reg o) hi lo n ≠ regReset o := fun he => by
    rw [he, hreset, bitsOf, show (0 : Word).toNat = 0 from rfl, Nat.zero_div, Nat.zero_mod] at hfield
    exact hn hfield.symm
  have hread : (s.setFld o hi lo n).reg o = withBits (s.reg o) hi lo n := SMap.get_set_of_ne hne
  rw [State.fld, hread, hfield]

/-! ## Late blocks (R216) -/

theorem regReset_strdrop (c : Strm) : regReset (oStrdrop c.val) = 0 := by
  have hc := c.isLt
  have ho : oStrdrop c.val = 0x20030 + 0x40 * c.val := by simp only [oStrdrop, oStr]; omega
  have hrow : findReg regsSysNet (oStrdrop c.val) = some (regN 0x20030 0x40 256 0 [fRc 31 16, fRc 15 0], c.val) := by
    simp only [ho, regsSysNet, reg1, regN, lowHalf, findReg]
    repeat rw [if_neg (by omega)]
    rw [if_pos (by omega)]
    exact congrArg (fun j => some (_, j)) (by omega)
  rw [regReset, regAt_sysNet (by omega) (by omega) hrow]
  rfl

/-- A discarded block is counted, and the queues stay. -/
theorem State.txDiscard_spec (s : State) (c : Strm) (code req : Nat) :
    (s.txDiscard c.val code req).net = s.net ∧
      (s.txDiscard c.val code req).fld (oStrdrop c.val) 31 16 = min 65535 (s.fld (oStrdrop c.val) 31 16 + 1) := by
  have hc := c.isLt
  have hrec : oRecCnt ≠ oStrdrop c.val := by simp only [oRecCnt, oStrdrop, oStr]; omega
  have hrise : min (2 ^ (31 + 1 - 16) - 1) (s.fld (oStrdrop c.val) 31 16 + 1) % 2 ^ (31 + 1 - 16) = min 65535 (s.fld (oStrdrop c.val) 31 16 + 1) :=
    Nat.mod_eq_of_lt (by omega)
  constructor
  · rw [State.txDiscard, State.logLim_net, State.count_net]
  · rw [State.txDiscard, State.fld, State.reg_logLim hrec, ← State.fld, State.count, satAdd_eq_min]
    exact (State.fld_setFld_of_ne (regReset_strdrop c) (by decide) (by decide) (by rw [hrise]; omega)).trans hrise

/-- The block at the head that has not been read is discarded and counted. -/
theorem State.txLate_discards (c : Strm) {p : TxPost} (hwf : Stated.StrmWf s) (hposts : (s.strm c.val).posts = [p]) (hlate : p.fetched = false) :
    ((s.txLate c.val).strm c.val).posts = [] ∧
      (s.txLate c.val).fld (oStrdrop c.val) 31 16 = min 65535 (s.fld (oStrdrop c.val) 31 16 + 1) := by
  have hfirst : (s.strm c.val).posts.find? (fun q => !q.fetched) = some p := by rw [hposts, List.find?_cons_of_pos (by rw [hlate]; rfl)]
  have hdrop : (s.strm c.val).posts.filter (fun q => q.seq ≠ p.seq) = [] := by rw [hposts]; simp
  have hlate : s.txLate c.val = (s.setPosts c.val []).txDiscard c.val 0x064 (s.strReq c.val) := by simp only [State.txLate, hfirst, hdrop]
  have hkept : (s.setPosts c.val []).fld (oStrdrop c.val) 31 16 = s.fld (oStrdrop c.val) 31 16 := by
    rw [State.fld, State.reg_setPosts (by simp only [oStrstat, oStrdrop]; omega), State.fld]
  obtain ⟨hnet, hcount⟩ := (s.setPosts c.val []).txDiscard_spec c 0x064 (s.strReq c.val)
  rw [hlate, State.strm_congr (congrArg NetSt.strm hnet), State.strm_setPosts hwf, hcount, hkept]
  exact ⟨rfl, rfl⟩

/-! ## Emission (R272) -/

/-- The samples of the block in emission that lie from grid instant `k` on. -/
def StrmSt.cutAt (x : StrmSt) (k : Nat) : Nat := match x.emitEnd with | some e => e - k | none => 0

/-- What a block that has been read brings out: its samples under the NCO of its path from grid instant `k` on, and the codes of the DAC. -/
def State.emission (s : State) (c k : Nat) (p : TxPost) (sums : List Int) : List Out :=
  [.samplesOut (strTile c) (s.strChan c) (s.fld (oStr c) 9 8) (gridTime (s.strRate c) k) (s.fld (s.strPath c + 4) 31 0)
    (s.pathPhase (s.strPath c) (convSample true (gridTime (s.strRate c) k))) (2 + s.fld (s.strPath c) 1 0) (p.words.flatMap (wordComps (s.strFmt c))),
   .dacOut (strTile c) (s.strChan c) (sums.map (fun x => (dacCode x).1))]

/-- The cut of the block before, where it overlaps. -/
def State.cutOut (s : State) (c k : Nat) : List Out :=
  if (match (s.strm c).emitEnd with | some e => e - k | none => 0) = 0 then [] else [.samplesCut (strTile c) (s.strChan c) (s.fld (oStr c) 9 8) k]

section
variable {p : TxPost} {l : List TxPost} (hposts : (s.strm c).posts = p :: l) (hread : p.fetched = true) (hrun : s.strRun c = true)
  (hclean : s.ice.errs = []) (sums : List Int)
include hposts hread hrun hclean

/-- The counters and records of an emission leave the queues alone. -/
theorem State.txEmit_net : ∃ e, (s.txEmit c sums).net = ((s.setStrm c { s.strm c with emitEnd := some e }).setPosts c l).net := by
  simp only [State.txEmit, hposts, State.sramTake_clean hclean, hread, hrun, Bool.true_eq_false, Bool.false_eq_true, or_self, if_false,
    State.emit_net, apply_ite State.net, State.logLim_net, State.logClips_net, State.count_net, ite_self]
  exact ⟨_, rfl⟩

/-- R272: a block that has been read is emitted from the grid instant at or after its due time, and cuts the block before where it overlaps. -/
theorem State.txEmit_out :
    (s.txEmit c sums).out = s.out ++ s.cutOut c (gridAfter (s.strRate c) p.due) ++ s.emission c (gridAfter (s.strRate c) p.due) p sums := by
  have hout (x : StrmSt) : ((s.setStrm c x).setPosts c l).out = s.out := (State.setPosts_out l).trans rfl
  simp only [State.txEmit, hposts, State.sramTake_clean hclean, hread, hrun, Bool.true_eq_false, Bool.false_eq_true, or_self, if_false,
    State.emit_out, apply_ite State.out, State.logLim_out, State.logClips_out, State.count_out, hout, ite_self, State.cutOut, State.emission,
    List.append_assoc, List.map_map]
  cases hend : (s.strm c).emitEnd with
  | none => rfl
  | some e =>
    by_cases hcut : e - gridAfter (s.strRate c) p.due = 0
    · simp only [hcut, if_true]
      rfl
    · simp only [hcut, if_false, List.append_assoc]
      rfl

theorem State.txEmit_posts : ((s.txEmit c sums).strm c).posts = l := by
  obtain ⟨e, hnet⟩ := State.txEmit_net hposts hread hrun hclean sums
  rw [State.strm_congr (congrArg NetSt.strm hnet), State.strm_setStrm_setPosts (StrmSt.ne_of_emitEnd rfl) (StrmSt.ne_of_emitEnd rfl)]

end

/-! ## EN of a channel (R217) -/

theorem State.cutEmission_net (s : State) (c : Nat) : (s.cutEmission c).net = s.net := by
  unfold State.cutEmission
  dsimp only
  split
  · split <;> rfl
  · rfl

theorem State.cutEmission_regs (s : State) (c : Nat) : (s.cutEmission c).regs = s.regs := by
  unfold State.cutEmission
  dsimp only
  split
  · split <;> rfl
  · rfl

theorem State.tcUp_congr {t : State} (h : t.reg oNocstat = s.reg oNocstat) (n : Nat) : t.tcUp n = s.tcUp n := by
  rw [State.tcUp, State.fld, h, State.tcUp, State.fld]

/-- EN = 1: the channel starts anew, and runs where the TC module is up. -/
theorem State.strCfgWrite_enables {v : Word} (c : Strm) (hoff : s.strEn c.val = false) (hv : bitsOf v 31 31 = 1) (hcode : s.strEnableCode c.val v = none) :
    s.strCfgWrite c.val v = .ok ((((s.setReg (oStr c.val) (strCfgRow.merge v (s.reg (oStr c.val)))).setStrm c.val {}).setFld (oStridx c.val) 15 0 0).setReg
      (oStrstat c.val) (BitVec.ofNat 32 (if s.tcUp (strTile c.val) then 2 ^ 30 else 2 ^ 29))) := by
  have hc := c.isLt
  have hup : (((s.setReg (oStr c.val) (strCfgRow.merge v (s.reg (oStr c.val)))).setStrm c.val {}).setFld (oStridx c.val) 15 0 0).tcUp (strTile c.val) =
      s.tcUp (strTile c.val) := by
    refine State.tcUp_congr ?_ _
    rw [State.reg_setFld_ne (by simp only [oStridx, oStr, oNocstat]; omega), State.reg_setStrm,
      State.reg_setReg_ne (by simp only [oStr, oNocstat]; omega)]
  simp only [State.strCfgWrite, hoff, hv, hcode, Bool.false_eq_true, if_false, if_true, State.plainWrite_strCfg, hup]

theorem State.strm_setReg (o : Nat) (v : Word) : (s.setReg o v).strm c = s.strm c := State.strm_congr (congrArg NetSt.strm (State.setReg_net ..)) c

theorem State.strEn_enabled {v : Word} (hwf : State.regsWf s = true) (hstrm : Stated.StrmWf s) (hv : bitsOf v 31 31 = 1) (w : Word) :
    let t := (((s.setReg (oStr c) (strCfgRow.merge v (s.reg (oStr c)))).setStrm c {}).setFld (oStridx c) 15 0 0).setReg (oStrstat c) w
    t.strEn c = true ∧ t.strm c = {} ∧ t.fld (oStridx c) 15 0 = 0 ∧ t.fld (oStrstat c) 31 29 = bitsOf w 31 29 := by
  have hidx : oStridx c ≠ oStr c := by simp only [oStridx]; omega
  have hstat : oStrstat c ≠ oStridx c := by simp only [oStrstat, oStridx]; omega
  have hwf1 : State.regsWf ((s.setReg (oStr c) (strCfgRow.merge v (s.reg (oStr c)))).setStrm c {}) = true :=
    State.regsWf_setStrm (State.wf_setReg hwf _ _) _
  refine ⟨?_, ?_, ?_, ?_⟩
  · rw [State.strEn, State.bit, State.fld, State.reg_setReg_ne (oStrstat_ne c), State.reg_setFld_ne hidx, State.reg_setStrm,
      State.reg_setReg_self hwf, strCfgRow_merge_en, hv]
    rfl
  · rw [State.strm_setReg, State.strm_setFld, State.strm_setStrm (State.strmWf_setReg hstrm _ _)]
  · rw [State.fld, State.reg_setReg_ne hstat, ← State.fld, State.fld_setFld_self hwf1 _ _ (by decide) (by decide)]
    rfl
  · exact State.fld_setReg_self (State.wf_setFld hwf1 _ _ _ _) _ _ _ _

theorem exec_strcfgEnable {req : Req} {c : Strm} {v : Word} {t : State} (h : s.cmdWrite req (oStr c.val) v = t) :
    exec (.strcfgEnable req c v) s = .next t := congrArg Host.Outcome.next h

theorem exec_strcfgDisable {req : Req} {c : Strm} {v : Word} {t : State} (h : s.cmdWrite req (oStr c.val) v = t) :
    exec (.strcfgDisable req c v) s = .next t := congrArg Host.Outcome.next h

/-- The fields beside EN stay as they are in the word that clears EN. -/
theorem strCfgOthers_en_cleared (x : Word) : strCfgOthers (x &&& 0x7FFFFFFF) = strCfgOthers x := by
  rw [strCfgOthers, strCfgOthers, BitVec.and_assoc]
  rfl

/-- EN = 0: the channel stops and forgets what it had asked for. -/
theorem State.strCfgWrite_disables (hen : s.strEn c = true) : s.strCfgWrite c (s.reg (oStr c) &&& 0x7FFFFFFF) =
    .ok (((((s.cutEmission c).strForget c).setStrm c {}).setBit (oStr c) 31 false).setReg (oStrstat c) 0) := by
  have hoff : bitsOf (s.reg (oStr c) &&& 0x7FFFFFFF) 31 31 ≠ 1 := by rw [(bitsOf_en_cleared _).1]; decide
  rw [State.strCfgWrite, if_pos hen, if_neg (not_not.mpr (strCfgOthers_en_cleared _)), if_neg hoff]

theorem State.strForget_strm (s : State) (c : Nat) : (s.strForget c).net.strm = s.net.strm := rfl

theorem State.strForget_regs (s : State) (c : Nat) : (s.strForget c).regs = s.regs := rfl

theorem State.strEn_disabled (hwf : State.regsWf s = true) (hstrm : Stated.StrmWf s) :
    let t := ((((s.cutEmission c).strForget c).setStrm c {}).setBit (oStr c) 31 false).setReg (oStrstat c) 0
    t.strEn c = false ∧ t.strm c = {} ∧ t.reg (oStrstat c) = 0 := by
  have hregs : ((s.cutEmission c).strForget c).regs = s.regs := by rw [State.strForget_regs, State.cutEmission_regs]
  have hnet : ((s.cutEmission c).strForget c).net.strm = s.net.strm := by rw [State.strForget_strm, State.cutEmission_net]
  have hstrm1 : Stated.StrmWf ((s.cutEmission c).strForget c) := State.strmWf_congr hnet hstrm
  have hwf1 : State.regsWf (((s.cutEmission c).strForget c).setStrm c {}) = true :=
    State.regsWf_setStrm (by rw [State.regsWf, hregs]; exact hwf) _
  refine ⟨?_, ?_, State.reg_setReg_self (State.wf_setBit hwf1 _ _ _) _ _⟩
  · rw [State.strEn, State.bit, State.fld, State.reg_setReg_ne (oStrstat_ne c), ← State.fld, ← State.bit, State.bit_setBit_self hwf1 _ _ (by decide)]
  · rw [State.strm_setReg, State.setBit, State.strm_setFld, State.strm_setStrm hstrm1]

end Sys2Proof.Machine
end

section
open Sys2Proof Sys2Proof.Machine

/-- Settles O38: the posts of a channel by what a post, a fetch, a late block and an emission make of its queue, and EN by the write of
SYS_STRCFG. -/
theorem transmitStreamsComplete : Obligations.TransmitStreamsComplete := by
  unfold Obligations.TransmitStreamsComplete
  refine ⟨?post, ?fetch, ?late, ?emit, ?enable, ?disable⟩
  case post =>
    intro req ep lid c d s hub die heng htile hcnv hrun htx hlast hnext hrsv hns hroom
    obtain ⟨t, htaken, hposted⟩ := State.txPost_taken (q := req.toNat) htile hcnv hrun htx hlast hnext hrsv hns hroom
    refine ⟨t, exec_strtxpost hub die heng htaken, ?_, ?_⟩
    · rw [hposted]
      rfl
    · rw [hposted]
      rfl
  case fetch => exact fun c p l s hposts hidle hwords hdue => ⟨_, rfl, State.txFetch_begins hposts hidle hwords hdue⟩
  case late => exact fun c p s hwf hposts hlate => ⟨_, rfl, State.txLate_discards c hwf hposts hlate⟩
  case emit =>
    rintro c sums p l s k hposts hread hrun hclean rfl
    exact ⟨_, rfl, State.txEmit_posts hposts hread hrun hclean sums, State.txEmit_out hposts hread hrun hclean sums⟩
  case enable =>
    intro req c v s hwf hstrm hub die hoff hv halign hfmt hcode
    obtain ⟨hen, hrest, hidx, hstat⟩ := State.strEn_enabled (c := c.val) hwf hstrm hv (BitVec.ofNat 32 (if s.tcUp (strTile c.val) then 2 ^ 30 else 2 ^ 29))
    refine ⟨_, exec_strcfgEnable (State.cmdWrite_strCfg hub die (strCfgRow_check halign hfmt) (State.strCfgWrite_enables c hoff hv hcode)),
      hen, hrest, hidx, hstat.trans ?_⟩
    split <;> rfl
  case disable =>
    intro req c s hwf hstrm hub die hen halign hfmt
    obtain ⟨-, hkeep⟩ := bitsOf_en_cleared (s.reg (oStr c.val))
    have hcheck : strCfgRow.check (s.reg (oStr c.val) &&& 0x7FFFFFFF) = none :=
      strCfgRow_check (by rw [hkeep _ _ (by decide)]; exact halign) (by rw [hkeep _ _ (by decide)]; exact hfmt)
    exact ⟨_, exec_strcfgDisable (State.cmdWrite_strCfg hub die hcheck (State.strCfgWrite_disables hen)), State.strEn_disabled hwf hstrm⟩

end

section
/-! SUPPORT. Receive streams (R211, R270): the sample that begins a block, and the count of full-scale codes of its path. -/

namespace Sys2Proof.Machine

set_option Elab.async false

variable {s : State} {c : Nat}

theorem StrmSt.ne_of_blocks {x : StrmSt} {b : RxBlk} {l : List RxBlk} (h : x.blocks = b :: l) : x ≠ {} := by
  rintro rfl
  cases h

/-- A channel between blocks that has begun the block `b` and holds the components `l`. -/
def StrmSt.begun (x : StrmSt) (b : RxBlk) (l : List Int) : StrmSt :=
  { x with blocks := [b], nextId := x.nextId + 1, elems := l, skip := 0, gap := false }

theorem State.strm_begun (s : State) (x : StrmSt) (b : RxBlk) (l : List Int) : (s.setStrm c (x.begun b l)).strm c = x.begun b l :=
  State.strm_setStrm_of_ne (StrmSt.ne_of_blocks rfl)

/-- Two components are no word of any format. -/
theorem two_ne_word (fmt : Nat) : 2 ≠ 2 * samplesPerWord fmt := by
  unfold samplesPerWord
  split
  · decide
  · split <;> decide

/-- A channel without a block begins one, and holds the components of its first sample. -/
theorem State.strSample_begins (halign : s.strAlign c = 0) (hkeep : s.bit (oStr c) 26 = false) (hblocks : (s.strm c).blocks = [])
    (helems : (s.strm c).elems = []) (hskip : (s.strm c).skip = 0) (t : Nat) (v : Int × Int) :
    ∃ b : RxBlk, b.stage = 0 ∧ b.words = [] ∧ b.gap = (s.strm c).gap ∧ b.time = t ∧
      s.strSample c t v = (s.setStrm c ((s.strm c).begun b [])).setStrm c ((s.strm c).begun b [v.1, v.2]) := by
  refine ⟨{ id := (s.strm c).nextId, words := [], time := t, frameTime := t, bidx := 0, fidx := s.fld (oStrstat c) 7 0, gap := (s.strm c).gap },
    rfl, rfl, rfl, rfl, ?_⟩
  have hword := two_ne_word (s.strFmt c)
  have hread (b : RxBlk) (u : State) (l : List Int) := State.strm_begun (c := c) u (s.strm c) b l
  generalize hx : s.strm c = x at *
  obtain ⟨seq, blocks, nextId, elems, skip, gap, bidx, frameTime, inFrame, ticks, posts, nextSeq, lastDue, emitEnd, tmplWait, shed⟩ := x
  obtain rfl : blocks = [] := hblocks
  obtain rfl : elems = [] := helems
  obtain rfl : skip = 0 := hskip
  simp only [StrmSt.begun] at hread ⊢
  simp only [State.strSample, hx, halign, hkeep, filling, List.getLast?_nil, Option.bind_none, ne_eq, not_true_eq_false, false_and, Bool.false_eq_true,
    if_false, if_true, List.length_nil, List.nil_append, hread]
  exact (if_neg (by decide)).trans (if_neg hword)

theorem State.le_strPath (s : State) (c : Nat) : 0xC00000 ≤ s.strPath c := by simp only [State.strPath, oPath, oCnv]; omega

/-- The path of a channel after its full-scale codes have been counted. -/
def State.clipsCounted (s : State) (c : Nat) (a : List Int) : State := s.count (s.strPath c + 12) 15 0 (a.filter fullScale).length

/-- The components that the first sample brings: the baseband sample of the converter samples, with the gain of the path. -/
def State.firstComps (s : State) (c t : Nat) (a : List Int) : List Int :=
  let v := s.baseband (s.strPath c) (s.mixed (s.strPath c) (convSample false t) a)
  [v.1 * (2 ^ s.fld (s.strPath c) 1 0 : Nat), v.2 * (2 ^ s.fld (s.strPath c) 1 0 : Nat)]

/-- R211, R270: the first sample of a channel without a block counts the full-scale codes and begins a block. -/
theorem State.strSamples_begins (c : Strm) (hrun : s.strRun c.val = true) (hrx : s.strTx c.val = false) (halign : s.strAlign c.val = 0)
    (hkeep : s.bit (oStr c.val) 26 = false) (hblocks : (s.strm c.val).blocks = []) (helems : (s.strm c.val).elems = [])
    (hskip : (s.strm c.val).skip = 0) (t : Nat) (a : List Int) :
    ∃ b : RxBlk, b.stage = 0 ∧ b.words = [] ∧ b.gap = (s.strm c.val).gap ∧ b.time = gridTime (s.strRate c.val) (gridNear (s.strRate c.val) t) ∧
      s.strSamples c.val t [a] = ((s.clipsCounted c.val a).setStrm c.val ((s.strm c.val).begun b [])).setStrm c.val
        ((s.strm c.val).begun b (s.firstComps c.val b.time a)) := by
  have hlt := c.isLt
  have hpath := s.le_strPath c.val
  have hreg : (s.clipsCounted c.val a).reg (oStr c.val) = s.reg (oStr c.val) := State.reg_count_ne (by simp only [oStr]; omega) _ _ _
  have hstrm : (s.clipsCounted c.val a).strm c.val = s.strm c.val := State.strm_congr (by rw [State.clipsCounted, State.count_net]) _
  rw [State.strSamples, if_pos ⟨hrun, hrx⟩, State.rxSamples, State.rxSamples, ← State.clipsCounted, ← hstrm]
  rw [State.strAlign, State.fld, ← hreg] at halign
  rw [State.bit, State.fld, ← hreg] at hkeep
  rw [← hstrm] at hblocks helems hskip
  obtain ⟨b, hstage, hwords, hgap, htime, hsample⟩ := State.strSample_begins halign hkeep hblocks helems hskip
    (gridTime (s.strRate c.val) (gridNear (s.strRate c.val) t)) _
  exact ⟨b, hstage, hwords, hgap, htime, hsample.trans (by rw [htime]; rfl)⟩

/-- Channel 0 runs as a receive channel; the table of registers lists the counter of its path twice, first as zero. -/
def State.clipsTwice : State :=
  { State.reset with regs := [(oStr 0, 0x80000000), (oStrstat 0, 0x40000000), (oPath 0 false 0 + 12, 0), (oPath 0 false 0 + 12, 5)] }

/-- A count of none writes zero, the reset value: the first entry goes, and the second one is read. -/
theorem State.fld_clipsTwice :
    (State.clipsTwice.clipsCounted (0 : Strm).val []).fld (State.clipsTwice.strPath (0 : Strm).val + 12) 15 0 = 5 ∧
      State.clipsTwice.fld (State.clipsTwice.strPath (0 : Strm).val + 12) 15 0 = 0 := by decide +kernel

theorem State.clipsTwice_receives : State.clipsTwice.strRun (0 : Strm).val = true ∧ State.clipsTwice.strTx (0 : Strm).val = false ∧
    State.clipsTwice.strAlign (0 : Strm).val = 0 ∧ State.clipsTwice.bit (oStr (0 : Strm).val) 26 = false := by decide +kernel

end Sys2Proof.Machine
end

section
open Sys2Proof Sys2Proof.Machine

/-- Refutes O37: the clause of the first sample (R211, R270) lacks the premise that the table of registers is canonical. Where the table lists the
counter of full-scale codes twice, a count that stays at zero removes the first entry and the second one is read. With the premise,
`State.strSamples_begins` and `State.fld_count_self` give what the clause says. -/
theorem not_receiveStreamsComplete : ¬ Obligations.ReceiveStreamsComplete := by
  intro h
  obtain ⟨hfirst, -⟩ := h
  obtain ⟨hrun, hrx, halign, hkeep⟩ := State.clipsTwice_receives
  obtain ⟨hcount, hzero⟩ := State.fld_clipsTwice
  obtain ⟨t, b, hexec, -, -, -, -, -, -, hclips⟩ := hfirst 0 0 0 0 [] State.clipsTwice hrun hrx halign hkeep rfl rfl rfl
  obtain ⟨b', -, -, -, -, hbegins⟩ := State.strSamples_begins 0 hrun hrx halign hkeep rfl rfl rfl (timeOf 0 0 0) []
  obtain rfl : State.clipsTwice.strSamples (0 : Strm).val (timeOf 0 0 0) [[]] = t := Host.Outcome.next.inj hexec
  have hregs : (State.clipsTwice.strSamples (0 : Strm).val (timeOf 0 0 0) [[]]).regs = (State.clipsTwice.clipsCounted (0 : Strm).val []).regs := by
    rw [hbegins]
    rfl
  rw [State.fld_congr hregs, hcount, hzero] at hclips
  exact absurd hclips (by decide)

end

section
/-! SUPPORT. Reduction groups (R219 to R225): the tables of groups and slots read after a write, a contribution at its entry node, a wide packet at the
root, the entries of the routers, and a slot that times out. -/

namespace Sys2Proof.Machine

set_option Elab.async false

variable {s t : State} {g k : Nat}

/-! ## Groups and slots -/

/-- The table of groups stands in its canonical form. -/
def State.groupsWf (s : State) : Prop := SMap.wf (fun _ => ({} : RedGroup)) s.net.groups = true

theorem SMap.set_ne_nil {α : Type} [DecidableEq α] {d : Nat → α} {m : SMap α} {k : Nat} {v : α} (h : v ≠ d k) : SMap.set d m k v ≠ [] := by
  intro he
  have hfind : SMap.find (SMap.set d m k v) k = some v := by rw [SMap.set, if_neg h, SMap.find_insert_self]
  rw [he] at hfind
  cases hfind

theorem State.grp_congr (h : t.net.groups = s.net.groups) (g : Nat) : t.grp g = s.grp g := by rw [State.grp, State.grp, h]

theorem State.slot_congr (h : (t.grp g).slots = (s.grp g).slots) (k : Nat) : t.slot g k = s.slot g k := by rw [State.slot, State.slot, h]

theorem RedGroup.ne_of_slots {x : RedGroup} (h : x.slots ≠ []) : x ≠ {} := by
  rintro rfl
  exact h rfl

/-- A group other than an empty one reads back whatever the table. -/
theorem State.grp_setGrp_of_ne {x : RedGroup} (h : x ≠ {}) : (s.setGrp g x).grp g = x := SMap.get_set_of_ne h

theorem State.grp_setGrp (hwf : s.groupsWf) (x : RedGroup) : (s.setGrp g x).grp g = x := SMap.get_set_self hwf

/-- A slot that is open, or that has closed once, reads back, beside the members and rounds of its group. -/
theorem State.grp_setSlot {x : RedSlot} (h : x ≠ {}) :
    (s.setSlot g k x).grp g = { s.grp g with slots := SMap.set (fun _ => {}) (s.grp g).slots k x } :=
  State.grp_setGrp_of_ne fun he => SMap.set_ne_nil (d := fun _ => ({} : RedSlot)) h (congrArg RedGroup.slots he)

theorem State.slot_setSlot {x : RedSlot} (h : x ≠ {}) : (s.setSlot g k x).slot g k = x := by
  rw [State.slot, State.grp_setSlot h]
  exact SMap.get_set_of_ne h

theorem State.slots_setSlot_ne_nil {x : RedSlot} (h : x ≠ {}) : ((s.setSlot g k x).grp g).slots ≠ [] := by
  rw [State.grp_setSlot h]
  exact SMap.set_ne_nil (d := fun _ => ({} : RedSlot)) h

theorem RedSlot.ne_of_isOpen {x : RedSlot} (h : x.isOpen = true) : x ≠ {} := by
  rintro rfl
  cases h

theorem RedSlot.ne_of_used {x : RedSlot} (h : x.used = true) : x ≠ {} := by
  rintro rfl
  cases h

/-! ## A contribution (R221) -/

theorem State.behind_alone (h : s.net.msgs = []) (m : NetMsg) : s.behind m = false := by
  unfold State.behind
  rw [h]
  split <;> rfl

theorem State.unsend_alone (h : s.net.msgs = []) (m : NetMsg) : s.unsend m = s := by
  have herase : s.net.msgs.erase m = s.net.msgs := by rw [h]; rfl
  rw [State.unsend, herase]

/-- The wide packet that a contribution of member `i` of its group becomes at router `r`. -/
def State.wideFrom (s : State) (p : Pkt) (i r : Nat) : Wide :=
  let a := pktAddr p
  let v := wideOf (s.redFmt (redGroupOf a)) p.inl
  ⟨redGroupOf a, redRoundOf a, redWordOf a, BitVec.ofNat 64 (2 ^ i), v.1, v.2, p.poison, r⟩

/-- The acknowledgement of a contribution. -/
def redAckOf (p : Pkt) : Rsp := ⟨3, 0, false, p.src, p.tag, 0, false, []⟩

/-- R221: a contribution of a member is acknowledged, and goes on as a wide packet from the router of its engine. -/
theorem State.contribute_sends {p : Pkt} {e i l : Nat} (heng : engOfReq p.src.toNat = some e) (hready : s.redReady (redGroupOf (pktAddr p)) = true)
    (hword : redWordOf (pktAddr p) < s.redWidth (redGroupOf (pktAddr p)))
    (hmember : (s.grp (redGroupOf (pktAddr p))).members.find? (fun m => m.2 == p.lid.toNat) = some (i, l))
    (hepoch : p.epoch.toNat = s.portEpoch 2 p.lid.toNat) :
    s.contribute p = (s.send (.wrack (redAckOf p))).send (.rwide (s.wideFrom p i (routerOfEng e))) := by
  have hin : ¬s.redWidth (redGroupOf (pktAddr p)) ≤ redWordOf (pktAddr p) := by omega
  simp only [State.contribute, heng, hready, hin, hmember, hepoch, Bool.true_eq_false, or_self, if_false, ne_eq, not_true_eq_false, State.answer_write]
  rfl

/-- R201: a contribution of the right form reaches its entry node. -/
theorem State.rconServe_contributes {p : Pkt} (hub : s.sys.hubOn = true) (hmsgs : s.net.msgs = []) (die : reservedDie p.src.toNat = false)
    (htyp : p.typ = 4) (hlen : p.len = 0) (hzero : p.zeroBit = false) (hbody : p.body = []) : s.rconServe p = s.contribute p := by
  simp only [State.rconServe, hub, State.behind_alone hmsgs, State.unsend_alone hmsgs, die, htyp, hlen, hzero, hbody, Bool.true_eq_false,
    Bool.false_eq_true, ne_eq, not_true_eq_false, or_self, if_false]

/-! ## A wide packet at the root (R224) -/

/-- The slot that the first packet of a word opens. -/
def Wide.opens (w : Wide) : RedSlot := { isOpen := true, round := w.round, mask := w.mask, val := w.val, special := w.special, poison := w.poison }

/-- The first packet of a word opens its slot, which waits while a member is missing. -/
theorem State.wideAt_opens {w : Wide} (hroot : w.at_ = atStore) (hready : s.redReady w.group = true)
    (hidle : (s.slot w.group (slotKey w.word w.round)).closing = false) (hshut : (s.slot w.group (slotKey w.word w.round)).isOpen = false)
    (hfresh : (s.slot w.group (slotKey w.word w.round)).used = false) (hmask : w.mask ≠ s.fullMask w.group) :
    s.wideAt w = s.setSlot w.group (slotKey w.word w.round) w.opens := by
  have hopen : w.opens ≠ {} := RedSlot.ne_of_isOpen rfl
  have hfull : (s.setSlot w.group (slotKey w.word w.round) w.opens).fullMask w.group = s.fullMask w.group := by
    rw [State.fullMask, State.grp_setSlot hopen, State.fullMask]
  have hwaits : (s.setSlot w.group (slotKey w.word w.round) w.opens).completeSlot w.group (slotKey w.word w.round) =
      s.setSlot w.group (slotKey w.word w.round) w.opens := by
    rw [State.completeSlot, State.slot_setSlot hopen, hfull]
    exact if_neg fun h => hmask h.2
  simp only [State.wideAt, hroot, State.atRoot, hready, hidle, hshut, hfresh, Bool.true_eq_false, Bool.false_eq_true, false_and, if_false, if_true]
  exact hwaits

/-- A wide packet that nothing is ahead of leaves the network for its place. -/
theorem State.moveWide_arrives {i : Nat} {w : Wide} (hnext : nthWide i s.net.msgs = some w) (hbehind : s.behind (.rwide w) = false) :
    s.moveWide i = ({ s with net := { s.net with msgs := dropWide i s.net.msgs } }).wideAt w := by
  simp only [State.moveWide, hnext, hbehind, Bool.false_eq_true, if_false]

/-! ## Entries of the routers (R223) -/

theorem State.crossFlits_net (s : State) (a b n : Nat) : (s.crossFlits a b n).net = s.net := by
  unfold State.crossFlits
  split <;> rfl

/-- A packet that goes on leaves the entries alone. -/
theorem State.passOn_sends (s : State) (w : Wide) :
    (s.passOn w).net.entries = s.net.entries ∧ (s.passOn w).net.msgs = s.net.msgs ++ [.rwide { w with at_ := s.wideNext w }] := by
  simp only [State.passOn, State.send, State.crossFlits_net, and_self]

theorem State.entry_setEntry_self (hwf : SMap.wf (fun _ => (none : Option Wide)) s.net.entries = true) (r i : Nat) (w : Option Wide) :
    (s.setEntry r i w).entry r i = w := SMap.get_set_self hwf

/-- An entry that has waited leaves its router towards the root. -/
theorem State.entryExpiry_leaves {r i : Nat} {w : Wide} (hentry : s.entry r i = some w)
    (hwf : SMap.wf (fun _ => (none : Option Wide)) s.net.entries = true) (hclean : s.ice.errs = []) :
    (s.entryExpiry r i).entry r i = none ∧ (s.entryExpiry r i).net.msgs = s.net.msgs ++ [.rwide { w with at_ := s.wideNext w }] := by
  have hread : s.entryRead r i w = (s, w) := by
    simp only [State.entryRead, State.sramRead_clean hclean, State.sramFresh_clean hclean, List.isEmpty_nil, Bool.not_true, Bool.or_false]
  have hleft : s.entryExpiry r i = (s.setEntry r i none).passOn w := by simp only [State.entryExpiry, hentry, hread]
  obtain ⟨hentries, hmsgs⟩ := (s.setEntry r i none).passOn_sends w
  rw [hleft, hmsgs]
  refine ⟨?_, rfl⟩
  rw [State.entry, hentries, ← State.entry, State.entry_setEntry_self hwf]

/-! ## A slot that times out (R225) -/

theorem State.setFlag_net (s : State) (x f : Nat) : (s.setFlag x f).net = s.net := by
  unfold State.setFlag
  dsimp only
  split <;> rfl

theorem State.postEvent_net (s : State) (x f : Nat) : (s.postEvent x f).net = s.net := by
  unfold State.postEvent
  split
  · rfl
  · exact s.setFlag_net x f

theorem State.msgs_setRound (s : State) (g : Nat) (x : RedRound) : (s.setRound g x).net.msgs = s.net.msgs := rfl

theorem State.msgs_setSlot (s : State) (g k : Nat) (x : RedSlot) : (s.setSlot g k x).net.msgs = s.net.msgs := rfl

/-- R226: the end of a round leaves the slots and the packets alone. -/
theorem State.roundDone_keeps (h : (s.grp g).slots ≠ []) (r : Nat) :
    ((s.roundDone g r).grp g).slots = (s.grp g).slots ∧ (s.roundDone g r).net.msgs = s.net.msgs := by
  have hkeeps (l : List RedRound) (u : State) (hu : u.net = (s.setGrp g { s.grp g with rounds := l }).net) :
      (u.grp g).slots = (s.grp g).slots ∧ u.net.msgs = s.net.msgs := by
    have hgrp := State.grp_setGrp_of_ne (s := s) (g := g) (RedGroup.ne_of_slots (x := { s.grp g with rounds := l }) h)
    rw [State.grp_congr (congrArg NetSt.groups hu), hgrp, hu]
    exact ⟨rfl, rfl⟩
  unfold State.roundDone
  dsimp only
  split
  · split
    · exact hkeeps _ _ (by rw [State.postEvent_net, State.setFld_net])
    · exact hkeeps _ _ (State.setFld_net ..)
  · exact ⟨rfl, rfl⟩

/-- A word that times out is dropped where POLICY does not ask for what has come: its slot is shut, and nothing is sent. -/
theorem State.closeTimeout_drops (hpolicy : s.fld (oRed g) 29 28 ≠ 1) :
    ((s.closeTimeout g k).slot g k).isOpen = false ∧ ((s.closeTimeout g k).slot g k).used = true ∧ (s.closeTimeout g k).net.msgs = s.net.msgs := by
  have hused (r : Nat) : ({ round := r, used := true } : RedSlot) ≠ {} := RedSlot.ne_of_used rfl
  unfold State.closeTimeout
  dsimp only
  rw [if_neg hpolicy]
  obtain ⟨hslots, hmsgs⟩ := State.roundDone_keeps (State.slots_setSlot_ne_nil (k := k) (hused (s.slot g k).round)) (s.slot g k).round
  rw [State.slot_congr hslots, State.slot_setSlot (hused _), hmsgs, State.msgs_setSlot, State.msgs_setRound, State.count_net, State.logLim_net]
  exact ⟨rfl, rfl, rfl⟩

end Sys2Proof.Machine
end

section
/-! SUPPORT. The registers of a reduction group: member table, EN = 1, and EN = 0 with the slots it closes (R220, R225, R228). -/

namespace Sys2Proof.Machine

set_option Elab.async false

variable {s t u : State}

/-! ## The member table (R220) -/

theorem RedGroup.ne_of_members {x : RedGroup} (h : x.members ≠ []) : x ≠ {} := by
  rintro rfl
  exact h rfl

theorem State.regsWf_setGrp {g : Nat} (h : State.regsWf s = true) (x : RedGroup) : State.regsWf (s.setGrp g x) = true := h

theorem State.bit_setGrp {g : Nat} (x : RedGroup) (o k : Nat) : (s.setGrp g x).bit o k = s.bit o k := rfl

/-- The members of an enabled group are those of its table once it is READY. -/
theorem State.groupReady_loads {g : Nat} (hwf : State.regsWf s = true) (hen : s.bit (oRed g) 31 = true) (hidle : s.bit (oRed g) 30 = false)
    (hroot : s.isOn (oPwrTile (s.redRoot g)) = true) (hmembers : s.memberTable g ≠ []) :
    (s.groupReady g).redReady g = true ∧ ((s.groupReady g).grp g).members = s.memberTable g := by
  rw [State.groupReady, if_pos ⟨hen, hidle, hroot⟩]
  refine ⟨?_, ?_⟩
  · rw [State.redReady, State.bit_setBit_beside (State.regsWf_setGrp hwf _) _ _ (by decide) (by decide),
      State.bit_setBit_self (State.regsWf_setGrp hwf _) _ _ (by decide), State.bit_setGrp, hen]
    rfl
  · rw [State.grp_congr (congrArg NetSt.groups (State.setBit_net ..)),
      State.grp_setGrp_of_ne (RedGroup.ne_of_members (x := { s.grp g with members := s.memberTable g, oos := s.fld oNocstat 27 0 }) hmembers)]

/-! ## EN = 1 (R220) -/

theorem exec_redcfgEnable {req : Req} {g : Grp} {v : Word} (h : s.cmdWrite req (oRed g.val) v = t) :
    exec (.redcfgEnable req g v) s = .next t := congrArg Host.Outcome.next h

theorem exec_redcfgDisable {req : Req} {g : Grp} {v : Word} (h : s.cmdWrite req (oRed g.val) v = t) :
    exec (.redcfgDisable req g v) s = .next t := congrArg Host.Outcome.next h

theorem State.setReg_withRegs (s : State) (o : Nat) (v : Word) : { s.setReg o v with regs := s.regs } = s := rfl

/-- A write of EN = 1 that no condition rejects sets the fields of SYS_REDCFG. -/
theorem State.redCfgWrite_enables {v : Word} (g : Grp) (hoff : s.bit (oRed g.val) 31 = false) (hv : bitsOf v 31 31 = 1)
    (hcode : s.redEnableCode g.val v = none) :
    s.redCfgWrite g.val v = .ok (s.setReg (oRed g.val) (redCfgRow.merge v (s.reg (oRed g.val)))) := by
  simp only [State.redCfgWrite, hoff, hv, hcode, Bool.false_eq_true, if_false, if_true, State.plainWrite_redCfg]

/-! ## EN = 0 (R228) -/

/-- What closing a slot of a group leaves alone: the width of the group, and the canonical form of the registers and of the table of groups. -/
structure State.GroupKept (g : Grp) (s t : State) : Prop where
  wf : State.regsWf s = true → State.regsWf t = true
  groups : s.groupsWf → t.groupsWf
  width : t.reg (oRed g.val + 4) = s.reg (oRed g.val + 4)

namespace State.GroupKept

variable {g : Grp}

theorem refl (g : Grp) (s : State) : GroupKept g s s := ⟨id, id, rfl⟩

/-- An update behind the registers and the groups. -/
theorem behind (h : GroupKept g s t) (hr : u.regs = t.regs := by rfl) (hn : u.net.groups = t.net.groups := by rfl) : GroupKept g s u where
  wf := by simpa only [State.regsWf, hr] using h.wf
  groups := by simpa only [State.groupsWf, hn] using h.groups
  width := by simpa only [State.reg, hr] using h.width

theorem when {c : Prop} [Decidable c] (hu : GroupKept g s u) (h : GroupKept g s t) : GroupKept g s (if c then u else t) := by split <;> assumption

theorem foldl {α : Type} {f : State → α → State} {l : List α} (h : GroupKept g s t)
    (hf : ∀ (r : State) (x : α), GroupKept g s r → GroupKept g s (f r x)) : GroupKept g s (l.foldl f t) :=
  List.foldlRecOn l f h fun r hr x _ => hf r x hr

section
variable (h : GroupKept g s t) {o hi lo n k l : Nat}
include h

theorem setGrp {x : RedGroup} : GroupKept g s (t.setGrp n x) := ⟨h.wf, fun hwf => SMap.wf_set (h.groups hwf), h.width⟩
theorem setSlot {x : RedSlot} : GroupKept g s (t.setSlot n k x) := h.setGrp
theorem setRound {x : RedRound} : GroupKept g s (t.setRound n x) := h.setGrp

/-! ## Registers, records and bit errors -/

section
variable (ho : o ≠ oRed g.val + 4)
include ho

theorem setFld : GroupKept g s (t.setFld o hi lo n) :=
  ⟨fun hwf => State.wf_setFld (h.wf hwf) o hi lo n, h.groups, (State.reg_setFld_ne ho hi lo n).trans h.width⟩

theorem count : GroupKept g s (t.count o hi lo n) := h.setFld ho

theorem bucket : GroupKept g s (t.bucket o).1 := by
  unfold State.bucket
  split <;> exact h.setFld ho

end

theorem log {r : Rec} : GroupKept g s (t.log r) := by
  have hrec : oRecCnt ≠ oRed g.val + 4 := by
    have hg := g.isLt
    simp only [oRecCnt, oRed]
    omega
  rcases t.log_cases r with hlog | hlog | hlog <;> rw [hlog]
  · exact h.behind
  · exact h.behind
  · exact h.count hrec

theorem logIf {r : Rec} {c : Prop} [Decidable c] : GroupKept g s (if c then t.log r else t) := h.log.when h

theorem logLim {r : Rec} : GroupKept g s (t.logLim k r) := h.behind.when h.behind.log

/-- The buckets and counters of the SRAMs lie beside the registers of the groups. The counter of a correction and its bucket stand for any operations
in the proof: the kernel would compute the words they write. -/
theorem sramCount : GroupKept g s (t.sramCount k l) := by
  have hdef := Eq.refl @State.sramCount
  conv_rhs at hdef => delta State.sramCount
  have hbeside : (sramBucket k).1 ≠ oRed g.val + 4 ∧ (sramBucket k).2.1 ≠ oRed g.val + 4 := by
    have hg := g.isLt
    unfold sramBucket
    dsimp only
    split
    · simp only [oRed]; omega
    · split <;> simp only [oRed] <;> omega
  have hb := (h.count (hi := 31) (lo := 0) (n := 1) hbeside.2).bucket hbeside.1
  obtain ⟨count, hc⟩ := exists_eq (a' := @State.count)
  obtain ⟨bucket, hbk⟩ := exists_eq (a' := @State.bucket)
  rw [hdef, ← hc, ← hbk]
  rw [← hc, ← hbk] at hb
  clear hdef hc hbk
  dsimp only
  exact hb.behind.log.when hb.behind

theorem sramRead : GroupKept g s (t.sramRead k l n).1 :=
  List.foldlRecOn (motive := fun p : State × List Nat => GroupKept g s p.1) _ _ h fun p hp x _ => by
    split
    · exact hp
    · exact (hp.behind (u := p.1.sramMend x.1)).sramCount
    · exact hp

theorem sramFresh : GroupKept g s (t.sramFresh k l n) := h.foldl fun _ _ hr => hr.behind

theorem slotRead : GroupKept g s (t.slotRead g.val k).1 := h.sramRead.sramFresh

/-! ## Writes and event posts -/

theorem issueWr {src epoch lid addr len : Nat} {be : BitVec 16} {poison : Bool} {data : List Byte} {q : ReqKind} :
    GroupKept g s (t.issueWr src epoch lid addr len be poison data q) := h.behind

theorem postEvent {x f : Nat} : GroupKept g s (t.postEvent x f) := by
  unfold State.postEvent State.setFlag
  exact h.behind.when (h.behind.when h.behind)

/-! ## A slot that closes -/

theorem roundDone {r : Nat} : GroupKept g s (t.roundDone g.val r) := by
  have hlast : GroupKept g s ((t.setGrp g.val { t.grp g.val with rounds := (t.grp g.val).rounds.filter (fun z => z.round ≠ r) }).setFld
    (oRed g.val + 0x24) 31 24 r) := h.setGrp.setFld (by omega)
  exact (hlast.postEvent.when hlast).when h

theorem writeResult {x : RedSlot} : GroupKept g s (t.writeResult g.val k x) := by
  unfold State.writeResult
  dsimp only
  generalize ht : (t.slotRead g.val k).1 = r
  have hr : GroupKept g s r := ht ▸ h.slotRead
  exact (hr.setRound.issueWr.count (by omega)).setSlot.logIf

/-- R225: a slot that times out, whatever POLICY asks for. -/
theorem closeTimeout : GroupKept g s (t.closeTimeout g.val k) := by
  unfold State.closeTimeout
  dsimp only
  have hrec {key : Nat} {r : Rec} : GroupKept g s (t.logLim key r) := h.logLim
  refine when ?_ ?_
  · exact ((hrec.setRound.issueWr.when hrec).count (by omega)).writeResult
  · exact ((hrec.count (by omega)).setRound.setSlot).roundDone

end

end State.GroupKept

/-- The groups that EN = 0 has closed, and not yet stopped. -/
theorem State.redDisable_eq (s : State) (g : Grp) : ∃ t, GroupKept g s t ∧
    s.redDisable g.val = (t.setGrp g.val { rounds := (t.grp g.val).rounds.filter (fun r => r.closed = t.redWidth g.val) }).setBit (oRed g.val) 30 false := by
  refine ⟨_, ?_, rfl⟩
  exact GroupKept.behind (t := (((s.grp g.val).slots.filter (fun e => e.2.isOpen)).map Prod.fst).foldl (fun t k => t.closeTimeout g.val k) s)
    ((GroupKept.refl g s).foldl fun _ _ hr => hr.closeTimeout)

/-- The fields beside EN stay as they are in the word that clears EN. -/
theorem redCfgOthers_en_cleared (x : Word) : redCfgOthers (x &&& 0x7FFFFFFF) = redCfgOthers x := by
  rw [redCfgOthers, redCfgOthers, BitVec.and_assoc]
  rfl

/-- The write of EN = 0 alone stops the group. -/
theorem State.redCfgWrite_disables {g : Nat} (hen : s.bit (oRed g) 31 = true) :
    s.redCfgWrite g (s.reg (oRed g) &&& 0x7FFFFFFF) = .ok ((s.redDisable g).setBit (oRed g) 31 false) := by
  have hoff : bitsOf (s.reg (oRed g) &&& 0x7FFFFFFF) 31 31 ≠ 1 := by rw [(bitsOf_en_cleared _).1]; decide
  rw [State.redCfgWrite, if_pos hen, if_neg (not_not.mpr (redCfgOthers_en_cleared _)), if_neg hoff]

/-- Of a group that has stopped there stay the rounds whose words have all closed. -/
theorem State.redDisable_stops (g : Grp) (hwf : State.regsWf s = true) (hgroups : s.groupsWf) :
    let t := (s.redDisable g.val).setBit (oRed g.val) 31 false
    t.bit (oRed g.val) 31 = false ∧ t.redReady g.val = false ∧ t.grp g.val = { rounds := (t.grp g.val).rounds } ∧
      ∀ r ∈ (t.grp g.val).rounds, r.closed = s.redWidth g.val := by
  obtain ⟨u, ⟨hwfu, hgroupsu, hwidth⟩, hstop⟩ := s.redDisable_eq g
  have hwidth' : u.redWidth g.val = s.redWidth g.val := by rw [State.redWidth, State.fld, hwidth, State.redWidth, State.fld]
  have hoff : ((s.redDisable g.val).setBit (oRed g.val) 31 false).bit (oRed g.val) 31 = false := by
    rw [hstop]
    exact State.bit_setBit_self (State.wf_setBit (State.regsWf_setGrp (hwfu hwf) _) _ _ _) _ _ (by decide)
  have hgrp : ((s.redDisable g.val).setBit (oRed g.val) 31 false).grp g.val =
      { rounds := (u.grp g.val).rounds.filter (fun r => r.closed = s.redWidth g.val) } := by
    rw [hstop, State.grp_congr (congrArg NetSt.groups (State.setBit_net ..)), State.grp_congr (congrArg NetSt.groups (State.setBit_net ..)),
      State.grp_setGrp (hgroupsu hgroups), hwidth']
  refine ⟨hoff, ?_, ?_, ?_⟩
  · rw [State.redReady, hoff, Bool.false_and]
  · rw [hgrp]
  · rw [hgrp]
    exact fun r hr => of_decide_eq_true (List.mem_filter.mp hr).2

end Sys2Proof.Machine
end

section
open Sys2Proof Sys2Proof.Machine

/-- Settles O39: a contribution at its entry node, a wide packet at the root, an entry that leaves its router, a slot that is dropped, and SYS_REDCFG
by its write and by what closing a slot leaves alone. -/
theorem reductionGroupsComplete : Obligations.ReductionGroupsComplete := by
  unfold Obligations.ReductionGroupsComplete
  refine ⟨?contribution, ?wide, ?entry, ?timeout, ?ready, ?enable, ?disable⟩
  case contribution =>
    intro p e i s hub hmsgs die htyp hlen hzero hbody heng hready hword hmember hepoch
    refine ⟨_, congrArg Host.Outcome.next ((State.rconServe_contributes hub hmsgs die htyp hlen hzero hbody).trans
      (State.contribute_sends heng hready hword hmember hepoch)), ?_⟩
    simp only [State.send, hmsgs, List.nil_append, List.cons_append]
    rfl
  case wide =>
    intro i w s hnext hbehind hroot hready hidle hshut hfresh hmask
    refine ⟨_, congrArg Host.Outcome.next ((State.moveWide_arrives hnext hbehind).trans
      (State.wideAt_opens hroot hready hidle hshut hfresh hmask)), rfl, ?_⟩
    exact State.slot_setSlot (RedSlot.ne_of_isOpen rfl)
  case entry => exact fun r i w s hentry hwf hclean => ⟨_, rfl, State.entryExpiry_leaves hentry hwf hclean⟩
  case timeout => exact fun g w p s hopen hpolicy => ⟨_, congrArg Host.Outcome.next (if_pos hopen), State.closeTimeout_drops hpolicy⟩
  case ready => exact fun g s hwf hen hidle hroot hmembers => ⟨_, rfl, State.groupReady_loads hwf hen hidle hroot hmembers⟩
  case enable =>
    intro req g v s hwf hub die hoff hv hpolicy hfmt hcode
    obtain ⟨hen, hroot, hformat⟩ := redCfgRow_merge v (s.reg (oRed g.val))
    refine ⟨_, exec_redcfgEnable (State.cmdWrite_redCfg hub die (redCfgRow_check hpolicy hfmt) (State.redCfgWrite_enables g hoff hv hcode)), ?_, ?_, ?_,
      State.setReg_withRegs s ..⟩
    · rw [State.bit, State.fld_setReg_self hwf, hen, hv]
      rfl
    · rw [State.redRoot, State.fld_setReg_self hwf, hroot]
    · rw [State.redFmt, State.fld_setReg_self hwf, hformat]
  case disable =>
    intro req g s hwf hgroups hub die hen hpolicy hfmt
    obtain ⟨-, hkeep⟩ := bitsOf_en_cleared (s.reg (oRed g.val))
    have hcheck : redCfgRow.check (s.reg (oRed g.val) &&& 0x7FFFFFFF) = none :=
      redCfgRow_check (by rw [hkeep _ _ (by decide)]; exact hpolicy) (by rw [hkeep _ _ (by decide)]; exact hfmt)
    exact ⟨_, exec_redcfgDisable (State.cmdWrite_redCfg hub die hcheck (State.redCfgWrite_disables hen)), State.redDisable_stops g hwf hgroups⟩

end
